-- ==== Sys2Proof/Word.lean ====
section
/-! DEFINITION. The 40-bit word of the BR7240 (R3), the time of day T80 (R4, R5) and the two container types the
state is built from: a sparse table keyed by a number, and the flag register of a core (R46). -/

namespace Sys2Proof

/-- A word is 40 bits (R3). -/
abbrev Word := BitVec 40

/-- A sparse table: pairs of a key and a value, keys strictly rising, no pair equal to what an unlisted key holds.
What an unlisted key holds is said where the table is read (`tabGet`). -/
abbrev Tab (α : Type) := List (Nat × α)

/-- A T80: whole TAI seconds and the low word counted in 1/1024 ns (R4). -/
structure T80 where
  sec : Nat
  low : Nat
deriving DecidableEq, Repr

/-- One second in units of 1/1024 ns (the U of R58 to R62). -/
abbrev unitsPerSec : Nat := 1024000000000

/-- The six flags of a core (R46). -/
structure Flags where
  z : Bool
  n : Bool
  c : Bool
  v : Bool
  e : Bool
  l : Bool
deriving DecidableEq, Repr

/-- All flags zero, their value after a reset that reaches the core (R47). -/
def Flags.zero : Flags := { z := false, n := false, c := false, v := false, e := false, l := false }

/-- The word that holds a number modulo 2^40. -/
abbrev w40 (n : Nat) : Word := BitVec.ofNat 40 n

/-- The word that holds an integer modulo 2^40. -/
abbrev i40 (n : Int) : Word := BitVec.ofInt 40 n

/-- The word of the unbounded E40 (R10). -/
abbrev unbounded : Nat := 0xFFFFFFFFFF

end Sys2Proof
end

