-- ==== Sys2Proof/Machine/Tab.lean ====
section
/-! DEFINITION. Reading and writing a sparse table in its one canonical form: keys strictly rising, and no entry
equal to what the unlisted key holds. Every indexed piece of state (registers, memory words, slots, queues) uses it. -/

namespace Sys2Proof.Machine

/-- The value under key `k`; `d k` where the table lists nothing. -/
def tabGet {α : Type} (d : Nat → α) : Tab α → Nat → α
  | [], k => d k
  | (a, x) :: t, k => if a = k then x else tabGet d t k

/-- The table with `k` removed. -/
def tabDel {α : Type} : Tab α → Nat → Tab α
  | [], _ => []
  | (a, x) :: t, k => if a = k then tabDel t k else (a, x) :: tabDel t k

/-- The table with `k` holding `v`, placed in rising order. -/
def tabIns {α : Type} : Tab α → Nat → α → Tab α
  | [], k, v => [(k, v)]
  | (a, x) :: t, k, v => if k < a then (k, v) :: (a, x) :: t else (a, x) :: tabIns t k v

/-- Write `v` under `k`, keeping the canonical form: a value equal to the unlisted one leaves no entry. -/
def tabSet {α : Type} [DecidableEq α] (d : Nat → α) (t : Tab α) (k : Nat) (v : α) : Tab α :=
  if v = d k then tabDel t k else tabIns (tabDel t k) k v

/-- Keys rise strictly from above `lo`, and no entry equals the unlisted value. -/
def tabWfFrom {α : Type} (d : Nat → α) : Nat → Tab α → Prop
  | _, [] => True
  | lo, (a, x) :: t => lo ≤ a ∧ x ≠ d a ∧ tabWfFrom d (a + 1) t

/-- The canonical form of a table. -/
abbrev tabWf {α : Type} (d : Nat → α) (t : Tab α) : Prop := tabWfFrom d 0 t

/-- Keep only the entries whose key and value a test accepts. -/
def tabFilter {α : Type} (p : Nat → α → Bool) (t : Tab α) : Tab α := t.filter (fun e => p e.1 e.2)

end Sys2Proof.Machine
end

