-- ==== Sys2Proof/Machine/Bits.lean ====
section
/-! DEFINITION. Bit fields of a word, and the signed and unsigned readings of a word (R12, R48). -/

namespace Sys2Proof.Machine

/-- The field [hi:lo] of a number. -/
def bitsOf (x hi lo : Nat) : Nat := (x >>> lo) % 2 ^ (hi + 1 - lo)

/-- The field [hi:lo] of a word as a number. -/
def fieldOf (w : Word) (hi lo : Nat) : Nat := bitsOf w.toNat hi lo

/-- The word with field [hi:lo] replaced by `v`, reduced to the field's width. -/
def putField (w : Word) (hi lo v : Nat) : Word :=
  let m := 2 ^ (hi + 1 - lo)
  w40 (w.toNat % 2 ^ lo + (v % m) * 2 ^ lo + (w.toNat >>> (hi + 1)) * 2 ^ (hi + 1))

/-- Bit `i` of a word. -/
def bitAt (w : Word) (i : Nat) : Bool := w.toNat.testBit i

/-- A field of `n` bits read as a signed number. -/
def signedOf (n x : Nat) : Int := if x < 2 ^ (n - 1) then (x : Int) else (x : Int) - 2 ^ n

/-- A word read as a signed number. -/
def sgn (w : Word) : Int := signedOf 40 w.toNat

/-- The 40-bit sign extension of an `n`-bit number. -/
def sext (n x : Nat) : Word := i40 (signedOf n x)

/-- One when the truth value holds. -/
def b2n (b : Bool) : Nat := if b then 1 else 0

/-- The number clamped into the signed 40-bit range, and whether it was clamped. -/
def sat40 (x : Int) : Word × Bool :=
  if x > 2 ^ 39 - 1 then (0x7FFFFFFFFF#40, true)
  else if x < -(2 ^ 39) then (0x8000000000#40, true)
  else (i40 x, false)

/-- Sum of E40 values: a sum that would reach 0xFF_FFFF_FFFF becomes it (R10). -/
def addE (a b : Nat) : Nat := if a + b ≥ unbounded then unbounded else a + b

/-- The E40 that bounds `x` finer units of which `den` make one picosecond, rounded up (R10). -/
def upE (x den : Nat) : Nat :=
  let q := (x + den - 1) / den
  if q ≥ unbounded then unbounded else q

/-- The byte `i` (0 least significant) of a word of five bytes (R33). -/
def byteOf (w : Word) (i : Nat) : Nat := bitsOf w.toNat (8 * i + 7) (8 * i)

/-- The five bytes of a word, least significant first (R33). -/
def bytesOf (w : Word) : List Nat := [byteOf w 0, byteOf w 1, byteOf w 2, byteOf w 3, byteOf w 4]

/-- The word of up to five bytes, least significant first. -/
def wordOfBytes (bs : List Nat) : Word :=
  w40 ((bs.take 5).foldr (fun b acc => b % 256 + 256 * acc) 0)

/-- Bytes packed five to a word, least significant first (R96). -/
def packBytes : Nat → List Nat → List Word
  | 0, _ => []
  | _, [] => []
  | n + 1, bs => wordOfBytes bs :: packBytes n (bs.drop 5)

/-- One bit step of the reflected CRC-32C (polynomial 0x1EDC_6F41 reflected is 0x82F6_3B78; R33). -/
def crcBit (c : Nat) : Nat := if c % 2 = 1 then Nat.xor (c / 2) 0x82F63B78 else c / 2

/-- One byte step of the CRC-32C. -/
def crcByte (c b : Nat) : Nat :=
  crcBit (crcBit (crcBit (crcBit (crcBit (crcBit (crcBit (crcBit (Nat.xor c (b % 256)))))))))

/-- CRC-32C of bytes: initial value and final XOR 0xFFFF_FFFF (R33). -/
def crc32c (bs : List Nat) : Nat := Nat.xor (bs.foldl crcByte 0xFFFFFFFF) 0xFFFFFFFF

/-- A big-endian number of octets. -/
def beNum (bs : List Nat) : Nat := bs.foldl (fun acc b => acc * 256 + b % 256) 0

/-- A number as `n` big-endian octets. -/
def beBytes (n x : Nat) : List Nat := (List.range n).map (fun i => x / 256 ^ (n - 1 - i) % 256)

/-- The octets from `i`, `n` of them. -/
def octets (bs : List Nat) (i n : Nat) : List Nat := (bs.drop i).take n

/-- Octets replaced from `i` on. -/
def overwrite (bs : List Nat) (i : Nat) (new : List Nat) : List Nat := bs.take i ++ new ++ bs.drop (i + new.length)

/-! ## Time -/

/-- The T80 held in a high and a low word (R4). -/
def t80Of (hi lo : Word) : T80 := { sec := hi.toNat, low := lo.toNat }

/-- The high word of a T80. -/
def T80hi (t : T80) : Word := w40 t.sec

/-- The low word of a T80. -/
def T80lo (t : T80) : Word := w40 t.low

/-- Units of 1/1024 ns since the epoch. -/
def t80Units (t : T80) : Nat := t.sec * unitsPerSec + t.low

/-- The T80 that lies `u` units of 1/1024 ns after the epoch. -/
def t80OfUnits (u : Nat) : T80 := { sec := u / unitsPerSec % 2 ^ 40, low := u % unitsPerSec }

/-- The normalized T80 of R5: an ns field of at most 999,999,999. -/
def t80Normal (t : T80) : Bool := decide (t.low < unitsPerSec)

/-- Time order (unsigned, R61). -/
def t80Le (a b : T80) : Bool := decide (t80Units a ≤ t80Units b)

/-- `a` strictly precedes `b`. -/
def t80Lt (a b : T80) : Bool := decide (t80Units a < t80Units b)

/-- A T80 moved by a signed number of 1/1024 ns, kept at or above the epoch. -/
def t80Add (t : T80) (d : Int) : T80 := t80OfUnits ((t80Units t : Int) + d).toNat

/-- `a - b` in 1/1024 ns. -/
def t80Diff (a b : T80) : Int := (t80Units a : Int) - (t80Units b : Int)

/-- Nanoseconds in units of 1/1024 ns. -/
def nsU (n : Nat) : Nat := n * 1024

/-- The S40 of a T80 (R6): 1/256 ns units modulo 2^40. -/
def s40Of (t : T80) : Nat := (t80Units t / 4) % 2 ^ 40

/-- The T80 of a stamp against a reference time (R7), its signed second count before wrapping, and d. -/
def s40Extend (stamp : Nat) (ref : T80) : T80 × Int × Int :=
  let d0 : Int := ((stamp : Int) - (s40Of ref : Int)) % 2 ^ 40
  let d : Int := if d0 ≥ 2 ^ 39 then d0 - 2 ^ 40 else d0
  let x : Int := ((ref.low / 4 * 4 : Nat) : Int) + 4 * d
  let t : Int := (ref.sec : Int) + x / (unitsPerSec : Int)
  ({ sec := (t % 2 ^ 40).toNat, low := (x % (unitsPerSec : Int)).toNat }, t, d)

end Sys2Proof.Machine
end

