-- ==== Sys2Proof/Syntax.lean ====
section
/-! DEFINITION. The commands of the block: one constructor per row of spec/opcode_table.json, in the table's order.
An operand that stands for something the outside world decides or measures (which core, what the link delivered, what
the analog circuits found) is named in the constructor's docstring. -/

namespace Sys2Proof

/-- A core position (R535): 0 to 15 an Easel core, 16 + 8g + e engine e of Brush group g. -/
abbrev CoreId := Fin 48

/-- The number of a general register (R42). -/
abbrev GReg := Fin 32

/-- The second operand of an arithmetic or logic instruction: a register (R form) or a 19-bit immediate (I form, R50). -/
inductive Src2 where
  | reg (r : GReg)
  | imm (i : BitVec 19)
deriving DecidableEq, Repr

/-- A branch target: a signed word offset (B format) or a register (J format; R64). -/
inductive Target where
  | off (o : BitVec 19)
  | reg (r : GReg)
deriving DecidableEq, Repr

/-- The master that makes an access (R490) and whether it acts with Keeper privilege. -/
structure Master where
  id : Fin 25
  keeper : Bool
deriving DecidableEq, Repr


/-- What a twin frame carries before its payload (R435): link sequence number, acknowledgement and the sender's T80 at
departure; and whether the line coding and type were good, and whether the tag verified (R437). -/
structure TwHdr where
  seq : BitVec 16
  ack : BitVec 16
  hi : BitVec 40
  lo : BitVec 40
  lineOk : Bool
  tagOk : Bool
deriving DecidableEq, Repr

/-- The payload of a HELLO of the twin link (R435). -/
structure TwHello where
  uid : BitVec 64
  claim : Fin 3
  gen : BitVec 40
  setter : BitVec 64
  house : BitVec 32
  lc : Fin 5
  tampered : Bool
  lastSeq : BitVec 32
deriving DecidableEq, Repr

/-- What a tracking pair measures at the port at an epoch (R299): C/N0, code phase, carrier phase, dphi, Doppler in 0.01 Hz, carrier
locks, whether they held for the whole epoch, and a cycle slip. -/
structure PairMeas where
  cn0a : BitVec 7
  cn0b : BitVec 7
  code : BitVec 40
  carrier : BitVec 40
  dphi : BitVec 16
  doppler : BitVec 32
  lockA : Bool
  lockB : Bool
  whole : Bool
  slip : Bool
deriving DecidableEq, Repr

/-- A peak of the full-search bank (R303): stream, code phase in 1/16 chip, Doppler in 10 Hz, level in 0.25 dB. -/
structure BankPeak where
  stream : Fin 4
  code : BitVec 18
  doppler : BitVec 12
  level : BitVec 8
deriving DecidableEq, Repr

/-- What a hardware failure has done to a unit's copy of the counter since the last comparison (R32): the unit, and by how much its copy has
slipped in 1/1024 ns, 0 none. -/
structure CopySlip where
  unit : BitVec 12
  slip : Word
deriving DecidableEq, Repr

/-- How the input of a tamper source stands (R380, R386): the level that a switch has held for 4 slow-clock periods, and whether the source
goes on alarming. -/
structure TamperInput where
  level : Bool
  stays : Bool
deriving DecidableEq, Repr

/-- What the kept orbits predict of a signal above the elevation mask (R304, R305): its streams, code phase in 1/16 chip, Doppler in
10 Hz, and the orbit error in ps. -/
structure GnsAim where
  signal : BitVec 9
  code : BitVec 18
  doppler : BitVec 12
  orbit : BitVec 32
deriving DecidableEq, Repr

/-- What the navigation function finds for one second (R305, R307 to R312): the TAI second solved, the signals whose residuals are consistent,
the solved second's P40, the parts of slot 9's three terms in ps in the order of R311's table (the ionosphere's is the modelled delay where
the broadcast model is used), the broadcast leap-second count and announcement (0 none, 1 a 61-second minute, 2 a 59-second minute), the
age of the kept orbits (0 ephemerides of 4 h or less, 1 an almanac of 90 days or less, 2 neither) and what they predict. -/
structure GnsFix where
  tai : BitVec 40
  signals : List (BitVec 9)
  sample : BitVec 40
  space : BitVec 32
  iono : BitVec 32
  tropo : BitVec 32
  noise : BitVec 32
  projected : BitVec 32
  realise : BitVec 32
  port : BitVec 32
  loop : BitVec 32
  variation : BitVec 32
  delayCal : BitVec 32
  antenna : BitVec 32
  utc : Option (BitVec 16)
  ann : Fin 3
  orbits : Fin 3
  aims : List GnsAim
deriving DecidableEq, Repr

/-- What a bring-up stage finds (R462 to R464, R471): the fuse words good (0), corrected (1) or with an uncorrectable error (2); the two
copies of the option record as the flash holds them; the duration of priming in us; the OSC_IN frequency that CKG detects; whether
the PLLs locked in time; whether ATOM_IN is present; and the image that the flash holds at each directory entry. -/
structure StageResult where
  fuse : Fin 3
  copyA : List Word
  copyB : List Word
  us : BitVec 20
  osc : Fin 6
  pllOk : Bool
  atomOk : Bool
  images : List (List Word)
deriving DecidableEq, Repr

/-- What a PTP session of a master port is configured with, for which the spec gives no register (R335 to R339): the octets
of the message up to and with its 34-octet PTP header, its priorities, variance, clock identity and time source, whether it
is a two-step session, and its key (SPP, key identifier, handle) where it is authenticated. -/
structure PtpCfg where
  header : List (BitVec 8)
  prio1 : BitVec 8
  prio2 : BitVec 8
  variance : BitVec 16
  identity : BitVec 64
  source : BitVec 8
  twoStep : Bool
  auth : Option (BitVec 8 × BitVec 32 × BitVec 12)
deriving DecidableEq, Repr

/-- The commands of the BR7240, each a row of the command table with the rule that row cites. -/
inductive Instr where
  /-- TRAP (R67): TRAP instruction with a code that is not a House service: raises the SERVICE or USER trap. k: the core; code: the trap code. -/
  | trap (k : CoreId) (code : BitVec 19)
  /-- STRAY (R109): House service 0x0_0000 halts the core and reports a NOTE fault. k: the core. -/
  | stray (k : CoreId)
  /-- SELF (R109): House service that returns the calling core's index in g1. k: the core. -/
  | selfSvc (k : CoreId)
  /-- NOTICE (R109): House service that returns the next unread stroke report for the calling core without freeing it. k: the core. -/
  | notice (k : CoreId)
  /-- BOUND (R109): House service that returns the current time, the E40 bound and the lineage identifier. k: the core. -/
  | bound (k : CoreId)
  /-- RESUME (R108): Restores g1, g2, flags and privilege, clears in_trap and branches to EC_TPC. k: the core. -/
  | resume (k : CoreId)
  /-- RESUME_SKIP (R108): Same as RESUME but branches to EC_TPC + 1. k: the core. -/
  | resumeSkip (k : CoreId)
  /-- ADD (R52): Adds modulo 2^40 and sets Z, N, C and V. k: the core; rd: the destination; rs1: the first source; b: the second operand. -/
  | add (k : CoreId) (rd : GReg) (rs1 : GReg) (b : Src2)
  /-- SUB (R52): Subtracts modulo 2^40 and sets Z, N, C (borrow) and V. k: the core; rd: the destination; rs1: the first source; b: the second operand. -/
  | sub (k : CoreId) (rd : GReg) (rs1 : GReg) (b : Src2)
  /-- AND (R52): Bitwise AND; sets Z and N and clears V. k: the core; rd: the destination; rs1: the first source; b: the second operand. -/
  | and_ (k : CoreId) (rd : GReg) (rs1 : GReg) (b : Src2)
  /-- OR (R52): Bitwise OR; sets Z and N and clears V. k: the core; rd: the destination; rs1: the first source; b: the second operand. -/
  | or_ (k : CoreId) (rd : GReg) (rs1 : GReg) (b : Src2)
  /-- XOR (R52): Bitwise XOR; sets Z and N and clears V. k: the core; rd: the destination; rs1: the first source; b: the second operand. -/
  | xor (k : CoreId) (rd : GReg) (rs1 : GReg) (b : Src2)
  /-- SHL (R54): Logical left shift by 0 to 63 bits with a defined carry. k: the core; rd: the destination; rs1: the first source; b: the second operand. -/
  | shl (k : CoreId) (rd : GReg) (rs1 : GReg) (b : Src2)
  /-- SHR (R54): Logical right shift with zero fill and a defined carry. k: the core; rd: the destination; rs1: the first source; b: the second operand. -/
  | shr (k : CoreId) (rd : GReg) (rs1 : GReg) (b : Src2)
  /-- SRA (R54): Arithmetic right shift with sign fill and a defined carry. k: the core; rd: the destination; rs1: the first source; b: the second operand. -/
  | sra (k : CoreId) (rd : GReg) (rs1 : GReg) (b : Src2)
  /-- MUL (R56): Signed multiply giving the integer low half or a saturating Q1.39 result. k: the core; rd, rs1, rs2: the registers; q: the Q form. -/
  | mul (k : CoreId) (rd : GReg) (rs1 : GReg) (rs2 : GReg) (q : Bool)
  /-- LIH (R55): Shifts a register left by 19 bits and inserts a 19-bit immediate, leaving the flags unchanged. k: the core; rd: the destination; rs1: the first source; imm: the immediate. -/
  | lih (k : CoreId) (rd : GReg) (rs1 : GReg) (imm : BitVec 19)
  /-- MAC (R57): Adds an exact 80-bit product to an 88-bit accumulator, optionally clearing the accumulator first. k: the core; rs1: the first source; rs2: the second source; sel: a1 rather than a0; clr: clear first (MAC, MSC) or after (ACC). -/
  | mac (k : CoreId) (rs1 : GReg) (rs2 : GReg) (sel : Bool) (clr : Bool)
  /-- MSC (R57): Subtracts an exact 80-bit product from an 88-bit accumulator, optionally clearing it first. k: the core; rs1: the first source; rs2: the second source; sel: a1 rather than a0; clr: clear first (MAC, MSC) or after (ACC). -/
  | msc (k : CoreId) (rs1 : GReg) (rs2 : GReg) (sel : Bool) (clr : Bool)
  /-- ACC (R58): Reads an accumulator with shift, rounding and saturation, optionally clearing it. k: the core; rd: the destination; sh: the shift; trunc: truncate; clr: clear after; sel: a1 rather than a0. -/
  | acc (k : CoreId) (rd : GReg) (sh : BitVec 6) (trunc : Bool) (clr : Bool) (sel : Bool)
  /-- TADD (R59): Adds a duration pair or a P40 to a T80, with carry at one second. k: the core; rd, rs1, rs2: the registers; p: the P form. -/
  | tadd (k : CoreId) (rd : GReg) (rs1 : GReg) (rs2 : GReg) (p : Bool)
  /-- TSUB (R60): Subtracts two T80 values into a duration pair or a saturating P40. k: the core; rd, rs1, rs2: the registers; p: the P form. -/
  | tsub (k : CoreId) (rd : GReg) (rs1 : GReg) (rs2 : GReg) (p : Bool)
  /-- TCMP (R61): Compares two T80 values and sets the flags only. k: the core; rs1: the first source; rs2: the second source. -/
  | tcmp (k : CoreId) (rs1 : GReg) (rs2 : GReg)
  /-- TEXT (R62): Extends an S40 stamp to a T80 against a reference time. k: the core; rd: the destination; rs1: the first source; rs2: the second source. -/
  | text (k : CoreId) (rd : GReg) (rs1 : GReg) (rs2 : GReg)
  /-- BR (R64): Unconditional branch to an offset or to a register target. k: the core; t: the target. -/
  | br (k : CoreId) (t : Target)
  /-- BRC (R65): Conditional branch on one of sixteen flag conditions. k: the core; cond: the condition; off: the word offset. -/
  | brc (k : CoreId) (cond : Fin 16) (off : BitVec 19)
  /-- CALL (R66): Writes PC + 1 to the link register and branches to an offset or a register target. k: the core; rd: the destination; t: the target. -/
  | call (k : CoreId) (rd : GReg) (t : Target)
  /-- RET (R64): Branches to the address held in a register, g31 by default. k: the core; rs1: the first source. -/
  | ret (k : CoreId) (rs1 : GReg)
  /-- LD (R69): Issues a load of one word from the effective address. k: the core; rd: the destination; rs1: the first source; imm: the immediate. -/
  | ld (k : CoreId) (rd : GReg) (rs1 : GReg) (imm : BitVec 19)
  /-- ST (R69): Posts a store of one word to the store buffer. k: the core; rs1: the first source; rs2: the second source; imm: the immediate. -/
  | st (k : CoreId) (rs1 : GReg) (rs2 : GReg) (imm : BitVec 19)
  /-- LDP (R70): Issues a pair load, which is atomic when the effective address is even. k: the core; rd: the destination; rs1: the first source; imm: the immediate. -/
  | ldp (k : CoreId) (rd : GReg) (rs1 : GReg) (imm : BitVec 19)
  /-- STP (R70): Posts a pair store, which is atomic when the effective address is even. k: the core; rs1: the first source; rs2: the second source; imm: the immediate. -/
  | stp (k : CoreId) (rs1 : GReg) (rs2 : GReg) (imm : BitVec 19)
  /-- LOAD_RETURN (R75): An outstanding load returns; its data is written and later work becomes final, or the BUS_LOAD trap is taken. k: the core; i: the outstanding load. -/
  | loadReturn (k : CoreId) (i : Fin 8)
  /-- STORE_ERROR_RESPONSE (R105): An error response to a posted store reaches the core and raises an imprecise BUS_STORE trap at the next instruction boundary. k: the core. -/
  | storeErrorResponse (k : CoreId)
  /-- PUSH (R93): Pushes one framed word to a FIFO, waiting while the FIFO is full. k: the core; rs1: the FIFO; rs2: the word; fr: 0 plain, 1 FIRST, 2 LAST, 3 ONLY. -/
  | push (k : CoreId) (rs1 : GReg) (rs2 : GReg) (fr : Fin 4)
  /-- PUSH_ACCEPTED (R93): A full FIFO accepts the word of a waiting PUSH, and the PUSH completes. k: the core. -/
  | pushAccepted (k : CoreId)
  /-- POP (R94): Pops one word from a FIFO, returning at once with E = 1 when the FIFO is empty. k: the core; rd: the destination; rs1: the first source. -/
  | pop (k : CoreId) (rd : GReg) (rs1 : GReg)
  /-- WASH (R95): Posts a flush request to a FIFO, effective at the next packet boundary. k: the core; rs1: the first source. -/
  | wash (k : CoreId) (rs1 : GReg)
  /-- URD (R91): Reads a unit register, starting the unit's clock if needed and waiting for the response. k: the core; rd: the destination; rs1: the first source; off: the register offset. -/
  | urd (k : CoreId) (rd : GReg) (rs1 : GReg) (off : BitVec 8)
  /-- UWR (R91): Writes a unit register, starting the unit's clock if needed and waiting for the response. k: the core; rs1: the first source; rs2: the second source; off: the register offset. -/
  | uwr (k : CoreId) (rs1 : GReg) (rs2 : GReg) (off : BitVec 8)
  /-- UNIT_ACCESS_RESPONSE (R92): The response to a URD or UWR arrives; an error response writes 0 or nothing and sets E without a trap. k: the core. -/
  | unitAccessResponse (k : CoreId)
  /-- WAIT (R81): Sleeps until an absolute or relative time, or sets L at once when that time has already been reached. k: the core; rs1: the time; rel: the relative form. -/
  | wait (k : CoreId) (rs1 : GReg) (rel : Bool)
  /-- WAIT_WAKE (R81): The timebase comparator reaches the target time, or a step passes it, and the sleeping core resumes. k: the core. -/
  | waitWake (k : CoreId)
  /-- WEV (R84): Sleeps until a masked event is pending or an optional deadline passes. k: the core; rd: the result; rs1: the mask; dl: the deadline, if any. -/
  | wev (k : CoreId) (rd : GReg) (rs1 : GReg) (dl : Option GReg)
  /-- WEV_WAKE (R84): A selected event becomes pending; WEV returns the pending bits and clears the edge events it reports. k: the core. -/
  | wevWake (k : CoreId)
  /-- WEV_DEADLINE (R84): The WEV deadline passes with no event; WEV returns 0 with L = 1. k: the core. -/
  | wevDeadline (k : CoreId)
  /-- SCHED (R87): Offers a stroke to the Sketchbook and sleeps until the answer. k: the core; rd: the destination; rs1: the first source; rs2: the second source; tag: the tag. -/
  | sched (k : CoreId) (rd : GReg) (rs1 : GReg) (rs2 : GReg) (tag : BitVec 8)
  /-- SCHED_RESULT (R87): The acceptance or refusal reaches the core, and SCHED writes its result word 2 cycles later. k: the core. -/
  | schedResult (k : CoreId)
  /-- KOP_DERIVE (R364): Derives a dynamic child handle, frees a dynamic handle, or loads session handles. k: the core; rd: the destination; rs1: the first source; rs2: the second source. -/
  | kopDerive (k : CoreId) (rd : GReg) (rs1 : GReg) (rs2 : GReg)
  /-- KOP_MAC (R360): Computes an HMAC or CMAC tag with a handle. k: the core; rd: the destination; rs1: the first source; rs2: the second source. -/
  | kopMac (k : CoreId) (rd : GReg) (rs1 : GReg) (rs2 : GReg)
  /-- KOP_SEAL (R346): Performs an AEAD SIV seal, or mints an NTS cookie on a master handle. k: the core; rd: the destination; rs1: the first source; rs2: the second source. -/
  | kopSeal (k : CoreId) (rd : GReg) (rs1 : GReg) (rs2 : GReg)
  /-- KOP_OPEN (R346): Performs an AEAD SIV open, or opens an NTS cookie into the session handles. k: the core; rd: the destination; rs1: the first source; rs2: the second source. -/
  | kopOpen (k : CoreId) (rd : GReg) (rs1 : GReg) (rs2 : GReg)
  /-- KOP_SIGN (R367): Signs a SHA-384 digest with ECDSA P-384, or exports a public key when the input length is 0. k: the core; rd: the destination; rs1: the first source; rs2: the second source. -/
  | kopSign (k : CoreId) (rd : GReg) (rs1 : GReg) (rs2 : GReg)
  /-- KOP_RESULT (R368): A key operation completes; the staged output is written, then the status word. k: the core. -/
  | kopResult (k : CoreId)
  /-- PEX (R99): Extracts a header field of 1 to 5 bytes from a frame buffer. k: the core; rd, rs1, rs2: the registers; off: the octet offset; len: the octets; little: little endian. -/
  | pex (k : CoreId) (rd : GReg) (rs1 : GReg) (rs2 : GReg) (off : BitVec 11) (len : BitVec 3) (little : Bool)
  /-- CSUM (R100): Computes a 16-bit ones'-complement sum over buffer bytes. k: the core; rd, rs1, rs2: the registers; fold: the folded form. -/
  | csum (k : CoreId) (rd : GReg) (rs1 : GReg) (rs2 : GReg) (fold : Bool)
  /-- TSI (R101): Arms one-step time insertion in a transmit descriptor. k: the core; rs1, rs2: the registers; off: the octet offset; fmt: the format. -/
  | tsi (k : CoreId) (rs1 : GReg) (rs2 : GReg) (off : BitVec 11) (fmt : BitVec 2)
  /-- QSEND (R102): Hands a frame descriptor to a transmit queue, optionally requesting a transmit stamp. k: the core; rd, rs1, rs2: the registers; stamp: ask for a stamp identifier. -/
  | qsend (k : CoreId) (rd : GReg) (rs1 : GReg) (rs2 : GReg) (stamp : Bool)
  /-- QSEND_ACCEPTED (R102): A full transmit queue accepts a waiting QSEND's frame. k: the core. -/
  | qsendAccepted (k : CoreId)
  /-- CORE_RUN_WRITE (R110): A Keeper write of ECk_CTL.run starts the core at ECk_ENTRY or halts it. m: the master; k: the core; w: the word written. -/
  | coreRunWrite (m : Master) (k : CoreId) (w : Word)
  /-- SOFT_EVENT (R110): A write of 1 to ECk_SEV raises the soft event on the core. m: the master; k: the core; w: the word written. -/
  | softEvent (m : Master) (k : CoreId) (w : Word)
  /-- GET_INFO (R123): Mailbox command that returns UID, versions, states and pairing. -/
  | getInfo
  /-- LOAD_IMAGE (R113): Mailbox command that checks and loads a Walolo image from DRAM. -/
  | loadImage
  /-- START_CORES (R115): Mailbox command that starts the masked cores. -/
  | startCores
  /-- STOP_CORES (R123): Mailbox command that stops the masked cores. -/
  | stopCores
  /-- OFFER_STROKE (R568): Mailbox command that offers a stroke with User privilege and returns the SCHED result word. -/
  | offerStroke
  /-- ARM_STEP (R134): Mailbox command that writes TB_STEP_THRESH to arm or disarm stepping. -/
  | armStep
  /-- KEY_UPDATE (R376): Mailbox command that verifies an update message and queues its KEYUPD stroke. -/
  | keyUpdate
  /-- READ_ATTEST (R241): Mailbox command that returns the attestation record of a given second. -/
  | readAttest
  /-- ENTER_MAINT (R122): Mailbox command that enters the MAINTENANCE service state. -/
  | enterMaint
  /-- LEAVE_MAINT (R122): Mailbox command that leaves MAINTENANCE for SERVING or STANDBY by present role. -/
  | leaveMaint
  /-- PLANNED_SWAP (R454): Mailbox command that runs a planned swap of the twin pair. -/
  | plannedSwap
  /-- SET_DOMAIN (R469): Mailbox command that writes PWR_REQ and returns when PWR_STATE shows the change. -/
  | setDomain
  /-- READ_LAPSE_LOG (R160): Mailbox command that returns up to 16 REPORTED slots in seq order and frees them. -/
  | readLapseLog
  /-- LIFE_CYCLE (R521): Mailbox command that verifies a life-cycle token and runs the transition. -/
  | lifeCycle
  /-- BAD_COMMAND (R123): A doorbell with an unknown command code completes with BAD_COMMAND. -/
  | badCommand
  /-- TIMEBASE_TICK (R126): Each timebase tick adds the steered increment to the T80 counter and its copies, and applies the slew. -/
  | timebaseTick
  /-- COPY_COMPARE (R32): Once per millisecond TB compares every local T80 copy with itself and raises FATAL on a mismatch. bad: what a hardware failure has done to a copy since. -/
  | copyCompare (bad : CopySlip)
  /-- TB_STEER_WRITE (R128): A TB_STEER write takes effect whole on the next tick. m: the master; w: the word written. -/
  | tbSteerWrite (m : Master) (w : Word)
  /-- TB_SLEW_ADD_WRITE (R133): Adds a P40 to the slew remainder, saturating and raising slew_sat. m: the master; w: the word written. -/
  | tbSlewAddWrite (m : Master) (w : Word)
  /-- TB_LOAD_LO_WRITE (R131): Arms the counter load while time_valid is 0, or is ignored and raises load_ignored. m: the master; w: the word written. -/
  | tbLoadLoWrite (m : Master) (w : Word)
  /-- TIME_LOAD (R131): On the tick after the arming write, the counter is loaded and time_valid is set. -/
  | timeLoad
  /-- TB_DIRECT_STEP_WRITE (R569): A direct write to TB_STEP_US, TB_STEP_S or TB_LEAP_EXEC changes nothing and raises direct_ignored. m: the master; which: 0 TB_STEP_US, 1 TB_STEP_S, 2 TB_LEAP_EXEC; w: the word. -/
  | tbDirectStepWrite (m : Master) (which : Fin 3) (w : Word)
  /-- TIME_STEP (R134): A step stroke executes: TB steps when armed, in range and not blocked by a punctual stroke, otherwise records the refusal. i: the ledger slot. -/
  | timeStep (i : Fin 65536)
  /-- LEAP_EXEC (R137): The leap stroke adjusts TB_UTC_OFS, clears the announcement and sets in_leap for a positive leap. i: the ledger slot. -/
  | leapExec (i : Fin 65536)
  /-- LEAP_END (R137): in_leap clears on the first tick at or after the leap stroke's T80 plus 1 s. -/
  | leapEnd
  /-- LEDGER_WRITE_COMPLETE (R149): A ledger burst write completes; it is the commit point standalone, or on the twin it leads to the STROKE_ACK. i: the ledger slot. -/
  | ledgerWriteComplete (i : Fin 65536)
  /-- LEDGER_READBACK (R35): A ledger entry is read back from DRAM into the on-chip ledger and verified against its check word. i: the ledger slot. -/
  | ledgerReadback (i : Fin 65536)
  /-- STROKE_HANDOFF (R152): The near set hands a stroke to its executor 10 us before its time, or at once if later. i: the ledger slot. -/
  | strokeHandoff (i : Fin 65536)
  /-- PIN_STROKE_EXECUTE (R152): A pin comparator applies an edge or leading pulse edge on its tick, placed by the fine delay. i: the ledger slot. -/
  | pinStrokeExecute (i : Fin 65536)
  /-- PULSE_TRAILING_EDGE (R154): The trailing edge of a pulse takes effect W after the leading edge, and the slot becomes DONE. i: the ledger slot. -/
  | pulseTrailingEdge (i : Fin 65536)
  /-- PHASE_STROKE_EXECUTE (R261): A PHASE stroke adds its step to VARn_PHASE, spread at pstep_rate. i: the ledger slot. -/
  | phaseStrokeExecute (i : Fin 65536)
  /-- REGWR_STROKE_EXECUTE (R143): The register-write port issues a stroke write with the offerer's privilege; an error gives TARGET_ERROR. i: the ledger slot. -/
  | regwrStrokeExecute (i : Fin 65536)
  /-- LAUNCH_STROKE_EXECUTE (R156): A timed frame starts on the first block boundary at or after its T80, or gives NO_FRAME on a generation mismatch. i: the ledger slot; off: 1/1024 ns from now to the block boundary. -/
  | launchStrokeExecute (i : Fin 65536) (off : BitVec 14)
  /-- PUSH_STROKE_EXECUTE (R152): A PUSH stroke pushes its word, or waits at the head of its FIFO queue. i: the ledger slot. -/
  | pushStrokeExecute (i : Fin 65536)
  /-- PUSH_STROKE_DEFERRED (R152): A waiting PUSH stroke takes effect once its FIFO accepts it, and is reported LATE. i: the ledger slot. -/
  | pushStrokeDeferred (i : Fin 65536)
  /-- ATTEST_STROKE_EXECUTE (R237): GLZ latches B_pub, its terms, its maximum, the lineage and the state into an attestation record. i: the ledger slot. -/
  | attestStrokeExecute (i : Fin 65536)
  /-- ATTEST_SIGNED (R239): Signing of a record completes, and the signature with sig_state 1 or 2 is written. serial: the record. -/
  | attestSigned (serial : BitVec 32)
  /-- ATTEST_DEADLINE (R239): At S + 900 ms a record still pending is written with sig_state 3. serial: the record. -/
  | attestDeadline (serial : BitVec 32)
  /-- KEYUPD_STROKE_EXECUTE (R377): The vault applies every operation of an update slot as one commit, or the stroke completes with TARGET_ERROR. i: the ledger slot. -/
  | keyupdStrokeExecute (i : Fin 65536)
  /-- NTS_EPOCH_ROLL (R371): The roll stroke makes epoch E + 1 current, invalidates E - 2 and raises the key-epoch events. i: the ledger slot. -/
  | ntsEpochRoll (i : Fin 65536)
  /-- STATUS_WRITEBACK (R158): The Sketchbook writes each completion into the DRAM status words within 20 us. i: the ledger slot. -/
  | statusWriteback (i : Fin 65536)
  /-- LEDGER_RECOVERY (R159): After a reset, Keeper recovery rebuilds the ledger state, marks executed, lapsed and late strokes, and fixes t_resume. -/
  | ledgerRecovery
  /-- EXECUTORS_REARM (R159): At t_resume the executors are armed again, and overdue non-punctual strokes execute LATE. -/
  | executorsRearm
  /-- TOD_MESSAGE (R163): The UART starts the ToD message 1 ms after each PPS edge. -/
  | todMessage
  /-- PALETTE_TICK (R168): Each whole millisecond the Palette updates the filters, qualification, cross-check, disagreement and selection. sensor: the temperature in 0.01 K. -/
  | paletteTick (sensor : BitVec 17)
  /-- SWITCH_COMPLETE (R187): 250 us after the decision the servo takes the new slot and switch_done is raised. -/
  | switchComplete
  /-- PAL_SAMPLE_WRITE (R169): A program writes a P40 sample to a program-measured slot. m: the master; i: the sample register; w: the word. -/
  | palSampleWrite (m : Master) (i : Fin 11) (w : Word)
  /-- REFIN_LOS (R171): No divided edge within 1.5 nominal periods sets los. n: the reference input. -/
  | refinLos (n : Fin 8)
  /-- SAMPLE_TIMEOUT (R169): A program-measured slot with no sample for smp_timeout fails its activity limit. n: the Palette slot. -/
  | sampleTimeout (n : Fin 24)
  /-- RANK_HOLD_EXPIRY (R173): An improved qrank that has stood unchanged for 10 s takes effect. n: the Palette slot. -/
  | rankHoldExpiry (n : Fin 24)
  /-- QUALIFICATION_TIMER_EXPIRY (R176): A slot that met its limits for the qualification time becomes QUALIFIED. n: the Palette slot. -/
  | qualificationTimerExpiry (n : Fin 24)
  /-- DRIFT_CLEAR_EXPIRY (R179): A DRIFTING slot within half its budget for a whole window returns to QUALIFYING. n: the Palette slot. -/
  | driftClearExpiry (n : Fin 24)
  /-- CLEAR_DISAGREEING (R181): PAL_CMD op 1 clears DISAGREEING on a slot. m: the master; n: the Palette slot. -/
  | clearDisagreeing (m : Master) (n : Fin 24)
  /-- RESTART_QUALIFICATION (R176): PAL_CMD op 2 restarts qualification and clears ever_qualified. m: the master; n: the Palette slot. -/
  | restartQualification (m : Master) (n : Fin 24)
  /-- SLEW_AFTER_STEP (R190): PAL_CMD op 3 clears step_hold and slews the remaining offset. m: the master; n: the Palette slot. -/
  | slewAfterStep (m : Master) (n : Fin 24)
  /-- SET_SOURCE_FAULT (R174): PAL_CMD op 4 sets a source fault on a slot. m: the master; n: the Palette slot. -/
  | setSourceFault (m : Master) (n : Fin 24)
  /-- CLEAR_SOURCE_FAULT (R174): PAL_CMD op 5 clears a source fault on a slot. m: the master; n: the Palette slot. -/
  | clearSourceFault (m : Master) (n : Fin 24)
  /-- STEP_TO_WIDE_OFFSET (R191): PAL_CMD op 6 sets step_hold to step to a slot's wide offset. m: the master; n: the Palette slot. -/
  | stepToWideOffset (m : Master) (n : Fin 24)
  /-- LEARNING_SAMPLE (R206): Once a second UND takes a learning sample when its conditions hold. -/
  | learningSample
  /-- MODEL_UPDATE (R207): Once an hour the fit updates the model and uncertainty registers, keeping M continuous. -/
  | modelUpdate
  /-- PREDICTION_UPDATE (R216): Once a second UND computes UND_PRED_H and UND_PRED_TIME. -/
  | predictionUpdate
  /-- RESTART_LEARNING (R209): UND_CMD op 1 restarts learning at UNTRAINED. m: the master. -/
  | restartLearning (m : Master)
  /-- RECOMPUTE_PREDICTIONS (R216): UND_CMD op 2 recomputes the predictions on the next tick. m: the master. -/
  | recomputePredictions (m : Master)
  /-- UND_TEMP_EXT_WRITE (R210): A write renews the external temperature. m: the master; w: the word written. -/
  | undTempExtWrite (m : Master) (w : Word)
  /-- TEMP_STALE (R210): The external temperature goes stale 10 s after its last write. -/
  | tempStale
  /-- UND_MODEL_WRITE (R209): A model or uncertainty write applies with stage TRAINED, or is ignored with cfg_ignored. m: the master; i: the model register; w: the word. -/
  | undModelWrite (m : Master) (i : Fin 11) (w : Word)
  /-- EVENT_ENTRY_WRITE (R243): A GLZ_EVTk_VAL write activates or deactivates an event term. m: the master; k: the event entry; w: the word written. -/
  | eventEntryWrite (m : Master) (k : Fin 8) (w : Word)
  /-- EVENT_ENTRY_EXPIRY (R243): An event entry's life counts down to 0 and the entry deactivates. k: the event entry. -/
  | eventEntryExpiry (k : Fin 8)
  /-- UPSTREAM_ID_COMMIT (R243): A write of GLZ_Sn_UP_LO commits the upstream identity with GLZ_Sn_UP_HI. m: the master; n: the Palette slot; w: the word written. -/
  | upstreamIdCommit (m : Master) (n : Fin 24) (w : Word)
  /-- PLL_ENABLE (R249): Setting VARn_CTL.en applies the ratio and starts a hop or a search. m: the master; n: the Varnish PLL; w: the word written. -/
  | pllEnable (m : Master) (n : Fin 4) (w : Word)
  /-- PLL_DISABLE (R249): Clearing en puts the PLL in OFF. m: the master; n: the Varnish PLL; w: the word written. -/
  | pllDisable (m : Master) (n : Fin 4) (w : Word)
  /-- RELOCK (R258): VARn_CMD op RELOCK gates the outputs and relocks with the new ratio. m: the master; n: the Varnish PLL. -/
  | relock (m : Master) (n : Fin 4)
  /-- GLIDE (R259): VARn_CMD op GLIDE moves g toward a target while in lock, or is refused. m: the master; n: the Varnish PLL. -/
  | glide (m : Master) (n : Fin 4)
  /-- CLEAR_BM (R252): VARn_CMD op CLEAR_BM invalidates every band memory entry. m: the master; n: the Varnish PLL. -/
  | clearBm (m : Master) (n : Fin 4)
  /-- BAND_FOUND (R249): A full search finds a band and the PLL enters ACQUIRE. n: the Varnish PLL; band: the band. -/
  | bandFound (n : Fin 4) (band : BitVec 6)
  /-- HOP_SETTLED (R251): After 60 us the VCO settles on the stored band and the PLL enters ACQUIRE. n: the Varnish PLL. -/
  | hopSettled (n : Fin 4)
  /-- LOCK_DECLARED (R253): The error stays within lock_win for lock_cnt cycles; the PLL enters LOCKED. n: the Varnish PLL; err: the phase error in ps. -/
  | lockDeclared (n : Fin 4) (err : BitVec 20)
  /-- LOCK_LOST (R254): The error exceeds unlock_win for unlock_cnt cycles; the outputs are gated and the PLL hops. n: the Varnish PLL; err: the phase error in ps. -/
  | lockLost (n : Fin 4) (err : BitVec 20)
  /-- ACQUIRE_TIMEOUT (R249): No lock 200 us after HOP or 8 ms after SEARCH leads to SEARCH or FAILED. n: the Varnish PLL. -/
  | acquireTimeout (n : Fin 4)
  /-- INPUT_LOSS (R249): The divided timebase clock is absent or off frequency; the PLL enters LOSS. n: the Varnish PLL. -/
  | inputLoss (n : Fin 4)
  /-- INPUT_GOOD (R249): The input is good without break for 10 us; the PLL leaves LOSS for HOP. n: the Varnish PLL. -/
  | inputGood (n : Fin 4)
  /-- GLIDE_TARGET_REACHED (R259): g reaches its target and the PLL returns to LOCKED. n: the Varnish PLL. -/
  | glideTargetReached (n : Fin 4)
  /-- OUTPUT_UNGATE (R256): An output ungates on its first rising edge at least 1 us after lock. k: the output. -/
  | outputUngate (k : Fin 20)
  /-- PHASE_STEP_DONE (R261): The phase step remainder reaches zero and step_done is raised. n: the Varnish PLL. -/
  | phaseStepDone (n : Fin 4)
  /-- ALIGN_RESTORED (R260): After a glide returns to 0 the output phase returns to the grid and aligned is set. n: the Varnish PLL. -/
  | alignRestored (n : Fin 4)
  /-- OUT_CFG_WRITE (R264): An OUTk_CFG write changes the mode, or is ignored with cfg_ignored. m: the master; k: the output; w: the word written. -/
  | outCfgWrite (m : Master) (k : Fin 20) (w : Word)
  /-- OUT_DIV_WRITE (R264): An OUTk_DIV write applies only in mode 0, otherwise it is ignored with cfg_ignored. m: the master; k: the output; w: the word written. -/
  | outDivWrite (m : Master) (k : Fin 20) (w : Word)
  /-- VAR_PHASE_WRITE (R269): A direct VARn_PHASE write applies only while en is 0, otherwise it is ignored. m: the master; n: the Varnish PLL; w: the word written. -/
  | varPhaseWrite (m : Master) (n : Fin 4) (w : Word)
  /-- TDC_EDGE (R272): An input edge is timestamped and processed under dead time, hold-off and the channel mode. n: the TDC channel; rise: a rising edge; code: the raw code. -/
  | tdcEdge (n : Fin 16) (rise : Bool) (code : BitVec 11)
  /-- PAIR_WINDOW_CLOSE (R278): An open pairing edge's window closes and it is counted UNMATCHED or ORPHAN. n: the TDC channel. -/
  | pairWindowClose (n : Fin 16)
  /-- FREQ_GATE_END (R281): A FREQ gate ends and its count-and-span record is completed. n: the TDC channel. -/
  | freqGateEnd (n : Fin 16)
  /-- TDC_RECORD_DRAIN (R284): The TDC DMA pushes a queued record to its FIFO as one packet when there is room. n: the TDC channel. -/
  | tdcRecordDrain (n : Fin 16)
  /-- CAL_START (R287): A code-density calibration of a privileged line starts on its period or a temperature change. n: the privileged channel. -/
  | calStart (n : Fin 2)
  /-- CAL_NOW (R287): A write of cal_now starts or restarts a calibration. m: the master; n: the privileged channel; w: the word written. -/
  | calNow (m : Master) (n : Fin 2) (w : Word)
  /-- CAL_LINE_SWAP (R287): After calibration the lines swap on the first tick outside both dead times. n: the privileged channel; hits: the hits of each bin. -/
  | calLineSwap (n : Fin 2) (hits : List Nat)
  /-- CAL_EXPIRED (R288): A calibration older than four periods becomes invalid, raising cal_lost. n: the privileged channel. -/
  | calExpired (n : Fin 2)
  /-- DLL_LOCK (R286): A DLL channel's delay loop locks within 2 us of enable. n: the TDC channel. -/
  | dllLock (n : Fin 16)
  /-- TDC_CFG_WRITE (R290): A configuration write while en is 1 is ignored; clearing en discards open pairings and the gate. m: the master; n: the TDC channel; off: the register offset; w: the word. -/
  | tdcCfgWrite (m : Master) (n : Fin 16) (off : Fin 7) (w : Word)
  /-- STREAM_FAULT (R296): A GNSS stream is faulted and its tracking pairs go to LOST. m: the GNSS module; cause: 0 clock, 1 no toggling, 2 saturation; sat, rms, glitch: its figures. -/
  | streamFault (m : Fin 4) (cause : Fin 3) (sat : BitVec 8) (rms : BitVec 8) (glitch : BitVec 32)
  /-- STREAM_CLEAR (R296): A stream fault clears after 10 ms without a fault. m: the GNSS module; sat, rms: its figures. -/
  | streamClear (m : Fin 4) (sat : BitVec 8) (rms : BitVec 8)
  /-- PAIR_RUN (R298): A GNS_CH_CTL write starts or stops a tracking pair. m: the master; w: the word written. -/
  | pairRun (m : Master) (w : Word)
  /-- PAIR_PULL_IN_DONE (R298): A pair completes pull-in and begins tracking. p: the pair; cn0a, cn0b: C/N0; lockB: carrier lock on antenna B. -/
  | pairPullInDone (p : Fin 128) (cn0a : BitVec 7) (cn0b : BitVec 7) (lockB : Bool)
  /-- PAIR_LOST (R298): A pair without carrier lock on antenna A for 100 ms goes to LOST. p: the pair. -/
  | pairLost (p : Fin 128)
  /-- MEAS_RECORD (R299): At each epoch every tracking pair pushes a measurement record, or it is dropped. p: the pair; x: what it measures. -/
  | measRecord (p : Fin 128) (x : PairMeas)
  /-- SYMBOL_RECORD (R300): A pair pushes a symbol record after 32 symbols or on loss of lock. p: the pair; count: the symbols; ms: the millisecond of the first; symbols: their values. -/
  | symbolRecord (p : Fin 128) (count : Fin 33) (ms : Fin 1000) (symbols : BitVec 32)
  /-- BANK_ENTRY_END (R303): At the end of a bank entry up to three peak records are pushed. peaks: the correlations found. -/
  | bankEntryEnd (peaks : List BankPeak)
  /-- SWEEP_DONE (R302): A bank sweep over every valid entry completes. -/
  | sweepDone
  /-- BANK_RESTART (R304): A change of bank_mode or a bank list write ends the sweep after its dwell and restarts from entry 0. -/
  | bankRestart
  /-- KEEP_DATA_ACCESS (R306): An access to GNS_KEEP_DATA reads or writes the kept word and advances addr. m: the master; write: a write; w: the word. -/
  | keepDataAccess (m : Master) (write : Bool) (w : Word)
  /-- TIMING_SOLUTION (R307): Each second the navigation function forms a timing solution and writes slot 9's sample and terms. x: the solution. -/
  | timingSolution (x : GnsFix)
  /-- SURVEY_END (R308): The position survey ends and pos_valid is set. x, y, z: the position; unc: its uncertainty. -/
  | surveyEnd (x : Word) (y : Word) (z : Word) (unc : BitVec 32)
  /-- SPOOF_ALARM (R315): A DOA or secondary-peak alarm sets qrank 15 and a source fault on slot 9. doa: the direction-of-arrival test. -/
  | spoofAlarm (doa : Bool)
  /-- SPOOF_CLEAR (R315): Both spoofing tests stay clear for hold_s and the source fault is cleared. -/
  | spoofClear
  /-- SENTINEL_SLEEP (R316): The GNSS is put to sleep in sentinel mode. -/
  | sentinelSleep
  /-- SENTINEL_WAKE (R317): The GNSS wakes every period or at once on a reference failure. -/
  | sentinelWake
  /-- LP_FRAME_RECEIVE (R329): A line-port frame is stamped, classified, buffered and its descriptor pushed to its ring. p: the port; sub: the sub-port; bytes: the octets without the FCS; fcsOk: whether the FCS was good; age: 1/1024 ns since the timestamp point. -/
  | lpFrameReceive (p : Fin 4) (sub : Fin 4) (bytes : List (BitVec 8)) (fcsOk : Bool) (age : BitVec 24)
  /-- LP_FRAME_DEPARTURE (R331): A frame departs; time insertion, checksum correction, stamp queue and txdone are handled. p: the port; off: 1/1024 ns from now to the block boundary. -/
  | lpFrameDeparture (p : Fin 4) (off : BitVec 14)
  /-- TSQ_POP (R355): A read of LPp_TSQ_ID pops the head transmit-stamp entry. m: the master; p: the port. -/
  | tsqPop (m : Master) (p : Fin 4)
  /-- LP_ALIGN_LOCK (R323): At alignment lock the receive skew is measured and cal_valid is set. p: the port; sub: the sub-port; skew: the lane skews. -/
  | lpAlignLock (p : Fin 4) (sub : Fin 4) (skew : BitVec 20)
  /-- LP_CFG_WRITE (R355): A port configuration write while en is 1 is ignored with cfg_ignored. m: the master; p: the port; i: the register; w: the word. -/
  | lpCfgWrite (m : Master) (p : Fin 4) (i : Fin 4) (w : Word)
  /-- STZ_CMD_WORD (R352): STZ applies an auth_fail or epoch word from its command FIFO. -/
  | stzCmdWord
  /-- SITTER_CACHE_TAKEOVER (R353): A group takes over a bucket after its holder writes it back. g: the group; n: the bucket. -/
  | sitterCacheTakeover (g : Fin 4) (n : BitVec 20)
  /-- SITTER_WRITEBACK (R353): A dirty bucket is written back within 10 ms of its first change. n: the bucket. -/
  | sitterWriteback (n : BitVec 20)
  /-- RESEED_AND_CLEAR (R357): STZ_CMD op 1 redraws the hash key and clears the table. m: the master. -/
  | reseedAndClear (m : Master)
  /-- WRITE_BACK_CACHES (R357): STZ_CMD op 2 writes back every sitter cache. m: the master. -/
  | writeBackCaches (m : Master)
  /-- STZ_TABLE_CLEAR_DONE (R353): The table clearing ends and verdict 3 is no longer given. -/
  | stzTableClearDone
  /-- KEY_PREDERIVE (R362): 1 s before a roll the vault derives the next epoch's master key. -/
  | keyPrederive
  /-- PKE_OP_DONE (R366): The PKE completes a queued operation and takes the next request. -/
  | pkeOpDone
  /-- DRBG_HEALTH_FAIL (R369): A noise health test fails; nonce-drawing SEALs are refused. -/
  | drbgHealthFail
  /-- DRBG_RECOVER (R369): 1,024 consecutive healthy samples clear the entropy failure. -/
  | drbgRecover
  /-- DRBG_RESEED (R369): The DRBG reseeds every 2^20 requests. -/
  | drbgReseed
  /-- VERIFY_UPDATE (R376): KV_CMD op 1 verifies the command-window message into an update slot. m: the master; j: the update slot. -/
  | verifyUpdate (m : Master) (j : Fin 16)
  /-- DISCARD_SLOT (R384): KV_CMD op 2 discards an update slot. m: the master; j: the update slot. -/
  | discardSlot (m : Master) (j : Fin 16)
  /-- TAMPER_ALARM (R381): A tamper source alarms; the cause is latched, keys zeroized and the state becomes TAMPERED. b: the bit of TMP_CAUSE; slow: the slow-clock count; stays: how its input stands. -/
  | tamperAlarm (b : Fin 12) (slow : Word) (stays : TamperInput)
  /-- SP_FRAME_RECEIVE (R391): A span frame is stamped with a full T80 and pushed to its FIFO, or dropped. p: the port; bytes: the octets without the FCS; fcsOk: whether the FCS was good; age: 1/1024 ns since the timestamp point. -/
  | spFrameReceive (p : Fin 4) (bytes : List (BitVec 8)) (fcsOk : Bool) (age : BitVec 24)
  /-- SP_FRAME_DEPARTURE (R392): A span frame departs, held or not, and a txstamp record is pushed. p: the port; off: 1/1024 ns from now to the block boundary. -/
  | spFrameDeparture (p : Fin 4) (off : BitVec 14)
  /-- SP_ALIGN_LOCK (R390): At lock the span port measures its alignment offset and sets cal_valid. p: the port. -/
  | spAlignLock (p : Fin 4)
  /-- SP_CFG_WRITE (R408): A span port configuration write while en is 1 is ignored. m: the master; p: the port; i: the register; w: the word. -/
  | spCfgWrite (m : Master) (p : Fin 4) (i : Fin 3) (w : Word)
  /-- EXCHANGE_SEND (R394): At each multiple of 1/rate an EXCHANGE frame is built and held to that instant. p: the port. -/
  | exchangeSend (p : Fin 4)
  /-- EXCHANGE_PROCESS (R398): A verified EXCHANGE frame yields a two-way sample and slot terms. p: the port. -/
  | exchangeProcess (p : Fin 4)
  /-- XC_WINDOW_END (R402): A cross-colour window closes and k is updated or rejected. p: the port. -/
  | xcWindowEnd (p : Fin 4)
  /-- ATL_HELLO_SEND (R412): Every 10 ms a HELLO is sent on each live span port and the Studio bus. -/
  | atlHelloSend
  /-- ATL_HELLO_RECEIVE (R412): A valid HELLO updates adjacency, root claims and parent choice. port: the span port, 4 the bus. -/
  | atlHelloReceive (port : Fin 5)
  /-- ADJACENCY_TIMEOUT (R412): An adjacency is lost after 35 ms without a valid HELLO. port: the span port, 4 the bus; node: the node. -/
  | adjacencyTimeout (port : Fin 5) (node : Fin 32)
  /-- ROOT_SEQ_ADVANCE (R414): The root increments root_seq every 100 ms. -/
  | rootSeqAdvance
  /-- ROOT_TIMEOUT (R414): No advance of root_seq for root_to drops the root. -/
  | rootTimeout
  /-- CLAIM_HOLD_EXPIRY (R414): A better claim heard without a break for claim_hold is adopted. -/
  | claimHoldExpiry
  /-- REGISTER_SEND (R417): Once the parent is stable for stable_ms a REGISTER goes toward the root. -/
  | registerSend
  /-- REGISTER_RECEIVE (R418): A REGISTER is recorded and forwarded, or the root grants an address. port: the span port, 4 the bus. -/
  | registerReceive (port : Fin 5)
  /-- REGISTER_RETRY (R418): No GRANT within 200 ms, or a full refusal after 10 s, resends the REGISTER. -/
  | registerRetry
  /-- GRANT_RECEIVE (R417): A GRANT installs a route and is forwarded, or sets the device's address. port: the span port, 4 the bus. -/
  | grantReceive (port : Fin 5)
  /-- MGMT_FRAME_RECEIVE (R419): A MGMT frame is delivered, forwarded by route or parent, or dropped. port: the span port, 4 the bus. -/
  | mgmtFrameReceive (port : Fin 5)
  /-- MGMT_SEND (R419): A packet from mgmt_tx is sent as a MGMT frame. -/
  | mgmtSend
  /-- RELAY_SEND (R420): The root sends a RELAY 20 ms after each whole second. -/
  | relaySend
  /-- RELAY_RECEIVE (R420): A RELAY from the parent feeds slot 23 and is forwarded to the children. port: the span port, 4 the bus. -/
  | relayReceive (port : Fin 5)
  /-- ATL_RT_DATA_WRITE (R430): A route entry write installs a route, or is refused with rt_full. m: the master; w: the word written. -/
  | atlRtDataWrite (m : Master) (w : Word)
  /-- STB_FRAME_TRANSMIT (R425): The Studio bus transmitter sends the highest-priority frame after the gap. outcome: 0 sent, 1 a collision in the first slot time, 2 a later one; deferred: whether it had to wait for the bus. -/
  | stbFrameTransmit (outcome : Fin 3) (deferred : Bool)
  /-- STB_BACKOFF_EXPIRY (R425): The back-off time ends and transmission is tried again. outcome: 0 sent, 1 a collision in the first slot time, 2 a later one; deferred: whether it had to wait for the bus. -/
  | stbBackoffExpiry (outcome : Fin 3) (deferred : Bool)
  /-- STB_FRAME_RECEIVE (R426): A good frame for the node is delivered to its type's FIFO and the interrupt is raised. dst, src, kind, payload: the frame; err: 0 none, 1 FCS, 2 runt, 3 too long, 4 code error; own: sent by this node. -/
  | stbFrameReceive (dst : BitVec 8) (src : BitVec 8) (kind : BitVec 8) (payload : List (BitVec 8)) (err : Fin 5) (own : Bool)
  /-- TWIN_IDLE_RX (R434): An IDLE frame keeps the twin link alive and carries the acknowledgement. h: the frame before its payload. -/
  | twinIdleRx (h : TwHdr)
  /-- TWIN_HELLO_RX (R438): A twin HELLO is checked and moves pairing toward REFILL, or is refused. h: the frame before its payload; p: the payload. -/
  | twinHelloRx (h : TwHdr) (p : TwHello)
  /-- TWIN_STROKE_RX (R146): A mirrored stroke is verified, then refused when too late or written to the twin ledger. h: the frame before its payload; hi, lo, act, tag, chk: the stroke; seq, offerer, keeper: of its slot. -/
  | twinStrokeRx (h : TwHdr) (hi : Word) (lo : Word) (act : Word) (tag : BitVec 8) (chk : BitVec 32) (seq : BitVec 32) (offerer : BitVec 8) (keeper : Bool)
  /-- TWIN_STROKE_ACK_RX (R36): A STROKE_ACK reaches the offering unit and completes or refuses the offer. h: the frame before its payload; seq: the stroke; refused: whether it is refused. -/
  | twinStrokeAckRx (h : TwHdr) (seq : BitVec 32) (refused : Bool)
  /-- TWIN_NOTE_RX (R445): A completion note marks an active-only stroke DONE on the standby. h: the frame before its payload; seq: the stroke; report: its report code. -/
  | twinNoteRx (h : TwHdr) (seq : BitVec 32) (report : Fin 8)
  /-- TWIN_STATE_RX (R442): A STATE frame updates the mirrored state and generation on the standby. h: the frame before its payload; gen, setter: the generation pair; shared: shared_atom; items: the mirrored items. -/
  | twinStateRx (h : TwHdr) (gen : Word) (setter : BitVec 64) (shared : Bool) (items : List (Nat × Word))
  /-- TWIN_REFILL_RX (R440): A REFILL frame loads ledger slots and snapshots into the standby. h: the frame before its payload; words: the slot; done: the last one. -/
  | twinRefillRx (h : TwHdr) (words : List Word) (done : Bool)
  /-- TWIN_GIVE_RX (R450): GIVE fixes t_stop, and the incoming unit executes active-only strokes from it. h: the frame before its payload; hi, lo: t_stop; lastSeq: the last seq executed. -/
  | twinGiveRx (h : TwHdr) (hi : Word) (lo : Word) (lastSeq : BitVec 32)
  /-- TWIN_SWAP_RX (R454): A SWAP frame is acknowledged with SWAP_ACK. h: the frame before its payload; hi: the T80, high word; lo: the T80, low word. -/
  | twinSwapRx (h : TwHdr) (hi : Word) (lo : Word)
  /-- TWIN_SWAP_ACK_RX (R454): SWAP_ACK confirms the planned-swap instant. h: the frame before its payload; hi: the T80, high word; lo: the T80, low word. -/
  | twinSwapAckRx (h : TwHdr) (hi : Word) (lo : Word)
  /-- TWIN_RESEND (R436): No acknowledgement progress for 500 ns resends unacknowledged frames. -/
  | twinResend
  /-- TWIN_LINK_TIMEOUT (R436): Four unacknowledged sends, 2 us of silence or a missing STROKE_ACK ends sync. -/
  | twinLinkTimeout
  /-- TWIN_LANE_LOSS (R434): Loss of one lane raises lane_fail and a DEGRADE fault. lane: the lane. -/
  | twinLaneLoss (lane : Fin 2)
  /-- LAPSED_QUIET_EXPIRY (R438): After 10 ms of quiet verified link, LAPSED returns to HELLO. -/
  | lapsedQuietExpiry
  /-- TW_CMD_SWAP (R454): TW_CMD op 1 starts a planned swap on an active unit in SYNC. m: the master. -/
  | twCmdSwap (m : Master)
  /-- REPAIR (R456): TW_CMD op 2 moves LAPSED to HELLO and clears take_fail. m: the master. -/
  | repair (m : Master)
  /-- END_PAIRING (R438): TW_CMD op 3 ends pairing, moving to LAPSED. m: the master. -/
  | endPairing (m : Master)
  /-- GIVE_UP (R448): The active unit stops its executors, sends GIVE, releases its outputs and then TW_OWN_N. -/
  | giveUp
  /-- PEER_OWN_RELEASE (R449): TW_PEER_OWN_N rises and a standby asserts TW_OWN_N and takes control. ns: since TW_PEER_OWN_N began to rise. -/
  | peerOwnRelease (ns : BitVec 8)
  /-- OUTPUT_DRIVER_ENABLE (R449): An output driver enables when its level equals the gated level, or at t_g + 100 ns. k: the output; high, differed: its own level then, and whether it is marked. -/
  | outputDriverEnable (k : Fin 20) (high differed : Bool)
  /-- GIVE_TIMEOUT (R450): No GIVE 1 us after drive permission: t_stop is taken from the last frame and give_missing is raised. -/
  | giveTimeout
  /-- TAKEOVER_OUTPUT_CHECK (R453): For 1 us after enable the pad is compared, and a mismatch sets take_fail. k: the output; mismatch: what the check finds. -/
  | takeoverOutputCheck (k : Fin 20) (mismatch : Bool)
  /-- SWAP_INSTANT (R454): At t_s the active unit gives up and the standby takes control. -/
  | swapInstant
  /-- SWAP_ACK_TIMEOUT (R454): No SWAP_ACK within 1 ms abandons the swap with ABORTED. -/
  | swapAckTimeout
  /-- REVERTIVE_WTR_EXPIRY (R455): A home standby ready for wtr_s requests a planned swap. -/
  | revertiveWtrExpiry
  /-- POWER_ON_PIN_CLAIM (R433): After waiting for the peer's HELLO a unit claims the pins. -/
  | powerOnPinClaim
  /-- OWNERSHIP_CONFLICT (R433): When both own lines are low, the unit with home = 0 releases within 1 us. -/
  | ownershipConflict
  /-- HEARTBEAT_LOST (R447): The AO watchdog misses the House heartbeat for 10 ms. -/
  | heartbeatLost
  /-- SUPPLY_LOW (R447): VDD_CORE falls below 0.68 V and a paired active unit gives up. -/
  | supplyLow
  /-- RESET_PIN_ASSERT (R457): A qualified low on RESET_N takes a warm reset and latches t_reset. -/
  | resetPinAssert
  /-- RESET_ESCALATION (R458): RESET_N low for 250 ms turns the warm reset into a cold reset. -/
  | resetEscalation
  /-- RESET_PIN_RELEASE (R462): RESET_N rises and bring-up begins. -/
  | resetPinRelease
  /-- POWER_GOOD_FALL (R458): PWR_GOOD falls; the device gives up and enters power-on reset. -/
  | powerGoodFall
  /-- POWER_GOOD_RISE (R462): PWR_GOOD rises and a cold bring-up begins. bkLost: whether BK is found lost; slow: the slow-clock count. -/
  | powerGoodRise (bkLost : Bool) (slow : Word)
  /-- CORE_UNDERVOLTAGE (R551): VDD_CORE below 0.64 V for 1 us takes a power-on reset. -/
  | coreUndervoltage
  /-- DIE_LINK_TRAIN (R22): A die-to-die link training attempt ends; it is retried, or the device is held in reset. ok: whether the attempt succeeds. -/
  | dieLinkTrain (ok : Bool)
  /-- BRING_UP_STAGE_DONE (R462): A bring-up stage completes and the next stage starts. r: what the stage finds. -/
  | bringUpStageDone (r : StageResult)
  /-- PCIE_LINK_UP (R462): The PCIe endpoint completes link training and reaches L0. -/
  | pcieLinkUp
  /-- LOCAL_RESET (R467): A write of RST_LOCAL resets a unit or cluster, or is refused. m: the master; unit: the unit; cluster: its whole cluster. -/
  | localReset (m : Master) (unit : BitVec 12) (cluster : Bool)
  /-- LOCAL_RESET_RELEASE (R467): After 100 ns the local reset is released under clock-good. -/
  | localResetRelease
  /-- DOMAIN_REQUEST (R469): A PWR_REQ write powers domains in order or is refused as a whole. m: the master; w: the word written. -/
  | domainRequest (m : Master) (w : Word)
  /-- DOMAIN_CHANGE_DONE (R469): A domain finishes powering up or down; PWR_STATE.on changes and done is raised. d: the domain. -/
  | domainChangeDone (d : Fin 12)
  /-- OSC_LOST (R472): OSC_IN is lost; the PLL freezes and the FATAL oscillator-lost fault is raised. -/
  | oscLost
  /-- PLL_UNLOCK (R478): A fabric or DRAM PLL loses lock and its units go into local reset. which: 0 fabric, 1 DRAM. -/
  | pllUnlock (which : Fin 2)
  /-- CLOCK_GOOD (R31): A demand-started clock reports clock-good and the unit is released. unit: the unit. -/
  | clockGood (unit : BitVec 12)
  /-- CLOCK_IDLE_STOP (R473): A unit clock stops after idle_ns without access or work. unit: the unit. -/
  | clockIdleStop (unit : BitVec 12)
  /-- UNIT_CLOCK_BAD (R31): A unit clock goes bad; the unit is put back in local reset with a DEGRADE fault. unit: the unit. -/
  | unitClockBad (unit : BitVec 12)
  /-- HOST_READ (R482): A PCIe read of 8-byte slots maps through a BAR and returns data or Completer Abort. bar: 0 BAR0, 1 BAR2, 2 BAR4; off: the byte offset; len: the length in bytes. -/
  | hostRead (bar : Fin 3) (off : BitVec 30) (len : BitVec 13)
  /-- HOST_WRITE (R482): A PCIe write of 8-byte slots maps through a BAR and is performed or discarded. bar: 0 BAR0, 1 BAR2, 2 BAR4; off: the byte offset; data: the slots; tail: further bytes. -/
  | hostWrite (bar : Fin 3) (off : BitVec 30) (data : List (BitVec 64)) (tail : Fin 8)
  /-- SCRUB_STEP (R487): The scrubber reads and corrects the next burst. inner: corrections in the die; found: 0 no error, 1 corrected, 2 uncorrectable. -/
  | scrubStep (inner : Fin 5) (found : Fin 3)
  /-- FIFO_DATA_WRITE (R495): A write of DATA pushes a plain word or a word inside an open packet. m: the master; n: the FIFO; w: the word written. -/
  | fifoDataWrite (m : Master) (n : Fin 256) (w : Word)
  /-- FIFO_FIRST_WRITE (R496): A write of FIRST reserves a length slot and opens a packet. m: the master; n: the FIFO; w: the word written. -/
  | fifoFirstWrite (m : Master) (n : Fin 256) (w : Word)
  /-- FIFO_LAST_WRITE (R496): A write of LAST closes a packet and fills its length word. m: the master; n: the FIFO; w: the word written. -/
  | fifoLastWrite (m : Master) (n : Fin 256) (w : Word)
  /-- FIFO_ONLY_WRITE (R496): A write of ONLY pushes a one-word packet. m: the master; n: the FIFO; w: the word written. -/
  | fifoOnlyWrite (m : Master) (n : Fin 256) (w : Word)
  /-- FIFO_DATA_READ (R498): A read of DATA pops one word, or returns the empty indication. m: the master; n: the FIFO. -/
  | fifoDataRead (m : Master) (n : Fin 256)
  /-- FIFO_WASH_WRITE (R500): A write of WASH sets a cut point. m: the master; n: the FIFO; w: the word written. -/
  | fifoWashWrite (m : Master) (n : Fin 256) (w : Word)
  /-- FIFO_CUT_REACHED (R500): The write side reaches the cut point and the words before it are discarded. n: the FIFO. -/
  | fifoCutReached (n : Fin 256)
  /-- FIFO_CFG_WRITE (R494): A FIFO configuration write applies, is ignored, or clearing en discards the contents. m: the master; w: the word written. -/
  | fifoCfgWrite (m : Master) (w : Word)
  /-- FAULT_DETECTED (R508): A NOTE or DEGRADE source is set and reports, performing its fence reaction. n: the source; unit: the unit it names. -/
  | faultDetected (n : Fin 224) (unit : BitVec 12)
  /-- FATAL_ENTRY (R509): A FATAL source stops the executors, forces safe outputs, asserts FAULT_N and gives up. n: the source. -/
  | fatalEntry (n : Fin 12)
  /-- FIX_FORCE_WRITE (R516): A write of FIX_FORCE raises a source as detection would, or is refused. m: the master; w: the word written. -/
  | fixForceWrite (m : Master) (w : Word)
  /-- FIX_RAISE_WRITE (R512): A write of FIX_RAISE raises a software-reported source. m: the master; w: the word written. -/
  | fixRaiseWrite (m : Master) (w : Word)
  /-- UNIT_FAULT_FORCE_WRITE (R516): A write of UNIT_FAULT_FORCE raises the unit-fault source naming the unit. m: the master; unit: the unit; w: the word written. -/
  | unitFaultForceWrite (m : Master) (unit : BitVec 12) (w : Word)
  /-- EVENT_COUNT_READ (R515): A read of UNIT_EVC returns the selected event count and clears it. m: the master; unit: the unit. -/
  | eventCountRead (m : Master) (unit : BitVec 12)
  /-- JTAG_INSTRUCTION_LOAD (R524): A pin-driving JTAG instruction takes effect, stopping the executors after give-up. i: 0 BYPASS, 1 IDCODE, 2 SAMPLE/PRELOAD, 3 EXTEST, 4 CLAMP, 5 HIGHZ, 6 EXTEST_PULSE, 7 EXTEST_TRAIN. -/
  | jtagInstructionLoad (i : Fin 8)
  /-- TALLY_START (R539): A write of TLY_CTL.start starts one sweep, or the start is skipped. m: the master; hold, en: those fields of TLY_CTL. -/
  | tallyStart (m : Master) (hold : Bool) (en : Bool)
  /-- TALLY_SWEEP_START (R539): At each multiple of period_us a sweep starts, or is skipped. -/
  | tallySweepStart
  /-- TALLY_SWEEP_DONE (R539): A sweep completes and its record bank becomes readable. -/
  | tallySweepDone
  /-- TLY_BUF_READ (R542): A read of TLY_BUF_DATA returns the selected record word and advances the index. m: the master. -/
  | tlyBufRead (m : Master)
  /-- HI_WORD_READ (R164): A read of a HI time register latches its LO word of the same tick. m: the master; i: the HI register, in the order of Machine.hiRegs. -/
  | hiWordRead (m : Master) (i : Fin 30)
  /-- REGISTER_WRITE (R12): A write to a register that has no row of its own, applied per its field types. m: the master; a: unit_id * 0x100 + offset; w: the word. -/
  | registerWrite (m : Master) (a : BitVec 16) (w : Word)
  /-- TWIN_LANE_LOCK (R438): A twin link lane gains lock, which moves pstate from OFF to HELLO while en is set. lane: the lane. -/
  | twinLaneLock (lane : Fin 2)
  /-- TWIN_HELLO_SEND (R438): The twin supervision function sends or repeats its HELLO every 1 s while pstate is HELLO. -/
  | twinHelloSend
  /-- TWIN_SILENT (R456): No valid twin frame for 10 us while the peer owns the pins raises the silent event. -/
  | twinSilent
  /-- LP_LINK_LOSS (R174): A line-port sub-port loses block or alignment lock or link, raising link_change, clearing cal_valid and faulting the SyncE slot. p: the port; sub: the sub-port. -/
  | lpLinkLoss (p : Fin 4) (sub : Fin 4)
  /-- SP_LINK_LOSS (R407): A span port's link goes down, raising link_change and cal_lost, and the span function sets a source fault on its slot. p: the port. -/
  | spLinkLoss (p : Fin 4)
  /-- TDC_DLL_UNLOCK (R288): A DLL channel's delay loop loses lock, so its calibration becomes invalid and cal_lost is raised. n: the TDC channel. -/
  | tdcDllUnlock (n : Fin 16)
  /-- ATOM_IN_LOST (R478): The CKG monitor finds ATOM_IN absent or outside 200 ppm, clearing atom_ok and raising atom_lost. -/
  | atomInLost
  /-- PCIE_PERST_RELEASE (R462): PCIE_PERST_N rises and the PCIe endpoint begins link training if bring-up step 7 has started. -/
  | pciePerstRelease
  /-- PTP_MESSAGE_SEND (R335): A master port sends Sync, Announce or Follow_Up at its message interval. p: the port; kind: 0 Sync, 1 Announce, 2 Follow_Up; c: the session. -/
  | ptpMessageSend (p : Fin 4) (kind : Fin 3) (c : PtpCfg)
  /-- ANNOUNCE_RECEIPT_TIMEOUT (R340): A client session misses announceReceiptTimeout Announce messages and writes qrank 15. n: the session of slot 18 + n. -/
  | announceReceiptTimeout (n : Fin 6)
  /-- ESMC_PDU_SEND (R341): An ESMC information PDU is sent each second, or an event PDU within 200 ms of a QL change. p: the port; event: an event PDU. -/
  | esmcPduSend (p : Fin 4) (event : Bool)
  /-- ESMC_PDU_TIMEOUT (R341): Five seconds without a received ESMC PDU gives the SyncE slot qrank 15. p: the port. -/
  | esmcPduTimeout (p : Fin 4)
  /-- PAIR_LOCK_B_LOSS (R298): A GNSS pair loses carrier lock on antenna B alone, clearing lock_b while tracking continues. p: the pair. -/
  | pairLockBLoss (p : Fin 128)
deriving DecidableEq, Repr

end Sys2Proof
end

