-- ==== Sys2Proof/Decode.lean ====
section
/-! DEFINITION. From words to commands: the words of spec/opcode_table.json, whose rows give no bits, and the instruction words of the
Idearyn cores (R48 to R51). -/

namespace Sys2Proof

open Sys2Proof.Machine

/-- The command that a word spells by the table's bits: the table gives its rows none. -/
def decodeTableWord (_nbits _w : Nat) : Option Instr := none

/-- The register in bits [lo + 4 : lo] of an instruction word (R48). -/
def regField (w : Word) (lo : Nat) : GReg := ⟨bitsOf w.toNat (lo + 4) lo % 32, Nat.mod_lt _ (by decide)⟩

/-- The field [18:0] (R48). -/
def immField (w : Word) : BitVec 19 := w.setWidth 19

/-- A condition (R65). -/
def condField (w : Word) : Fin 16 := ⟨bitsOf w.toNat 32 29 % 16, Nat.mod_lt _ (by decide)⟩

/-- A command whose reserved fields must read zero (R49, R79). -/
def clear (ok : Bool) (i : Instr) : Option Instr := if ok then some i else none

/-- An immediate shift amount: imm[5:0], with imm[18:6] reserved (R50). -/
def shiftImm (w : Word) : Option (BitVec 19) := if bitsOf w.toNat 18 6 = 0 then some (immField w) else none

/-- TRAP with a service's code is that service's command (R67, R109). -/
def decodeTrap (k : CoreId) (c : BitVec 19) : Instr :=
  match c.toNat with
  | 0 => .stray k
  | 1 => .selfSvc k
  | 2 => .notice k
  | 3 => .bound k
  | 0xFFFE => .resumeSkip k
  | 0xFFFF => .resume k
  | _ => .trap k c

/-- The second operand of the eight operations that have an R and an I form. -/
def src2Field (immForm shift : Bool) (w : Word) : Option Src2 :=
  if immForm then
    if bitsOf w.toNat 23 19 ≠ 0 then none
    else if shift then (shiftImm w).map .imm else some (.imm (immField w))
  else if bitsOf w.toNat 18 0 = 0 then some (.reg (regField w 19)) else none

/-- The instruction that a word of a core is (R48 to R51); none where R79 makes it unpredictable by its encoding. Whether the core's profile
has it is the instruction's own matter (R78). -/
def decodeCore (k : CoreId) (w : Word) : Option Instr :=
  let n := w.toNat
  let op := bitsOf n 39 34
  let rd := regField w 29
  let rs1 := regField w 24
  let rs2 := regField w 19
  let fn := bitsOf n 18 0
  let z := fun (hi lo : Nat) => decide (bitsOf n hi lo = 0)
  let alu := fun (i : Bool) (s : Bool) (f : Src2 → Instr) => (src2Field i s w).map f
  match op with
  | 0x00 => clear (z 33 19) (decodeTrap k (immField w))
  | 0x01 => alu false false (.add k rd rs1)
  | 0x02 => alu false false (.sub k rd rs1)
  | 0x03 => alu false false (.and_ k rd rs1)
  | 0x04 => alu false false (.or_ k rd rs1)
  | 0x05 => alu false false (.xor k rd rs1)
  | 0x06 => alu false true (.shl k rd rs1)
  | 0x07 => alu false true (.shr k rd rs1)
  | 0x08 => alu false true (.sra k rd rs1)
  | 0x09 => clear (z 18 1) (.mul k rd rs1 rs2 (decide (fn % 2 = 1)))
  | 0x0B => clear (z 23 19) (.lih k rd rs1 (immField w))
  | 0x0C => alu true false (.add k rd rs1)
  | 0x0D => alu true false (.sub k rd rs1)
  | 0x0E => alu true false (.and_ k rd rs1)
  | 0x0F => alu true false (.or_ k rd rs1)
  | 0x10 => alu true false (.xor k rd rs1)
  | 0x11 => alu true true (.shl k rd rs1)
  | 0x12 => alu true true (.shr k rd rs1)
  | 0x13 => alu true true (.sra k rd rs1)
  | 0x14 => clear (z 33 29 && z 18 2) (.mac k rs1 rs2 (fn.testBit 0) (fn.testBit 1))
  | 0x15 => clear (z 33 29 && z 18 2) (.msc k rs1 rs2 (fn.testBit 0) (fn.testBit 1))
  | 0x16 => clear (z 28 19 && z 18 9) (.acc k rd (BitVec.ofNat 6 fn) (fn.testBit 6) (fn.testBit 7) (fn.testBit 8))
  | 0x18 => clear (z 18 1) (.tadd k rd rs1 rs2 (fn.testBit 0))
  | 0x19 => clear (z 18 1) (.tsub k rd rs1 rs2 (fn.testBit 0))
  | 0x1A => clear (z 33 29 && z 18 0) (.tcmp k rs1 rs2)
  | 0x1B => clear (z 18 0) (.text k rd rs1 rs2)
  | 0x1C => clear (z 33 19) (.br k (.off (immField w)))
  | 0x1D => clear (z 33 33 && z 28 19) (.brc k (condField w) (immField w))
  | 0x1E => clear (z 28 19) (.call k rd (.off (immField w)))
  | 0x1F => clear (z 33 29 && z 23 0) (.ret k rs1)
  | 0x20 => clear (z 33 29 && z 23 0) (.br k (.reg rs1))
  | 0x21 => clear (z 23 0) (.call k rd (.reg rs1))
  | 0x22 => clear (z 23 19) (.ld k rd rs1 (immField w))
  | 0x23 => clear (z 33 29) (.st k rs1 rs2 (immField w))
  | 0x24 => clear (z 23 19) (.ldp k rd rs1 (immField w))
  | 0x25 => clear (z 33 29) (.stp k rs1 rs2 (immField w))
  | 0x28 => clear (z 33 29 && z 18 2) (.push k rs1 rs2 ⟨fn % 4, Nat.mod_lt _ (by decide)⟩)
  | 0x29 => clear (z 23 0) (.pop k rd rs1)
  | 0x2A => clear (z 33 29 && z 23 0) (.wash k rs1)
  | 0x2B => clear (z 23 19 && z 18 8) (.urd k rd rs1 (BitVec.ofNat 8 fn))
  | 0x2C => clear (z 33 29 && z 18 8) (.uwr k rs1 rs2 (BitVec.ofNat 8 fn))
  | 0x2D => clear (z 33 29 && z 23 19 && z 18 1) (.wait k rs1 (fn.testBit 0))
  | 0x2E => if fn = 1 then some (.wev k rd rs1 (some rs2)) else clear (z 23 0) (.wev k rd rs1 none)
  | 0x2F => clear (z 18 8) (.sched k rd rs1 rs2 (BitVec.ofNat 8 fn))
  | 0x30 =>
    (match fn with
     | 0 => some (.kopDerive k rd rs1 rs2)
     | 1 => some (.kopMac k rd rs1 rs2)
     | 2 => some (.kopSeal k rd rs1 rs2)
     | 3 => some (.kopOpen k rd rs1 rs2)
     | 4 => some (.kopSign k rd rs1 rs2)
     | _ => none)
  | 0x31 => clear (z 18 15) (.pex k rd rs1 rs2 (BitVec.ofNat 11 fn) (BitVec.ofNat 3 (fn / 2048)) (fn.testBit 14))
  | 0x32 => clear (z 18 1) (.csum k rd rs1 rs2 (fn.testBit 0))
  | 0x33 => clear (z 33 29 && z 18 13) (.tsi k rs1 rs2 (BitVec.ofNat 11 fn) (BitVec.ofNat 2 (fn / 2048)))
  | 0x34 => clear (z 18 1) (.qsend k rd rs1 rs2 (fn.testBit 0))
  | _ => none

end Sys2Proof
end

