-- ==== Sys2Proof/Config.lean ====
section
/-! DEFINITION. What an implementation fixes and what the spec leaves open: constants without a body, so that no proof
can see a value. The free values are functions of the model's own counter (State.freeCtr) or of the operands named. -/

namespace Sys2Proof.Config

/-- The n-th value the spec leaves undefined or unstated, as a word (log 1). -/
opaque freeWord : Nat → Word

/-- The contents of House ROM, a mask ROM whose words the spec does not give (R479; log 2). -/
opaque romWord : Nat → Word

/-- The 64-bit UID of the device: high and low 32 bits (R23, R123; log 3). -/
opaque uidHi : BitVec 32
opaque uidLo : BitVec 32

/-- The words of the ID unit, by offset: the die identities and steppings, whose layout the spec does not give (R23; log 3). -/
opaque dieIdentity : Nat → Word

/-- The House set's version in the mask ROM (R113, R123; log 3). -/
opaque houseVersion : BitVec 32

/-- The instant that a pair of UND_M_T0 words stands for where it is no normalized T80 (R5; log 151). -/
opaque oddTime : BitVec 80 → Nat

/-- The weight, less one, of a learning sample of an age in seconds (R207; log 168). -/
opaque fitWeight : Nat → Nat

/-- Over how many of the last ticks, less one, the mean of R208 at the first lock is taken (log 168). -/
opaque lockMean : Nat

/-- Whether TB rounds an increment that no multiple of 2^-80 ns equals up rather than down (R126; log 4). -/
opaque incRoundUp : Nat → Bool

/-- Where within its period the test unit's back-pressure begins (R525; log 1). -/
opaque bpPhase : Nat

/-- The values priming loads from the fuse trims, by register (R13, R463; log 5). -/
opaque fuseTrim : Nat → Word

/-- The random number, in 1 to n - 1, of an ECDSA signature, from the noise source that R369 names (log 6). -/
opaque signNonce : Nat → Nat

/-- The Device Unique Secret, fixed at manufacture (R359), and the SHA-384 digests that the verification-key fuse slots hold
from manufacture, by slot (R376); and Askeno's verification key digest in the House ROM (R519; log 6). -/
opaque deviceSecret : List Nat
opaque fuseKeyDigest : Nat → List Nat
opaque askenoKeyDigest : List Nat

/-- The public key that a digest stands for: the device is given the digest alone (R519, R520, R112; log 6). -/
opaque digestKey : List Nat → List Nat

/-- The hash of a sitter's address under the key drawn with a serial number: the first 64 bits of AES-128, whose key is
drawn at random and never shown (R349; log 6). -/
opaque sitterHash : Nat → Nat → BitVec 64

/-- How many frames a transmit queue of a line port holds behind its first one (R102; log 66). -/
opaque txBehind : Nat

/-- How many frames a transmit queue of a line port holds before QSEND waits; the spec gives no figure (R102; log 66). -/
def txDepth : Nat := txBehind + 1

/-- Where the kept area holds the last timing fix: its T80, the slow-clock count and their CRC-32C, in four words (R306; log 172). -/
opaque keptFix : BitVec 13

/-- Where in DRAM the House set places the ledger, the lineage log and the attestation ring, in bursts (R488; log 173). -/
opaque housePlace : BitVec 40

end Sys2Proof.Config
end

