-- ==== Sys2Proof/Machine/RegMap.lean ====
section
/-! DEFINITION. The register map: for every unit, the registers the spec gives it, each with its offset, its fields,
their types (R12), their reset values (R13), what a warm reset leaves, and the values a field may legally take. The
tables are the spec's register tables written as data; each table names the rule it follows. -/

namespace Sys2Proof.Machine

/-- The field types of R12. -/
inductive FTy where
  | rw | ro | w1c | w1s | rc | wo | rsv
deriving DecidableEq, Repr

/-- One bit field: its bits, type, reset value, the legal values (none listed: every value), and what survives
(0 nothing, 1 a warm reset, 2 every reset while BK is powered). -/
structure FieldD where
  hi : Nat
  lo : Nat
  ty : FTy
  rst : Nat
  ok : List (Nat × Nat)
  keep : Nat
deriving DecidableEq, Repr

/-- One register, or `n` alike registers `stride` apart. -/
structure RegD where
  off : Nat
  n : Nat
  stride : Nat
  fields : List FieldD
deriving DecidableEq, Repr

/-- A field with every value legal and nothing surviving. -/
def fd (hi lo : Nat) (ty : FTy) (rst : Nat := 0) (ok : List (Nat × Nat) := []) (keep : Nat := 0) : FieldD :=
  { hi := hi, lo := lo, ty := ty, rst := rst, ok := ok, keep := keep }

/-- A single register. -/
def rg (off : Nat) (fields : List FieldD) : RegD := { off := off, n := 1, stride := 1, fields := fields }

/-- `n` alike registers. -/
def rgs (off n stride : Nat) (fields : List FieldD) : RegD := { off := off, n := n, stride := stride, fields := fields }

/-- ECk registers (R110, 03_idearyn_system.md). -/
def regsECk : List RegD := [
  rg 0x00 [fd 4 4 .ro, fd 3 3 .ro, fd 2 2 .ro, fd 1 1 .ro 1, fd 0 0 .rw],  -- ECk_CTL
  rgs 0x01 2 1 [fd 31 0 .rw],  -- ECk_ENTRY..ECk_TVEC
  rg 0x03 [fd 31 0 .ro],  -- ECk_TPC
  rg 0x04 [fd 33 15 .ro, fd 14 14 .ro, fd 13 8 .ro, fd 7 0 .ro],  -- ECk_TINFO
  rg 0x05 [fd 31 0 .ro],  -- ECk_TADDR
  rgs 0x06 4 1 [fd 9 9 .rw, fd 8 8 .rw, fd 7 0 .rw, fd 19 19 .rw, fd 18 18 .rw, fd 17 10 .rw, fd 29 29 .rw, fd 28 28 .rw, fd 27 20 .rw, fd 39 39 .rw, fd 38 38 .rw, fd 37 30 .rw],  -- ECk_EVSEL
  rgs 0x0A 2 1 [fd 9 9 .rw, fd 7 0 .rw, fd 19 19 .rw, fd 17 10 .rw, fd 29 29 .rw, fd 27 20 .rw, fd 39 39 .rw, fd 37 30 .rw],  -- ECk_IRQSEL
  rg 0x0C [fd 0 0 .wo],  -- ECk_SEV
  rg 0x0D [fd 39 0 .ro]  -- ECk_PENDING
]

/-- MBX registers (R124, 03_idearyn_system.md). -/
def regsMBX : List RegD := [
  rg 0x00 [fd 7 0 .wo],  -- MBX_DOORBELL
  rg 0x01 [fd 22 16 .ro, fd 15 8 .ro, fd 4 2 .ro, fd 1 1 .ro, fd 0 0 .ro],  -- MBX_STATUS
  rg 0x02 [fd 2 2 .w1c, fd 1 1 .w1c, fd 0 0 .w1c],  -- MBX_IRQ
  rg 0x03 [fd 2 0 .rw],  -- MBX_IRQ_EN
  rg 0x04 [fd 13 8 .rw, fd 5 0 .rw],  -- MBX_VECTOR
  rgs 0x05 2 1 [fd 31 0 .ro]  -- MBX_REFUSED..MBX_DROPPED
]

/-- TB registers (R164, 04_timebase_sketchbook.md). -/
def regsTB : List RegD := [
  rgs 0x00 2 1 [fd 39 0 .ro],  -- TB_TIME_HI..TB_TIME_LO
  rg 0x02 [fd 39 0 .rw 0 [] 1],  -- TB_STEER
  rg 0x03 [fd 39 0 .ro 0 [] 1],  -- TB_SLEW_REM
  rg 0x04 [fd 39 0 .wo],  -- TB_SLEW_ADD
  rg 0x05 [fd 19 0 .rw 1000 [(0, 1000000)] 1],  -- TB_SLEW_RATE
  rg 0x06 [fd 31 0 .rw],  -- TB_STEP_THRESH
  rgs 0x07 2 1 [fd 39 20 .wo, fd 19 0 .wo],  -- TB_STEP_US..TB_STEP_S
  rg 0x09 [fd 39 38 .ro, fd 37 36 .ro, fd 19 0 .ro],  -- TB_STEP_LAST
  rgs 0x0A 2 1 [fd 39 0 .ro],  -- TB_STEP_T_HI..TB_STEP_T_LO
  rg 0x0C [fd 39 0 .rw],  -- TB_LOAD_HI
  rg 0x0D [fd 39 0 .wo],  -- TB_LOAD_LO
  rg 0x0E [fd 15 0 .rw 0 [] 1],  -- TB_UTC_OFS
  rg 0x0F [fd 2 2 .rw 0 [] 1, fd 1 1 .rw 0 [] 1, fd 0 0 .rw 0 [] 1],  -- TB_LEAP
  rg 0x10 [fd 0 0 .wo],  -- TB_LEAP_EXEC
  rg 0x11 [fd 2 2 .ro 0 [] 1, fd 1 1 .ro, fd 0 0 .ro 0 [] 1],  -- TB_STATUS
  rg 0x12 [fd 5 5 .w1c, fd 4 4 .w1c, fd 3 3 .w1c, fd 2 2 .w1c, fd 1 1 .w1c, fd 0 0 .w1c],  -- TB_EVENTS
  rg 0x13 [fd 5 0 .rw],  -- TB_EVENTS_EN
  rgs 0x14 2 1 [fd 39 0 .ro 0 [] 1]  -- TB_RESET_T_HI..TB_RESET_T_LO
]

/-- SKB registers (R165, 04_timebase_sketchbook.md). -/
def regsSKB : List RegD := [
  rg 0x00 [fd 1 1 .rw, fd 0 0 .rw],  -- SKB_CTL
  rg 0x01 [fd 31 0 .rw 0 [] 1],  -- SKB_LEDGER_BASE
  rg 0x02 [fd 15 0 .rw 750],  -- SKB_MIRROR_LEAD
  rg 0x03 [fd 29 29 .ro, fd 28 28 .ro, fd 27 17 .ro, fd 16 0 .ro],  -- SKB_STATUS
  rg 0x04 [fd 31 0 .ro 0 [] 1],  -- SKB_SEQ
  rg 0x05 [fd 16 0 .ro],  -- SKB_REPORTS
  rg 0x06 [fd 3 3 .w1c, fd 2 2 .w1c, fd 1 1 .w1c, fd 0 0 .w1c],  -- SKB_EVENTS
  rg 0x07 [fd 3 0 .rw],  -- SKB_EVENTS_EN
  rgs 0x08 7 1 [fd 31 0 .ro],  -- SKB_CNT_PAST..SKB_CNT_PINMASK
  rgs 0x0F 2 1 [fd 39 0 .ro]  -- SKB_T_RESUME_HI..SKB_T_RESUME_LO
]

/-- PAL registers (R196, 05_palette_references.md). -/
def regsPAL : List RegD := [
  rg 0x00 [fd 3 3 .rw 1, fd 2 2 .rw 1, fd 1 1 .rw 1, fd 0 0 .rw],  -- PAL_CTL
  rg 0x01 [fd 14 14 .ro 0 [] 1, fd 13 13 .ro, fd 12 12 .ro, fd 11 11 .ro, fd 10 10 .ro, fd 9 9 .ro, fd 8 4 .ro, fd 2 0 .ro],  -- PAL_STATE
  rg 0x02 [fd 5 5 .rw, fd 4 0 .rw 0 [(0, 23)] 0],  -- PAL_FORCE
  rg 0x03 [fd 39 0 .rw 0xF4240],  -- PAL_HOLD_LIMIT
  rg 0x04 [fd 31 16 .rw 60, fd 15 0 .rw 10],  -- PAL_LOCK
  rg 0x05 [fd 23 16 .rw 3 [(1, 255)] 0, fd 15 0 .rw 1000 [(10, 65535)] 0],  -- PAL_XC_CFG
  rg 0x06 [fd 0 0 .ro 1],  -- PAL_XC_SRC
  rg 0x07 [fd 39 0 .ro],  -- PAL_ABS_REM
  rg 0x08 [fd 39 37 .ro, fd 10 10 .ro, fd 9 5 .ro, fd 4 0 .ro],  -- PAL_LAST_SW
  rgs 0x09 3 1 [fd 39 0 .ro],  -- PAL_LAST_ABS..PAL_LAST_SW_T_LO
  rg 0x0C [fd 31 0 .ro],  -- PAL_SWITCHES
  rg 0x0D [fd 7 7 .w1c, fd 6 6 .w1c, fd 5 5 .w1c, fd 4 4 .w1c, fd 3 3 .w1c, fd 2 2 .w1c, fd 1 1 .w1c, fd 0 0 .w1c],  -- PAL_EVENTS
  rg 0x0E [fd 7 0 .rw],  -- PAL_EVENTS_EN
  rg 0x0F [fd 7 5 .wo, fd 4 0 .wo],  -- PAL_CMD
  rg 0x10 [fd 5 5 .rw, fd 4 0 .rw 0 [(0, 23)] 0],  -- PAL_WIDE_CTL
  rg 0x11 [fd 39 0 .rw],  -- PAL_WIDE_OFS
  rgs 0x20 24 4 [fd 39 28 .rw 10, fd 27 12 .rw 300, fd 11 4 .rw 128, fd 3 3 .rw, fd 2 1 .rw 0 [(0, 2)] 0, fd 0 0 .rw],  -- PAL_Sn_CFG
  rgs 0x21 24 4 [fd 19 16 .rw 0 [(0, 5)] 0, fd 15 8 .rw, fd 3 0 .rw 15],  -- PAL_Sn_ADV
  rgs 0x22 24 4 [fd 39 20 .rw 1000 [(1, 1048575)] 0, fd 19 0 .rw 50000 [(1, 1048575)] 0],  -- PAL_Sn_LIMITS
  rgs 0x23 24 4 [fd 39 24 .rw 100, fd 23 0 .rw 50000 [(1, 16777215)] 0],  -- PAL_Sn_XCHK
  rgs 0x80 24 1 [fd 39 0 .rw 0xFFFFFFFFFF],  -- PAL_Sn_BOUND
  rgs 0x98 24 1 [fd 31 28 .ro 15, fd 27 12 .ro, fd 11 6 .ro, fd 5 5 .ro, fd 4 4 .ro, fd 3 3 .ro, fd 2 0 .ro],  -- PAL_Sn_STATUS
  rgs 0xB0 24 1 [fd 39 0 .ro],  -- PAL_Sn_PHASE
  rgs 0xC8 24 1 [fd 39 0 .ro],  -- PAL_Sn_FREQ
  rgs 0xE0 5 1 [fd 39 0 .wo],  -- PAL_Sn_SAMPLE, n = 9 to 13
  rgs 0xE9 6 1 [fd 39 0 .wo]  -- PAL_Sn_SAMPLE, n = 18 to 23
]

/-- REFINn registers (R197, 05_palette_references.md). -/
def regsREFINn : List RegD := [
  rg 0x00 [fd 21 21 .rw, fd 20 20 .rw, fd 19 0 .rw 1 [(1, 1048575)] 0],  -- REFINn_CFG
  rg 0x01 [fd 29 0 .rw 0 [(0, 800000000)] 0],  -- REFINn_NOM
  rg 0x02 [fd 3 3 .w1c, fd 2 2 .ro, fd 1 1 .ro 1, fd 0 0 .ro],  -- REFINn_STATUS
  rg 0x03 [fd 39 0 .ro]  -- REFINn_COUNT
]

/-- UND registers (R219, 06_underpainting_holdover.md). -/
def regsUND : List RegD := [
  rg 0x00 [fd 6 5 .rw 0 [(0, 2)] 0, fd 4 4 .rw 1, fd 3 3 .rw 1, fd 2 2 .rw 0 [] 1, fd 1 1 .rw, fd 0 0 .rw],  -- UND_CTL
  rg 0x01 [fd 35 16 .ro 0 [] 1, fd 8 8 .ro, fd 7 7 .ro, fd 6 6 .ro, fd 5 4 .ro 0 [] 1, fd 2 0 .ro],  -- UND_STATUS
  rg 0x02 [fd 35 20 .rw 20 [(1, 65535)] 0, fd 19 0 .rw 5000 [(500, 1048575)] 0],  -- UND_LOOP
  rg 0x03 [fd 19 0 .rw 100000 [(10, 1000000)] 0],  -- UND_ACQ_BW
  rgs 0x04 6 1 [fd 19 0 .rw 0 [(10, 1000000)] 0],  -- UND_BW
  rg 0x0A [fd 23 16 .rw 2, fd 15 0 .rw 600 [(10, 65535)] 0],  -- UND_HOLD_CFG
  rgs 0x0B 5 1 [fd 39 0 .ro],  -- UND_STEER..UND_XC_PHASE
  rgs 0x10 3 1 [fd 39 0 .rw 0 [] 1],  -- UND_M_Y0..UND_M_TC
  rg 0x13 [fd 19 0 .rw 0 [] 1],  -- UND_M_TREF
  rgs 0x14 2 1 [fd 39 0 .rw 0 [] 1],  -- UND_M_T0_HI..UND_M_T0_LO
  rg 0x16 [fd 39 0 .rw 10000000 [] 1],  -- UND_SPEC_Y
  rgs 0x17 2 1 [fd 39 0 .rw 1000000 [] 1],  -- UND_SPEC_DRIFT..UND_SPEC_TC
  rg 0x19 [fd 39 0 .rw 100000 [] 1],  -- UND_SPEC_WF
  rg 0x1A [fd 39 0 .rw 10000000 [] 1],  -- UND_SPEC_RW
  rgs 0x1B 5 1 [fd 39 0 .rw 0 [] 1],  -- UND_LRN_Y..UND_LRN_RW
  rg 0x20 [fd 19 0 .rw 5000],  -- UND_T_DEV
  rg 0x21 [fd 39 0 .rw 0x186A0],  -- UND_FREQ_UNC
  rg 0x22 [fd 20 20 .ro, fd 19 0 .ro],  -- UND_TEMP
  rg 0x23 [fd 19 0 .rw],  -- UND_TEMP_EXT
  rgs 0x24 2 1 [fd 39 0 .ro 0 [] 1],  -- UND_HOLD_T_HI..UND_HOLD_T_LO
  rg 0x26 [fd 39 0 .ro 0xFFFFFFFFFF],  -- UND_H
  rg 0x27 [fd 39 0 .ro 0 [] 1],  -- UND_B_ENTRY
  rg 0x28 [fd 19 0 .rw 336],  -- UND_PRED_Q
  rg 0x29 [fd 39 0 .ro 0xFFFFFFFFFF],  -- UND_PRED_H
  rg 0x2A [fd 19 0 .ro],  -- UND_PRED_TIME
  rg 0x2B [fd 6 6 .w1c, fd 5 5 .w1c, fd 4 4 .w1c, fd 3 3 .w1c, fd 2 2 .w1c, fd 1 1 .w1c, fd 0 0 .w1c],  -- UND_EVENTS
  rg 0x2C [fd 6 0 .rw],  -- UND_EVENTS_EN
  rg 0x2D [fd 2 0 .wo 0 [(0, 2)] 0]  -- UND_CMD
]

/-- GLZ registers (R243, 07_glaze_error_bound.md). -/
def regsGLZ : List RegD := [
  rg 0x00 [fd 2 2 .rw, fd 1 1 .rw, fd 0 0 .rw],  -- GLZ_CTL
  rg 0x01 [fd 5 5 .ro, fd 4 4 .ro 1, fd 2 0 .ro 4],  -- GLZ_STATUS
  rg 0x02 [fd 39 0 .ro 0xFFFFFFFFFF],  -- GLZ_B
  rg 0x03 [fd 39 0 .ro],  -- GLZ_LIN
  rgs 0x04 6 1 [fd 39 0 .ro 0xFFFFFFFFFF],  -- GLZ_T_REF..GLZ_B_MAX
  rg 0x0A [fd 31 0 .rw 0 [] 1],  -- GLZ_LIN_BASE
  rg 0x0B [fd 19 0 .ro 0 [] 1],  -- GLZ_LIN_SERIAL
  rg 0x0C [fd 31 0 .rw 0 [] 1],  -- GLZ_ATT_BASE
  rg 0x0D [fd 20 0 .rw 86400 [(1, 1048576)] 0],  -- GLZ_ATT_COUNT
  rg 0x0E [fd 39 0 .ro 0 [] 1],  -- GLZ_ATT_LAST
  rg 0x0F [fd 31 0 .ro 0 [] 1],  -- GLZ_ATT_SERIAL
  rg 0x10 [fd 33 33 .rw, fd 32 29 .rw 4 [(1, 6)] 0, fd 28 24 .rw 16 [(1, 16)] 0, fd 23 16 .rw 248, fd 15 8 .rw 140, fd 7 0 .rw 7],  -- GLZ_ADV_CFG
  rg 0x11 [fd 25 22 .ro 6, fd 21 20 .ro 3, fd 19 15 .ro 16, fd 7 0 .ro 248],  -- GLZ_ADV
  rg 0x12 [fd 7 0 .ro 254],  -- GLZ_ACCURACY
  rg 0x13 [fd 23 0 .rw],  -- GLZ_TLV_ORG
  rg 0x14 [fd 16 16 .rw, fd 15 0 .rw],  -- GLZ_NTP_EF
  rg 0x15 [fd 4 4 .w1c, fd 3 3 .w1c, fd 2 2 .w1c, fd 1 1 .w1c, fd 0 0 .w1c],  -- GLZ_EVENTS
  rg 0x16 [fd 4 0 .rw],  -- GLZ_EVENTS_EN
  rgs 0x18 8 1 [fd 39 0 .rw],  -- GLZ_EVTk_VAL
  rgs 0x20 8 1 [fd 19 0 .rw],  -- GLZ_EVTk_LIFE
  rgs 0x28 32 1 [fd 39 0 .rw 0xFFFFFFFFFF],  -- GLZ_EMITk
  rgs 0x48 24 1 [fd 39 0 .rw 0xFFFFFFFFFF],  -- GLZ_Sn_MEAS
  rgs 0x60 24 1 [fd 39 0 .rw 0xFFFFFFFFFF],  -- GLZ_Sn_ASYM
  rgs 0x78 24 1 [fd 39 32 .rw 255, fd 31 0 .rw],  -- GLZ_Sn_CAL
  rgs 0x90 24 2 [fd 39 32 .rw 0 [(0, 3)] 0, fd 31 0 .rw],  -- GLZ_Sn_UP_HI
  rgs 0x91 24 2 [fd 31 0 .rw]  -- GLZ_Sn_UP_LO
]

/-- VARn registers (R269, 08_varnish_synthesis_outputs.md). -/
def regsVARn : List RegD := [
  rg 0x00 [fd 4 3 .rw 0 [(0, 2)] 0, fd 1 1 .rw 1, fd 0 0 .rw],  -- VARn_CTL
  rg 0x01 [fd 7 0 .rw 24],  -- VARn_N_INT
  rg 0x02 [fd 31 0 .rw],  -- VARn_N_NUM
  rg 0x03 [fd 31 0 .rw 1],  -- VARn_N_DEN
  rg 0x04 [fd 31 0 .rw],  -- VARn_GLIDE
  rg 0x05 [fd 31 0 .ro],  -- VARn_GLIDE_NOW
  rg 0x06 [fd 31 16 .rw 4096 [(1, 65535)] 0, fd 15 0 .rw 20 [(1, 65535)] 0],  -- VARn_LOCK
  rg 0x07 [fd 31 16 .rw 16 [(1, 65535)] 0, fd 15 0 .rw 100],  -- VARn_UNLOCK
  rg 0x08 [fd 13 0 .rw 10 [(1, 10000)] 0],  -- VARn_PSTEP
  rg 0x09 [fd 39 0 .rw],  -- VARn_PHASE
  rg 0x0A [fd 39 0 .ro],  -- VARn_STEP_REM
  rg 0x0B [fd 21 16 .ro, fd 15 12 .ro, fd 11 11 .ro, fd 10 10 .ro, fd 9 9 .ro, fd 8 8 .ro 1, fd 2 0 .ro],  -- VARn_STATUS
  rg 0x0C [fd 19 0 .ro],  -- VARn_ERR
  rg 0x0D [fd 8 8 .w1c, fd 7 7 .w1c, fd 6 6 .w1c, fd 5 5 .w1c, fd 4 4 .w1c, fd 3 3 .w1c, fd 2 2 .w1c, fd 1 1 .w1c, fd 0 0 .w1c],  -- VARn_EVENTS
  rg 0x0E [fd 8 0 .rw],  -- VARn_EVENTS_EN
  rg 0x0F [fd 1 0 .wo],  -- VARn_CMD
  rgs 0x10 16 1 [fd 39 39 .ro 0 [] 1, fd 38 33 .ro 0 [] 1, fd 32 25 .ro 0 [] 1, fd 24 0 .ro 0 [] 1]  -- VARn_BM
]

/-- OUTk registers (R270, 08_varnish_synthesis_outputs.md). -/
def regsOUTk : List RegD := [
  rg 0x00 [fd 21 20 .rw 1 [(0, 1)] 0, fd 19 17 .rw, fd 16 15 .rw, fd 14 14 .rw, fd 13 12 .rw 0 [(0, 2)] 0, fd 10 0 .rw],  -- OUTk_CFG
  rg 0x01 [fd 23 0 .rw 40 [(4, 16777215)] 0],  -- OUTk_DIV
  rg 0x02 [fd 3 3 .ro, fd 2 2 .ro, fd 1 1 .ro, fd 0 0 .ro],  -- OUTk_STATUS
  rg 0x03 [fd 2 2 .w1c, fd 1 1 .w1c, fd 0 0 .w1c],  -- OUTk_EVENTS
  rg 0x04 [fd 2 0 .rw],  -- OUTk_EVENTS_EN
  rg 0x05 [fd 39 0 .ro]  -- OUTk_EDGES
]

/-- TDCn registers (R292, 09_tdc_measurement.md). -/
def regsTDCn : List RegD := [
  rg 0x00 [fd 27 20 .rw, fd 19 19 .rw, fd 18 18 .rw, fd 17 17 .rw, fd 16 15 .rw 0 [(0, 2)] 0, fd 14 13 .rw 0 [(0, 2)] 0, fd 12 11 .rw, fd 0 0 .rw],  -- TDCn_CFG
  rg 0x01 [fd 19 19 .rw, fd 18 8 .rw 900 [(0, 1650)] 0, fd 4 0 .rw 5 [(2, 20)] 0],  -- TDCn_IN
  rg 0x02 [fd 19 0 .rw 0 [(0, 1000000)] 0],  -- TDCn_HOLDOFF
  rg 0x03 [fd 32 29 .rw, fd 28 0 .rw 1000 [(1, 500000000)] 0],  -- TDCn_PAIR
  rg 0x04 [fd 8 0 .rw 100 [(1, 500)] 0],  -- TDCn_GATE
  rg 0x05 [fd 39 0 .ro],  -- TDCn_SKEW
  rg 0x06 [fd 39 0 .rw],  -- TDCn_OFS
  rg 0x07 [fd 23 16 .rw 10, fd 15 4 .rw 60, fd 3 2 .rw 1 [(0, 2)] 0, fd 0 0 .wo],  -- TDCn_CAL
  rg 0x08 [fd 15 10 .ro, fd 9 7 .ro, fd 6 6 .ro, fd 5 5 .ro, fd 4 4 .ro, fd 3 3 .ro, fd 2 2 .ro, fd 0 0 .ro],  -- TDCn_STATUS
  rgs 0x09 2 1 [fd 39 0 .ro],  -- TDCn_LAST_HI..TDCn_LAST_LO
  rg 0x0B [fd 6 6 .w1c, fd 5 5 .w1c, fd 4 4 .w1c, fd 3 3 .w1c, fd 2 2 .w1c, fd 1 1 .w1c, fd 0 0 .w1c],  -- TDCn_EVENTS
  rg 0x0C [fd 6 0 .rw],  -- TDCn_EVENTS_EN
  rgs 0x0D 6 1 [fd 31 0 .ro],  -- TDCn_CNT_RECORDS..TDCn_CNT_DROPPED
  rg 0x13 [fd 10 0 .rw],  -- TDCn_CDT_IDX
  rg 0x14 [fd 39 0 .ro],  -- TDCn_CDT_DATA
  rgs 0x20 64 1 [fd 11 0 .ro]  -- TDCn_INL
]

/-- GNS registers (R318, R319, 10_gnss_baseband.md). -/
def regsGNS : List RegD := [
  rg 0x00 [fd 8 8 .rw, fd 7 4 .rw, fd 3 3 .rw, fd 2 1 .rw 0 [(0, 1)] 0, fd 0 0 .rw],  -- GNS_CTL
  rg 0x01 [fd 19 12 .ro, fd 11 11 .ro, fd 10 7 .ro, fd 6 6 .ro],  -- GNS_STATUS
  rg 0x02 [fd 23 16 .rw, fd 15 8 .rw, fd 7 0 .rw],  -- GNS_FIFO
  rg 0x03 [fd 9 0 .rw 10 [(1, 1), (2, 2), (5, 5), (10, 10), (20, 20), (50, 50), (100, 100), (200, 200), (500, 500), (1000, 1000)] 0],  -- GNS_EPOCH
  rg 0x04 [fd 23 16 .rw 10 [(1, 64)] 0, fd 15 8 .rw 21 [(1, 1), (3, 3), (5, 5), (7, 7), (9, 9), (11, 11), (13, 13), (15, 15), (17, 17), (19, 19), (21, 21), (23, 23), (25, 25), (27, 27), (29, 29), (31, 31), (33, 33), (35, 35), (37, 37), (39, 39), (41, 41), (43, 43), (45, 45), (47, 47), (49, 49), (51, 51), (53, 53), (55, 55), (57, 57), (59, 59), (61, 61), (63, 63)] 0, fd 7 0 .rw 50 [(1, 255)] 0],  -- GNS_BANK_CFG
  rg 0x05 [fd 7 0 .rw],  -- GNS_BANK_LIST_IDX
  rg 0x06 [fd 39 39 .rw, fd 38 35 .rw, fd 34 26 .rw],  -- GNS_BANK_LIST
  rg 0x07 [fd 39 22 .rw, fd 21 12 .rw, fd 11 0 .rw],  -- GNS_BANK_AID
  rg 0x08 [fd 31 0 .ro],  -- GNS_BANK_SWEEPS
  rg 0x09 [fd 23 0 .ro],  -- GNS_BANK_LAST
  rg 0x0A [fd 7 0 .rw 48],  -- GNS_BANK_THR
  rg 0x10 [fd 6 0 .rw],  -- GNS_CH_IDX
  rg 0x11 [fd 11 3 .rw, fd 2 2 .rw, fd 1 1 .rw, fd 0 0 .rw],  -- GNS_CH_CTL
  rg 0x12 [fd 39 22 .rw, fd 21 12 .rw, fd 11 0 .rw],  -- GNS_CH_AID
  rg 0x13 [fd 23 17 .ro, fd 16 10 .ro, fd 5 5 .ro, fd 4 4 .ro, fd 3 3 .ro, fd 2 0 .ro],  -- GNS_CH_STATUS
  rg 0x18 [fd 13 0 .rw],  -- GNS_KEEP_ADDR
  rg 0x19 [fd 39 0 .rw 0 [] 2],  -- GNS_KEEP_DATA
  rg 0x1A [fd 4 4 .w1c, fd 3 3 .w1c, fd 2 2 .w1c, fd 1 1 .w1c, fd 0 0 .w1c],  -- GNS_EVENTS
  rg 0x1B [fd 4 0 .rw],  -- GNS_EVENTS_EN
  rg 0x1C [fd 31 0 .ro],  -- GNS_CNT_DROPPED
  rgs 0x40 3 1 [fd 39 0 .rw 0 [] 1],  -- GNS_POS_X..GNS_POS_Z
  rg 0x43 [fd 32 32 .rw 0 [] 1, fd 31 0 .rw 0 [] 1],  -- GNS_POS_CFG
  rg 0x44 [fd 19 0 .rw 86400 [(3600, 1048575)] 0],  -- GNS_SURVEY
  rg 0x45 [fd 15 8 .rw 10, fd 7 0 .rw 30],  -- GNS_MASKS
  rg 0x46 [fd 5 3 .rw 7, fd 2 0 .rw 7],  -- GNS_SYS
  rg 0x47 [fd 39 20 .rw 360, fd 19 0 .rw],  -- GNS_SENT
  rg 0x48 [fd 23 16 .rw 100, fd 15 8 .rw 50, fd 7 0 .rw 4 [(3, 255)] 0],  -- GNS_SPOOF
  rg 0x49 [fd 19 0 .rw 600],  -- GNS_SPOOF_HOLD
  rg 0x4A [fd 13 0 .rw 0 [(0, 0), (500, 10000)] 0],  -- GNS_BASELINE
  rg 0x4B [fd 19 19 .rw, fd 18 18 .rw, fd 17 17 .rw, fd 16 16 .rw, fd 15 15 .rw, fd 14 8 .rw, fd 1 0 .rw]  -- GNS_NAV_STATUS
]

/-- GSTm registers (R320, 10_gnss_baseband.md). -/
def regsGSTm : List RegD := [
  rg 0x00 [fd 3 3 .rw, fd 2 2 .rw, fd 1 0 .rw 0 [(0, 2)] 0],  -- GSTm_CFG
  rg 0x01 [fd 23 0 .rw],  -- GSTm_IF
  rg 0x02 [fd 39 0 .rw],  -- GSTm_DELAY
  rg 0x03 [fd 23 16 .ro, fd 15 8 .ro, fd 0 0 .ro],  -- GSTm_STATUS
  rg 0x04 [fd 31 0 .ro]  -- GSTm_CNT_GLITCH
]

/-- LPp registers (R355, 11_brush_packet_service.md). -/
def regsLPp : List RegD := [
  rg 0x00 [fd 11 10 .rw, fd 9 8 .rw, fd 7 4 .rw, fd 3 2 .rw, fd 0 0 .rw],  -- LPp_CFG
  rg 0x01 [fd 18 12 .ro, fd 11 8 .ro, fd 7 4 .ro, fd 2 2 .ro],  -- LPp_STATUS
  rgs 0x02 2 1 [fd 39 0 .rw],  -- LPp_TX_OFS..LPp_RX_OFS
  rgs 0x04 4 1 [fd 19 0 .ro],  -- LPp_SKEW
  rg 0x08 [fd 9 0 .rw 100 [(1, 1000)] 0],  -- LPp_RX_AGE
  rg 0x09 [fd 39 39 .ro, fd 15 0 .ro],  -- LPp_TSQ_ID
  rg 0x0A [fd 39 0 .ro],  -- LPp_TSQ_STAMP
  rg 0x0B [fd 6 6 .w1c, fd 5 5 .w1c, fd 4 4 .w1c, fd 3 3 .w1c, fd 2 2 .w1c, fd 1 1 .w1c, fd 0 0 .w1c],  -- LPp_EVENTS
  rg 0x0C [fd 6 0 .rw],  -- LPp_EVENTS_EN
  rgs 0x0D 10 1 [fd 31 0 .ro]  -- LPp_CNT_RX..LPp_CNT_STALE
]

/-- BRGg registers (R356, 11_brush_packet_service.md). -/
def regsBRGg : List RegD := [
  rg 0x80 [fd 0 0 .rw],  -- BRGg_CTL
  rg 0x81 [fd 39 32 .rw, fd 31 24 .rw, fd 23 16 .rw, fd 15 8 .rw, fd 7 0 .rw],  -- BRGg_RX_FIFO0
  rg 0x82 [fd 7 0 .rw],  -- BRGg_RX_FIFO1
  rg 0x83 [fd 39 32 .rw, fd 31 24 .rw, fd 23 16 .rw, fd 15 8 .rw, fd 7 0 .rw],  -- BRGg_AUX_FIFO
  rg 0x84 [fd 13 0 .rw 2000 [(64, 16383)] 0],  -- BRGg_RX_CFG
  rg 0x85 [fd 7 0 .ro 0 [] 1],  -- BRGg_GEN
  rgs 0x86 2 1 [fd 39 0 .ro],  -- BRGg_TIME_HI..BRGg_TIME_LO
  rg 0x88 [fd 39 0 .ro 0xFFFFFFFFFF],  -- BRGg_BMAX
  rg 0x89 [fd 7 0 .ro],  -- BRGg_BSEQ
  rgs 0x8A 3 1 [fd 31 0 .ro]  -- BRGg_SC_HITS..BRGg_SC_TAKEOVERS
]

/-- STZ registers (R357, 11_brush_packet_service.md). -/
def regsSTZ : List RegD := [
  rg 0x00 [fd 2 1 .rw 0 [(0, 1)] 0, fd 0 0 .rw],  -- STZ_CTL
  rg 0x01 [fd 31 0 .rw 0 [] 1],  -- STZ_BASE
  rg 0x02 [fd 19 0 .rw 256],  -- STZ_RATE
  rg 0x03 [fd 13 0 .rw 4096 [(256, 16383)] 0],  -- STZ_BURST
  rg 0x04 [fd 7 0 .rw 16],  -- STZ_KOD
  rg 0x05 [fd 7 0 .rw],  -- STZ_CMD_FIFO
  rg 0x06 [fd 1 1 .ro, fd 0 0 .ro],  -- STZ_STATUS
  rg 0x07 [fd 1 0 .wo 0 [(0, 2)] 0],  -- STZ_CMD
  rgs 0x08 5 1 [fd 31 0 .ro]  -- STZ_CNT_LOOKUPS..STZ_CNT_KOD
]

/-- AESi registers (R358, 11_brush_packet_service.md). -/
def regsAESi : List RegD := [
  rg 0x00 [fd 1 1 .ro, fd 0 0 .ro],  -- AESi_STATUS
  rgs 0x01 2 1 [fd 39 0 .ro]  -- AESi_CNT_AES..AESi_CNT_SHA
]

/-- KV registers (R384, 12_keys_crypto_tamper.md). -/
def regsKV : List RegD := [
  rg 0x00 [fd 1 1 .rw 1, fd 0 0 .rw],  -- KV_CTL
  rg 0x01 [fd 20 8 .ro, fd 5 5 .ro, fd 4 4 .ro, fd 3 3 .ro, fd 2 2 .ro, fd 1 1 .ro 1, fd 0 0 .ro],  -- KV_STATUS
  rg 0x02 [fd 31 0 .ro 0 [] 1],  -- KV_NTS_EPOCH
  rg 0x03 [fd 21 0 .ro 86400 [] 1],  -- KV_NTS_PERIOD
  rgs 0x04 2 1 [fd 39 0 .ro],  -- KV_NTS_NEXT_HI..KV_NTS_NEXT_LO
  rg 0x06 [fd 39 0 .ro 0 [] 2],  -- KV_UPD_CTR
  rg 0x07 [fd 10 0 .ro 0 [] 2],  -- KV_ANCHOR
  rg 0x08 [fd 5 2 .ro 0 [] 2, fd 1 0 .ro 0 [] 2],  -- KV_VK
  rg 0x09 [fd 39 36 .ro, fd 3 0 .ro],  -- KV_LAST_UPD
  rg 0x0A [fd 11 0 .rw],  -- KV_H_IDX
  rg 0x0B [fd 39 8 .ro, fd 7 7 .ro, fd 6 6 .ro, fd 5 3 .ro, fd 2 0 .ro],  -- KV_H_INFO
  rg 0x0C [fd 5 2 .wo, fd 1 0 .wo 0 [(0, 2)] 0],  -- KV_CMD
  rg 0x0D [fd 5 5 .w1c, fd 4 4 .w1c, fd 3 3 .w1c, fd 2 2 .w1c, fd 1 1 .w1c, fd 0 0 .w1c],  -- KV_EVENTS
  rg 0x0E [fd 5 0 .rw],  -- KV_EVENTS_EN
  rgs 0x0F 4 1 [fd 31 0 .ro]  -- KV_CNT_KOP..KV_CNT_AUTH_FAIL
]

/-- PKE registers (R385, 12_keys_crypto_tamper.md). -/
def regsPKE : List RegD := [
  rg 0x00 [fd 4 1 .ro, fd 0 0 .ro],  -- PKE_STATUS
  rgs 0x01 4 1 [fd 31 0 .ro]  -- PKE_CNT_SIGN..PKE_CNT_FAIL
]

/-- TMP registers (R386, 12_keys_crypto_tamper.md). -/
def regsTMP : List RegD := [
  rg 0x00 [fd 12 12 .rw 0 [] 1, fd 11 11 .rw 0 [] 1, fd 10 10 .rw 0 [] 1, fd 9 8 .rw 0 [] 1, fd 7 4 .rw 0 [] 1, fd 3 0 .rw 0 [] 1],  -- TMP_CFG
  rg 0x01 [fd 1 1 .ro 0 [] 2, fd 0 0 .ro 0 [] 2],  -- TMP_STATUS
  rg 0x02 [fd 11 11 .ro 0 [] 2, fd 10 10 .ro 0 [] 2, fd 9 8 .ro 0 [] 2, fd 7 6 .ro 0 [] 2, fd 5 4 .ro 0 [] 2, fd 3 0 .ro 0 [] 2],  -- TMP_CAUSE
  rgs 0x03 3 1 [fd 39 0 .ro 0 [] 2],  -- TMP_TIME_HI..TMP_SLOW
  rg 0x06 [fd 31 0 .ro 0 [] 2],  -- TMP_COUNT
  rg 0x07 [fd 0 0 .w1c 0 [] 2],  -- TMP_EVENTS
  rg 0x08 [fd 0 0 .rw 0 [] 2]  -- TMP_EVENTS_EN
]

/-- SPp registers (R408, R409, 13_span_links.md). -/
def regsSPp : List RegD := [
  rg 0x00 [fd 2 2 .rw 1, fd 1 1 .rw, fd 0 0 .rw],  -- SPp_CFG
  rg 0x01 [fd 3 3 .ro, fd 2 2 .ro, fd 1 1 .ro, fd 0 0 .ro],  -- SPp_STATUS
  rgs 0x02 2 1 [fd 39 0 .rw],  -- SPp_TX_OFS..SPp_RX_OFS
  rg 0x04 [fd 31 24 .rw, fd 23 16 .rw, fd 15 8 .rw, fd 7 0 .rw],  -- SPp_FIFO
  rg 0x05 [fd 39 0 .ro 0xFFFFFFFFFF],  -- SPp_BMAX
  rg 0x06 [fd 7 0 .ro],  -- SPp_BSEQ
  rg 0x07 [fd 5 5 .w1c, fd 4 4 .w1c, fd 3 3 .w1c, fd 2 2 .w1c, fd 1 1 .w1c, fd 0 0 .w1c],  -- SPp_EVENTS
  rg 0x08 [fd 5 0 .rw],  -- SPp_EVENTS_EN
  rgs 0x09 7 1 [fd 31 0 .ro],  -- SPp_CNT_RX..SPp_CNT_STALE
  rgs 0x40 2 1 [fd 20 0 .rw],  -- SPp_LAMBDA_TX..SPp_LAMBDA_RX
  rg 0x42 [fd 39 22 .rw 88000, fd 21 1 .rw 0x13FD30, fd 0 0 .rw],  -- SPp_FIBRE
  rg 0x43 [fd 39 32 .rw 50, fd 20 0 .rw 0x166728],  -- SPp_NG
  rg 0x44 [fd 39 20 .rw 0xFFFFF, fd 19 0 .rw],  -- SPp_FIX
  rg 0x45 [fd 19 0 .rw 10000],  -- SPp_SAG
  rg 0x46 [fd 19 4 .rw 600 [(60, 65535)] 0, fd 2 1 .rw, fd 0 0 .rw],  -- SPp_XC
  rg 0x47 [fd 39 0 .rw 0x3B9ACA00],  -- SPp_XC_K
  rg 0x48 [fd 39 0 .rw],  -- SPp_XC_KU
  rg 0x49 [fd 8 8 .rw 1, fd 7 0 .rw 16 [(1, 2), (4, 4), (8, 8), (16, 16), (32, 32), (64, 64)]],  -- SPp_RATE
  rgs 0x4A 2 1 [fd 31 0 .rw],  -- SPp_PEER_HI..SPp_PEER_LO
  rg 0x4C [fd 7 6 .rw, fd 5 5 .rw, fd 4 4 .rw, fd 3 3 .rw, fd 2 2 .rw, fd 1 1 .rw, fd 0 0 .rw],  -- SPp_LINK_ST
  rgs 0x4D 4 1 [fd 39 0 .rw],  -- SPp_RTT..SPp_DISP
  rg 0x51 [fd 27 0 .rw],  -- SPp_CAL_SERIAL
  rgs 0x52 3 1 [fd 31 0 .rw]  -- SPp_CNT_SAMPLES..SPp_CNT_UNPAIRED
]

/-- ATL registers (R430, 14_atelier_fabric_studio_bus.md). -/
def regsATL : List RegD := [
  rg 0x00 [fd 15 0 .rw],  -- ATL_RT_IDX
  rg 0x01 [fd 39 39 .rw, fd 38 36 .rw 0 [(0, 5)] 0, fd 12 8 .rw],  -- ATL_RT_DATA
  rg 0x02 [fd 12 0 .ro],  -- ATL_RT_COUNT
  rg 0x03 [fd 3 3 .w1c, fd 2 2 .w1c, fd 1 1 .w1c, fd 0 0 .w1c],  -- ATL_EVENTS
  rg 0x04 [fd 3 0 .rw],  -- ATL_EVENTS_EN
  rg 0x40 [fd 2 2 .rw 1, fd 1 1 .rw 1, fd 0 0 .rw],  -- ATL_CTL
  rg 0x41 [fd 39 0 .rw 0xFFFFFFFFFF],  -- ATL_CAND
  rgs 0x42 4 1 [fd 39 0 .rw 1000],  -- ATL_COST
  rg 0x46 [fd 23 16 .rw 1, fd 15 8 .rw 240, fd 7 0 .rw 16],  -- ATL_PRIO
  rg 0x47 [fd 23 16 .rw 10, fd 15 8 .rw 30 [(20, 255)] 0, fd 7 0 .rw 50],  -- ATL_TIMING
  rg 0x48 [fd 28 16 .rw, fd 15 8 .rw, fd 7 5 .rw 7, fd 4 4 .rw, fd 3 3 .rw, fd 2 0 .rw],  -- ATL_STATE
  rg 0x49 [fd 31 16 .rw 0 [] 1, fd 15 0 .rw],  -- ATL_ADDR
  rgs 0x4A 2 1 [fd 31 0 .rw],  -- ATL_ROOT_HI..ATL_ROOT_LO
  rgs 0x4C 2 1 [fd 39 0 .rw 0xFFFFFFFFFF],  -- ATL_ROOT_CAND..ATL_PATH
  rg 0x4E [fd 15 0 .rw],  -- ATL_CHASSIS
  rg 0x4F [fd 23 16 .rw, fd 15 8 .rw, fd 7 0 .rw],  -- ATL_FIFO
  rgs 0x50 5 1 [fd 31 0 .rw]  -- ATL_CNT_BAD..ATL_CNT_REROOT
]

/-- STB registers (R431, 14_atelier_fabric_studio_bus.md). -/
def regsSTB : List RegD := [
  rg 0x00 [fd 6 2 .rw, fd 1 1 .rw 1, fd 0 0 .rw],  -- STB_CFG
  rg 0x01 [fd 2 2 .ro, fd 1 1 .ro, fd 0 0 .ro],  -- STB_STATUS
  rg 0x02 [fd 39 32 .rw, fd 31 24 .rw, fd 23 16 .rw, fd 15 8 .rw],  -- STB_FIFO
  rg 0x03 [fd 23 16 .rw, fd 15 8 .rw, fd 7 0 .rw],  -- STB_RX_FIFO
  rg 0x04 [fd 3 3 .w1c, fd 2 2 .w1c, fd 1 1 .w1c, fd 0 0 .w1c],  -- STB_EVENTS
  rg 0x05 [fd 3 0 .rw],  -- STB_EVENTS_EN
  rg 0x06 [fd 23 0 .w1c],  -- STB_HALF
  rg 0x07 [fd 23 0 .rw],  -- STB_HALF_EN
  rgs 0x10 24 1 [fd 39 0 .ro]  -- counters
]

/-- TW registers (R456, 15_twin_redundancy.md). -/
def regsTW : List RegD := [
  rg 0x00 [fd 31 16 .rw 300, fd 6 6 .rw 1, fd 5 5 .rw, fd 4 4 .rw 1, fd 3 3 .rw 1, fd 2 2 .rw, fd 0 0 .rw],  -- TW_CFG
  rg 0x01 [fd 15 15 .ro, fd 14 14 .ro, fd 13 13 .ro, fd 12 12 .ro, fd 11 11 .ro, fd 10 9 .ro, fd 8 8 .ro, fd 7 7 .ro, fd 6 4 .ro, fd 1 0 .ro],  -- TW_STATUS
  rg 0x02 [fd 39 0 .ro 0 [] 2],  -- TW_GEN
  rgs 0x03 2 1 [fd 31 0 .ro 0 [] 2],  -- TW_GEN_UID_HI..TW_GEN_UID_LO
  rgs 0x05 2 1 [fd 31 0 .ro],  -- TW_PEER_HI..TW_PEER_LO
  rg 0x07 [fd 39 0 .ro],  -- TW_ALIGN
  rg 0x08 [fd 15 0 .ro],  -- TW_RTT
  rgs 0x09 2 1 [fd 39 0 .ro],  -- TW_T_STOP_HI..TW_T_STOP_LO
  rg 0x0B [fd 39 32 .ro, fd 19 0 .ro],  -- TW_GAP
  rg 0x0C [fd 39 20 .rw 1000 [(1, 1048575)] 0, fd 19 0 .rw 50 [(50, 1048575)] 0],  -- TW_TAKE
  rg 0x0D [fd 39 0 .rw 0xFFFFFFFFFF],  -- TW_PATH_UNC
  rg 0x0E [fd 11 11 .w1c, fd 10 10 .w1c, fd 9 9 .w1c, fd 8 8 .w1c, fd 7 7 .w1c, fd 6 6 .w1c, fd 5 5 .w1c, fd 4 4 .w1c, fd 3 3 .w1c, fd 2 2 .w1c, fd 1 1 .w1c, fd 0 0 .w1c],  -- TW_EVENTS
  rg 0x0F [fd 11 0 .rw],  -- TW_EVENTS_EN
  rg 0x10 [fd 1 0 .wo],  -- TW_CMD
  rgs 0x11 6 1 [fd 31 0 .ro]  -- TW_CNT_TX..TW_CNT_TAKEOVER
]

/-- RST registers (R475, 16_reset_power_clocks.md). -/
def regsRST : List RegD := [
  rg 0x00 [fd 31 24 .ro 0 [] 2, fd 23 20 .ro 0 [] 2, fd 19 19 .ro 0 [] 2, fd 18 18 .ro 0 [] 2, fd 17 17 .ro 0 [] 2, fd 16 16 .ro 0 [] 2, fd 15 15 .ro 0 [] 2, fd 3 0 .ro 1 [] 2],  -- RST_CAUSE
  rg 0x01 [fd 31 0 .ro 0 [] 2],  -- RST_COUNT
  rg 0x02 [fd 12 12 .wo, fd 11 0 .wo],  -- RST_LOCAL
  rg 0x03 [fd 15 14 .ro, fd 13 13 .ro, fd 11 0 .ro],  -- RST_LOCAL_ST
  rg 0x04 [fd 1 1 .ro, fd 0 0 .ro 1]  -- RST_PIN
]

/-- PWR registers (R476, 16_reset_power_clocks.md). -/
def regsPWR : List RegD := [
  rg 0x00 [fd 11 0 .rw 0 [] 1],  -- PWR_REQ
  rg 0x01 [fd 23 12 .ro 0 [] 1, fd 11 0 .ro 0 [] 1],  -- PWR_STATE
  rg 0x02 [fd 15 0 .rw 200 [(50, 65535)] 1],  -- PWR_IDLE
  rg 0x03 [fd 2 2 .w1c 0 [] 1, fd 1 1 .w1c 0 [] 1, fd 0 0 .w1c 0 [] 1],  -- PWR_EVENTS
  rg 0x04 [fd 2 0 .rw 0 [] 1]  -- PWR_EVENTS_EN
]

/-- PRM registers (R477, 16_reset_power_clocks.md). -/
def regsPRM : List RegD := [
  rg 0x00 [fd 5 5 .ro, fd 4 4 .ro, fd 3 3 .ro, fd 2 2 .ro, fd 1 1 .ro, fd 0 0 .ro],  -- PRM_STATUS
  rgs 0x01 2 1 [fd 31 0 .ro],  -- PRM_OPT_CRC..PRM_OPT_VER
  rg 0x03 [fd 19 0 .ro]  -- PRM_TIME
]

/-- CKG registers (R478, 16_reset_power_clocks.md). -/
def regsCKG : List RegD := [
  rg 0x00 [fd 2 0 .ro 0 [] 1],  -- CKG_OSC
  rg 0x01 [fd 6 6 .ro 0 [] 1, fd 5 5 .ro 0 [] 1, fd 4 4 .ro 0 [] 1, fd 3 3 .ro 0 [] 1, fd 2 2 .ro 0 [] 1, fd 1 1 .ro 0 [] 1, fd 0 0 .ro 0 [] 1],  -- CKG_STATUS
  rg 0x02 [fd 39 0 .ro 0 [] 1],  -- CKG_OSC_OFS
  rg 0x03 [fd 3 3 .w1c 0 [] 1, fd 2 2 .w1c 0 [] 1, fd 1 1 .w1c 0 [] 1, fd 0 0 .w1c 0 [] 1],  -- CKG_EVENTS
  rg 0x04 [fd 3 0 .rw 0 [] 1],  -- CKG_EVENTS_EN
  rg 0x05 [fd 11 0 .ro 0 [] 1]  -- CKG_CLK_BAD_UNIT
]

/-- MEM registers (R503, 17_memory_matrix_fifos.md). -/
def regsMEM : List RegD := [
  rg 0x00 [fd 2 2 .ro 0 [] 1, fd 1 1 .ro 0 [] 1, fd 0 0 .ro 0 [] 1],  -- MEM_STATUS
  rg 0x01 [fd 16 16 .rw 1 [] 1, fd 15 0 .rw 120 [(60, 65535)] 1],  -- MEM_SCRUB
  rg 0x02 [fd 21 0 .ro 0 [] 1],  -- MEM_SCRUB_POS
  rgs 0x03 4 1 [fd 31 0 .ro 0 [] 1],  -- MEM_CNT_INNER..MEM_ERR_ADDR
  rg 0x07 [fd 7 7 .ro 0 [] 1, fd 6 2 .ro 0 [] 1],  -- MEM_ERR_INFO
  rgs 0x08 4 2 [fd 39 39 .rw 0 [] 1, fd 31 0 .rw 0 [] 1],  -- MEM_PROTk_BASE
  rgs 0x09 4 2 [fd 31 0 .rw 0 [] 1],  -- MEM_PROTk_LIMIT
  rg 0x10 [fd 2 2 .w1c 0 [] 1, fd 1 1 .w1c 0 [] 1, fd 0 0 .w1c 0 [] 1],  -- MEM_EVENTS
  rg 0x11 [fd 2 0 .rw 0 [] 1]  -- MEM_EVENTS_EN
]

/-- MTX registers (R504, 17_memory_matrix_fifos.md). -/
def regsMTX : List RegD := [
  rg 0x00 [fd 31 0 .ro],  -- MTX_ERR_ADDR
  rg 0x01 [fd 13 12 .ro 3, fd 11 11 .ro, fd 10 10 .ro, fd 9 7 .ro, fd 4 0 .ro],  -- MTX_ERR_INFO
  rgs 0x02 4 1 [fd 31 0 .ro],  -- MTX_CNT_DECODE..MTX_CNT_SPLIT
  rg 0x06 [fd 0 0 .w1c],  -- MTX_EVENTS
  rg 0x07 [fd 0 0 .rw]  -- MTX_EVENTS_EN
]

/-- FIFO registers (R505, 17_memory_matrix_fifos.md). -/
def regsFIFO : List RegD := [
  rg 0x00 [fd 7 0 .rw],  -- FIFO_IDX
  rg 0x01 [fd 21 6 .rw 0 [] 1, fd 5 2 .rw 4 [(4, 14)] 1, fd 1 1 .rw 0 [] 1, fd 0 0 .rw 0 [] 1],  -- FIFO_CFG
  rg 0x02 [fd 36 32 .ro, fd 31 31 .ro, fd 30 30 .ro, fd 29 15 .ro, fd 14 0 .ro],  -- FIFO_STATUS
  rgs 0x03 3 1 [fd 31 0 .ro],  -- FIFO_CNT_WASH..FIFO_CNT_HOST_DROP
  rg 0x06 [fd 2 2 .w1c, fd 1 1 .w1c, fd 0 0 .w1c],  -- FIFO_EVENTS
  rg 0x07 [fd 2 0 .rw]  -- FIFO_EVENTS_EN
]

/-- FIX registers (R527, 18_faults_lifecycle_test.md). -/
def regsFIX : List RegD := [
  rgs 0x00 7 1 [fd 39 0 .w1c],  -- FIX_STATUS
  rgs 0x08 7 1 [fd 39 0 .rw],  -- FIX_MASK
  rg 0x10 [fd 7 0 .rw],  -- FIX_IDX
  rg 0x11 [fd 21 10 .ro, fd 1 0 .ro],  -- FIX_SRC
  rgs 0x12 2 1 [fd 7 0 .wo],  -- FIX_FORCE..FIX_RAISE
  rg 0x14 [fd 31 0 .rw],  -- FIX_SW_CLASS
  rg 0x15 [fd 8 8 .ro 0 [] 1, fd 7 0 .ro 0 [] 1],  -- FIX_FIRST_SRC
  rgs 0x16 2 1 [fd 39 0 .ro 0 [] 1],  -- FIX_FIRST_T_HI..FIX_FIRST_T_LO
  rg 0x18 [fd 5 0 .rw],  -- FIX_VECTOR
  rg 0x19 [fd 0 0 .w1c]  -- FIX_EVENTS
]

/-- UNIT registers (R528, R541, 18_faults_lifecycle_test.md). -/
def regsUNIT : List RegD := [
  rg 0xF0 [fd 11 0 .ro],  -- UNIT_ID
  rg 0xF1 [fd 3 3 .ro, fd 2 2 .ro 1, fd 1 1 .ro, fd 0 0 .ro 0 [] 1],  -- UNIT_STATUS
  rg 0xF2 [fd 15 8 .rw, fd 5 0 .rw],  -- UNIT_EVC_SEL
  rg 0xF3 [fd 7 0 .rc],  -- UNIT_EVC
  rg 0xFC [fd 15 8 .ro, fd 0 0 .w1c],  -- UNIT_FAULT
  rg 0xFD [fd 0 0 .wo],  -- UNIT_FAULT_FORCE
  rgs 0xF4 4 1 [fd 39 0 .rw],  -- UNIT_TALLY
  rg 0xF8 [fd 31 24 .rw, fd 23 16 .rw, fd 15 8 .rw, fd 7 0 .rw]  -- UNIT_TALLY_SEL
]

/-- LCY registers (R529, 18_faults_lifecycle_test.md). -/
def regsLCY : List RegD := [
  rg 0x00 [fd 5 5 .ro 0 [] 1, fd 4 4 .ro, fd 2 0 .ro],  -- LCY_STATE
  rgs 0x01 2 1 [fd 31 0 .ro],  -- LCY_NONCE_HI..LCY_NONCE_LO
  rg 0x03 [fd 0 0 .rw],  -- LCY_JTAG
  rg 0x04 [fd 2 2 .w1c, fd 1 1 .w1c, fd 0 0 .w1c]  -- LCY_EVENTS
]

/-- TST registers (R530, 18_faults_lifecycle_test.md). -/
def regsTST : List RegD := [
  rg 0x00 [fd 4 4 .ro, fd 3 3 .rw, fd 2 2 .rw, fd 1 1 .rw, fd 0 0 .rw],  -- TST_CTL
  rg 0x01 [fd 39 0 .rw 1 [(1, 1099511627775)] 0],  -- TST_SEED
  rg 0x02 [fd 39 38 .rw, fd 23 12 .rw, fd 11 0 .rw],  -- TST_STAMP
  rg 0x03 [fd 39 39 .rw, fd 27 16 .rw, fd 15 0 .rw 0 [(0, 10000)] 0],  -- TST_RESP
  rg 0x04 [fd 39 32 .rw, fd 31 16 .rw, fd 15 0 .rw],  -- TST_BP
  rg 0x05 [fd 27 16 .rw, fd 15 0 .rw 0 [(1, 65535)] 0],  -- TST_ERR
  rg 0x06 [fd 31 0 .ro]  -- TST_CNT
]

/-- TLY registers (R542, 19_tally_counters.md). -/
def regsTLY : List RegD := [
  rg 0x00 [fd 2 2 .wo, fd 1 1 .rw, fd 0 0 .rw],  -- TLY_CTL
  rg 0x01 [fd 31 0 .rw 1000000 [(31, 4294967295)] 0],  -- TLY_PERIOD
  rg 0x02 [fd 33 33 .ro, fd 32 32 .ro, fd 31 0 .ro],  -- TLY_STATUS
  rg 0x03 [fd 11 11 .rw, fd 10 0 .rw 0 [(0, 1547)] 0],  -- TLY_BUF_IDX
  rg 0x04 [fd 39 0 .ro],  -- TLY_BUF_DATA
  rg 0x05 [fd 8 3 .rw, fd 2 0 .rw],  -- TLY_SLOT_IDX
  rg 0x06 [fd 39 0 .ro],  -- TLY_SLOT_DATA
  rg 0x07 [fd 1 1 .w1c, fd 0 0 .w1c],  -- TLY_EVENTS
  rg 0x08 [fd 1 0 .rw]  -- TLY_EVENTS_EN
]

/-- The registers present in SP0 only (R409). -/
def regsSP0 : List RegD := [rg 0x58 [fd 39 0 .rw], rg 0x59 [fd 39 0 .rw], rg 0x5A [fd 39 0 .rw], rg 0x5B [fd 32 32 .rw, fd 31 0 .rw]]
/-- The registers of one Brush engine's core block, sixteen offsets apart (R356); its IRQSEL registers keep only their en
bits. -/
def regsEngines : List RegD :=
  [0, 1, 2, 3, 4, 5, 6, 7].flatMap (fun e => regsECk.map (fun r =>
    { r with off := r.off + 0x10 * e,
             fields := if r.off = 0x0A then r.fields.filter (fun f => decide (f.hi = f.lo)) else r.fields }))

/-- TDCn_IN of TDC1 holds atom_10m alone (R292). -/
def regsTDC1 : List RegD :=
  rg 0x01 [fd 0 0 .rw 1] :: (regsTDCn.filter (fun r => decide (r.off ≠ 0x01 ∧ r.off ≠ 0x20)))

/-- The registers of a unit without its common block; no list for a unit the spec gives no registers. -/
def unitOwnRegs (u : Nat) : List RegD :=
  if u = 0x000 then regsRST
  else if u = 0x001 then regsPWR
  else if u = 0x002 then regsPRM
  else if u = 0x003 then regsTMP
  else if u = 0x004 then regsTB
  else if u = 0x005 then regsCKG
  else if u = 0x006 then regsLCY
  else if u = 0x010 then regsPAL
  else if u = 0x011 then regsUND
  else if u = 0x012 then regsGLZ
  else if 0x018 ≤ u ∧ u ≤ 0x01F then regsREFINn
  else if 0x020 ≤ u ∧ u ≤ 0x023 then regsVARn
  else if 0x028 ≤ u ∧ u ≤ 0x03B then regsOUTk
  else if u = 0x040 then regsTDCn.filter (fun r => decide (r.off ≠ 0x20))
  else if u = 0x041 then regsTDC1
  else if 0x042 ≤ u ∧ u ≤ 0x04F then
    regsTDCn.filter (fun r => decide (r.off ≠ 0x07 ∧ r.off ≠ 0x13 ∧ r.off ≠ 0x14))
  else if u = 0x050 then regsGNS
  else if 0x051 ≤ u ∧ u ≤ 0x054 then regsGSTm
  else if 0x064 ≤ u ∧ u ≤ 0x073 then regsECk
  else if u = 0x078 then regsSKB
  else if u = 0x079 then regsMBX
  else if 0x080 ≤ u ∧ u ≤ 0x083 then regsLPp
  else if 0x088 ≤ u ∧ u ≤ 0x08B then regsEngines ++ regsBRGg
  else if u = 0x090 then regsSTZ
  else if 0x098 ≤ u ∧ u ≤ 0x09F then regsAESi
  else if u = 0x0C0 then regsKV
  else if u = 0x0C1 then regsPKE
  else if u = 0x0D0 then regsSPp ++ regsSP0
  else if 0x0D1 ≤ u ∧ u ≤ 0x0D3 then regsSPp
  else if u = 0x0D8 then regsATL
  else if u = 0x0D9 then regsSTB
  else if u = 0x0DA then regsTW
  else if u = 0x0E0 then regsMEM
  else if u = 0x0E1 then regsMTX
  else if u = 0x0E2 then regsFIFO
  else if u = 0x0F0 then regsFIX
  else if u = 0x0F1 then regsTST
  else if u = 0x0F2 then regsTLY
  else []

/-- The power domains, numbered as the bits of R468. -/
def domBK : Nat := 0
def domAO : Nat := 1
def domCLK : Nat := 2
def domTDC : Nat := 3
def domGNSS : Nat := 4
def domCTL : Nat := 5
def domPKA : Nat := 6
def domPKB : Nat := 7
def domKEY : Nat := 8
def domSDL : Nat := 9
def domSPN : Nat := 10
def domMEM : Nat := 11

/-- The power domain of a unit, none for a unit ID with no unit (R18). TMP is in BK (R18). -/
def unitDomain (u : Nat) : Option Nat :=
  if u = 0x003 then some domBK
  else if u ≤ 0x006 ∨ u = 0x0F0 ∨ u = 0x0FF then some domAO
  else if (0x010 ≤ u ∧ u ≤ 0x012) ∨ (0x018 ≤ u ∧ u ≤ 0x023) ∨ (0x028 ≤ u ∧ u ≤ 0x03B) then some domCLK
  else if 0x040 ≤ u ∧ u ≤ 0x04F then some domTDC
  else if 0x050 ≤ u ∧ u ≤ 0x054 then some domGNSS
  else if (0x060 ≤ u ∧ u ≤ 0x073) ∨ u = 0x078 ∨ u = 0x079 ∨ u = 0x0F1 ∨ u = 0x0F2 then some domCTL
  else if u = 0x080 ∨ u = 0x081 ∨ u = 0x088 ∨ u = 0x089 ∨ u = 0x090 ∨ (0x098 ≤ u ∧ u ≤ 0x09B) then some domPKA
  else if u = 0x082 ∨ u = 0x083 ∨ u = 0x08A ∨ u = 0x08B ∨ (0x09C ≤ u ∧ u ≤ 0x09F) then some domPKB
  else if u = 0x0C0 ∨ u = 0x0C1 then some domKEY
  else if (0x0D0 ≤ u ∧ u ≤ 0x0D3) ∨ (0x0D8 ≤ u ∧ u ≤ 0x0DB) then some domSPN
  else if 0x0E0 ≤ u ∧ u ≤ 0x0E2 then some domMEM
  else none

/-- The region of a unit, numbered in the order of R18: 0 Always-on/Backup, 1 Clock, 2 Measurement, 3 GNSS,
4 Control, 5 Packet, 6 Key, 7 Link, 8 Memory. -/
def unitRegion (u : Nat) : Nat :=
  match unitDomain u with
  | some 0 => 0 | some 1 => 0 | some 2 => 1 | some 3 => 2 | some 4 => 3 | some 5 => 4
  | some 6 => 5 | some 7 => 5 | some 9 => 5 | some 8 => 6 | some 10 => 7 | _ => 8

/-- The common block of a unit (R528, R541). UNIT_STATUS.clk_on and in_reset are kept where state holds them. -/
def unitRegs (u off : Nat) : List RegD :=
  if off < 0xF0 then unitOwnRegs u else match unitDomain u with | none => [] | some _ => regsUNIT

/-- The register descriptor at offset `off` of unit `u`; none for a reserved offset. -/
def regD (a : Nat) : Option RegD :=
  (unitRegs (a / 256) (a % 256)).find? (fun r =>
    decide (r.off ≤ a % 256) && decide ((a % 256 - r.off) % r.stride = 0)
      && decide ((a % 256 - r.off) / r.stride < r.n))

/-- The fields of the register at `a`; none listed for a reserved offset. Of the ID unit, whose registers the spec does not lay out, every
offset is a word that can only be read (R23; log 3). -/
def regFields (a : Nat) : List FieldD :=
  match regD a with
  | none => if a / 256 = 0x0FF ∧ a % 256 < 0xF0 then [⟨39, 0, .ro, 0, [], 2⟩] else []
  | some d => d.fields

/-- The word that fields make up, each giving its part. -/
def sumFields (fs : List FieldD) (part : FieldD → Nat) : Word :=
  w40 (fs.foldl (fun acc f => acc + part f % 2 ^ (f.hi + 1 - f.lo) * 2 ^ f.lo) 0)

/-- Kind of a Palette slot at reset: 0 FREQ, 1 PHASE, 2 TOD (R166). -/
def palKindReset (n : Nat) : Nat :=
  if n ≤ 7 then 0 else if n = 8 then 1 else if n = 9 then 2 else if n ≤ 13 then 2
  else if n ≤ 17 then 0 else 2

/-- What a read shows: WO and RSV bits read 0 (R12). -/
def readFields (fs : List FieldD) (w : Word) : Word :=
  sumFields fs (fun f => match f.ty with | .wo => 0 | .rsv => 0 | _ => fieldOf w f.hi f.lo)

/-- The reset value of the register at `a` (R13), with the values that differ from one instance to the next
and those that priming loads from the fuse trims (R463). A TDC trim register shows its trim from reset on, before priming has committed too,
where R13 calls the field not valid (DESIGN CHOICE, log 5). -/
def regReset (a : Nat) : Word :=
  let u := a / 256
  let off := a % 256
  let base := sumFields (regFields a) (fun f => f.rst)
  if off = 0xF0 then match unitDomain u with | none => 0 | some _ => w40 u
  else if u = 0x0FF ∧ off < 0xF0 then Config.dieIdentity off
  else if u = 0x010 ∧ 0x20 ≤ off ∧ off < 0x80 ∧ off % 4 = 0 then putField base 2 1 (palKindReset ((off - 0x20) / 4))
  else if u = 0x011 ∧ 0x04 ≤ off ∧ off ≤ 0x09 then
    w40 (([10000, 1000, 3000, 100000, 1000, 10000] : List Nat).getD (off - 4) 0)
  else if 0x040 ≤ u ∧ u ≤ 0x04F ∧ (off = 0x05 ∨ (0x042 ≤ u ∧ 0x20 ≤ off ∧ off ≤ 0x5F)) then
    readFields (regFields a) (Config.fuseTrim a)
  else if 0x038 ≤ u ∧ u ≤ 0x03B ∧ off = 0 then putField base 19 17 5
  else if 0x040 ≤ u ∧ u ≤ 0x049 ∧ off = 0 then putField base 18 18 1
  else base

/-- The word with only the fields that survive at level `lvl` (1 a warm reset, 2 every reset). -/
def keepPart (lvl a : Nat) (w : Word) : Word :=
  let fs := regFields a
  sumFields fs (fun f => if f.keep ≥ lvl then fieldOf w f.hi f.lo else fieldOf (regReset a) f.hi f.lo)

/-- What a write of `w` over the value `old` leaves under the field types of R12. -/
def writeFields (fs : List FieldD) (old w : Word) : Word :=
  sumFields fs (fun f =>
    let o := fieldOf old f.hi f.lo
    let n := fieldOf w f.hi f.lo
    match f.ty with
    | .rw => n
    | .ro => o
    | .rc => o
    | .wo => 0
    | .rsv => 0
    | .w1c => o - Nat.land o n
    | .w1s => Nat.lor o n)

/-- What is left after a read: RC fields are cleared by it (R12). -/
def afterRead (fs : List FieldD) (w : Word) : Word :=
  sumFields fs (fun f => match f.ty with | .rc => 0 | _ => fieldOf w f.hi f.lo)

/-- The bits a write may set: those of the register's fields. Every other bit is RSV and must be 0 (R12). -/
def reservedBitsZero (fs : List FieldD) (w : Word) : Bool :=
  decide (sumFields fs (fun f => fieldOf w f.hi f.lo) = w)

/-- Whether every field of the word holds a value the spec does not call reserved. -/
def legalValues (fs : List FieldD) (w : Word) : Bool :=
  fs.all (fun f => f.ok.isEmpty || f.ok.any (fun r =>
    decide (r.1 ≤ fieldOf w f.hi f.lo) && decide (fieldOf w f.hi f.lo ≤ r.2)))

/-- The W1C bits of the register at `a`, as bit numbers (R515). -/
def isW1cBit (a i : Nat) : Bool :=
  (regFields a).any (fun f => decide (f.ty = .w1c) && decide (f.lo ≤ i) && decide (i ≤ f.hi))

end Sys2Proof.Machine
end

