-- ==== Sys2Proof/Machine/RegNames.lean ====
section
/-! DEFINITION. Names for the registers and fields the meanings use: a register is its word offset in the register space
(unit × 0x100 + offset), a field its register and bits, as the register tables of the spec give them. -/

namespace Sys2Proof.Machine

/-- A field of a register. -/
structure Fld where
  addr : Nat
  hi : Nat
  lo : Nat
deriving DecidableEq, Repr

/-- Word address inside the register space, R110 of 03_idearyn_system.md. -/
def ECk_CTL (k : Nat) : Nat := (0x064 + k) * 0x100 + 0x00
/-- Word address inside the register space, R110 of 03_idearyn_system.md. -/
def ECk_ENTRY (k : Nat) : Nat := (0x064 + k) * 0x100 + 0x01
/-- Word address inside the register space, R110 of 03_idearyn_system.md. -/
def ECk_SEV (k : Nat) : Nat := (0x064 + k) * 0x100 + 0x0C
/-- Word address inside the register space, R124 of 03_idearyn_system.md. -/
def MBX_DOORBELL : Nat := 0x079 * 0x100 + 0x00
def MBX_DOORBELL_seq : Fld := { addr := MBX_DOORBELL, hi := 7, lo := 0 }
/-- Word address inside the register space, R124 of 03_idearyn_system.md. -/
def MBX_STATUS : Nat := 0x079 * 0x100 + 0x01
def MBX_STATUS_last_status : Fld := { addr := MBX_STATUS, hi := 22, lo := 16 }
def MBX_STATUS_last_seq : Fld := { addr := MBX_STATUS, hi := 15, lo := 8 }
def MBX_STATUS_state : Fld := { addr := MBX_STATUS, hi := 4, lo := 2 }
def MBX_STATUS_resp_valid : Fld := { addr := MBX_STATUS, hi := 1, lo := 1 }
def MBX_STATUS_busy : Fld := { addr := MBX_STATUS, hi := 0, lo := 0 }
/-- Word address inside the register space, R124 of 03_idearyn_system.md. -/
def MBX_IRQ : Nat := 0x079 * 0x100 + 0x02
/-- Word address inside the register space, R124 of 03_idearyn_system.md. -/
def MBX_IRQ_EN : Nat := 0x079 * 0x100 + 0x03
/-- Word address inside the register space, R124 of 03_idearyn_system.md. -/
def MBX_VECTOR : Nat := 0x079 * 0x100 + 0x04
def MBX_VECTOR_notice_vec : Fld := { addr := MBX_VECTOR, hi := 13, lo := 8 }
def MBX_VECTOR_done_vec : Fld := { addr := MBX_VECTOR, hi := 5, lo := 0 }
/-- Word address inside the register space, R124 of 03_idearyn_system.md. -/
def MBX_REFUSED : Nat := 0x079 * 0x100 + 0x05
def MBX_REFUSED_refused : Fld := { addr := MBX_REFUSED, hi := 31, lo := 0 }
/-- Word address inside the register space, R124 of 03_idearyn_system.md. -/
def MBX_DROPPED : Nat := 0x079 * 0x100 + 0x06
def MBX_DROPPED_dropped : Fld := { addr := MBX_DROPPED, hi := 31, lo := 0 }
/-- Word address inside the register space, R164 of 04_timebase_sketchbook.md. -/
def TB_TIME_HI : Nat := 0x004 * 0x100 + 0x00
/-- Word address inside the register space, R164 of 04_timebase_sketchbook.md. -/
def TB_STEER : Nat := 0x004 * 0x100 + 0x02
def TB_STEER_steer : Fld := { addr := TB_STEER, hi := 39, lo := 0 }
/-- Word address inside the register space, R164 of 04_timebase_sketchbook.md. -/
def TB_SLEW_REM : Nat := 0x004 * 0x100 + 0x03
/-- Word address inside the register space, R164 of 04_timebase_sketchbook.md. -/
def TB_SLEW_ADD : Nat := 0x004 * 0x100 + 0x04
/-- Word address inside the register space, R164 of 04_timebase_sketchbook.md. -/
def TB_SLEW_RATE : Nat := 0x004 * 0x100 + 0x05
def TB_SLEW_RATE_rate : Fld := { addr := TB_SLEW_RATE, hi := 19, lo := 0 }
/-- Word address inside the register space, R164 of 04_timebase_sketchbook.md. -/
def TB_STEP_THRESH : Nat := 0x004 * 0x100 + 0x06
def TB_STEP_THRESH_thresh : Fld := { addr := TB_STEP_THRESH, hi := 31, lo := 0 }
/-- Word address inside the register space, R164 of 04_timebase_sketchbook.md. -/
def TB_STEP_US : Nat := 0x004 * 0x100 + 0x07
/-- Word address inside the register space, R164 of 04_timebase_sketchbook.md. -/
def TB_STEP_S : Nat := 0x004 * 0x100 + 0x08
/-- Word address inside the register space, R164 of 04_timebase_sketchbook.md. -/
def TB_STEP_LAST : Nat := 0x004 * 0x100 + 0x09
def TB_STEP_LAST_kind : Fld := { addr := TB_STEP_LAST, hi := 39, lo := 38 }
def TB_STEP_LAST_result : Fld := { addr := TB_STEP_LAST, hi := 37, lo := 36 }
def TB_STEP_LAST_amount : Fld := { addr := TB_STEP_LAST, hi := 19, lo := 0 }
/-- Word address inside the register space, R164 of 04_timebase_sketchbook.md. -/
def TB_STEP_T_HI : Nat := 0x004 * 0x100 + 0x0A
/-- Word address inside the register space, R164 of 04_timebase_sketchbook.md. -/
def TB_STEP_T_LO : Nat := 0x004 * 0x100 + 0x0B
/-- Word address inside the register space, R164 of 04_timebase_sketchbook.md. -/
def TB_LOAD_HI : Nat := 0x004 * 0x100 + 0x0C
/-- Word address inside the register space, R164 of 04_timebase_sketchbook.md. -/
def TB_LOAD_LO : Nat := 0x004 * 0x100 + 0x0D
/-- Word address inside the register space, R164 of 04_timebase_sketchbook.md. -/
def TB_UTC_OFS : Nat := 0x004 * 0x100 + 0x0E
def TB_UTC_OFS_ofs : Fld := { addr := TB_UTC_OFS, hi := 15, lo := 0 }
/-- Word address inside the register space, R164 of 04_timebase_sketchbook.md. -/
def TB_LEAP : Nat := 0x004 * 0x100 + 0x0F
def TB_LEAP_utc_valid : Fld := { addr := TB_LEAP, hi := 2, lo := 2 }
def TB_LEAP_leap59 : Fld := { addr := TB_LEAP, hi := 1, lo := 1 }
def TB_LEAP_leap61 : Fld := { addr := TB_LEAP, hi := 0, lo := 0 }
/-- Word address inside the register space, R164 of 04_timebase_sketchbook.md. -/
def TB_LEAP_EXEC : Nat := 0x004 * 0x100 + 0x10
/-- Word address inside the register space, R164 of 04_timebase_sketchbook.md. -/
def TB_STATUS : Nat := 0x004 * 0x100 + 0x11
def TB_STATUS_in_leap : Fld := { addr := TB_STATUS, hi := 2, lo := 2 }
def TB_STATUS_time_valid : Fld := { addr := TB_STATUS, hi := 0, lo := 0 }
/-- Word address inside the register space, R164 of 04_timebase_sketchbook.md. -/
def TB_EVENTS : Nat := 0x004 * 0x100 + 0x12
def TB_EVENTS_direct_ignored : Fld := { addr := TB_EVENTS, hi := 5, lo := 5 }
def TB_EVENTS_load_ignored : Fld := { addr := TB_EVENTS, hi := 4, lo := 4 }
def TB_EVENTS_slew_sat : Fld := { addr := TB_EVENTS, hi := 3, lo := 3 }
def TB_EVENTS_step_blocked : Fld := { addr := TB_EVENTS, hi := 2, lo := 2 }
def TB_EVENTS_step_refused : Fld := { addr := TB_EVENTS, hi := 1, lo := 1 }
def TB_EVENTS_step_done : Fld := { addr := TB_EVENTS, hi := 0, lo := 0 }
/-- Word address inside the register space, R164 of 04_timebase_sketchbook.md. -/
def TB_RESET_T_HI : Nat := 0x004 * 0x100 + 0x14
/-- Word address inside the register space, R164 of 04_timebase_sketchbook.md. -/
def TB_RESET_T_LO : Nat := 0x004 * 0x100 + 0x15
/-- Word address inside the register space, R165 of 04_timebase_sketchbook.md. -/
def SKB_CTL : Nat := 0x078 * 0x100 + 0x00
def SKB_CTL_mirror_en : Fld := { addr := SKB_CTL, hi := 1, lo := 1 }
def SKB_CTL_accept_en : Fld := { addr := SKB_CTL, hi := 0, lo := 0 }
/-- Word address inside the register space, R165 of 04_timebase_sketchbook.md. -/
def SKB_LEDGER_BASE : Nat := 0x078 * 0x100 + 0x01
def SKB_LEDGER_BASE_base : Fld := { addr := SKB_LEDGER_BASE, hi := 31, lo := 0 }
/-- Word address inside the register space, R165 of 04_timebase_sketchbook.md. -/
def SKB_MIRROR_LEAD : Nat := 0x078 * 0x100 + 0x02
def SKB_MIRROR_LEAD_lead : Fld := { addr := SKB_MIRROR_LEAD, hi := 15, lo := 0 }
/-- Word address inside the register space, R165 of 04_timebase_sketchbook.md. -/
def SKB_STATUS : Nat := 0x078 * 0x100 + 0x03
def SKB_STATUS_recovering : Fld := { addr := SKB_STATUS, hi := 28, lo := 28 }
/-- Word address inside the register space, R165 of 04_timebase_sketchbook.md. -/
def SKB_SEQ : Nat := 0x078 * 0x100 + 0x04
def SKB_SEQ_seq : Fld := { addr := SKB_SEQ, hi := 31, lo := 0 }
/-- Word address inside the register space, R165 of 04_timebase_sketchbook.md. -/
def SKB_REPORTS : Nat := 0x078 * 0x100 + 0x05
/-- Word address inside the register space, R165 of 04_timebase_sketchbook.md. -/
def SKB_EVENTS : Nat := 0x078 * 0x100 + 0x06
def SKB_EVENTS_pin_masked : Fld := { addr := SKB_EVENTS, hi := 3, lo := 3 }
def SKB_EVENTS_full : Fld := { addr := SKB_EVENTS, hi := 2, lo := 2 }
def SKB_EVENTS_check_fail : Fld := { addr := SKB_EVENTS, hi := 1, lo := 1 }
def SKB_EVENTS_report : Fld := { addr := SKB_EVENTS, hi := 0, lo := 0 }
/-- Word address inside the register space, R165 of 04_timebase_sketchbook.md. -/
def SKB_CNT_PAST : Nat := 0x078 * 0x100 + 0x08
def SKB_CNT_PAST_count : Fld := { addr := SKB_CNT_PAST, hi := 31, lo := 0 }
/-- Word address inside the register space, R165 of 04_timebase_sketchbook.md. -/
def SKB_CNT_SOON : Nat := 0x078 * 0x100 + 0x09
def SKB_CNT_SOON_count : Fld := { addr := SKB_CNT_SOON, hi := 31, lo := 0 }
/-- Word address inside the register space, R165 of 04_timebase_sketchbook.md. -/
def SKB_CNT_FULL : Nat := 0x078 * 0x100 + 0x0A
def SKB_CNT_FULL_count : Fld := { addr := SKB_CNT_FULL, hi := 31, lo := 0 }
/-- Word address inside the register space, R165 of 04_timebase_sketchbook.md. -/
def SKB_CNT_REOFFER : Nat := 0x078 * 0x100 + 0x0B
def SKB_CNT_REOFFER_count : Fld := { addr := SKB_CNT_REOFFER, hi := 31, lo := 0 }
/-- Word address inside the register space, R165 of 04_timebase_sketchbook.md. -/
def SKB_CNT_LATE : Nat := 0x078 * 0x100 + 0x0C
def SKB_CNT_LATE_count : Fld := { addr := SKB_CNT_LATE, hi := 31, lo := 0 }
/-- Word address inside the register space, R165 of 04_timebase_sketchbook.md. -/
def SKB_CNT_LAPSED : Nat := 0x078 * 0x100 + 0x0D
def SKB_CNT_LAPSED_count : Fld := { addr := SKB_CNT_LAPSED, hi := 31, lo := 0 }
/-- Word address inside the register space, R165 of 04_timebase_sketchbook.md. -/
def SKB_CNT_PINMASK : Nat := 0x078 * 0x100 + 0x0E
def SKB_CNT_PINMASK_count : Fld := { addr := SKB_CNT_PINMASK, hi := 31, lo := 0 }
/-- Word address inside the register space, R165 of 04_timebase_sketchbook.md. -/
def SKB_T_RESUME_HI : Nat := 0x078 * 0x100 + 0x0F
def SKB_T_RESUME_HI_val : Fld := { addr := SKB_T_RESUME_HI, hi := 39, lo := 0 }
/-- Word address inside the register space, R165 of 04_timebase_sketchbook.md. -/
def SKB_T_RESUME_LO : Nat := 0x078 * 0x100 + 0x10
/-- Word address inside the register space, R196 of 05_palette_references.md. -/
def PAL_CTL : Nat := 0x010 * 0x100 + 0x00
def PAL_CTL_xc_en : Fld := { addr := PAL_CTL, hi := 3, lo := 3 }
def PAL_CTL_revertive : Fld := { addr := PAL_CTL, hi := 2, lo := 2 }
def PAL_CTL_auto : Fld := { addr := PAL_CTL, hi := 1, lo := 1 }
def PAL_CTL_run : Fld := { addr := PAL_CTL, hi := 0, lo := 0 }
/-- Word address inside the register space, R196 of 05_palette_references.md. -/
def PAL_STATE : Nat := 0x010 * 0x100 + 0x01
def PAL_STATE_locked_once : Fld := { addr := PAL_STATE, hi := 14, lo := 14 }
def PAL_STATE_time_traceable : Fld := { addr := PAL_STATE, hi := 13, lo := 13 }
def PAL_STATE_step_hold : Fld := { addr := PAL_STATE, hi := 12, lo := 12 }
def PAL_STATE_reselect_pending : Fld := { addr := PAL_STATE, hi := 11, lo := 11 }
def PAL_STATE_switching : Fld := { addr := PAL_STATE, hi := 10, lo := 10 }
def PAL_STATE_sel_valid : Fld := { addr := PAL_STATE, hi := 9, lo := 9 }
def PAL_STATE_sel_slot : Fld := { addr := PAL_STATE, hi := 8, lo := 4 }
def PAL_STATE_state : Fld := { addr := PAL_STATE, hi := 2, lo := 0 }
/-- Word address inside the register space, R196 of 05_palette_references.md. -/
def PAL_FORCE : Nat := 0x010 * 0x100 + 0x02
def PAL_FORCE_en : Fld := { addr := PAL_FORCE, hi := 5, lo := 5 }
def PAL_FORCE_slot : Fld := { addr := PAL_FORCE, hi := 4, lo := 0 }
/-- Word address inside the register space, R196 of 05_palette_references.md. -/
def PAL_HOLD_LIMIT : Nat := 0x010 * 0x100 + 0x03
def PAL_HOLD_LIMIT_limit : Fld := { addr := PAL_HOLD_LIMIT, hi := 39, lo := 0 }
/-- Word address inside the register space, R196 of 05_palette_references.md. -/
def PAL_LOCK : Nat := 0x010 * 0x100 + 0x04
def PAL_LOCK_lock_s : Fld := { addr := PAL_LOCK, hi := 31, lo := 16 }
def PAL_LOCK_window_ns : Fld := { addr := PAL_LOCK, hi := 15, lo := 0 }
/-- Word address inside the register space, R196 of 05_palette_references.md. -/
def PAL_XC_CFG : Nat := 0x010 * 0x100 + 0x05
def PAL_XC_CFG_smp_timeout : Fld := { addr := PAL_XC_CFG, hi := 23, lo := 16 }
def PAL_XC_CFG_xc_win : Fld := { addr := PAL_XC_CFG, hi := 15, lo := 0 }
/-- Word address inside the register space, R196 of 05_palette_references.md. -/
def PAL_XC_SRC : Nat := 0x010 * 0x100 + 0x06
def PAL_XC_SRC_und : Fld := { addr := PAL_XC_SRC, hi := 0, lo := 0 }
/-- Word address inside the register space, R196 of 05_palette_references.md. -/
def PAL_ABS_REM : Nat := 0x010 * 0x100 + 0x07
/-- Word address inside the register space, R196 of 05_palette_references.md. -/
def PAL_LAST_SW : Nat := 0x010 * 0x100 + 0x08
def PAL_LAST_SW_reason : Fld := { addr := PAL_LAST_SW, hi := 39, lo := 37 }
def PAL_LAST_SW_from_valid : Fld := { addr := PAL_LAST_SW, hi := 10, lo := 10 }
def PAL_LAST_SW_from : Fld := { addr := PAL_LAST_SW, hi := 9, lo := 5 }
def PAL_LAST_SW_to : Fld := { addr := PAL_LAST_SW, hi := 4, lo := 0 }
/-- Word address inside the register space, R196 of 05_palette_references.md. -/
def PAL_LAST_ABS : Nat := 0x010 * 0x100 + 0x09
/-- Word address inside the register space, R196 of 05_palette_references.md. -/
def PAL_LAST_SW_T_HI : Nat := 0x010 * 0x100 + 0x0A
/-- Word address inside the register space, R196 of 05_palette_references.md. -/
def PAL_LAST_SW_T_LO : Nat := 0x010 * 0x100 + 0x0B
/-- Word address inside the register space, R196 of 05_palette_references.md. -/
def PAL_SWITCHES : Nat := 0x010 * 0x100 + 0x0C
def PAL_SWITCHES_count : Fld := { addr := PAL_SWITCHES, hi := 31, lo := 0 }
/-- Word address inside the register space, R196 of 05_palette_references.md. -/
def PAL_EVENTS : Nat := 0x010 * 0x100 + 0x0D
def PAL_EVENTS_qualified : Fld := { addr := PAL_EVENTS, hi := 7, lo := 7 }
def PAL_EVENTS_force_refused : Fld := { addr := PAL_EVENTS, hi := 6, lo := 6 }
def PAL_EVENTS_step_wanted : Fld := { addr := PAL_EVENTS, hi := 5, lo := 5 }
def PAL_EVENTS_disagreeing : Fld := { addr := PAL_EVENTS, hi := 4, lo := 4 }
def PAL_EVENTS_drifting : Fld := { addr := PAL_EVENTS, hi := 3, lo := 3 }
def PAL_EVENTS_slot_fail : Fld := { addr := PAL_EVENTS, hi := 2, lo := 2 }
def PAL_EVENTS_state_change : Fld := { addr := PAL_EVENTS, hi := 1, lo := 1 }
def PAL_EVENTS_switch_done : Fld := { addr := PAL_EVENTS, hi := 0, lo := 0 }
/-- Word address inside the register space, R196 of 05_palette_references.md. -/
def PAL_CMD : Nat := 0x010 * 0x100 + 0x0F
/-- Word address inside the register space, R196 of 05_palette_references.md. -/
def PAL_WIDE_CTL : Nat := 0x010 * 0x100 + 0x10
def PAL_WIDE_CTL_valid : Fld := { addr := PAL_WIDE_CTL, hi := 5, lo := 5 }
def PAL_WIDE_CTL_slot : Fld := { addr := PAL_WIDE_CTL, hi := 4, lo := 0 }
/-- Word address inside the register space, R196 of 05_palette_references.md. -/
def PAL_WIDE_OFS : Nat := 0x010 * 0x100 + 0x11
def PAL_WIDE_OFS_ofs : Fld := { addr := PAL_WIDE_OFS, hi := 39, lo := 0 }
/-- Word address inside the register space, R196 of 05_palette_references.md. -/
def PAL_Sn_CFG (n : Nat) : Nat := 0x010 * 0x100 + 0x20 + 4 * n
def PAL_Sn_CFG_first_qual (n : Nat) : Fld := { addr := PAL_Sn_CFG n, hi := 39, lo := 28 }
def PAL_Sn_CFG_wtr (n : Nat) : Fld := { addr := PAL_Sn_CFG n, hi := 27, lo := 12 }
def PAL_Sn_CFG_priority (n : Nat) : Fld := { addr := PAL_Sn_CFG n, hi := 11, lo := 4 }
def PAL_Sn_CFG_lockout (n : Nat) : Fld := { addr := PAL_Sn_CFG n, hi := 3, lo := 3 }
def PAL_Sn_CFG_kind (n : Nat) : Fld := { addr := PAL_Sn_CFG n, hi := 2, lo := 1 }
def PAL_Sn_CFG_enable (n : Nat) : Fld := { addr := PAL_Sn_CFG n, hi := 0, lo := 0 }
/-- Word address inside the register space, R196 of 05_palette_references.md. -/
def PAL_Sn_ADV (n : Nat) : Nat := 0x010 * 0x100 + 0x21 + 4 * n
def PAL_Sn_ADV_qsrc (n : Nat) : Fld := { addr := PAL_Sn_ADV n, hi := 19, lo := 16 }
def PAL_Sn_ADV_raw (n : Nat) : Fld := { addr := PAL_Sn_ADV n, hi := 15, lo := 8 }
def PAL_Sn_ADV_qrank (n : Nat) : Fld := { addr := PAL_Sn_ADV n, hi := 3, lo := 0 }
/-- Word address inside the register space, R196 of 05_palette_references.md. -/
def PAL_Sn_LIMITS (n : Nat) : Nat := 0x010 * 0x100 + 0x22 + 4 * n
def PAL_Sn_LIMITS_jump_ns (n : Nat) : Fld := { addr := PAL_Sn_LIMITS n, hi := 39, lo := 20 }
def PAL_Sn_LIMITS_freq_lim (n : Nat) : Fld := { addr := PAL_Sn_LIMITS n, hi := 19, lo := 0 }
/-- Word address inside the register space, R196 of 05_palette_references.md. -/
def PAL_Sn_XCHK (n : Nat) : Nat := 0x010 * 0x100 + 0x23 + 4 * n
def PAL_Sn_XCHK_dis_margin (n : Nat) : Fld := { addr := PAL_Sn_XCHK n, hi := 39, lo := 24 }
def PAL_Sn_XCHK_drift_budget (n : Nat) : Fld := { addr := PAL_Sn_XCHK n, hi := 23, lo := 0 }
/-- Word address inside the register space, R196 of 05_palette_references.md. -/
def PAL_Sn_BOUND (n : Nat) : Nat := 0x010 * 0x100 + 0x80 + n
def PAL_Sn_BOUND_bound (n : Nat) : Fld := { addr := PAL_Sn_BOUND n, hi := 39, lo := 0 }
/-- Word address inside the register space, R196 of 05_palette_references.md. -/
def PAL_Sn_STATUS (n : Nat) : Nat := 0x010 * 0x100 + 0x98 + n
def PAL_Sn_STATUS_eff_rank (n : Nat) : Fld := { addr := PAL_Sn_STATUS n, hi := 31, lo := 28 }
def PAL_Sn_STATUS_timer (n : Nat) : Fld := { addr := PAL_Sn_STATUS n, hi := 27, lo := 12 }
def PAL_Sn_STATUS_fail (n : Nat) : Fld := { addr := PAL_Sn_STATUS n, hi := 11, lo := 6 }
def PAL_Sn_STATUS_range (n : Nat) : Fld := { addr := PAL_Sn_STATUS n, hi := 5, lo := 5 }
def PAL_Sn_STATUS_ever_qualified (n : Nat) : Fld := { addr := PAL_Sn_STATUS n, hi := 4, lo := 4 }
def PAL_Sn_STATUS_selected (n : Nat) : Fld := { addr := PAL_Sn_STATUS n, hi := 3, lo := 3 }
def PAL_Sn_STATUS_sstate (n : Nat) : Fld := { addr := PAL_Sn_STATUS n, hi := 2, lo := 0 }
/-- Word address inside the register space, R196 of 05_palette_references.md. -/
def PAL_Sn_PHASE (n : Nat) : Nat := 0x010 * 0x100 + 0xB0 + n
def PAL_Sn_PHASE_phase (n : Nat) : Fld := { addr := PAL_Sn_PHASE n, hi := 39, lo := 0 }
/-- Word address inside the register space, R196 of 05_palette_references.md. -/
def PAL_Sn_FREQ (n : Nat) : Nat := 0x010 * 0x100 + 0xC8 + n
def PAL_Sn_FREQ_freq (n : Nat) : Fld := { addr := PAL_Sn_FREQ n, hi := 39, lo := 0 }
/-- Word address inside the register space, R196 of 05_palette_references.md. -/
def PAL_Sn_SAMPLE (n : Nat) : Nat := 0x010 * 0x100 + 0xE0 + (n - 9)
/-- Word address inside the register space, R197 of 05_palette_references.md. -/
def REFINn_CFG (n : Nat) : Nat := (0x018 + n) * 0x100 + 0x00
def REFINn_CFG_edge (n : Nat) : Fld := { addr := REFINn_CFG n, hi := 21, lo := 21 }
def REFINn_CFG_en (n : Nat) : Fld := { addr := REFINn_CFG n, hi := 20, lo := 20 }
def REFINn_CFG_div (n : Nat) : Fld := { addr := REFINn_CFG n, hi := 19, lo := 0 }
/-- Word address inside the register space, R197 of 05_palette_references.md. -/
def REFINn_NOM (n : Nat) : Nat := (0x018 + n) * 0x100 + 0x01
def REFINn_NOM_nom_hz (n : Nat) : Fld := { addr := REFINn_NOM n, hi := 29, lo := 0 }
/-- Word address inside the register space, R197 of 05_palette_references.md. -/
def REFINn_STATUS (n : Nat) : Nat := (0x018 + n) * 0x100 + 0x02
def REFINn_STATUS_los_event (n : Nat) : Fld := { addr := REFINn_STATUS n, hi := 3, lo := 3 }
def REFINn_STATUS_coarse (n : Nat) : Fld := { addr := REFINn_STATUS n, hi := 2, lo := 2 }
def REFINn_STATUS_los (n : Nat) : Fld := { addr := REFINn_STATUS n, hi := 1, lo := 1 }
def REFINn_STATUS_active (n : Nat) : Fld := { addr := REFINn_STATUS n, hi := 0, lo := 0 }
/-- Word address inside the register space, R197 of 05_palette_references.md. -/
def REFINn_COUNT (n : Nat) : Nat := (0x018 + n) * 0x100 + 0x03
def REFINn_COUNT_count (n : Nat) : Fld := { addr := REFINn_COUNT n, hi := 39, lo := 0 }
/-- Word address inside the register space, R219 of 06_underpainting_holdover.md. -/
def UND_CTL : Nat := 0x011 * 0x100 + 0x00
def UND_CTL_temp_src : Fld := { addr := UND_CTL, hi := 6, lo := 5 }
def UND_CTL_temp_en : Fld := { addr := UND_CTL, hi := 4, lo := 4 }
def UND_CTL_learn_en : Fld := { addr := UND_CTL, hi := 3, lo := 3 }
def UND_CTL_flywheel : Fld := { addr := UND_CTL, hi := 2, lo := 2 }
def UND_CTL_use_spec : Fld := { addr := UND_CTL, hi := 1, lo := 1 }
def UND_CTL_run : Fld := { addr := UND_CTL, hi := 0, lo := 0 }
/-- Word address inside the register space, R219 of 06_underpainting_holdover.md. -/
def UND_STATUS : Nat := 0x011 * 0x100 + 0x01
def UND_STATUS_learn_h : Fld := { addr := UND_STATUS, hi := 35, lo := 16 }
def UND_STATUS_temp_valid : Fld := { addr := UND_STATUS, hi := 8, lo := 8 }
def UND_STATUS_steer_sat : Fld := { addr := UND_STATUS, hi := 7, lo := 7 }
def UND_STATUS_narrowing : Fld := { addr := UND_STATUS, hi := 6, lo := 6 }
def UND_STATUS_stage : Fld := { addr := UND_STATUS, hi := 5, lo := 4 }
def UND_STATUS_mode : Fld := { addr := UND_STATUS, hi := 2, lo := 0 }
/-- Word address inside the register space, R219 of 06_underpainting_holdover.md. -/
def UND_LOOP : Nat := 0x011 * 0x100 + 0x02
def UND_LOOP_narrow_s : Fld := { addr := UND_LOOP, hi := 35, lo := 20 }
def UND_LOOP_zeta : Fld := { addr := UND_LOOP, hi := 19, lo := 0 }
/-- Word address inside the register space, R219 of 06_underpainting_holdover.md. -/
def UND_ACQ_BW : Nat := 0x011 * 0x100 + 0x03
def UND_ACQ_BW_acq_bw : Fld := { addr := UND_ACQ_BW, hi := 19, lo := 0 }
/-- Word address inside the register space, R219 of 06_underpainting_holdover.md. -/
def UND_BW (j : Nat) : Nat := 0x011 * 0x100 + 0x04 + j
def UND_BW_bw (j : Nat) : Fld := { addr := UND_BW j, hi := 19, lo := 0 }
/-- Word address inside the register space, R219 of 06_underpainting_holdover.md. -/
def UND_HOLD_CFG : Nat := 0x011 * 0x100 + 0x0A
def UND_HOLD_CFG_hold_guard : Fld := { addr := UND_HOLD_CFG, hi := 23, lo := 16 }
def UND_HOLD_CFG_hold_avg : Fld := { addr := UND_HOLD_CFG, hi := 15, lo := 0 }
/-- Word address inside the register space, R219 of 06_underpainting_holdover.md. -/
def UND_STEER : Nat := 0x011 * 0x100 + 0x0B
/-- Word address inside the register space, R219 of 06_underpainting_holdover.md. -/
def UND_FLY : Nat := 0x011 * 0x100 + 0x0C
def UND_FLY_val : Fld := { addr := UND_FLY, hi := 39, lo := 0 }
/-- Word address inside the register space, R219 of 06_underpainting_holdover.md. -/
def UND_MODEL_Y : Nat := 0x011 * 0x100 + 0x0D
/-- Word address inside the register space, R219 of 06_underpainting_holdover.md. -/
def UND_LOOP_Y : Nat := 0x011 * 0x100 + 0x0E
/-- Word address inside the register space, R219 of 06_underpainting_holdover.md. -/
def UND_XC_PHASE : Nat := 0x011 * 0x100 + 0x0F
def UND_XC_PHASE_phase : Fld := { addr := UND_XC_PHASE, hi := 39, lo := 0 }
/-- Word address inside the register space, R219 of 06_underpainting_holdover.md. -/
def UND_M_Y0 : Nat := 0x011 * 0x100 + 0x10
def UND_M_Y0_val : Fld := { addr := UND_M_Y0, hi := 39, lo := 0 }
/-- Word address inside the register space, R219 of 06_underpainting_holdover.md. -/
def UND_M_DRIFT : Nat := 0x011 * 0x100 + 0x11
def UND_M_DRIFT_val : Fld := { addr := UND_M_DRIFT, hi := 39, lo := 0 }
/-- Word address inside the register space, R219 of 06_underpainting_holdover.md. -/
def UND_M_TC : Nat := 0x011 * 0x100 + 0x12
def UND_M_TC_val : Fld := { addr := UND_M_TC, hi := 39, lo := 0 }
/-- Word address inside the register space, R219 of 06_underpainting_holdover.md. -/
def UND_M_TREF : Nat := 0x011 * 0x100 + 0x13
def UND_M_TREF_tref : Fld := { addr := UND_M_TREF, hi := 19, lo := 0 }
/-- Word address inside the register space, R219 of 06_underpainting_holdover.md. -/
def UND_M_T0_HI : Nat := 0x011 * 0x100 + 0x14
/-- Word address inside the register space, R219 of 06_underpainting_holdover.md. -/
def UND_M_T0_LO : Nat := 0x011 * 0x100 + 0x15
/-- Word address inside the register space, R219 of 06_underpainting_holdover.md. -/
def UND_SPEC_Y : Nat := 0x011 * 0x100 + 0x16
/-- Word address inside the register space, R219 of 06_underpainting_holdover.md. -/
def UND_SPEC_DRIFT : Nat := 0x011 * 0x100 + 0x17
/-- Word address inside the register space, R219 of 06_underpainting_holdover.md. -/
def UND_SPEC_TC : Nat := 0x011 * 0x100 + 0x18
/-- Word address inside the register space, R219 of 06_underpainting_holdover.md. -/
def UND_SPEC_WF : Nat := 0x011 * 0x100 + 0x19
/-- Word address inside the register space, R219 of 06_underpainting_holdover.md. -/
def UND_SPEC_RW : Nat := 0x011 * 0x100 + 0x1A
/-- Word address inside the register space, R219 of 06_underpainting_holdover.md. -/
def UND_LRN_Y : Nat := 0x011 * 0x100 + 0x1B
/-- Word address inside the register space, R219 of 06_underpainting_holdover.md. -/
def UND_LRN_RW : Nat := 0x011 * 0x100 + 0x1F
/-- Word address inside the register space, R219 of 06_underpainting_holdover.md. -/
def UND_T_DEV : Nat := 0x011 * 0x100 + 0x20
def UND_T_DEV_tdev : Fld := { addr := UND_T_DEV, hi := 19, lo := 0 }
/-- Word address inside the register space, R219 of 06_underpainting_holdover.md. -/
def UND_FREQ_UNC : Nat := 0x011 * 0x100 + 0x21
def UND_FREQ_UNC_unc : Fld := { addr := UND_FREQ_UNC, hi := 39, lo := 0 }
/-- Word address inside the register space, R219 of 06_underpainting_holdover.md. -/
def UND_TEMP : Nat := 0x011 * 0x100 + 0x22
def UND_TEMP_valid : Fld := { addr := UND_TEMP, hi := 20, lo := 20 }
def UND_TEMP_temp : Fld := { addr := UND_TEMP, hi := 19, lo := 0 }
/-- Word address inside the register space, R219 of 06_underpainting_holdover.md. -/
def UND_TEMP_EXT : Nat := 0x011 * 0x100 + 0x23
def UND_TEMP_EXT_ext : Fld := { addr := UND_TEMP_EXT, hi := 19, lo := 0 }
/-- Word address inside the register space, R219 of 06_underpainting_holdover.md. -/
def UND_HOLD_T_HI : Nat := 0x011 * 0x100 + 0x24
/-- Word address inside the register space, R219 of 06_underpainting_holdover.md. -/
def UND_HOLD_T_LO : Nat := 0x011 * 0x100 + 0x25
/-- Word address inside the register space, R219 of 06_underpainting_holdover.md. -/
def UND_H : Nat := 0x011 * 0x100 + 0x26
def UND_H_h : Fld := { addr := UND_H, hi := 39, lo := 0 }
/-- Word address inside the register space, R219 of 06_underpainting_holdover.md. -/
def UND_B_ENTRY : Nat := 0x011 * 0x100 + 0x27
def UND_B_ENTRY_b : Fld := { addr := UND_B_ENTRY, hi := 39, lo := 0 }
/-- Word address inside the register space, R219 of 06_underpainting_holdover.md. -/
def UND_PRED_Q : Nat := 0x011 * 0x100 + 0x28
def UND_PRED_Q_horizon : Fld := { addr := UND_PRED_Q, hi := 19, lo := 0 }
/-- Word address inside the register space, R219 of 06_underpainting_holdover.md. -/
def UND_PRED_H : Nat := 0x011 * 0x100 + 0x29
def UND_PRED_H_h : Fld := { addr := UND_PRED_H, hi := 39, lo := 0 }
/-- Word address inside the register space, R219 of 06_underpainting_holdover.md. -/
def UND_PRED_TIME : Nat := 0x011 * 0x100 + 0x2A
def UND_PRED_TIME_hours : Fld := { addr := UND_PRED_TIME, hi := 19, lo := 0 }
/-- Word address inside the register space, R219 of 06_underpainting_holdover.md. -/
def UND_EVENTS : Nat := 0x011 * 0x100 + 0x2B
def UND_EVENTS_cfg_ignored : Fld := { addr := UND_EVENTS, hi := 6, lo := 6 }
def UND_EVENTS_steer_sat : Fld := { addr := UND_EVENTS, hi := 5, lo := 5 }
def UND_EVENTS_temp_stale : Fld := { addr := UND_EVENTS, hi := 4, lo := 4 }
def UND_EVENTS_temp_range : Fld := { addr := UND_EVENTS, hi := 3, lo := 3 }
def UND_EVENTS_hold_exit : Fld := { addr := UND_EVENTS, hi := 2, lo := 2 }
def UND_EVENTS_hold_enter : Fld := { addr := UND_EVENTS, hi := 1, lo := 1 }
def UND_EVENTS_stage_up : Fld := { addr := UND_EVENTS, hi := 0, lo := 0 }
/-- Word address inside the register space, R219 of 06_underpainting_holdover.md. -/
def UND_CMD : Nat := 0x011 * 0x100 + 0x2D
/-- Word address inside the register space, R243 of 07_glaze_error_bound.md. -/
def GLZ_CTL : Nat := 0x012 * 0x100 + 0x00
def GLZ_CTL_ntp_ef_en : Fld := { addr := GLZ_CTL, hi := 2, lo := 2 }
def GLZ_CTL_tlv_en : Fld := { addr := GLZ_CTL, hi := 1, lo := 1 }
def GLZ_CTL_run : Fld := { addr := GLZ_CTL, hi := 0, lo := 0 }
/-- Word address inside the register space, R243 of 07_glaze_error_bound.md. -/
def GLZ_STATUS : Nat := 0x012 * 0x100 + 0x01
def GLZ_STATUS_sign_busy : Fld := { addr := GLZ_STATUS, hi := 5, lo := 5 }
def GLZ_STATUS_unbounded : Fld := { addr := GLZ_STATUS, hi := 4, lo := 4 }
def GLZ_STATUS_mode : Fld := { addr := GLZ_STATUS, hi := 2, lo := 0 }
/-- Word address inside the register space, R243 of 07_glaze_error_bound.md. -/
def GLZ_B : Nat := 0x012 * 0x100 + 0x02
def GLZ_B_b : Fld := { addr := GLZ_B, hi := 39, lo := 0 }
/-- Word address inside the register space, R243 of 07_glaze_error_bound.md. -/
def GLZ_LIN : Nat := 0x012 * 0x100 + 0x03
/-- Word address inside the register space, R243 of 07_glaze_error_bound.md. -/
def GLZ_T_REF : Nat := 0x012 * 0x100 + 0x04
/-- Word address inside the register space, R243 of 07_glaze_error_bound.md. -/
def GLZ_T_MEAS : Nat := 0x012 * 0x100 + 0x05
/-- Word address inside the register space, R243 of 07_glaze_error_bound.md. -/
def GLZ_T_PATH : Nat := 0x012 * 0x100 + 0x06
/-- Word address inside the register space, R243 of 07_glaze_error_bound.md. -/
def GLZ_T_HOLD : Nat := 0x012 * 0x100 + 0x07
/-- Word address inside the register space, R243 of 07_glaze_error_bound.md. -/
def GLZ_T_EVT : Nat := 0x012 * 0x100 + 0x08
/-- Word address inside the register space, R243 of 07_glaze_error_bound.md. -/
def GLZ_B_MAX : Nat := 0x012 * 0x100 + 0x09
def GLZ_B_MAX_b : Fld := { addr := GLZ_B_MAX, hi := 39, lo := 0 }
/-- Word address inside the register space, R243 of 07_glaze_error_bound.md. -/
def GLZ_LIN_BASE : Nat := 0x012 * 0x100 + 0x0A
def GLZ_LIN_BASE_base : Fld := { addr := GLZ_LIN_BASE, hi := 31, lo := 0 }
/-- Word address inside the register space, R243 of 07_glaze_error_bound.md. -/
def GLZ_LIN_SERIAL : Nat := 0x012 * 0x100 + 0x0B
def GLZ_LIN_SERIAL_serial : Fld := { addr := GLZ_LIN_SERIAL, hi := 19, lo := 0 }
/-- Word address inside the register space, R243 of 07_glaze_error_bound.md. -/
def GLZ_ATT_BASE : Nat := 0x012 * 0x100 + 0x0C
def GLZ_ATT_BASE_base : Fld := { addr := GLZ_ATT_BASE, hi := 31, lo := 0 }
/-- Word address inside the register space, R243 of 07_glaze_error_bound.md. -/
def GLZ_ATT_COUNT : Nat := 0x012 * 0x100 + 0x0D
def GLZ_ATT_COUNT_count : Fld := { addr := GLZ_ATT_COUNT, hi := 20, lo := 0 }
/-- Word address inside the register space, R243 of 07_glaze_error_bound.md. -/
def GLZ_ATT_LAST : Nat := 0x012 * 0x100 + 0x0E
/-- Word address inside the register space, R243 of 07_glaze_error_bound.md. -/
def GLZ_ATT_SERIAL : Nat := 0x012 * 0x100 + 0x0F
def GLZ_ATT_SERIAL_serial : Fld := { addr := GLZ_ATT_SERIAL, hi := 31, lo := 0 }
/-- Word address inside the register space, R243 of 07_glaze_error_bound.md. -/
def GLZ_ADV_CFG : Nat := 0x012 * 0x100 + 0x10
def GLZ_ADV_CFG_ssm_opt : Fld := { addr := GLZ_ADV_CFG, hi := 33, lo := 33 }
def GLZ_ADV_CFG_hold_ql : Fld := { addr := GLZ_ADV_CFG, hi := 32, lo := 29 }
def GLZ_ADV_CFG_lost_stratum : Fld := { addr := GLZ_ADV_CFG, hi := 28, lo := 24 }
def GLZ_ADV_CFG_free_class : Fld := { addr := GLZ_ADV_CFG, hi := 23, lo := 16 }
def GLZ_ADV_CFG_lost_class : Fld := { addr := GLZ_ADV_CFG, hi := 15, lo := 8 }
def GLZ_ADV_CFG_hold_class : Fld := { addr := GLZ_ADV_CFG, hi := 7, lo := 0 }
/-- Word address inside the register space, R243 of 07_glaze_error_bound.md. -/
def GLZ_ADV : Nat := 0x012 * 0x100 + 0x11
def GLZ_ADV_ql_rank : Fld := { addr := GLZ_ADV, hi := 25, lo := 22 }
def GLZ_ADV_li : Fld := { addr := GLZ_ADV, hi := 21, lo := 20 }
def GLZ_ADV_stratum : Fld := { addr := GLZ_ADV, hi := 19, lo := 15 }
def GLZ_ADV_clock_class : Fld := { addr := GLZ_ADV, hi := 7, lo := 0 }
/-- Word address inside the register space, R243 of 07_glaze_error_bound.md. -/
def GLZ_ACCURACY : Nat := 0x012 * 0x100 + 0x12
def GLZ_ACCURACY_code : Fld := { addr := GLZ_ACCURACY, hi := 7, lo := 0 }
/-- Word address inside the register space, R243 of 07_glaze_error_bound.md. -/
def GLZ_TLV_ORG : Nat := 0x012 * 0x100 + 0x13
def GLZ_TLV_ORG_org : Fld := { addr := GLZ_TLV_ORG, hi := 23, lo := 0 }
/-- Word address inside the register space, R243 of 07_glaze_error_bound.md. -/
def GLZ_NTP_EF : Nat := 0x012 * 0x100 + 0x14
def GLZ_NTP_EF_en : Fld := { addr := GLZ_NTP_EF, hi := 16, lo := 16 }
def GLZ_NTP_EF_type : Fld := { addr := GLZ_NTP_EF, hi := 15, lo := 0 }
/-- Word address inside the register space, R243 of 07_glaze_error_bound.md. -/
def GLZ_EVENTS : Nat := 0x012 * 0x100 + 0x15
def GLZ_EVENTS_quality_fell : Fld := { addr := GLZ_EVENTS, hi := 4, lo := 4 }
def GLZ_EVENTS_unbounded : Fld := { addr := GLZ_EVENTS, hi := 3, lo := 3 }
def GLZ_EVENTS_att_unsigned : Fld := { addr := GLZ_EVENTS, hi := 2, lo := 2 }
def GLZ_EVENTS_att_signed : Fld := { addr := GLZ_EVENTS, hi := 1, lo := 1 }
def GLZ_EVENTS_lin_change : Fld := { addr := GLZ_EVENTS, hi := 0, lo := 0 }
/-- Word address inside the register space, R243 of 07_glaze_error_bound.md. -/
def GLZ_EVTk_VAL (k : Nat) : Nat := 0x012 * 0x100 + 0x18 + k
def GLZ_EVTk_VAL_term (k : Nat) : Fld := { addr := GLZ_EVTk_VAL k, hi := 39, lo := 0 }
/-- Word address inside the register space, R243 of 07_glaze_error_bound.md. -/
def GLZ_EVTk_LIFE (k : Nat) : Nat := 0x012 * 0x100 + 0x20 + k
def GLZ_EVTk_LIFE_life (k : Nat) : Fld := { addr := GLZ_EVTk_LIFE k, hi := 19, lo := 0 }
/-- Word address inside the register space, R243 of 07_glaze_error_bound.md. -/
def GLZ_EMITk (k : Nat) : Nat := 0x012 * 0x100 + 0x28 + k
def GLZ_EMITk_term (k : Nat) : Fld := { addr := GLZ_EMITk k, hi := 39, lo := 0 }
/-- Word address inside the register space, R243 of 07_glaze_error_bound.md. -/
def GLZ_Sn_MEAS (n : Nat) : Nat := 0x012 * 0x100 + 0x48 + n
def GLZ_Sn_MEAS_term (n : Nat) : Fld := { addr := GLZ_Sn_MEAS n, hi := 39, lo := 0 }
/-- Word address inside the register space, R243 of 07_glaze_error_bound.md. -/
def GLZ_Sn_ASYM (n : Nat) : Nat := 0x012 * 0x100 + 0x60 + n
def GLZ_Sn_ASYM_term (n : Nat) : Fld := { addr := GLZ_Sn_ASYM n, hi := 39, lo := 0 }
/-- Word address inside the register space, R243 of 07_glaze_error_bound.md. -/
def GLZ_Sn_CAL (n : Nat) : Nat := 0x012 * 0x100 + 0x78 + n
def GLZ_Sn_CAL_hops (n : Nat) : Fld := { addr := GLZ_Sn_CAL n, hi := 39, lo := 32 }
def GLZ_Sn_CAL_cal_id (n : Nat) : Fld := { addr := GLZ_Sn_CAL n, hi := 31, lo := 0 }
/-- Word address inside the register space, R243 of 07_glaze_error_bound.md. -/
def GLZ_Sn_UP_HI (n : Nat) : Nat := 0x012 * 0x100 + 0x90 + 2 * n
def GLZ_Sn_UP_HI_kind (n : Nat) : Fld := { addr := GLZ_Sn_UP_HI n, hi := 39, lo := 32 }
def GLZ_Sn_UP_HI_id_hi (n : Nat) : Fld := { addr := GLZ_Sn_UP_HI n, hi := 31, lo := 0 }
/-- Word address inside the register space, R243 of 07_glaze_error_bound.md. -/
def GLZ_Sn_UP_LO (n : Nat) : Nat := 0x012 * 0x100 + 0x91 + 2 * n
/-- Word address inside the register space, R269 of 08_varnish_synthesis_outputs.md. -/
def VARn_CTL (n : Nat) : Nat := (0x020 + n) * 0x100 + 0x00
def VARn_CTL_ref_div (n : Nat) : Fld := { addr := VARn_CTL n, hi := 4, lo := 3 }
def VARn_CTL_bm_en (n : Nat) : Fld := { addr := VARn_CTL n, hi := 1, lo := 1 }
def VARn_CTL_en (n : Nat) : Fld := { addr := VARn_CTL n, hi := 0, lo := 0 }
/-- Word address inside the register space, R269 of 08_varnish_synthesis_outputs.md. -/
def VARn_N_INT (n : Nat) : Nat := (0x020 + n) * 0x100 + 0x01
def VARn_N_INT_n_int (n : Nat) : Fld := { addr := VARn_N_INT n, hi := 7, lo := 0 }
/-- Word address inside the register space, R269 of 08_varnish_synthesis_outputs.md. -/
def VARn_N_NUM (n : Nat) : Nat := (0x020 + n) * 0x100 + 0x02
def VARn_N_NUM_n_num (n : Nat) : Fld := { addr := VARn_N_NUM n, hi := 31, lo := 0 }
/-- Word address inside the register space, R269 of 08_varnish_synthesis_outputs.md. -/
def VARn_N_DEN (n : Nat) : Nat := (0x020 + n) * 0x100 + 0x03
def VARn_N_DEN_n_den (n : Nat) : Fld := { addr := VARn_N_DEN n, hi := 31, lo := 0 }
/-- Word address inside the register space, R269 of 08_varnish_synthesis_outputs.md. -/
def VARn_GLIDE (n : Nat) : Nat := (0x020 + n) * 0x100 + 0x04
def VARn_GLIDE_target (n : Nat) : Fld := { addr := VARn_GLIDE n, hi := 31, lo := 0 }
/-- Word address inside the register space, R269 of 08_varnish_synthesis_outputs.md. -/
def VARn_GLIDE_NOW (n : Nat) : Nat := (0x020 + n) * 0x100 + 0x05
def VARn_GLIDE_NOW_g (n : Nat) : Fld := { addr := VARn_GLIDE_NOW n, hi := 31, lo := 0 }
/-- Word address inside the register space, R269 of 08_varnish_synthesis_outputs.md. -/
def VARn_LOCK (n : Nat) : Nat := (0x020 + n) * 0x100 + 0x06
def VARn_LOCK_lock_cnt (n : Nat) : Fld := { addr := VARn_LOCK n, hi := 31, lo := 16 }
def VARn_LOCK_lock_win (n : Nat) : Fld := { addr := VARn_LOCK n, hi := 15, lo := 0 }
/-- Word address inside the register space, R269 of 08_varnish_synthesis_outputs.md. -/
def VARn_UNLOCK (n : Nat) : Nat := (0x020 + n) * 0x100 + 0x07
def VARn_UNLOCK_unlock_cnt (n : Nat) : Fld := { addr := VARn_UNLOCK n, hi := 31, lo := 16 }
def VARn_UNLOCK_unlock_win (n : Nat) : Fld := { addr := VARn_UNLOCK n, hi := 15, lo := 0 }
/-- Word address inside the register space, R269 of 08_varnish_synthesis_outputs.md. -/
def VARn_PSTEP (n : Nat) : Nat := (0x020 + n) * 0x100 + 0x08
def VARn_PSTEP_pstep_rate (n : Nat) : Fld := { addr := VARn_PSTEP n, hi := 13, lo := 0 }
/-- Word address inside the register space, R269 of 08_varnish_synthesis_outputs.md. -/
def VARn_PHASE (n : Nat) : Nat := (0x020 + n) * 0x100 + 0x09
def VARn_PHASE_phase (n : Nat) : Fld := { addr := VARn_PHASE n, hi := 39, lo := 0 }
/-- Word address inside the register space, R269 of 08_varnish_synthesis_outputs.md. -/
def VARn_STEP_REM (n : Nat) : Nat := (0x020 + n) * 0x100 + 0x0A
def VARn_STEP_REM_rem (n : Nat) : Fld := { addr := VARn_STEP_REM n, hi := 39, lo := 0 }
/-- Word address inside the register space, R269 of 08_varnish_synthesis_outputs.md. -/
def VARn_STATUS (n : Nat) : Nat := (0x020 + n) * 0x100 + 0x0B
def VARn_STATUS_band (n : Nat) : Fld := { addr := VARn_STATUS n, hi := 21, lo := 16 }
def VARn_STATUS_bm_entry (n : Nat) : Fld := { addr := VARn_STATUS n, hi := 15, lo := 12 }
def VARn_STATUS_bm_hit (n : Nat) : Fld := { addr := VARn_STATUS n, hi := 11, lo := 11 }
def VARn_STATUS_stepping (n : Nat) : Fld := { addr := VARn_STATUS n, hi := 10, lo := 10 }
def VARn_STATUS_input_ok (n : Nat) : Fld := { addr := VARn_STATUS n, hi := 9, lo := 9 }
def VARn_STATUS_gated (n : Nat) : Fld := { addr := VARn_STATUS n, hi := 8, lo := 8 }
def VARn_STATUS_state (n : Nat) : Fld := { addr := VARn_STATUS n, hi := 2, lo := 0 }
/-- Word address inside the register space, R269 of 08_varnish_synthesis_outputs.md. -/
def VARn_ERR (n : Nat) : Nat := (0x020 + n) * 0x100 + 0x0C
def VARn_ERR_err (n : Nat) : Fld := { addr := VARn_ERR n, hi := 19, lo := 0 }
/-- Word address inside the register space, R269 of 08_varnish_synthesis_outputs.md. -/
def VARn_EVENTS (n : Nat) : Nat := (0x020 + n) * 0x100 + 0x0D
def VARn_EVENTS_cfg_ignored (n : Nat) : Fld := { addr := VARn_EVENTS n, hi := 8, lo := 8 }
def VARn_EVENTS_cmd_refused (n : Nat) : Fld := { addr := VARn_EVENTS n, hi := 7, lo := 7 }
def VARn_EVENTS_step_sat (n : Nat) : Fld := { addr := VARn_EVENTS n, hi := 6, lo := 6 }
def VARn_EVENTS_step_done (n : Nat) : Fld := { addr := VARn_EVENTS n, hi := 5, lo := 5 }
def VARn_EVENTS_glide_done (n : Nat) : Fld := { addr := VARn_EVENTS n, hi := 4, lo := 4 }
def VARn_EVENTS_bm_miss (n : Nat) : Fld := { addr := VARn_EVENTS n, hi := 3, lo := 3 }
def VARn_EVENTS_input_lost (n : Nat) : Fld := { addr := VARn_EVENTS n, hi := 2, lo := 2 }
def VARn_EVENTS_unlock (n : Nat) : Fld := { addr := VARn_EVENTS n, hi := 1, lo := 1 }
def VARn_EVENTS_lock (n : Nat) : Fld := { addr := VARn_EVENTS n, hi := 0, lo := 0 }
/-- Word address inside the register space, R269 of 08_varnish_synthesis_outputs.md. -/
def VARn_CMD (n : Nat) : Nat := (0x020 + n) * 0x100 + 0x0F
/-- Word address inside the register space, R269 of 08_varnish_synthesis_outputs.md. -/
def VARn_BM (n j : Nat) : Nat := (0x020 + n) * 0x100 + 0x10 + j
def VARn_BM_valid (n j : Nat) : Fld := { addr := VARn_BM n j, hi := 39, lo := 39 }
def VARn_BM_band (n j : Nat) : Fld := { addr := VARn_BM n j, hi := 38, lo := 33 }
def VARn_BM_temp (n j : Nat) : Fld := { addr := VARn_BM n j, hi := 32, lo := 25 }
def VARn_BM_key (n j : Nat) : Fld := { addr := VARn_BM n j, hi := 24, lo := 0 }
/-- Word address inside the register space, R270 of 08_varnish_synthesis_outputs.md. -/
def OUTk_CFG (k : Nat) : Nat := (0x028 + k) * 0x100 + 0x00
def OUTk_CFG_safe (k : Nat) : Fld := { addr := OUTk_CFG k, hi := 21, lo := 20 }
def OUTk_CFG_invert (k : Nat) : Fld := { addr := OUTk_CFG k, hi := 14, lo := 14 }
def OUTk_CFG_mode (k : Nat) : Fld := { addr := OUTk_CFG k, hi := 13, lo := 12 }
def OUTk_CFG_trim (k : Nat) : Fld := { addr := OUTk_CFG k, hi := 10, lo := 0 }
/-- Word address inside the register space, R270 of 08_varnish_synthesis_outputs.md. -/
def OUTk_DIV (k : Nat) : Nat := (0x028 + k) * 0x100 + 0x01
def OUTk_DIV_div (k : Nat) : Fld := { addr := OUTk_DIV k, hi := 23, lo := 0 }
/-- Word address inside the register space, R270 of 08_varnish_synthesis_outputs.md. -/
def OUTk_STATUS (k : Nat) : Nat := (0x028 + k) * 0x100 + 0x02
def OUTk_STATUS_safe_forced (k : Nat) : Fld := { addr := OUTk_STATUS k, hi := 3, lo := 3 }
def OUTk_STATUS_gated (k : Nat) : Fld := { addr := OUTk_STATUS k, hi := 2, lo := 2 }
def OUTk_STATUS_aligned (k : Nat) : Fld := { addr := OUTk_STATUS k, hi := 1, lo := 1 }
def OUTk_STATUS_driving (k : Nat) : Fld := { addr := OUTk_STATUS k, hi := 0, lo := 0 }
/-- Word address inside the register space, R270 of 08_varnish_synthesis_outputs.md. -/
def OUTk_EVENTS (k : Nat) : Nat := (0x028 + k) * 0x100 + 0x03
def OUTk_EVENTS_aligned_lost (k : Nat) : Fld := { addr := OUTk_EVENTS k, hi := 2, lo := 2 }
def OUTk_EVENTS_gate (k : Nat) : Fld := { addr := OUTk_EVENTS k, hi := 1, lo := 1 }
def OUTk_EVENTS_cfg_ignored (k : Nat) : Fld := { addr := OUTk_EVENTS k, hi := 0, lo := 0 }
/-- Word address inside the register space, R270 of 08_varnish_synthesis_outputs.md. -/
def OUTk_EDGES (k : Nat) : Nat := (0x028 + k) * 0x100 + 0x05
def OUTk_EDGES_count (k : Nat) : Fld := { addr := OUTk_EDGES k, hi := 39, lo := 0 }
/-- Word address inside the register space, R292 of 09_tdc_measurement.md. -/
def TDCn_CFG (n : Nat) : Nat := (0x040 + n) * 0x100 + 0x00
def TDCn_CFG_fifo (n : Nat) : Fld := { addr := TDCn_CFG n, hi := 27, lo := 20 }
def TDCn_CFG_route_fifo (n : Nat) : Fld := { addr := TDCn_CFG n, hi := 19, lo := 19 }
def TDCn_CFG_route_pal (n : Nat) : Fld := { addr := TDCn_CFG n, hi := 18, lo := 18 }
def TDCn_CFG_either (n : Nat) : Fld := { addr := TDCn_CFG n, hi := 17, lo := 17 }
def TDCn_CFG_edge (n : Nat) : Fld := { addr := TDCn_CFG n, hi := 16, lo := 15 }
def TDCn_CFG_start_edge (n : Nat) : Fld := { addr := TDCn_CFG n, hi := 14, lo := 13 }
def TDCn_CFG_mode (n : Nat) : Fld := { addr := TDCn_CFG n, hi := 12, lo := 11 }
def TDCn_CFG_en (n : Nat) : Fld := { addr := TDCn_CFG n, hi := 0, lo := 0 }
/-- Word address inside the register space, R292 of 09_tdc_measurement.md. -/
def TDCn_IN (n : Nat) : Nat := (0x040 + n) * 0x100 + 0x01
/-- Word address inside the register space, R292 of 09_tdc_measurement.md. -/
def TDCn_HOLDOFF (n : Nat) : Nat := (0x040 + n) * 0x100 + 0x02
def TDCn_HOLDOFF_holdoff (n : Nat) : Fld := { addr := TDCn_HOLDOFF n, hi := 19, lo := 0 }
/-- Word address inside the register space, R292 of 09_tdc_measurement.md. -/
def TDCn_PAIR (n : Nat) : Nat := (0x040 + n) * 0x100 + 0x03
def TDCn_PAIR_partner (n : Nat) : Fld := { addr := TDCn_PAIR n, hi := 32, lo := 29 }
def TDCn_PAIR_window (n : Nat) : Fld := { addr := TDCn_PAIR n, hi := 28, lo := 0 }
/-- Word address inside the register space, R292 of 09_tdc_measurement.md. -/
def TDCn_GATE (n : Nat) : Nat := (0x040 + n) * 0x100 + 0x04
def TDCn_GATE_gate_ms (n : Nat) : Fld := { addr := TDCn_GATE n, hi := 8, lo := 0 }
/-- Word address inside the register space, R292 of 09_tdc_measurement.md. -/
def TDCn_SKEW (n : Nat) : Nat := (0x040 + n) * 0x100 + 0x05
def TDCn_SKEW_skew (n : Nat) : Fld := { addr := TDCn_SKEW n, hi := 39, lo := 0 }
/-- Word address inside the register space, R292 of 09_tdc_measurement.md. -/
def TDCn_OFS (n : Nat) : Nat := (0x040 + n) * 0x100 + 0x06
def TDCn_OFS_ofs (n : Nat) : Fld := { addr := TDCn_OFS n, hi := 39, lo := 0 }
/-- Word address inside the register space, R292 of 09_tdc_measurement.md. -/
def TDCn_CAL (n : Nat) : Nat := (0x040 + n) * 0x100 + 0x07
def TDCn_CAL_temp_dk (n : Nat) : Fld := { addr := TDCn_CAL n, hi := 23, lo := 16 }
def TDCn_CAL_period_s (n : Nat) : Fld := { addr := TDCn_CAL n, hi := 15, lo := 4 }
def TDCn_CAL_hits (n : Nat) : Fld := { addr := TDCn_CAL n, hi := 3, lo := 2 }
/-- Word address inside the register space, R292 of 09_tdc_measurement.md. -/
def TDCn_STATUS (n : Nat) : Nat := (0x040 + n) * 0x100 + 0x08
def TDCn_STATUS_qlevel (n : Nat) : Fld := { addr := TDCn_STATUS n, hi := 15, lo := 10 }
def TDCn_STATUS_open (n : Nat) : Fld := { addr := TDCn_STATUS n, hi := 9, lo := 7 }
def TDCn_STATUS_line (n : Nat) : Fld := { addr := TDCn_STATUS n, hi := 6, lo := 6 }
def TDCn_STATUS_calibrating (n : Nat) : Fld := { addr := TDCn_STATUS n, hi := 5, lo := 5 }
def TDCn_STATUS_cal_valid (n : Nat) : Fld := { addr := TDCn_STATUS n, hi := 4, lo := 4 }
def TDCn_STATUS_dll_lock (n : Nat) : Fld := { addr := TDCn_STATUS n, hi := 3, lo := 3 }
def TDCn_STATUS_input (n : Nat) : Fld := { addr := TDCn_STATUS n, hi := 2, lo := 2 }
def TDCn_STATUS_active (n : Nat) : Fld := { addr := TDCn_STATUS n, hi := 0, lo := 0 }
/-- Word address inside the register space, R292 of 09_tdc_measurement.md. -/
def TDCn_LAST_HI (n : Nat) : Nat := (0x040 + n) * 0x100 + 0x09
/-- Word address inside the register space, R292 of 09_tdc_measurement.md. -/
def TDCn_LAST_LO (n : Nat) : Nat := (0x040 + n) * 0x100 + 0x0A
/-- Word address inside the register space, R292 of 09_tdc_measurement.md. -/
def TDCn_EVENTS (n : Nat) : Nat := (0x040 + n) * 0x100 + 0x0B
def TDCn_EVENTS_cfg_ignored (n : Nat) : Fld := { addr := TDCn_EVENTS n, hi := 6, lo := 6 }
def TDCn_EVENTS_cal_lost (n : Nat) : Fld := { addr := TDCn_EVENTS n, hi := 5, lo := 5 }
def TDCn_EVENTS_cal_done (n : Nat) : Fld := { addr := TDCn_EVENTS n, hi := 4, lo := 4 }
def TDCn_EVENTS_dropped (n : Nat) : Fld := { addr := TDCn_EVENTS n, hi := 3, lo := 3 }
def TDCn_EVENTS_orphan (n : Nat) : Fld := { addr := TDCn_EVENTS n, hi := 2, lo := 2 }
def TDCn_EVENTS_unmatched (n : Nat) : Fld := { addr := TDCn_EVENTS n, hi := 1, lo := 1 }
def TDCn_EVENTS_missed (n : Nat) : Fld := { addr := TDCn_EVENTS n, hi := 0, lo := 0 }
/-- Word address inside the register space, R292 of 09_tdc_measurement.md. -/
def TDCn_CNT_RECORDS (n : Nat) : Nat := (0x040 + n) * 0x100 + 0x0D
def TDCn_CNT_RECORDS_count (n : Nat) : Fld := { addr := TDCn_CNT_RECORDS n, hi := 31, lo := 0 }
/-- Word address inside the register space, R292 of 09_tdc_measurement.md. -/
def TDCn_CNT_MISSED (n : Nat) : Nat := (0x040 + n) * 0x100 + 0x0E
def TDCn_CNT_MISSED_count (n : Nat) : Fld := { addr := TDCn_CNT_MISSED n, hi := 31, lo := 0 }
/-- Word address inside the register space, R292 of 09_tdc_measurement.md. -/
def TDCn_CNT_HELD (n : Nat) : Nat := (0x040 + n) * 0x100 + 0x0F
def TDCn_CNT_HELD_count (n : Nat) : Fld := { addr := TDCn_CNT_HELD n, hi := 31, lo := 0 }
/-- Word address inside the register space, R292 of 09_tdc_measurement.md. -/
def TDCn_CNT_ORPHAN (n : Nat) : Nat := (0x040 + n) * 0x100 + 0x10
def TDCn_CNT_ORPHAN_count (n : Nat) : Fld := { addr := TDCn_CNT_ORPHAN n, hi := 31, lo := 0 }
/-- Word address inside the register space, R292 of 09_tdc_measurement.md. -/
def TDCn_CNT_UNMATCHED (n : Nat) : Nat := (0x040 + n) * 0x100 + 0x11
def TDCn_CNT_UNMATCHED_count (n : Nat) : Fld := { addr := TDCn_CNT_UNMATCHED n, hi := 31, lo := 0 }
/-- Word address inside the register space, R292 of 09_tdc_measurement.md. -/
def TDCn_CNT_DROPPED (n : Nat) : Nat := (0x040 + n) * 0x100 + 0x12
def TDCn_CNT_DROPPED_count (n : Nat) : Fld := { addr := TDCn_CNT_DROPPED n, hi := 31, lo := 0 }
/-- Word address inside the register space, R292 of 09_tdc_measurement.md. -/
def TDCn_CDT_IDX (n : Nat) : Nat := (0x040 + n) * 0x100 + 0x13
def TDCn_CDT_IDX_idx (n : Nat) : Fld := { addr := TDCn_CDT_IDX n, hi := 10, lo := 0 }
/-- Word address inside the register space, R292 of 09_tdc_measurement.md. -/
def TDCn_CDT_DATA (n : Nat) : Nat := (0x040 + n) * 0x100 + 0x14
/-- Word address inside the register space, R292 of 09_tdc_measurement.md. -/
def TDCn_INL (n j : Nat) : Nat := (0x040 + n) * 0x100 + 0x20 + j
def TDCn_INL_corr (n j : Nat) : Fld := { addr := TDCn_INL n j, hi := 11, lo := 0 }
/-- Word address inside the register space, R318 of 10_gnss_baseband.md. -/
def GNS_CTL : Nat := 0x050 * 0x100 + 0x00
def GNS_CTL_fe_en : Fld := { addr := GNS_CTL, hi := 8, lo := 8 }
def GNS_CTL_str_en : Fld := { addr := GNS_CTL, hi := 7, lo := 4 }
def GNS_CTL_bank_en : Fld := { addr := GNS_CTL, hi := 3, lo := 3 }
def GNS_CTL_bank_mode : Fld := { addr := GNS_CTL, hi := 2, lo := 1 }
def GNS_CTL_en : Fld := { addr := GNS_CTL, hi := 0, lo := 0 }
/-- Word address inside the register space, R318 of 10_gnss_baseband.md. -/
def GNS_STATUS : Nat := 0x050 * 0x100 + 0x01
def GNS_STATUS_tracked : Fld := { addr := GNS_STATUS, hi := 19, lo := 12 }
def GNS_STATUS_sweeping : Fld := { addr := GNS_STATUS, hi := 11, lo := 11 }
def GNS_STATUS_str_ok : Fld := { addr := GNS_STATUS, hi := 10, lo := 7 }
def GNS_STATUS_dclk_ok : Fld := { addr := GNS_STATUS, hi := 6, lo := 6 }
/-- Word address inside the register space, R318 of 10_gnss_baseband.md. -/
def GNS_FIFO : Nat := 0x050 * 0x100 + 0x02
def GNS_FIFO_peak_fifo : Fld := { addr := GNS_FIFO, hi := 23, lo := 16 }
def GNS_FIFO_sym_fifo : Fld := { addr := GNS_FIFO, hi := 15, lo := 8 }
def GNS_FIFO_meas_fifo : Fld := { addr := GNS_FIFO, hi := 7, lo := 0 }
/-- Word address inside the register space, R318 of 10_gnss_baseband.md. -/
def GNS_EPOCH : Nat := 0x050 * 0x100 + 0x03
def GNS_EPOCH_epoch_ms : Fld := { addr := GNS_EPOCH, hi := 9, lo := 0 }
/-- Word address inside the register space, R318 of 10_gnss_baseband.md. -/
def GNS_BANK_CFG : Nat := 0x050 * 0x100 + 0x04
def GNS_BANK_CFG_noncoh : Fld := { addr := GNS_BANK_CFG, hi := 23, lo := 16 }
def GNS_BANK_CFG_bins : Fld := { addr := GNS_BANK_CFG, hi := 15, lo := 8 }
def GNS_BANK_CFG_bin_hz : Fld := { addr := GNS_BANK_CFG, hi := 7, lo := 0 }
/-- Word address inside the register space, R318 of 10_gnss_baseband.md. -/
def GNS_BANK_LIST_IDX : Nat := 0x050 * 0x100 + 0x05
def GNS_BANK_LIST_IDX_idx : Fld := { addr := GNS_BANK_LIST_IDX, hi := 7, lo := 0 }
/-- Word address inside the register space, R318 of 10_gnss_baseband.md. -/
def GNS_BANK_LIST : Nat := 0x050 * 0x100 + 0x06
/-- Word address inside the register space, R318 of 10_gnss_baseband.md. -/
def GNS_BANK_AID : Nat := 0x050 * 0x100 + 0x07
/-- Word address inside the register space, R318 of 10_gnss_baseband.md. -/
def GNS_BANK_SWEEPS : Nat := 0x050 * 0x100 + 0x08
def GNS_BANK_SWEEPS_sweeps : Fld := { addr := GNS_BANK_SWEEPS, hi := 31, lo := 0 }
/-- Word address inside the register space, R318 of 10_gnss_baseband.md. -/
def GNS_BANK_LAST : Nat := 0x050 * 0x100 + 0x09
def GNS_BANK_LAST_ms : Fld := { addr := GNS_BANK_LAST, hi := 23, lo := 0 }
/-- Word address inside the register space, R318 of 10_gnss_baseband.md. -/
def GNS_BANK_THR : Nat := 0x050 * 0x100 + 0x0A
def GNS_BANK_THR_thr : Fld := { addr := GNS_BANK_THR, hi := 7, lo := 0 }
/-- Word address inside the register space, R318 of 10_gnss_baseband.md. -/
def GNS_CH_IDX : Nat := 0x050 * 0x100 + 0x10
def GNS_CH_IDX_pair : Fld := { addr := GNS_CH_IDX, hi := 6, lo := 0 }
/-- Word address inside the register space, R318 of 10_gnss_baseband.md. -/
def GNS_CH_CTL : Nat := 0x050 * 0x100 + 0x11
/-- Word address inside the register space, R318 of 10_gnss_baseband.md. -/
def GNS_CH_AID : Nat := 0x050 * 0x100 + 0x12
/-- Word address inside the register space, R318 of 10_gnss_baseband.md. -/
def GNS_CH_STATUS : Nat := 0x050 * 0x100 + 0x13
/-- Word address inside the register space, R318 of 10_gnss_baseband.md. -/
def GNS_KEEP_ADDR : Nat := 0x050 * 0x100 + 0x18
def GNS_KEEP_ADDR_addr : Fld := { addr := GNS_KEEP_ADDR, hi := 13, lo := 0 }
/-- Word address inside the register space, R318 of 10_gnss_baseband.md. -/
def GNS_KEEP_DATA : Nat := 0x050 * 0x100 + 0x19
/-- Word address inside the register space, R318 of 10_gnss_baseband.md. -/
def GNS_EVENTS : Nat := 0x050 * 0x100 + 0x1A
def GNS_EVENTS_str_fault : Fld := { addr := GNS_EVENTS, hi := 4, lo := 4 }
def GNS_EVENTS_sweep_done : Fld := { addr := GNS_EVENTS, hi := 3, lo := 3 }
def GNS_EVENTS_ch_lost : Fld := { addr := GNS_EVENTS, hi := 2, lo := 2 }
def GNS_EVENTS_ch_lock : Fld := { addr := GNS_EVENTS, hi := 1, lo := 1 }
def GNS_EVENTS_overflow : Fld := { addr := GNS_EVENTS, hi := 0, lo := 0 }
/-- Word address inside the register space, R318 of 10_gnss_baseband.md. -/
def GNS_CNT_DROPPED : Nat := 0x050 * 0x100 + 0x1C
def GNS_CNT_DROPPED_count : Fld := { addr := GNS_CNT_DROPPED, hi := 31, lo := 0 }
/-- Word address inside the register space, R319 of 10_gnss_baseband.md. -/
def GNS_POS_X : Nat := 0x050 * 0x100 + 0x40
def GNS_POS_X_val : Fld := { addr := GNS_POS_X, hi := 39, lo := 0 }
/-- Word address inside the register space, R319 of 10_gnss_baseband.md. -/
def GNS_POS_Y : Nat := 0x050 * 0x100 + 0x41
def GNS_POS_Y_val : Fld := { addr := GNS_POS_Y, hi := 39, lo := 0 }
/-- Word address inside the register space, R319 of 10_gnss_baseband.md. -/
def GNS_POS_Z : Nat := 0x050 * 0x100 + 0x42
def GNS_POS_Z_val : Fld := { addr := GNS_POS_Z, hi := 39, lo := 0 }
/-- Word address inside the register space, R319 of 10_gnss_baseband.md. -/
def GNS_POS_CFG : Nat := 0x050 * 0x100 + 0x43
def GNS_POS_CFG_pos_valid : Fld := { addr := GNS_POS_CFG, hi := 32, lo := 32 }
def GNS_POS_CFG_pos_unc : Fld := { addr := GNS_POS_CFG, hi := 31, lo := 0 }
/-- Word address inside the register space, R319 of 10_gnss_baseband.md. -/
def GNS_SURVEY : Nat := 0x050 * 0x100 + 0x44
def GNS_SURVEY_survey_s : Fld := { addr := GNS_SURVEY, hi := 19, lo := 0 }
/-- Word address inside the register space, R319 of 10_gnss_baseband.md. -/
def GNS_MASKS : Nat := 0x050 * 0x100 + 0x45
def GNS_MASKS_cn0 : Fld := { addr := GNS_MASKS, hi := 7, lo := 0 }
/-- Word address inside the register space, R319 of 10_gnss_baseband.md. -/
def GNS_SYS : Nat := 0x050 * 0x100 + 0x46
def GNS_SYS_l5 : Fld := { addr := GNS_SYS, hi := 5, lo := 3 }
def GNS_SYS_sys : Fld := { addr := GNS_SYS, hi := 2, lo := 0 }
/-- Word address inside the register space, R319 of 10_gnss_baseband.md. -/
def GNS_SENT : Nat := 0x050 * 0x100 + 0x47
def GNS_SENT_awake_s : Fld := { addr := GNS_SENT, hi := 39, lo := 20 }
def GNS_SENT_period_s : Fld := { addr := GNS_SENT, hi := 19, lo := 0 }
/-- Word address inside the register space, R319 of 10_gnss_baseband.md. -/
def GNS_SPOOF : Nat := 0x050 * 0x100 + 0x48
def GNS_SPOOF_peak_ratio : Fld := { addr := GNS_SPOOF, hi := 23, lo := 16 }
def GNS_SPOOF_doa_spread : Fld := { addr := GNS_SPOOF, hi := 15, lo := 8 }
def GNS_SPOOF_min_doa : Fld := { addr := GNS_SPOOF, hi := 7, lo := 0 }
/-- Word address inside the register space, R319 of 10_gnss_baseband.md. -/
def GNS_SPOOF_HOLD : Nat := 0x050 * 0x100 + 0x49
def GNS_SPOOF_HOLD_hold_s : Fld := { addr := GNS_SPOOF_HOLD, hi := 19, lo := 0 }
/-- Word address inside the register space, R319 of 10_gnss_baseband.md. -/
def GNS_BASELINE : Nat := 0x050 * 0x100 + 0x4A
def GNS_BASELINE_base_mm : Fld := { addr := GNS_BASELINE, hi := 13, lo := 0 }
/-- Word address inside the register space, R319 of 10_gnss_baseband.md. -/
def GNS_NAV_STATUS : Nat := 0x050 * 0x100 + 0x4B
def GNS_NAV_STATUS_test : Fld := { addr := GNS_NAV_STATUS, hi := 19, lo := 19 }
def GNS_NAV_STATUS_asleep : Fld := { addr := GNS_NAV_STATUS, hi := 18, lo := 18 }
def GNS_NAV_STATUS_surveying : Fld := { addr := GNS_NAV_STATUS, hi := 17, lo := 17 }
def GNS_NAV_STATUS_doa_alarm : Fld := { addr := GNS_NAV_STATUS, hi := 16, lo := 16 }
def GNS_NAV_STATUS_peak_alarm : Fld := { addr := GNS_NAV_STATUS, hi := 15, lo := 15 }
def GNS_NAV_STATUS_used : Fld := { addr := GNS_NAV_STATUS, hi := 14, lo := 8 }
def GNS_NAV_STATUS_fix : Fld := { addr := GNS_NAV_STATUS, hi := 1, lo := 0 }
/-- Word address inside the register space, R320 of 10_gnss_baseband.md. -/
def GSTm_CFG (m : Nat) : Nat := (0x051 + m) * 0x100 + 0x00
/-- Word address inside the register space, R320 of 10_gnss_baseband.md. -/
def GSTm_IF (m : Nat) : Nat := (0x051 + m) * 0x100 + 0x01
/-- Word address inside the register space, R320 of 10_gnss_baseband.md. -/
def GSTm_DELAY (m : Nat) : Nat := (0x051 + m) * 0x100 + 0x02
/-- Word address inside the register space, R320 of 10_gnss_baseband.md. -/
def GSTm_STATUS (m : Nat) : Nat := (0x051 + m) * 0x100 + 0x03
def GSTm_STATUS_sat (m : Nat) : Fld := { addr := GSTm_STATUS m, hi := 23, lo := 16 }
def GSTm_STATUS_rms (m : Nat) : Fld := { addr := GSTm_STATUS m, hi := 15, lo := 8 }
def GSTm_STATUS_ok (m : Nat) : Fld := { addr := GSTm_STATUS m, hi := 0, lo := 0 }
/-- Word address inside the register space, R320 of 10_gnss_baseband.md. -/
def GSTm_CNT_GLITCH (m : Nat) : Nat := (0x051 + m) * 0x100 + 0x04
def GSTm_CNT_GLITCH_count (m : Nat) : Fld := { addr := GSTm_CNT_GLITCH m, hi := 31, lo := 0 }
/-- Word address inside the register space, R355 of 11_brush_packet_service.md. -/
def LPp_CFG (p : Nat) : Nat := (0x080 + p) * 0x100 + 0x00
def LPp_CFG_synce_lane (p : Nat) : Fld := { addr := LPp_CFG p, hi := 11, lo := 10 }
def LPp_CFG_sub_en (p : Nat) : Fld := { addr := LPp_CFG p, hi := 7, lo := 4 }
def LPp_CFG_mode (p : Nat) : Fld := { addr := LPp_CFG p, hi := 3, lo := 2 }
def LPp_CFG_en (p : Nat) : Fld := { addr := LPp_CFG p, hi := 0, lo := 0 }
/-- Word address inside the register space, R355 of 11_brush_packet_service.md. -/
def LPp_STATUS (p : Nat) : Nat := (0x080 + p) * 0x100 + 0x01
def LPp_STATUS_tsq_level (p : Nat) : Fld := { addr := LPp_STATUS p, hi := 18, lo := 12 }
def LPp_STATUS_link (p : Nat) : Fld := { addr := LPp_STATUS p, hi := 11, lo := 8 }
def LPp_STATUS_rx_lock (p : Nat) : Fld := { addr := LPp_STATUS p, hi := 7, lo := 4 }
def LPp_STATUS_cal_valid (p : Nat) : Fld := { addr := LPp_STATUS p, hi := 2, lo := 2 }
/-- Word address inside the register space, R355 of 11_brush_packet_service.md. -/
def LPp_TX_OFS (p : Nat) : Nat := (0x080 + p) * 0x100 + 0x02
def LPp_TX_OFS_val (p : Nat) : Fld := { addr := LPp_TX_OFS p, hi := 39, lo := 0 }
/-- Word address inside the register space, R355 of 11_brush_packet_service.md. -/
def LPp_RX_OFS (p : Nat) : Nat := (0x080 + p) * 0x100 + 0x03
def LPp_RX_OFS_val (p : Nat) : Fld := { addr := LPp_RX_OFS p, hi := 39, lo := 0 }
/-- Word address inside the register space, R355 of 11_brush_packet_service.md. -/
def LPp_SKEW (p j : Nat) : Nat := (0x080 + p) * 0x100 + 0x04 + j
def LPp_SKEW_skew (p j : Nat) : Fld := { addr := LPp_SKEW p j, hi := 19, lo := 0 }
/-- Word address inside the register space, R355 of 11_brush_packet_service.md. -/
def LPp_RX_AGE (p : Nat) : Nat := (0x080 + p) * 0x100 + 0x08
def LPp_RX_AGE_age_ms (p : Nat) : Fld := { addr := LPp_RX_AGE p, hi := 9, lo := 0 }
/-- Word address inside the register space, R355 of 11_brush_packet_service.md. -/
def LPp_TSQ_ID (p : Nat) : Nat := (0x080 + p) * 0x100 + 0x09
/-- Word address inside the register space, R355 of 11_brush_packet_service.md. -/
def LPp_TSQ_STAMP (p : Nat) : Nat := (0x080 + p) * 0x100 + 0x0A
/-- Word address inside the register space, R355 of 11_brush_packet_service.md. -/
def LPp_EVENTS (p : Nat) : Nat := (0x080 + p) * 0x100 + 0x0B
def LPp_EVENTS_cfg_ignored (p : Nat) : Fld := { addr := LPp_EVENTS p, hi := 6, lo := 6 }
def LPp_EVENTS_tsq_aged (p : Nat) : Fld := { addr := LPp_EVENTS p, hi := 5, lo := 5 }
def LPp_EVENTS_tsq_drop (p : Nat) : Fld := { addr := LPp_EVENTS p, hi := 4, lo := 4 }
def LPp_EVENTS_rx_aged (p : Nat) : Fld := { addr := LPp_EVENTS p, hi := 3, lo := 3 }
def LPp_EVENTS_hold_missed (p : Nat) : Fld := { addr := LPp_EVENTS p, hi := 2, lo := 2 }
def LPp_EVENTS_stale_bound (p : Nat) : Fld := { addr := LPp_EVENTS p, hi := 1, lo := 1 }
def LPp_EVENTS_link_change (p : Nat) : Fld := { addr := LPp_EVENTS p, hi := 0, lo := 0 }
/-- Word address inside the register space, R355 of 11_brush_packet_service.md. -/
def LPp_CNT_RX (p : Nat) : Nat := (0x080 + p) * 0x100 + 0x0D
def LPp_CNT_RX_count (p : Nat) : Fld := { addr := LPp_CNT_RX p, hi := 31, lo := 0 }
/-- Word address inside the register space, R355 of 11_brush_packet_service.md. -/
def LPp_CNT_TX (p : Nat) : Nat := (0x080 + p) * 0x100 + 0x0E
def LPp_CNT_TX_count (p : Nat) : Fld := { addr := LPp_CNT_TX p, hi := 31, lo := 0 }
/-- Word address inside the register space, R355 of 11_brush_packet_service.md. -/
def LPp_CNT_FCS (p : Nat) : Nat := (0x080 + p) * 0x100 + 0x0F
def LPp_CNT_FCS_count (p : Nat) : Fld := { addr := LPp_CNT_FCS p, hi := 31, lo := 0 }
/-- Word address inside the register space, R355 of 11_brush_packet_service.md. -/
def LPp_CNT_RX_AGED (p : Nat) : Nat := (0x080 + p) * 0x100 + 0x10
def LPp_CNT_RX_AGED_count (p : Nat) : Fld := { addr := LPp_CNT_RX_AGED p, hi := 31, lo := 0 }
/-- Word address inside the register space, R355 of 11_brush_packet_service.md. -/
def LPp_CNT_RX_NOBUF (p : Nat) : Nat := (0x080 + p) * 0x100 + 0x11
def LPp_CNT_RX_NOBUF_count (p : Nat) : Fld := { addr := LPp_CNT_RX_NOBUF p, hi := 31, lo := 0 }
/-- Word address inside the register space, R355 of 11_brush_packet_service.md. -/
def LPp_CNT_RX_DISCARD (p : Nat) : Nat := (0x080 + p) * 0x100 + 0x12
def LPp_CNT_RX_DISCARD_count (p : Nat) : Fld := { addr := LPp_CNT_RX_DISCARD p, hi := 31, lo := 0 }
/-- Word address inside the register space, R355 of 11_brush_packet_service.md. -/
def LPp_CNT_TSQ_DROP (p : Nat) : Nat := (0x080 + p) * 0x100 + 0x13
def LPp_CNT_TSQ_DROP_count (p : Nat) : Fld := { addr := LPp_CNT_TSQ_DROP p, hi := 31, lo := 0 }
/-- Word address inside the register space, R355 of 11_brush_packet_service.md. -/
def LPp_CNT_TSQ_AGED (p : Nat) : Nat := (0x080 + p) * 0x100 + 0x14
def LPp_CNT_TSQ_AGED_count (p : Nat) : Fld := { addr := LPp_CNT_TSQ_AGED p, hi := 31, lo := 0 }
/-- Word address inside the register space, R355 of 11_brush_packet_service.md. -/
def LPp_CNT_HOLD_MISSED (p : Nat) : Nat := (0x080 + p) * 0x100 + 0x15
def LPp_CNT_HOLD_MISSED_count (p : Nat) : Fld := { addr := LPp_CNT_HOLD_MISSED p, hi := 31, lo := 0 }
/-- Word address inside the register space, R355 of 11_brush_packet_service.md. -/
def LPp_CNT_STALE (p : Nat) : Nat := (0x080 + p) * 0x100 + 0x16
def LPp_CNT_STALE_count (p : Nat) : Fld := { addr := LPp_CNT_STALE p, hi := 31, lo := 0 }
/-- Word address inside the register space, R356 of 11_brush_packet_service.md. -/
def BRGg_CTL (g : Nat) : Nat := (0x088 + g) * 0x100 + 0x80
def BRGg_CTL_rx_en (g : Nat) : Fld := { addr := BRGg_CTL g, hi := 0, lo := 0 }
/-- Word address inside the register space, R356 of 11_brush_packet_service.md. -/
def BRGg_RX_FIFO0 (g : Nat) : Nat := (0x088 + g) * 0x100 + 0x81
/-- Word address inside the register space, R356 of 11_brush_packet_service.md. -/
def BRGg_RX_FIFO1 (g : Nat) : Nat := (0x088 + g) * 0x100 + 0x82
def BRGg_RX_FIFO1_class5 (g : Nat) : Fld := { addr := BRGg_RX_FIFO1 g, hi := 7, lo := 0 }
/-- Word address inside the register space, R356 of 11_brush_packet_service.md. -/
def BRGg_AUX_FIFO (g : Nat) : Nat := (0x088 + g) * 0x100 + 0x83
def BRGg_AUX_FIFO_host_tx (g : Nat) : Fld := { addr := BRGg_AUX_FIFO g, hi := 39, lo := 32 }
def BRGg_AUX_FIFO_host_free (g : Nat) : Fld := { addr := BRGg_AUX_FIFO g, hi := 31, lo := 24 }
def BRGg_AUX_FIFO_host_rx (g : Nat) : Fld := { addr := BRGg_AUX_FIFO g, hi := 23, lo := 16 }
def BRGg_AUX_FIFO_txdone (g : Nat) : Fld := { addr := BRGg_AUX_FIFO g, hi := 15, lo := 8 }
def BRGg_AUX_FIFO_free (g : Nat) : Fld := { addr := BRGg_AUX_FIFO g, hi := 7, lo := 0 }
/-- Word address inside the register space, R356 of 11_brush_packet_service.md. -/
def BRGg_RX_CFG (g : Nat) : Nat := (0x088 + g) * 0x100 + 0x84
def BRGg_RX_CFG_buf_bytes (g : Nat) : Fld := { addr := BRGg_RX_CFG g, hi := 13, lo := 0 }
/-- Word address inside the register space, R356 of 11_brush_packet_service.md. -/
def BRGg_GEN (g : Nat) : Nat := (0x088 + g) * 0x100 + 0x85
def BRGg_GEN_gen (g : Nat) : Fld := { addr := BRGg_GEN g, hi := 7, lo := 0 }
/-- Word address inside the register space, R356 of 11_brush_packet_service.md. -/
def BRGg_TIME_HI (g : Nat) : Nat := (0x088 + g) * 0x100 + 0x86
/-- Word address inside the register space, R356 of 11_brush_packet_service.md. -/
def BRGg_BMAX (g : Nat) : Nat := (0x088 + g) * 0x100 + 0x88
def BRGg_BMAX_b (g : Nat) : Fld := { addr := BRGg_BMAX g, hi := 39, lo := 0 }
/-- Word address inside the register space, R356 of 11_brush_packet_service.md. -/
def BRGg_BSEQ (g : Nat) : Nat := (0x088 + g) * 0x100 + 0x89
def BRGg_BSEQ_bseq (g : Nat) : Fld := { addr := BRGg_BSEQ g, hi := 7, lo := 0 }
/-- Word address inside the register space, R356 of 11_brush_packet_service.md. -/
def BRGg_SC_HITS (g : Nat) : Nat := (0x088 + g) * 0x100 + 0x8A
def BRGg_SC_HITS_count (g : Nat) : Fld := { addr := BRGg_SC_HITS g, hi := 31, lo := 0 }
/-- Word address inside the register space, R356 of 11_brush_packet_service.md. -/
def BRGg_SC_MISSES (g : Nat) : Nat := (0x088 + g) * 0x100 + 0x8B
def BRGg_SC_MISSES_count (g : Nat) : Fld := { addr := BRGg_SC_MISSES g, hi := 31, lo := 0 }
/-- Word address inside the register space, R356 of 11_brush_packet_service.md. -/
def BRGg_SC_TAKEOVERS (g : Nat) : Nat := (0x088 + g) * 0x100 + 0x8C
def BRGg_SC_TAKEOVERS_count (g : Nat) : Fld := { addr := BRGg_SC_TAKEOVERS g, hi := 31, lo := 0 }
/-- Word address inside the register space, R357 of 11_brush_packet_service.md. -/
def STZ_CTL : Nat := 0x090 * 0x100 + 0x00
def STZ_CTL_over : Fld := { addr := STZ_CTL, hi := 2, lo := 1 }
def STZ_CTL_en : Fld := { addr := STZ_CTL, hi := 0, lo := 0 }
/-- Word address inside the register space, R357 of 11_brush_packet_service.md. -/
def STZ_BASE : Nat := 0x090 * 0x100 + 0x01
def STZ_BASE_base : Fld := { addr := STZ_BASE, hi := 31, lo := 0 }
/-- Word address inside the register space, R357 of 11_brush_packet_service.md. -/
def STZ_RATE : Nat := 0x090 * 0x100 + 0x02
def STZ_RATE_rate : Fld := { addr := STZ_RATE, hi := 19, lo := 0 }
/-- Word address inside the register space, R357 of 11_brush_packet_service.md. -/
def STZ_BURST : Nat := 0x090 * 0x100 + 0x03
def STZ_BURST_burst : Fld := { addr := STZ_BURST, hi := 13, lo := 0 }
/-- Word address inside the register space, R357 of 11_brush_packet_service.md. -/
def STZ_KOD : Nat := 0x090 * 0x100 + 0x04
def STZ_KOD_kod_s : Fld := { addr := STZ_KOD, hi := 7, lo := 0 }
/-- Word address inside the register space, R357 of 11_brush_packet_service.md. -/
def STZ_CMD_FIFO : Nat := 0x090 * 0x100 + 0x05
def STZ_CMD_FIFO_fifo : Fld := { addr := STZ_CMD_FIFO, hi := 7, lo := 0 }
/-- Word address inside the register space, R357 of 11_brush_packet_service.md. -/
def STZ_STATUS : Nat := 0x090 * 0x100 + 0x06
def STZ_STATUS_clearing : Fld := { addr := STZ_STATUS, hi := 1, lo := 1 }
def STZ_STATUS_ready : Fld := { addr := STZ_STATUS, hi := 0, lo := 0 }
/-- Word address inside the register space, R357 of 11_brush_packet_service.md. -/
def STZ_CMD : Nat := 0x090 * 0x100 + 0x07
/-- Word address inside the register space, R357 of 11_brush_packet_service.md. -/
def STZ_CNT_LOOKUPS : Nat := 0x090 * 0x100 + 0x08
def STZ_CNT_LOOKUPS_count : Fld := { addr := STZ_CNT_LOOKUPS, hi := 31, lo := 0 }
/-- Word address inside the register space, R357 of 11_brush_packet_service.md. -/
def STZ_CNT_INSERTS : Nat := 0x090 * 0x100 + 0x09
def STZ_CNT_INSERTS_count : Fld := { addr := STZ_CNT_INSERTS, hi := 31, lo := 0 }
/-- Word address inside the register space, R357 of 11_brush_packet_service.md. -/
def STZ_CNT_EVICTIONS : Nat := 0x090 * 0x100 + 0x0A
def STZ_CNT_EVICTIONS_count : Fld := { addr := STZ_CNT_EVICTIONS, hi := 31, lo := 0 }
/-- Word address inside the register space, R357 of 11_brush_packet_service.md. -/
def STZ_CNT_OVER : Nat := 0x090 * 0x100 + 0x0B
def STZ_CNT_OVER_count : Fld := { addr := STZ_CNT_OVER, hi := 31, lo := 0 }
/-- Word address inside the register space, R357 of 11_brush_packet_service.md. -/
def STZ_CNT_KOD : Nat := 0x090 * 0x100 + 0x0C
def STZ_CNT_KOD_count : Fld := { addr := STZ_CNT_KOD, hi := 31, lo := 0 }
/-- Word address inside the register space, R358 of 11_brush_packet_service.md. -/
def AESi_CNT_AES (i : Nat) : Nat := (0x098 + i) * 0x100 + 0x01
def AESi_CNT_AES_count (i : Nat) : Fld := { addr := AESi_CNT_AES i, hi := 39, lo := 0 }
/-- Word address inside the register space, R358 of 11_brush_packet_service.md. -/
def AESi_CNT_SHA (i : Nat) : Nat := (0x098 + i) * 0x100 + 0x02
def AESi_CNT_SHA_count (i : Nat) : Fld := { addr := AESi_CNT_SHA i, hi := 39, lo := 0 }
/-- Word address inside the register space, R384 of 12_keys_crypto_tamper.md. -/
def KV_CTL : Nat := 0x0C0 * 0x100 + 0x00
def KV_CTL_roll_en : Fld := { addr := KV_CTL, hi := 1, lo := 1 }
def KV_CTL_en : Fld := { addr := KV_CTL, hi := 0, lo := 0 }
/-- Word address inside the register space, R384 of 12_keys_crypto_tamper.md. -/
def KV_STATUS : Nat := 0x0C0 * 0x100 + 0x01
def KV_STATUS_live : Fld := { addr := KV_STATUS, hi := 20, lo := 8 }
def KV_STATUS_busy : Fld := { addr := KV_STATUS, hi := 5, lo := 5 }
def KV_STATUS_drbg_ok : Fld := { addr := KV_STATUS, hi := 4, lo := 4 }
def KV_STATUS_op_root : Fld := { addr := KV_STATUS, hi := 3, lo := 3 }
def KV_STATUS_pair_root : Fld := { addr := KV_STATUS, hi := 2, lo := 2 }
def KV_STATUS_tampered : Fld := { addr := KV_STATUS, hi := 1, lo := 1 }
def KV_STATUS_ready : Fld := { addr := KV_STATUS, hi := 0, lo := 0 }
/-- Word address inside the register space, R384 of 12_keys_crypto_tamper.md. -/
def KV_NTS_EPOCH : Nat := 0x0C0 * 0x100 + 0x02
def KV_NTS_EPOCH_epoch : Fld := { addr := KV_NTS_EPOCH, hi := 31, lo := 0 }
/-- Word address inside the register space, R384 of 12_keys_crypto_tamper.md. -/
def KV_NTS_PERIOD : Nat := 0x0C0 * 0x100 + 0x03
def KV_NTS_PERIOD_period_s : Fld := { addr := KV_NTS_PERIOD, hi := 21, lo := 0 }
/-- Word address inside the register space, R384 of 12_keys_crypto_tamper.md. -/
def KV_NTS_NEXT_HI : Nat := 0x0C0 * 0x100 + 0x04
def KV_NTS_NEXT_HI_val : Fld := { addr := KV_NTS_NEXT_HI, hi := 39, lo := 0 }
/-- Word address inside the register space, R384 of 12_keys_crypto_tamper.md. -/
def KV_NTS_NEXT_LO : Nat := 0x0C0 * 0x100 + 0x05
/-- Word address inside the register space, R384 of 12_keys_crypto_tamper.md. -/
def KV_UPD_CTR : Nat := 0x0C0 * 0x100 + 0x06
def KV_UPD_CTR_counter : Fld := { addr := KV_UPD_CTR, hi := 39, lo := 0 }
/-- Word address inside the register space, R384 of 12_keys_crypto_tamper.md. -/
def KV_ANCHOR : Nat := 0x0C0 * 0x100 + 0x07
def KV_ANCHOR_anchors : Fld := { addr := KV_ANCHOR, hi := 10, lo := 0 }
/-- Word address inside the register space, R384 of 12_keys_crypto_tamper.md. -/
def KV_VK : Nat := 0x0C0 * 0x100 + 0x08
def KV_VK_revoked : Fld := { addr := KV_VK, hi := 5, lo := 2 }
def KV_VK_live : Fld := { addr := KV_VK, hi := 1, lo := 0 }
/-- Word address inside the register space, R384 of 12_keys_crypto_tamper.md. -/
def KV_LAST_UPD : Nat := 0x0C0 * 0x100 + 0x09
def KV_LAST_UPD_status : Fld := { addr := KV_LAST_UPD, hi := 39, lo := 36 }
def KV_LAST_UPD_slot : Fld := { addr := KV_LAST_UPD, hi := 3, lo := 0 }
/-- Word address inside the register space, R384 of 12_keys_crypto_tamper.md. -/
def KV_H_IDX : Nat := 0x0C0 * 0x100 + 0x0A
def KV_H_IDX_handle : Fld := { addr := KV_H_IDX, hi := 11, lo := 0 }
/-- Word address inside the register space, R384 of 12_keys_crypto_tamper.md. -/
def KV_H_INFO : Nat := 0x0C0 * 0x100 + 0x0B
/-- Word address inside the register space, R384 of 12_keys_crypto_tamper.md. -/
def KV_CMD : Nat := 0x0C0 * 0x100 + 0x0C
/-- Word address inside the register space, R384 of 12_keys_crypto_tamper.md. -/
def KV_EVENTS : Nat := 0x0C0 * 0x100 + 0x0D
def KV_EVENTS_zeroized : Fld := { addr := KV_EVENTS, hi := 5, lo := 5 }
def KV_EVENTS_drbg_fail : Fld := { addr := KV_EVENTS, hi := 4, lo := 4 }
def KV_EVENTS_upd_refused : Fld := { addr := KV_EVENTS, hi := 3, lo := 3 }
def KV_EVENTS_upd_done : Fld := { addr := KV_EVENTS, hi := 2, lo := 2 }
def KV_EVENTS_invalidated : Fld := { addr := KV_EVENTS, hi := 1, lo := 1 }
def KV_EVENTS_epoch_roll : Fld := { addr := KV_EVENTS, hi := 0, lo := 0 }
/-- Word address inside the register space, R384 of 12_keys_crypto_tamper.md. -/
def KV_CNT_KOP : Nat := 0x0C0 * 0x100 + 0x0F
def KV_CNT_KOP_count : Fld := { addr := KV_CNT_KOP, hi := 31, lo := 0 }
/-- Word address inside the register space, R384 of 12_keys_crypto_tamper.md. -/
def KV_CNT_NO_KEY : Nat := 0x0C0 * 0x100 + 0x10
def KV_CNT_NO_KEY_count : Fld := { addr := KV_CNT_NO_KEY, hi := 31, lo := 0 }
/-- Word address inside the register space, R384 of 12_keys_crypto_tamper.md. -/
def KV_CNT_NOT_ALLOWED : Nat := 0x0C0 * 0x100 + 0x11
def KV_CNT_NOT_ALLOWED_count : Fld := { addr := KV_CNT_NOT_ALLOWED, hi := 31, lo := 0 }
/-- Word address inside the register space, R384 of 12_keys_crypto_tamper.md. -/
def KV_CNT_AUTH_FAIL : Nat := 0x0C0 * 0x100 + 0x12
def KV_CNT_AUTH_FAIL_count : Fld := { addr := KV_CNT_AUTH_FAIL, hi := 31, lo := 0 }
/-- Word address inside the register space, R385 of 12_keys_crypto_tamper.md. -/
def PKE_STATUS : Nat := 0x0C1 * 0x100 + 0x00
def PKE_STATUS_queue : Fld := { addr := PKE_STATUS, hi := 4, lo := 1 }
def PKE_STATUS_busy : Fld := { addr := PKE_STATUS, hi := 0, lo := 0 }
/-- Word address inside the register space, R385 of 12_keys_crypto_tamper.md. -/
def PKE_CNT_SIGN : Nat := 0x0C1 * 0x100 + 0x01
def PKE_CNT_SIGN_count : Fld := { addr := PKE_CNT_SIGN, hi := 31, lo := 0 }
/-- Word address inside the register space, R385 of 12_keys_crypto_tamper.md. -/
def PKE_CNT_VERIFY : Nat := 0x0C1 * 0x100 + 0x02
def PKE_CNT_VERIFY_count : Fld := { addr := PKE_CNT_VERIFY, hi := 31, lo := 0 }
/-- Word address inside the register space, R385 of 12_keys_crypto_tamper.md. -/
def PKE_CNT_ECDH : Nat := 0x0C1 * 0x100 + 0x03
def PKE_CNT_ECDH_count : Fld := { addr := PKE_CNT_ECDH, hi := 31, lo := 0 }
/-- Word address inside the register space, R385 of 12_keys_crypto_tamper.md. -/
def PKE_CNT_FAIL : Nat := 0x0C1 * 0x100 + 0x04
def PKE_CNT_FAIL_count : Fld := { addr := PKE_CNT_FAIL, hi := 31, lo := 0 }
/-- Word address inside the register space, R386 of 12_keys_crypto_tamper.md. -/
def TMP_CFG : Nat := 0x003 * 0x100 + 0x00
def TMP_CFG_glitch_en : Fld := { addr := TMP_CFG, hi := 12, lo := 12 }
def TMP_CFG_temp_en : Fld := { addr := TMP_CFG, hi := 11, lo := 11 }
def TMP_CFG_volt_en : Fld := { addr := TMP_CFG, hi := 10, lo := 10 }
def TMP_CFG_mesh_en : Fld := { addr := TMP_CFG, hi := 9, lo := 8 }
def TMP_CFG_sw_pol : Fld := { addr := TMP_CFG, hi := 7, lo := 4 }
def TMP_CFG_sw_en : Fld := { addr := TMP_CFG, hi := 3, lo := 0 }
/-- Word address inside the register space, R386 of 12_keys_crypto_tamper.md. -/
def TMP_STATUS : Nat := 0x003 * 0x100 + 0x01
def TMP_STATUS_active : Fld := { addr := TMP_STATUS, hi := 1, lo := 1 }
def TMP_STATUS_latched : Fld := { addr := TMP_STATUS, hi := 0, lo := 0 }
/-- Word address inside the register space, R386 of 12_keys_crypto_tamper.md. -/
def TMP_CAUSE : Nat := 0x003 * 0x100 + 0x02
/-- Word address inside the register space, R386 of 12_keys_crypto_tamper.md. -/
def TMP_TIME_HI : Nat := 0x003 * 0x100 + 0x03
/-- Word address inside the register space, R386 of 12_keys_crypto_tamper.md. -/
def TMP_TIME_LO : Nat := 0x003 * 0x100 + 0x04
/-- Word address inside the register space, R386 of 12_keys_crypto_tamper.md. -/
def TMP_SLOW : Nat := 0x003 * 0x100 + 0x05
/-- Word address inside the register space, R386 of 12_keys_crypto_tamper.md. -/
def TMP_COUNT : Nat := 0x003 * 0x100 + 0x06
def TMP_COUNT_count : Fld := { addr := TMP_COUNT, hi := 31, lo := 0 }
/-- Word address inside the register space, R386 of 12_keys_crypto_tamper.md. -/
def TMP_EVENTS : Nat := 0x003 * 0x100 + 0x07
def TMP_EVENTS_alarm : Fld := { addr := TMP_EVENTS, hi := 0, lo := 0 }
/-- Word address inside the register space, R408 of 13_span_links.md. -/
def SPp_CFG (p : Nat) : Nat := (0x0D0 + p) * 0x100 + 0x00
def SPp_CFG_an_en (p : Nat) : Fld := { addr := SPp_CFG p, hi := 2, lo := 2 }
def SPp_CFG_mode (p : Nat) : Fld := { addr := SPp_CFG p, hi := 1, lo := 1 }
def SPp_CFG_en (p : Nat) : Fld := { addr := SPp_CFG p, hi := 0, lo := 0 }
/-- Word address inside the register space, R408 of 13_span_links.md. -/
def SPp_STATUS (p : Nat) : Nat := (0x0D0 + p) * 0x100 + 0x01
def SPp_STATUS_cal_valid (p : Nat) : Fld := { addr := SPp_STATUS p, hi := 3, lo := 3 }
def SPp_STATUS_an_done (p : Nat) : Fld := { addr := SPp_STATUS p, hi := 2, lo := 2 }
def SPp_STATUS_rx_lock (p : Nat) : Fld := { addr := SPp_STATUS p, hi := 1, lo := 1 }
def SPp_STATUS_link (p : Nat) : Fld := { addr := SPp_STATUS p, hi := 0, lo := 0 }
/-- Word address inside the register space, R408 of 13_span_links.md. -/
def SPp_TX_OFS (p : Nat) : Nat := (0x0D0 + p) * 0x100 + 0x02
def SPp_TX_OFS_val (p : Nat) : Fld := { addr := SPp_TX_OFS p, hi := 39, lo := 0 }
/-- Word address inside the register space, R408 of 13_span_links.md. -/
def SPp_RX_OFS (p : Nat) : Nat := (0x0D0 + p) * 0x100 + 0x03
def SPp_RX_OFS_val (p : Nat) : Fld := { addr := SPp_RX_OFS p, hi := 39, lo := 0 }
/-- Word address inside the register space, R408 of 13_span_links.md. -/
def SPp_FIFO (p : Nat) : Nat := (0x0D0 + p) * 0x100 + 0x04
def SPp_FIFO_txstamp (p : Nat) : Fld := { addr := SPp_FIFO p, hi := 31, lo := 24 }
def SPp_FIFO_tx (p : Nat) : Fld := { addr := SPp_FIFO p, hi := 23, lo := 16 }
def SPp_FIFO_rx_atel (p : Nat) : Fld := { addr := SPp_FIFO p, hi := 15, lo := 8 }
def SPp_FIFO_rx_span (p : Nat) : Fld := { addr := SPp_FIFO p, hi := 7, lo := 0 }
/-- Word address inside the register space, R408 of 13_span_links.md. -/
def SPp_BMAX (p : Nat) : Nat := (0x0D0 + p) * 0x100 + 0x05
def SPp_BMAX_b (p : Nat) : Fld := { addr := SPp_BMAX p, hi := 39, lo := 0 }
/-- Word address inside the register space, R408 of 13_span_links.md. -/
def SPp_BSEQ (p : Nat) : Nat := (0x0D0 + p) * 0x100 + 0x06
def SPp_BSEQ_bseq (p : Nat) : Fld := { addr := SPp_BSEQ p, hi := 7, lo := 0 }
/-- Word address inside the register space, R408 of 13_span_links.md. -/
def SPp_EVENTS (p : Nat) : Nat := (0x0D0 + p) * 0x100 + 0x07
def SPp_EVENTS_cfg_ignored (p : Nat) : Fld := { addr := SPp_EVENTS p, hi := 5, lo := 5 }
def SPp_EVENTS_stale_bound (p : Nat) : Fld := { addr := SPp_EVENTS p, hi := 4, lo := 4 }
def SPp_EVENTS_hold_missed (p : Nat) : Fld := { addr := SPp_EVENTS p, hi := 3, lo := 3 }
def SPp_EVENTS_rx_drop (p : Nat) : Fld := { addr := SPp_EVENTS p, hi := 2, lo := 2 }
def SPp_EVENTS_cal_lost (p : Nat) : Fld := { addr := SPp_EVENTS p, hi := 1, lo := 1 }
def SPp_EVENTS_link_change (p : Nat) : Fld := { addr := SPp_EVENTS p, hi := 0, lo := 0 }
/-- Word address inside the register space, R408 of 13_span_links.md. -/
def SPp_CNT_RX (p : Nat) : Nat := (0x0D0 + p) * 0x100 + 0x09
def SPp_CNT_RX_count (p : Nat) : Fld := { addr := SPp_CNT_RX p, hi := 31, lo := 0 }
/-- Word address inside the register space, R408 of 13_span_links.md. -/
def SPp_CNT_TX (p : Nat) : Nat := (0x0D0 + p) * 0x100 + 0x0A
def SPp_CNT_TX_count (p : Nat) : Fld := { addr := SPp_CNT_TX p, hi := 31, lo := 0 }
/-- Word address inside the register space, R408 of 13_span_links.md. -/
def SPp_CNT_FCS (p : Nat) : Nat := (0x0D0 + p) * 0x100 + 0x0B
def SPp_CNT_FCS_count (p : Nat) : Fld := { addr := SPp_CNT_FCS p, hi := 31, lo := 0 }
/-- Word address inside the register space, R408 of 13_span_links.md. -/
def SPp_CNT_DISCARD (p : Nat) : Nat := (0x0D0 + p) * 0x100 + 0x0C
def SPp_CNT_DISCARD_count (p : Nat) : Fld := { addr := SPp_CNT_DISCARD p, hi := 31, lo := 0 }
/-- Word address inside the register space, R408 of 13_span_links.md. -/
def SPp_CNT_RX_DROP (p : Nat) : Nat := (0x0D0 + p) * 0x100 + 0x0D
def SPp_CNT_RX_DROP_count (p : Nat) : Fld := { addr := SPp_CNT_RX_DROP p, hi := 31, lo := 0 }
/-- Word address inside the register space, R408 of 13_span_links.md. -/
def SPp_CNT_HOLD_MISSED (p : Nat) : Nat := (0x0D0 + p) * 0x100 + 0x0E
def SPp_CNT_HOLD_MISSED_count (p : Nat) : Fld := { addr := SPp_CNT_HOLD_MISSED p, hi := 31, lo := 0 }
/-- Word address inside the register space, R408 of 13_span_links.md. -/
def SPp_CNT_STALE (p : Nat) : Nat := (0x0D0 + p) * 0x100 + 0x0F
def SPp_CNT_STALE_count (p : Nat) : Fld := { addr := SPp_CNT_STALE p, hi := 31, lo := 0 }
/-- Word address inside the register space, R409 of 13_span_links.md. -/
def SPp_LAMBDA_TX (p : Nat) : Nat := (0x0D0 + p) * 0x100 + 0x40
def SPp_LAMBDA_TX_pm (p : Nat) : Fld := { addr := SPp_LAMBDA_TX p, hi := 20, lo := 0 }
/-- Word address inside the register space, R409 of 13_span_links.md. -/
def SPp_LAMBDA_RX (p : Nat) : Nat := (0x0D0 + p) * 0x100 + 0x41
def SPp_LAMBDA_RX_pm (p : Nat) : Fld := { addr := SPp_LAMBDA_RX p, hi := 20, lo := 0 }
/-- Word address inside the register space, R409 of 13_span_links.md. -/
def SPp_FIBRE (p : Nat) : Nat := (0x0D0 + p) * 0x100 + 0x42
def SPp_FIBRE_s0 (p : Nat) : Fld := { addr := SPp_FIBRE p, hi := 39, lo := 22 }
def SPp_FIBRE_lambda0 (p : Nat) : Fld := { addr := SPp_FIBRE p, hi := 21, lo := 1 }
def SPp_FIBRE_two_fibre (p : Nat) : Fld := { addr := SPp_FIBRE p, hi := 0, lo := 0 }
/-- Word address inside the register space, R409 of 13_span_links.md. -/
def SPp_NG (p : Nat) : Nat := (0x0D0 + p) * 0x100 + 0x43
def SPp_NG_disp_unc (p : Nat) : Fld := { addr := SPp_NG p, hi := 39, lo := 32 }
def SPp_NG_ng (p : Nat) : Fld := { addr := SPp_NG p, hi := 20, lo := 0 }
/-- Word address inside the register space, R409 of 13_span_links.md. -/
def SPp_FIX (p : Nat) : Nat := (0x0D0 + p) * 0x100 + 0x44
def SPp_FIX_f_unc (p : Nat) : Fld := { addr := SPp_FIX p, hi := 39, lo := 20 }
def SPp_FIX_f (p : Nat) : Fld := { addr := SPp_FIX p, hi := 19, lo := 0 }
/-- Word address inside the register space, R409 of 13_span_links.md. -/
def SPp_SAG (p : Nat) : Nat := (0x0D0 + p) * 0x100 + 0x45
def SPp_SAG_dev_m (p : Nat) : Fld := { addr := SPp_SAG p, hi := 19, lo := 0 }
/-- Word address inside the register space, R409 of 13_span_links.md. -/
def SPp_XC (p : Nat) : Nat := (0x0D0 + p) * 0x100 + 0x46
def SPp_XC_xc_win (p : Nat) : Fld := { addr := SPp_XC p, hi := 19, lo := 4 }
def SPp_XC_partner (p : Nat) : Fld := { addr := SPp_XC p, hi := 2, lo := 1 }
def SPp_XC_xc_en (p : Nat) : Fld := { addr := SPp_XC p, hi := 0, lo := 0 }
/-- Word address inside the register space, R409 of 13_span_links.md. -/
def SPp_XC_K (p : Nat) : Nat := (0x0D0 + p) * 0x100 + 0x47
def SPp_XC_K_val (p : Nat) : Fld := { addr := SPp_XC_K p, hi := 39, lo := 0 }
/-- Word address inside the register space, R409 of 13_span_links.md. -/
def SPp_XC_KU (p : Nat) : Nat := (0x0D0 + p) * 0x100 + 0x48
def SPp_XC_KU_val (p : Nat) : Fld := { addr := SPp_XC_KU p, hi := 39, lo := 0 }
/-- Word address inside the register space, R409 of 13_span_links.md. -/
def SPp_RATE (p : Nat) : Nat := (0x0D0 + p) * 0x100 + 0x49
def SPp_RATE_auth_en (p : Nat) : Fld := { addr := SPp_RATE p, hi := 8, lo := 8 }
def SPp_RATE_rate (p : Nat) : Fld := { addr := SPp_RATE p, hi := 7, lo := 0 }
/-- Word address inside the register space, R409 of 13_span_links.md. -/
def SPp_PEER_HI (p : Nat) : Nat := (0x0D0 + p) * 0x100 + 0x4A
def SPp_PEER_HI_val (p : Nat) : Fld := { addr := SPp_PEER_HI p, hi := 31, lo := 0 }
/-- Word address inside the register space, R409 of 13_span_links.md. -/
def SPp_PEER_LO (p : Nat) : Nat := (0x0D0 + p) * 0x100 + 0x4B
def SPp_PEER_LO_val (p : Nat) : Fld := { addr := SPp_PEER_LO p, hi := 31, lo := 0 }
/-- Word address inside the register space, R409 of 13_span_links.md. -/
def SPp_LINK_ST (p : Nat) : Nat := (0x0D0 + p) * 0x100 + 0x4C
def SPp_LINK_ST_method (p : Nat) : Fld := { addr := SPp_LINK_ST p, hi := 7, lo := 6 }
def SPp_LINK_ST_xc_reject (p : Nat) : Fld := { addr := SPp_LINK_ST p, hi := 5, lo := 5 }
def SPp_LINK_ST_follows_me (p : Nat) : Fld := { addr := SPp_LINK_ST p, hi := 4, lo := 4 }
def SPp_LINK_ST_mismatch (p : Nat) : Fld := { addr := SPp_LINK_ST p, hi := 3, lo := 3 }
def SPp_LINK_ST_auth_fail (p : Nat) : Fld := { addr := SPp_LINK_ST p, hi := 2, lo := 2 }
def SPp_LINK_ST_xc_valid (p : Nat) : Fld := { addr := SPp_LINK_ST p, hi := 1, lo := 1 }
def SPp_LINK_ST_peer_ok (p : Nat) : Fld := { addr := SPp_LINK_ST p, hi := 0, lo := 0 }
/-- Word address inside the register space, R409 of 13_span_links.md. -/
def SPp_RTT (p : Nat) : Nat := (0x0D0 + p) * 0x100 + 0x4D
/-- Word address inside the register space, R409 of 13_span_links.md. -/
def SPp_RAW (p : Nat) : Nat := (0x0D0 + p) * 0x100 + 0x4E
/-- Word address inside the register space, R409 of 13_span_links.md. -/
def SPp_SAGNAC (p : Nat) : Nat := (0x0D0 + p) * 0x100 + 0x4F
/-- Word address inside the register space, R409 of 13_span_links.md. -/
def SPp_DISP (p : Nat) : Nat := (0x0D0 + p) * 0x100 + 0x50
/-- Word address inside the register space, R409 of 13_span_links.md. -/
def SPp_CAL_SERIAL (p : Nat) : Nat := (0x0D0 + p) * 0x100 + 0x51
def SPp_CAL_SERIAL_serial (p : Nat) : Fld := { addr := SPp_CAL_SERIAL p, hi := 27, lo := 0 }
/-- Word address inside the register space, R409 of 13_span_links.md. -/
def SPp_CNT_SAMPLES (p : Nat) : Nat := (0x0D0 + p) * 0x100 + 0x52
def SPp_CNT_SAMPLES_count (p : Nat) : Fld := { addr := SPp_CNT_SAMPLES p, hi := 31, lo := 0 }
/-- Word address inside the register space, R409 of 13_span_links.md. -/
def SPp_CNT_AUTH (p : Nat) : Nat := (0x0D0 + p) * 0x100 + 0x53
def SPp_CNT_AUTH_count (p : Nat) : Fld := { addr := SPp_CNT_AUTH p, hi := 31, lo := 0 }
/-- Word address inside the register space, R409 of 13_span_links.md. -/
def SPp_CNT_UNPAIRED (p : Nat) : Nat := (0x0D0 + p) * 0x100 + 0x54
def SPp_CNT_UNPAIRED_count (p : Nat) : Fld := { addr := SPp_CNT_UNPAIRED p, hi := 31, lo := 0 }
/-- Word address inside the register space, R409 of 13_span_links.md. -/
def SP0_NODE_X : Nat := 0x0D0 * 0x100 + 0x58
def SP0_NODE_X_val : Fld := { addr := SP0_NODE_X, hi := 39, lo := 0 }
/-- Word address inside the register space, R409 of 13_span_links.md. -/
def SP0_NODE_Y : Nat := 0x0D0 * 0x100 + 0x59
def SP0_NODE_Y_val : Fld := { addr := SP0_NODE_Y, hi := 39, lo := 0 }
/-- Word address inside the register space, R409 of 13_span_links.md. -/
def SP0_NODE_Z : Nat := 0x0D0 * 0x100 + 0x5A
def SP0_NODE_Z_val : Fld := { addr := SP0_NODE_Z, hi := 39, lo := 0 }
/-- Word address inside the register space, R409 of 13_span_links.md. -/
def SP0_NODE_CFG : Nat := 0x0D0 * 0x100 + 0x5B
def SP0_NODE_CFG_valid : Fld := { addr := SP0_NODE_CFG, hi := 32, lo := 32 }
def SP0_NODE_CFG_pos_unc : Fld := { addr := SP0_NODE_CFG, hi := 31, lo := 0 }
/-- Word address inside the register space, R430 of 14_atelier_fabric_studio_bus.md. -/
def ATL_RT_IDX : Nat := 0x0D8 * 0x100 + 0x00
def ATL_RT_IDX_addr : Fld := { addr := ATL_RT_IDX, hi := 15, lo := 0 }
/-- Word address inside the register space, R430 of 14_atelier_fabric_studio_bus.md. -/
def ATL_RT_DATA : Nat := 0x0D8 * 0x100 + 0x01
/-- Word address inside the register space, R430 of 14_atelier_fabric_studio_bus.md. -/
def ATL_RT_COUNT : Nat := 0x0D8 * 0x100 + 0x02
def ATL_RT_COUNT_count : Fld := { addr := ATL_RT_COUNT, hi := 12, lo := 0 }
/-- Word address inside the register space, R430 of 14_atelier_fabric_studio_bus.md. -/
def ATL_EVENTS : Nat := 0x0D8 * 0x100 + 0x03
def ATL_EVENTS_rt_full : Fld := { addr := ATL_EVENTS, hi := 3, lo := 3 }
def ATL_EVENTS_root_change : Fld := { addr := ATL_EVENTS, hi := 2, lo := 2 }
def ATL_EVENTS_parent_change : Fld := { addr := ATL_EVENTS, hi := 1, lo := 1 }
def ATL_EVENTS_addr_change : Fld := { addr := ATL_EVENTS, hi := 0, lo := 0 }
/-- Word address inside the register space, R430 of 14_atelier_fabric_studio_bus.md. -/
def ATL_CTL : Nat := 0x0D8 * 0x100 + 0x40
def ATL_CTL_relay_en : Fld := { addr := ATL_CTL, hi := 2, lo := 2 }
def ATL_CTL_time_en : Fld := { addr := ATL_CTL, hi := 1, lo := 1 }
def ATL_CTL_run : Fld := { addr := ATL_CTL, hi := 0, lo := 0 }
/-- Word address inside the register space, R430 of 14_atelier_fabric_studio_bus.md. -/
def ATL_CAND : Nat := 0x0D8 * 0x100 + 0x41
def ATL_CAND_cand : Fld := { addr := ATL_CAND, hi := 39, lo := 0 }
/-- Word address inside the register space, R430 of 14_atelier_fabric_studio_bus.md. -/
def ATL_COST (j : Nat) : Nat := 0x0D8 * 0x100 + 0x42 + j
def ATL_COST_cost (j : Nat) : Fld := { addr := ATL_COST j, hi := 39, lo := 0 }
/-- Word address inside the register space, R430 of 14_atelier_fabric_studio_bus.md. -/
def ATL_PRIO : Nat := 0x0D8 * 0x100 + 0x46
def ATL_PRIO_relay_qual : Fld := { addr := ATL_PRIO, hi := 23, lo := 16 }
def ATL_PRIO_relay_prio : Fld := { addr := ATL_PRIO, hi := 15, lo := 8 }
def ATL_PRIO_parent_prio : Fld := { addr := ATL_PRIO, hi := 7, lo := 0 }
/-- Word address inside the register space, R430 of 14_atelier_fabric_studio_bus.md. -/
def ATL_TIMING : Nat := 0x0D8 * 0x100 + 0x47
def ATL_TIMING_claim_hold : Fld := { addr := ATL_TIMING, hi := 23, lo := 16 }
def ATL_TIMING_root_to : Fld := { addr := ATL_TIMING, hi := 15, lo := 8 }
def ATL_TIMING_stable_ms : Fld := { addr := ATL_TIMING, hi := 7, lo := 0 }
/-- Word address inside the register space, R430 of 14_atelier_fabric_studio_bus.md. -/
def ATL_STATE : Nat := 0x0D8 * 0x100 + 0x48
def ATL_STATE_members : Fld := { addr := ATL_STATE, hi := 28, lo := 16 }
def ATL_STATE_hops : Fld := { addr := ATL_STATE, hi := 15, lo := 8 }
def ATL_STATE_parent_port : Fld := { addr := ATL_STATE, hi := 7, lo := 5 }
def ATL_STATE_addr_valid : Fld := { addr := ATL_STATE, hi := 4, lo := 4 }
def ATL_STATE_root : Fld := { addr := ATL_STATE, hi := 3, lo := 3 }
def ATL_STATE_phase : Fld := { addr := ATL_STATE, hi := 2, lo := 0 }
/-- Word address inside the register space, R430 of 14_atelier_fabric_studio_bus.md. -/
def ATL_ADDR : Nat := 0x0D8 * 0x100 + 0x49
def ATL_ADDR_pref : Fld := { addr := ATL_ADDR, hi := 31, lo := 16 }
def ATL_ADDR_addr : Fld := { addr := ATL_ADDR, hi := 15, lo := 0 }
/-- Word address inside the register space, R430 of 14_atelier_fabric_studio_bus.md. -/
def ATL_ROOT_HI : Nat := 0x0D8 * 0x100 + 0x4A
def ATL_ROOT_HI_val : Fld := { addr := ATL_ROOT_HI, hi := 31, lo := 0 }
/-- Word address inside the register space, R430 of 14_atelier_fabric_studio_bus.md. -/
def ATL_ROOT_LO : Nat := 0x0D8 * 0x100 + 0x4B
def ATL_ROOT_LO_val : Fld := { addr := ATL_ROOT_LO, hi := 31, lo := 0 }
/-- Word address inside the register space, R430 of 14_atelier_fabric_studio_bus.md. -/
def ATL_ROOT_CAND : Nat := 0x0D8 * 0x100 + 0x4C
def ATL_ROOT_CAND_val : Fld := { addr := ATL_ROOT_CAND, hi := 39, lo := 0 }
/-- Word address inside the register space, R430 of 14_atelier_fabric_studio_bus.md. -/
def ATL_PATH : Nat := 0x0D8 * 0x100 + 0x4D
def ATL_PATH_val : Fld := { addr := ATL_PATH, hi := 39, lo := 0 }
/-- Word address inside the register space, R430 of 14_atelier_fabric_studio_bus.md. -/
def ATL_CHASSIS : Nat := 0x0D8 * 0x100 + 0x4E
def ATL_CHASSIS_chassis : Fld := { addr := ATL_CHASSIS, hi := 15, lo := 0 }
/-- Word address inside the register space, R430 of 14_atelier_fabric_studio_bus.md. -/
def ATL_FIFO : Nat := 0x0D8 * 0x100 + 0x4F
def ATL_FIFO_mgmt_tx : Fld := { addr := ATL_FIFO, hi := 23, lo := 16 }
def ATL_FIFO_mgmt_rx : Fld := { addr := ATL_FIFO, hi := 15, lo := 8 }
def ATL_FIFO_in : Fld := { addr := ATL_FIFO, hi := 7, lo := 0 }
/-- Word address inside the register space, R430 of 14_atelier_fabric_studio_bus.md. -/
def ATL_CNT_BAD : Nat := 0x0D8 * 0x100 + 0x50
def ATL_CNT_BAD_count : Fld := { addr := ATL_CNT_BAD, hi := 31, lo := 0 }
/-- Word address inside the register space, R430 of 14_atelier_fabric_studio_bus.md. -/
def ATL_CNT_MGMT_FWD : Nat := 0x0D8 * 0x100 + 0x51
def ATL_CNT_MGMT_FWD_count : Fld := { addr := ATL_CNT_MGMT_FWD, hi := 31, lo := 0 }
/-- Word address inside the register space, R430 of 14_atelier_fabric_studio_bus.md. -/
def ATL_CNT_MGMT_DROP : Nat := 0x0D8 * 0x100 + 0x52
def ATL_CNT_MGMT_DROP_count : Fld := { addr := ATL_CNT_MGMT_DROP, hi := 31, lo := 0 }
/-- Word address inside the register space, R430 of 14_atelier_fabric_studio_bus.md. -/
def ATL_CNT_REG_REFUSED : Nat := 0x0D8 * 0x100 + 0x53
def ATL_CNT_REG_REFUSED_count : Fld := { addr := ATL_CNT_REG_REFUSED, hi := 31, lo := 0 }
/-- Word address inside the register space, R430 of 14_atelier_fabric_studio_bus.md. -/
def ATL_CNT_REROOT : Nat := 0x0D8 * 0x100 + 0x54
def ATL_CNT_REROOT_count : Fld := { addr := ATL_CNT_REROOT, hi := 31, lo := 0 }
/-- Word address inside the register space, R431 of 14_atelier_fabric_studio_bus.md. -/
def STB_CFG : Nat := 0x0D9 * 0x100 + 0x00
def STB_CFG_node : Fld := { addr := STB_CFG, hi := 6, lo := 2 }
def STB_CFG_tx_en : Fld := { addr := STB_CFG, hi := 1, lo := 1 }
def STB_CFG_en : Fld := { addr := STB_CFG, hi := 0, lo := 0 }
/-- Word address inside the register space, R431 of 14_atelier_fabric_studio_bus.md. -/
def STB_STATUS : Nat := 0x0D9 * 0x100 + 0x01
def STB_STATUS_backoff : Fld := { addr := STB_STATUS, hi := 2, lo := 2 }
def STB_STATUS_tx_busy : Fld := { addr := STB_STATUS, hi := 1, lo := 1 }
/-- Word address inside the register space, R431 of 14_atelier_fabric_studio_bus.md. -/
def STB_FIFO : Nat := 0x0D9 * 0x100 + 0x02
def STB_FIFO_tx0 : Fld := { addr := STB_FIFO, hi := 39, lo := 32 }
def STB_FIFO_tx1 : Fld := { addr := STB_FIFO, hi := 31, lo := 24 }
def STB_FIFO_tx2 : Fld := { addr := STB_FIFO, hi := 23, lo := 16 }
def STB_FIFO_tx3 : Fld := { addr := STB_FIFO, hi := 15, lo := 8 }
/-- Word address inside the register space, R431 of 14_atelier_fabric_studio_bus.md. -/
def STB_RX_FIFO : Nat := 0x0D9 * 0x100 + 0x03
def STB_RX_FIFO_rx_other : Fld := { addr := STB_RX_FIFO, hi := 23, lo := 16 }
def STB_RX_FIFO_rx_twin : Fld := { addr := STB_RX_FIFO, hi := 15, lo := 8 }
def STB_RX_FIFO_rx_atel : Fld := { addr := STB_RX_FIFO, hi := 7, lo := 0 }
/-- Word address inside the register space, R431 of 14_atelier_fabric_studio_bus.md. -/
def STB_EVENTS : Nat := 0x0D9 * 0x100 + 0x04
def STB_EVENTS_dup_node : Fld := { addr := STB_EVENTS, hi := 3, lo := 3 }
def STB_EVENTS_excess : Fld := { addr := STB_EVENTS, hi := 2, lo := 2 }
def STB_EVENTS_rx_ovf : Fld := { addr := STB_EVENTS, hi := 1, lo := 1 }
def STB_EVENTS_rx_frame : Fld := { addr := STB_EVENTS, hi := 0, lo := 0 }
/-- Word address inside the register space, R431 of 14_atelier_fabric_studio_bus.md. -/
def STB_HALF : Nat := 0x0D9 * 0x100 + 0x06
/-- Word address inside the register space, R431 of 14_atelier_fabric_studio_bus.md. -/
def STB_HALF_EN : Nat := 0x0D9 * 0x100 + 0x07
/-- Word address inside the register space, R456 of 15_twin_redundancy.md. -/
def TW_CFG : Nat := 0x0DA * 0x100 + 0x00
def TW_CFG_wtr_s : Fld := { addr := TW_CFG, hi := 31, lo := 16 }
def TW_CFG_sleep : Fld := { addr := TW_CFG, hi := 6, lo := 6 }
def TW_CFG_shared_atom : Fld := { addr := TW_CFG, hi := 5, lo := 5 }
def TW_CFG_take_unsync : Fld := { addr := TW_CFG, hi := 4, lo := 4 }
def TW_CFG_revertive : Fld := { addr := TW_CFG, hi := 3, lo := 3 }
def TW_CFG_home : Fld := { addr := TW_CFG, hi := 2, lo := 2 }
def TW_CFG_en : Fld := { addr := TW_CFG, hi := 0, lo := 0 }
/-- Word address inside the register space, R456 of 15_twin_redundancy.md. -/
def TW_STATUS : Nat := 0x0DA * 0x100 + 0x01
def TW_STATUS_take_fail : Fld := { addr := TW_STATUS, hi := 15, lo := 15 }
def TW_STATUS_give_missing : Fld := { addr := TW_STATUS, hi := 14, lo := 14 }
def TW_STATUS_stale : Fld := { addr := TW_STATUS, hi := 13, lo := 13 }
def TW_STATUS_ready : Fld := { addr := TW_STATUS, hi := 12, lo := 12 }
def TW_STATUS_aligned : Fld := { addr := TW_STATUS, hi := 11, lo := 11 }
def TW_STATUS_lane_ok : Fld := { addr := TW_STATUS, hi := 10, lo := 9 }
def TW_STATUS_peer_own : Fld := { addr := TW_STATUS, hi := 8, lo := 8 }
def TW_STATUS_own : Fld := { addr := TW_STATUS, hi := 7, lo := 7 }
def TW_STATUS_pstate : Fld := { addr := TW_STATUS, hi := 6, lo := 4 }
def TW_STATUS_role : Fld := { addr := TW_STATUS, hi := 1, lo := 0 }
/-- Word address inside the register space, R456 of 15_twin_redundancy.md. -/
def TW_GEN : Nat := 0x0DA * 0x100 + 0x02
/-- Word address inside the register space, R456 of 15_twin_redundancy.md. -/
def TW_GEN_UID_HI : Nat := 0x0DA * 0x100 + 0x03
def TW_GEN_UID_HI_val : Fld := { addr := TW_GEN_UID_HI, hi := 31, lo := 0 }
/-- Word address inside the register space, R456 of 15_twin_redundancy.md. -/
def TW_GEN_UID_LO : Nat := 0x0DA * 0x100 + 0x04
def TW_GEN_UID_LO_val : Fld := { addr := TW_GEN_UID_LO, hi := 31, lo := 0 }
/-- Word address inside the register space, R456 of 15_twin_redundancy.md. -/
def TW_PEER_HI : Nat := 0x0DA * 0x100 + 0x05
def TW_PEER_HI_val : Fld := { addr := TW_PEER_HI, hi := 31, lo := 0 }
/-- Word address inside the register space, R456 of 15_twin_redundancy.md. -/
def TW_PEER_LO : Nat := 0x0DA * 0x100 + 0x06
def TW_PEER_LO_val : Fld := { addr := TW_PEER_LO, hi := 31, lo := 0 }
/-- Word address inside the register space, R456 of 15_twin_redundancy.md. -/
def TW_ALIGN : Nat := 0x0DA * 0x100 + 0x07
/-- Word address inside the register space, R456 of 15_twin_redundancy.md. -/
def TW_RTT : Nat := 0x0DA * 0x100 + 0x08
def TW_RTT_rtt_ns : Fld := { addr := TW_RTT, hi := 15, lo := 0 }
/-- Word address inside the register space, R456 of 15_twin_redundancy.md. -/
def TW_T_STOP_HI : Nat := 0x0DA * 0x100 + 0x09
/-- Word address inside the register space, R456 of 15_twin_redundancy.md. -/
def TW_T_STOP_LO : Nat := 0x0DA * 0x100 + 0x0A
/-- Word address inside the register space, R456 of 15_twin_redundancy.md. -/
def TW_GAP : Nat := 0x0DA * 0x100 + 0x0B
def TW_GAP_gap_ns : Fld := { addr := TW_GAP, hi := 39, lo := 32 }
def TW_GAP_pins : Fld := { addr := TW_GAP, hi := 19, lo := 0 }
/-- Word address inside the register space, R456 of 15_twin_redundancy.md. -/
def TW_TAKE : Nat := 0x0DA * 0x100 + 0x0C
def TW_TAKE_life_s : Fld := { addr := TW_TAKE, hi := 39, lo := 20 }
def TW_TAKE_evt_ps : Fld := { addr := TW_TAKE, hi := 19, lo := 0 }
/-- Word address inside the register space, R456 of 15_twin_redundancy.md. -/
def TW_PATH_UNC : Nat := 0x0DA * 0x100 + 0x0D
/-- Word address inside the register space, R456 of 15_twin_redundancy.md. -/
def TW_EVENTS : Nat := 0x0DA * 0x100 + 0x0E
def TW_EVENTS_cfg_ignored : Fld := { addr := TW_EVENTS, hi := 11, lo := 11 }
def TW_EVENTS_silent : Fld := { addr := TW_EVENTS, hi := 10, lo := 10 }
def TW_EVENTS_mismatch : Fld := { addr := TW_EVENTS, hi := 9, lo := 9 }
def TW_EVENTS_swap_failed : Fld := { addr := TW_EVENTS, hi := 8, lo := 8 }
def TW_EVENTS_swap_done : Fld := { addr := TW_EVENTS, hi := 7, lo := 7 }
def TW_EVENTS_lane_fail : Fld := { addr := TW_EVENTS, hi := 6, lo := 6 }
def TW_EVENTS_stale : Fld := { addr := TW_EVENTS, hi := 5, lo := 5 }
def TW_EVENTS_take_fail : Fld := { addr := TW_EVENTS, hi := 4, lo := 4 }
def TW_EVENTS_gave_up : Fld := { addr := TW_EVENTS, hi := 3, lo := 3 }
def TW_EVENTS_takeover : Fld := { addr := TW_EVENTS, hi := 2, lo := 2 }
def TW_EVENTS_sync_lost : Fld := { addr := TW_EVENTS, hi := 1, lo := 1 }
def TW_EVENTS_paired : Fld := { addr := TW_EVENTS, hi := 0, lo := 0 }
/-- Word address inside the register space, R456 of 15_twin_redundancy.md. -/
def TW_CMD : Nat := 0x0DA * 0x100 + 0x10
/-- Word address inside the register space, R456 of 15_twin_redundancy.md. -/
def TW_CNT_TX : Nat := 0x0DA * 0x100 + 0x11
def TW_CNT_TX_count : Fld := { addr := TW_CNT_TX, hi := 31, lo := 0 }
/-- Word address inside the register space, R456 of 15_twin_redundancy.md. -/
def TW_CNT_RX : Nat := 0x0DA * 0x100 + 0x12
def TW_CNT_RX_count : Fld := { addr := TW_CNT_RX, hi := 31, lo := 0 }
/-- Word address inside the register space, R456 of 15_twin_redundancy.md. -/
def TW_CNT_RETX : Nat := 0x0DA * 0x100 + 0x13
def TW_CNT_RETX_count : Fld := { addr := TW_CNT_RETX, hi := 31, lo := 0 }
/-- Word address inside the register space, R456 of 15_twin_redundancy.md. -/
def TW_CNT_CRC : Nat := 0x0DA * 0x100 + 0x14
def TW_CNT_CRC_count : Fld := { addr := TW_CNT_CRC, hi := 31, lo := 0 }
/-- Word address inside the register space, R456 of 15_twin_redundancy.md. -/
def TW_CNT_AUTH : Nat := 0x0DA * 0x100 + 0x15
def TW_CNT_AUTH_count : Fld := { addr := TW_CNT_AUTH, hi := 31, lo := 0 }
/-- Word address inside the register space, R456 of 15_twin_redundancy.md. -/
def TW_CNT_TAKEOVER : Nat := 0x0DA * 0x100 + 0x16
def TW_CNT_TAKEOVER_count : Fld := { addr := TW_CNT_TAKEOVER, hi := 31, lo := 0 }
/-- Word address inside the register space, R475 of 16_reset_power_clocks.md. -/
def RST_CAUSE : Nat := 0x000 * 0x100 + 0x00
def RST_CAUSE_prm_restarts : Fld := { addr := RST_CAUSE, hi := 31, lo := 24 }
def RST_CAUSE_link_fail : Fld := { addr := RST_CAUSE, hi := 23, lo := 20 }
def RST_CAUSE_bk_lost : Fld := { addr := RST_CAUSE, hi := 19, lo := 19 }
def RST_CAUSE_escalated : Fld := { addr := RST_CAUSE, hi := 16, lo := 16 }
def RST_CAUSE_osc_cold : Fld := { addr := RST_CAUSE, hi := 15, lo := 15 }
def RST_CAUSE_cause : Fld := { addr := RST_CAUSE, hi := 3, lo := 0 }
/-- Word address inside the register space, R475 of 16_reset_power_clocks.md. -/
def RST_COUNT : Nat := 0x000 * 0x100 + 0x01
def RST_COUNT_count : Fld := { addr := RST_COUNT, hi := 31, lo := 0 }
/-- Word address inside the register space, R475 of 16_reset_power_clocks.md. -/
def RST_LOCAL : Nat := 0x000 * 0x100 + 0x02
/-- Word address inside the register space, R475 of 16_reset_power_clocks.md. -/
def RST_LOCAL_ST : Nat := 0x000 * 0x100 + 0x03
def RST_LOCAL_ST_result : Fld := { addr := RST_LOCAL_ST, hi := 15, lo := 14 }
def RST_LOCAL_ST_busy : Fld := { addr := RST_LOCAL_ST, hi := 13, lo := 13 }
def RST_LOCAL_ST_unit : Fld := { addr := RST_LOCAL_ST, hi := 11, lo := 0 }
/-- Word address inside the register space, R475 of 16_reset_power_clocks.md. -/
def RST_PIN : Nat := 0x000 * 0x100 + 0x04
def RST_PIN_pending : Fld := { addr := RST_PIN, hi := 1, lo := 1 }
def RST_PIN_level : Fld := { addr := RST_PIN, hi := 0, lo := 0 }
/-- Word address inside the register space, R476 of 16_reset_power_clocks.md. -/
def PWR_REQ : Nat := 0x001 * 0x100 + 0x00
def PWR_REQ_on : Fld := { addr := PWR_REQ, hi := 11, lo := 0 }
/-- Word address inside the register space, R476 of 16_reset_power_clocks.md. -/
def PWR_STATE : Nat := 0x001 * 0x100 + 0x01
def PWR_STATE_busy : Fld := { addr := PWR_STATE, hi := 23, lo := 12 }
def PWR_STATE_on : Fld := { addr := PWR_STATE, hi := 11, lo := 0 }
/-- Word address inside the register space, R476 of 16_reset_power_clocks.md. -/
def PWR_IDLE : Nat := 0x001 * 0x100 + 0x02
def PWR_IDLE_idle_ns : Fld := { addr := PWR_IDLE, hi := 15, lo := 0 }
/-- Word address inside the register space, R476 of 16_reset_power_clocks.md. -/
def PWR_EVENTS : Nat := 0x001 * 0x100 + 0x03
def PWR_EVENTS_supply_low : Fld := { addr := PWR_EVENTS, hi := 2, lo := 2 }
def PWR_EVENTS_refused : Fld := { addr := PWR_EVENTS, hi := 1, lo := 1 }
def PWR_EVENTS_done : Fld := { addr := PWR_EVENTS, hi := 0, lo := 0 }
/-- Word address inside the register space, R477 of 16_reset_power_clocks.md. -/
def PRM_STATUS : Nat := 0x002 * 0x100 + 0x00
def PRM_STATUS_opt_bad : Fld := { addr := PRM_STATUS, hi := 3, lo := 3 }
def PRM_STATUS_busy : Fld := { addr := PRM_STATUS, hi := 1, lo := 1 }
def PRM_STATUS_committed : Fld := { addr := PRM_STATUS, hi := 0, lo := 0 }
/-- Word address inside the register space, R477 of 16_reset_power_clocks.md. -/
def PRM_OPT_CRC : Nat := 0x002 * 0x100 + 0x01
def PRM_OPT_CRC_crc : Fld := { addr := PRM_OPT_CRC, hi := 31, lo := 0 }
/-- Word address inside the register space, R477 of 16_reset_power_clocks.md. -/
def PRM_OPT_VER : Nat := 0x002 * 0x100 + 0x02
def PRM_OPT_VER_version : Fld := { addr := PRM_OPT_VER, hi := 31, lo := 0 }
/-- Word address inside the register space, R477 of 16_reset_power_clocks.md. -/
def PRM_TIME : Nat := 0x002 * 0x100 + 0x03
def PRM_TIME_us : Fld := { addr := PRM_TIME, hi := 19, lo := 0 }
/-- Word address inside the register space, R478 of 16_reset_power_clocks.md. -/
def CKG_OSC : Nat := 0x005 * 0x100 + 0x00
def CKG_OSC_freq : Fld := { addr := CKG_OSC, hi := 2, lo := 0 }
/-- Word address inside the register space, R478 of 16_reset_power_clocks.md. -/
def CKG_STATUS : Nat := 0x005 * 0x100 + 0x01
def CKG_STATUS_tb_frozen : Fld := { addr := CKG_STATUS, hi := 6, lo := 6 }
def CKG_STATUS_atom_ok : Fld := { addr := CKG_STATUS, hi := 4, lo := 4 }
def CKG_STATUS_dram_lock : Fld := { addr := CKG_STATUS, hi := 3, lo := 3 }
def CKG_STATUS_fab_lock : Fld := { addr := CKG_STATUS, hi := 2, lo := 2 }
def CKG_STATUS_tb_lock : Fld := { addr := CKG_STATUS, hi := 1, lo := 1 }
def CKG_STATUS_osc_ok : Fld := { addr := CKG_STATUS, hi := 0, lo := 0 }
/-- Word address inside the register space, R478 of 16_reset_power_clocks.md. -/
def CKG_OSC_OFS : Nat := 0x005 * 0x100 + 0x02
/-- Word address inside the register space, R478 of 16_reset_power_clocks.md. -/
def CKG_EVENTS : Nat := 0x005 * 0x100 + 0x03
def CKG_EVENTS_unit_clk_bad : Fld := { addr := CKG_EVENTS, hi := 3, lo := 3 }
def CKG_EVENTS_atom_lost : Fld := { addr := CKG_EVENTS, hi := 2, lo := 2 }
def CKG_EVENTS_osc_lost : Fld := { addr := CKG_EVENTS, hi := 1, lo := 1 }
def CKG_EVENTS_pll_unlock : Fld := { addr := CKG_EVENTS, hi := 0, lo := 0 }
/-- Word address inside the register space, R478 of 16_reset_power_clocks.md. -/
def CKG_CLK_BAD_UNIT : Nat := 0x005 * 0x100 + 0x05
def CKG_CLK_BAD_UNIT_unit : Fld := { addr := CKG_CLK_BAD_UNIT, hi := 11, lo := 0 }
/-- Word address inside the register space, R503 of 17_memory_matrix_fifos.md. -/
def MEM_STATUS : Nat := 0x0E0 * 0x100 + 0x00
def MEM_STATUS_scrubbing : Fld := { addr := MEM_STATUS, hi := 2, lo := 2 }
def MEM_STATUS_trained : Fld := { addr := MEM_STATUS, hi := 1, lo := 1 }
def MEM_STATUS_ready : Fld := { addr := MEM_STATUS, hi := 0, lo := 0 }
/-- Word address inside the register space, R503 of 17_memory_matrix_fifos.md. -/
def MEM_SCRUB : Nat := 0x0E0 * 0x100 + 0x01
def MEM_SCRUB_en : Fld := { addr := MEM_SCRUB, hi := 16, lo := 16 }
def MEM_SCRUB_period_s : Fld := { addr := MEM_SCRUB, hi := 15, lo := 0 }
/-- Word address inside the register space, R503 of 17_memory_matrix_fifos.md. -/
def MEM_SCRUB_POS : Nat := 0x0E0 * 0x100 + 0x02
def MEM_SCRUB_POS_burst : Fld := { addr := MEM_SCRUB_POS, hi := 21, lo := 0 }
/-- Word address inside the register space, R503 of 17_memory_matrix_fifos.md. -/
def MEM_CNT_INNER : Nat := 0x0E0 * 0x100 + 0x03
def MEM_CNT_INNER_count : Fld := { addr := MEM_CNT_INNER, hi := 31, lo := 0 }
/-- Word address inside the register space, R503 of 17_memory_matrix_fifos.md. -/
def MEM_CNT_CORR : Nat := 0x0E0 * 0x100 + 0x04
def MEM_CNT_CORR_count : Fld := { addr := MEM_CNT_CORR, hi := 31, lo := 0 }
/-- Word address inside the register space, R503 of 17_memory_matrix_fifos.md. -/
def MEM_CNT_UNCORR : Nat := 0x0E0 * 0x100 + 0x05
def MEM_CNT_UNCORR_count : Fld := { addr := MEM_CNT_UNCORR, hi := 31, lo := 0 }
/-- Word address inside the register space, R503 of 17_memory_matrix_fifos.md. -/
def MEM_ERR_ADDR : Nat := 0x0E0 * 0x100 + 0x06
def MEM_ERR_ADDR_addr : Fld := { addr := MEM_ERR_ADDR, hi := 31, lo := 0 }
/-- Word address inside the register space, R503 of 17_memory_matrix_fifos.md. -/
def MEM_ERR_INFO : Nat := 0x0E0 * 0x100 + 0x07
def MEM_ERR_INFO_scrub : Fld := { addr := MEM_ERR_INFO, hi := 7, lo := 7 }
def MEM_ERR_INFO_master : Fld := { addr := MEM_ERR_INFO, hi := 6, lo := 2 }
/-- Word address inside the register space, R503 of 17_memory_matrix_fifos.md. -/
def MEM_PROTk_BASE (k : Nat) : Nat := 0x0E0 * 0x100 + 0x08 + 2 * k
def MEM_PROTk_BASE_en (k : Nat) : Fld := { addr := MEM_PROTk_BASE k, hi := 39, lo := 39 }
def MEM_PROTk_BASE_addr (k : Nat) : Fld := { addr := MEM_PROTk_BASE k, hi := 31, lo := 0 }
/-- Word address inside the register space, R503 of 17_memory_matrix_fifos.md. -/
def MEM_PROTk_LIMIT (k : Nat) : Nat := 0x0E0 * 0x100 + 0x09 + 2 * k
def MEM_PROTk_LIMIT_addr (k : Nat) : Fld := { addr := MEM_PROTk_LIMIT k, hi := 31, lo := 0 }
/-- Word address inside the register space, R503 of 17_memory_matrix_fifos.md. -/
def MEM_EVENTS : Nat := 0x0E0 * 0x100 + 0x10
def MEM_EVENTS_pass_done : Fld := { addr := MEM_EVENTS, hi := 2, lo := 2 }
def MEM_EVENTS_uncorr : Fld := { addr := MEM_EVENTS, hi := 1, lo := 1 }
def MEM_EVENTS_corr : Fld := { addr := MEM_EVENTS, hi := 0, lo := 0 }
/-- Word address inside the register space, R504 of 17_memory_matrix_fifos.md. -/
def MTX_ERR_ADDR : Nat := 0x0E1 * 0x100 + 0x00
def MTX_ERR_ADDR_addr : Fld := { addr := MTX_ERR_ADDR, hi := 31, lo := 0 }
/-- Word address inside the register space, R504 of 17_memory_matrix_fifos.md. -/
def MTX_ERR_INFO : Nat := 0x0E1 * 0x100 + 0x01
def MTX_ERR_INFO_write : Fld := { addr := MTX_ERR_INFO, hi := 10, lo := 10 }
def MTX_ERR_INFO_kind : Fld := { addr := MTX_ERR_INFO, hi := 9, lo := 7 }
def MTX_ERR_INFO_master : Fld := { addr := MTX_ERR_INFO, hi := 4, lo := 0 }
/-- Word address inside the register space, R504 of 17_memory_matrix_fifos.md. -/
def MTX_CNT_DECODE : Nat := 0x0E1 * 0x100 + 0x02
def MTX_CNT_DECODE_count : Fld := { addr := MTX_CNT_DECODE, hi := 31, lo := 0 }
/-- Word address inside the register space, R504 of 17_memory_matrix_fifos.md. -/
def MTX_CNT_PRIV : Nat := 0x0E1 * 0x100 + 0x03
def MTX_CNT_PRIV_count : Fld := { addr := MTX_CNT_PRIV, hi := 31, lo := 0 }
/-- Word address inside the register space, R504 of 17_memory_matrix_fifos.md. -/
def MTX_CNT_HOST_ALIGN : Nat := 0x0E1 * 0x100 + 0x04
def MTX_CNT_HOST_ALIGN_count : Fld := { addr := MTX_CNT_HOST_ALIGN, hi := 31, lo := 0 }
/-- Word address inside the register space, R504 of 17_memory_matrix_fifos.md. -/
def MTX_CNT_SPLIT : Nat := 0x0E1 * 0x100 + 0x05
def MTX_CNT_SPLIT_count : Fld := { addr := MTX_CNT_SPLIT, hi := 31, lo := 0 }
/-- Word address inside the register space, R504 of 17_memory_matrix_fifos.md. -/
def MTX_EVENTS : Nat := 0x0E1 * 0x100 + 0x06
def MTX_EVENTS_err : Fld := { addr := MTX_EVENTS, hi := 0, lo := 0 }
/-- Word address inside the register space, R505 of 17_memory_matrix_fifos.md. -/
def FIFO_IDX : Nat := 0x0E2 * 0x100 + 0x00
def FIFO_IDX_fifo : Fld := { addr := FIFO_IDX, hi := 7, lo := 0 }
/-- Word address inside the register space, R505 of 17_memory_matrix_fifos.md. -/
def FIFO_CFG : Nat := 0x0E2 * 0x100 + 0x01
/-- Word address inside the register space, R505 of 17_memory_matrix_fifos.md. -/
def FIFO_STATUS : Nat := 0x0E2 * 0x100 + 0x02
/-- Word address inside the register space, R505 of 17_memory_matrix_fifos.md. -/
def FIFO_CNT_WASH : Nat := 0x0E2 * 0x100 + 0x03
/-- Word address inside the register space, R505 of 17_memory_matrix_fifos.md. -/
def FIFO_CNT_ABANDON : Nat := 0x0E2 * 0x100 + 0x04
/-- Word address inside the register space, R505 of 17_memory_matrix_fifos.md. -/
def FIFO_CNT_HOST_DROP : Nat := 0x0E2 * 0x100 + 0x05
/-- Word address inside the register space, R505 of 17_memory_matrix_fifos.md. -/
def FIFO_EVENTS : Nat := 0x0E2 * 0x100 + 0x06
def FIFO_EVENTS_cfg_ignored : Fld := { addr := FIFO_EVENTS, hi := 2, lo := 2 }
def FIFO_EVENTS_abandoned : Fld := { addr := FIFO_EVENTS, hi := 1, lo := 1 }
def FIFO_EVENTS_host_drop : Fld := { addr := FIFO_EVENTS, hi := 0, lo := 0 }
/-- Word address inside the register space, R527 of 18_faults_lifecycle_test.md. -/
def FIX_STATUS (j : Nat) : Nat := 0x0F0 * 0x100 + 0x00 + j
/-- Word address inside the register space, R527 of 18_faults_lifecycle_test.md. -/
def FIX_MASK (j : Nat) : Nat := 0x0F0 * 0x100 + 0x08 + j
/-- Word address inside the register space, R527 of 18_faults_lifecycle_test.md. -/
def FIX_IDX : Nat := 0x0F0 * 0x100 + 0x10
def FIX_IDX_source : Fld := { addr := FIX_IDX, hi := 7, lo := 0 }
/-- Word address inside the register space, R527 of 18_faults_lifecycle_test.md. -/
def FIX_SRC : Nat := 0x0F0 * 0x100 + 0x11
/-- Word address inside the register space, R527 of 18_faults_lifecycle_test.md. -/
def FIX_FORCE : Nat := 0x0F0 * 0x100 + 0x12
/-- Word address inside the register space, R527 of 18_faults_lifecycle_test.md. -/
def FIX_RAISE : Nat := 0x0F0 * 0x100 + 0x13
/-- Word address inside the register space, R527 of 18_faults_lifecycle_test.md. -/
def FIX_SW_CLASS : Nat := 0x0F0 * 0x100 + 0x14
/-- Word address inside the register space, R527 of 18_faults_lifecycle_test.md. -/
def FIX_FIRST_SRC : Nat := 0x0F0 * 0x100 + 0x15
def FIX_FIRST_SRC_valid : Fld := { addr := FIX_FIRST_SRC, hi := 8, lo := 8 }
def FIX_FIRST_SRC_source : Fld := { addr := FIX_FIRST_SRC, hi := 7, lo := 0 }
/-- Word address inside the register space, R527 of 18_faults_lifecycle_test.md. -/
def FIX_FIRST_T_HI : Nat := 0x0F0 * 0x100 + 0x16
/-- Word address inside the register space, R527 of 18_faults_lifecycle_test.md. -/
def FIX_FIRST_T_LO : Nat := 0x0F0 * 0x100 + 0x17
/-- Word address inside the register space, R527 of 18_faults_lifecycle_test.md. -/
def FIX_VECTOR : Nat := 0x0F0 * 0x100 + 0x18
def FIX_VECTOR_vec : Fld := { addr := FIX_VECTOR, hi := 5, lo := 0 }
/-- Word address inside the register space, R527 of 18_faults_lifecycle_test.md. -/
def FIX_EVENTS : Nat := 0x0F0 * 0x100 + 0x19
def FIX_EVENTS_force_refused : Fld := { addr := FIX_EVENTS, hi := 0, lo := 0 }
/-- Word address inside the register space, R528 of 18_faults_lifecycle_test.md. -/
def UNIT_ID (u : Nat) : Nat := u * 0x100 + 0xF0
/-- Word address inside the register space, R528 of 18_faults_lifecycle_test.md. -/
def UNIT_STATUS (u : Nat) : Nat := u * 0x100 + 0xF1
def UNIT_STATUS_clk_on (u : Nat) : Fld := { addr := UNIT_STATUS u, hi := 3, lo := 3 }
def UNIT_STATUS_in_reset (u : Nat) : Fld := { addr := UNIT_STATUS u, hi := 2, lo := 2 }
def UNIT_STATUS_fenced (u : Nat) : Fld := { addr := UNIT_STATUS u, hi := 1, lo := 1 }
def UNIT_STATUS_first_fatal (u : Nat) : Fld := { addr := UNIT_STATUS u, hi := 0, lo := 0 }
/-- Word address inside the register space, R528 of 18_faults_lifecycle_test.md. -/
def UNIT_EVC_SEL (u : Nat) : Nat := u * 0x100 + 0xF2
def UNIT_EVC_SEL_offset (u : Nat) : Fld := { addr := UNIT_EVC_SEL u, hi := 15, lo := 8 }
def UNIT_EVC_SEL_bit (u : Nat) : Fld := { addr := UNIT_EVC_SEL u, hi := 5, lo := 0 }
/-- Word address inside the register space, R528 of 18_faults_lifecycle_test.md. -/
def UNIT_EVC (u : Nat) : Nat := u * 0x100 + 0xF3
/-- Word address inside the register space, R528 of 18_faults_lifecycle_test.md. -/
def UNIT_FAULT (u : Nat) : Nat := u * 0x100 + 0xFC
def UNIT_FAULT_source (u : Nat) : Fld := { addr := UNIT_FAULT u, hi := 15, lo := 8 }
def UNIT_FAULT_fault (u : Nat) : Fld := { addr := UNIT_FAULT u, hi := 0, lo := 0 }
/-- Word address inside the register space, R528 of 18_faults_lifecycle_test.md. -/
def UNIT_FAULT_FORCE (u : Nat) : Nat := u * 0x100 + 0xFD
/-- Word address inside the register space, R529 of 18_faults_lifecycle_test.md. -/
def LCY_STATE : Nat := 0x006 * 0x100 + 0x00
def LCY_STATE_vendor_open : Fld := { addr := LCY_STATE, hi := 5, lo := 5 }
def LCY_STATE_resuming : Fld := { addr := LCY_STATE, hi := 4, lo := 4 }
def LCY_STATE_state : Fld := { addr := LCY_STATE, hi := 2, lo := 0 }
/-- Word address inside the register space, R529 of 18_faults_lifecycle_test.md. -/
def LCY_NONCE_HI : Nat := 0x006 * 0x100 + 0x01
def LCY_NONCE_HI_val : Fld := { addr := LCY_NONCE_HI, hi := 31, lo := 0 }
/-- Word address inside the register space, R529 of 18_faults_lifecycle_test.md. -/
def LCY_NONCE_LO : Nat := 0x006 * 0x100 + 0x02
def LCY_NONCE_LO_val : Fld := { addr := LCY_NONCE_LO, hi := 31, lo := 0 }
/-- Word address inside the register space, R529 of 18_faults_lifecycle_test.md. -/
def LCY_JTAG : Nat := 0x006 * 0x100 + 0x03
def LCY_JTAG_ext_en : Fld := { addr := LCY_JTAG, hi := 0, lo := 0 }
/-- Word address inside the register space, R529 of 18_faults_lifecycle_test.md. -/
def LCY_EVENTS : Nat := 0x006 * 0x100 + 0x04
def LCY_EVENTS_token_fail : Fld := { addr := LCY_EVENTS, hi := 2, lo := 2 }
def LCY_EVENTS_jtag_drive : Fld := { addr := LCY_EVENTS, hi := 1, lo := 1 }
def LCY_EVENTS_transition : Fld := { addr := LCY_EVENTS, hi := 0, lo := 0 }
/-- Word address inside the register space, R530 of 18_faults_lifecycle_test.md. -/
def TST_CTL : Nat := 0x0F1 * 0x100 + 0x00
def TST_CTL_stamp_en : Fld := { addr := TST_CTL, hi := 3, lo := 3 }
def TST_CTL_resp_en : Fld := { addr := TST_CTL, hi := 2, lo := 2 }
def TST_CTL_bp_en : Fld := { addr := TST_CTL, hi := 1, lo := 1 }
def TST_CTL_err_en : Fld := { addr := TST_CTL, hi := 0, lo := 0 }
/-- Word address inside the register space, R530 of 18_faults_lifecycle_test.md. -/
def TST_SEED : Nat := 0x0F1 * 0x100 + 0x01
/-- Word address inside the register space, R530 of 18_faults_lifecycle_test.md. -/
def TST_STAMP : Nat := 0x0F1 * 0x100 + 0x02
def TST_STAMP_target : Fld := { addr := TST_STAMP, hi := 39, lo := 38 }
def TST_STAMP_amp : Fld := { addr := TST_STAMP, hi := 23, lo := 12 }
def TST_STAMP_ofs : Fld := { addr := TST_STAMP, hi := 11, lo := 0 }
/-- Word address inside the register space, R530 of 18_faults_lifecycle_test.md. -/
def TST_RESP : Nat := 0x0F1 * 0x100 + 0x03
def TST_RESP_random : Fld := { addr := TST_RESP, hi := 39, lo := 39 }
def TST_RESP_unit : Fld := { addr := TST_RESP, hi := 27, lo := 16 }
def TST_RESP_delay_ns : Fld := { addr := TST_RESP, hi := 15, lo := 0 }
/-- Word address inside the register space, R530 of 18_faults_lifecycle_test.md. -/
def TST_BP : Nat := 0x0F1 * 0x100 + 0x04
def TST_BP_fifo : Fld := { addr := TST_BP, hi := 39, lo := 32 }
def TST_BP_period_ns : Fld := { addr := TST_BP, hi := 31, lo := 16 }
def TST_BP_full_ns : Fld := { addr := TST_BP, hi := 15, lo := 0 }
/-- Word address inside the register space, R530 of 18_faults_lifecycle_test.md. -/
def TST_ERR : Nat := 0x0F1 * 0x100 + 0x05
def TST_ERR_unit : Fld := { addr := TST_ERR, hi := 27, lo := 16 }
def TST_ERR_nth : Fld := { addr := TST_ERR, hi := 15, lo := 0 }
/-- Word address inside the register space, R530 of 18_faults_lifecycle_test.md. -/
def TST_CNT : Nat := 0x0F1 * 0x100 + 0x06
def TST_CNT_count : Fld := { addr := TST_CNT, hi := 31, lo := 0 }
/-- Word address inside the register space, R541 of 19_tally_counters.md. -/
def UNIT_TALLY (u j : Nat) : Nat := u * 0x100 + 0xF4 + j
/-- Word address inside the register space, R541 of 19_tally_counters.md. -/
def UNIT_TALLY_SEL (u : Nat) : Nat := u * 0x100 + 0xF8
/-- Word address inside the register space, R542 of 19_tally_counters.md. -/
def TLY_CTL : Nat := 0x0F2 * 0x100 + 0x00
def TLY_CTL_hold : Fld := { addr := TLY_CTL, hi := 1, lo := 1 }
def TLY_CTL_en : Fld := { addr := TLY_CTL, hi := 0, lo := 0 }
/-- Word address inside the register space, R542 of 19_tally_counters.md. -/
def TLY_PERIOD : Nat := 0x0F2 * 0x100 + 0x01
def TLY_PERIOD_period_us : Fld := { addr := TLY_PERIOD, hi := 31, lo := 0 }
/-- Word address inside the register space, R542 of 19_tally_counters.md. -/
def TLY_STATUS : Nat := 0x0F2 * 0x100 + 0x02
def TLY_STATUS_bank : Fld := { addr := TLY_STATUS, hi := 33, lo := 33 }
def TLY_STATUS_busy : Fld := { addr := TLY_STATUS, hi := 32, lo := 32 }
def TLY_STATUS_serial : Fld := { addr := TLY_STATUS, hi := 31, lo := 0 }
/-- Word address inside the register space, R542 of 19_tally_counters.md. -/
def TLY_BUF_IDX : Nat := 0x0F2 * 0x100 + 0x03
def TLY_BUF_IDX_bank : Fld := { addr := TLY_BUF_IDX, hi := 11, lo := 11 }
def TLY_BUF_IDX_word : Fld := { addr := TLY_BUF_IDX, hi := 10, lo := 0 }
/-- Word address inside the register space, R542 of 19_tally_counters.md. -/
def TLY_BUF_DATA : Nat := 0x0F2 * 0x100 + 0x04
/-- Word address inside the register space, R542 of 19_tally_counters.md. -/
def TLY_SLOT_IDX : Nat := 0x0F2 * 0x100 + 0x05
def TLY_SLOT_IDX_position : Fld := { addr := TLY_SLOT_IDX, hi := 8, lo := 3 }
def TLY_SLOT_IDX_entry : Fld := { addr := TLY_SLOT_IDX, hi := 2, lo := 0 }
/-- Word address inside the register space, R542 of 19_tally_counters.md. -/
def TLY_SLOT_DATA : Nat := 0x0F2 * 0x100 + 0x06
/-- Word address inside the register space, R542 of 19_tally_counters.md. -/
def TLY_EVENTS : Nat := 0x0F2 * 0x100 + 0x07
def TLY_EVENTS_skipped : Fld := { addr := TLY_EVENTS, hi := 1, lo := 1 }
def TLY_EVENTS_sweep_done : Fld := { addr := TLY_EVENTS, hi := 0, lo := 0 }

end Sys2Proof.Machine
end

