-- ==== Sys2Proof/Machine/State.lean ====
section
/-! DEFINITION. The state of the machine as plain data, the reasons a step can stop, and the state after reset. -/

namespace Sys2Proof.Machine

/-- Why a command stops without a next state. -/
inductive Fault where
  /-- Raised by an instruction or a write whose behaviour R15, R79 or R125 calls unpredictable: a reserved field or
  value, an odd pair register, a non-normalized T80. Safe: nothing is claimed of it. -/
  | unpredictable
  /-- Raised by a register write that gives a field a value its table calls reserved; no effect is given for it.
  Safe. -/
  | reservedValue
deriving DecidableEq, Repr

/-- Why a command has no meaning here. -/
inductive Refusal where
  /-- The command has not been given its meaning. Safe. -/
  | notModelled (mnemonic : String)
deriving DecidableEq, Repr


/-- One hardware FIFO (R494 to R502). In plain mode each word is a unit of its own in `closed`; in packet mode each
element of `closed` is one closed packet, its length word first. -/
structure Fifo where
  base : Nat
  depthLog : Nat
  packet : Bool
  en : Bool
  closed : List (List Word)
  begun : Bool
  owner : Option Nat
  openWords : List Word
  cut : Bool
  nWash : Nat
  nAbandon : Nat
  nHostDrop : Nat
deriving DecidableEq, Repr

/-- A FIFO after a cold reset: FIFO_CFG at its reset values (R505), nothing held. -/
def Fifo.reset : Fifo :=
  { base := 0, depthLog := 4, packet := false, en := false, closed := [], begun := false, owner := none,
    openWords := [], cut := false, nWash := 0, nAbandon := 0, nHostDrop := 0 }

/-- A write that waits for its FIFO to take it (R497, R499): the FIFO, the master, the framing, the word, and the core whose
store buffer holds it (R71, R75), none for another master's. -/
structure FifoWrite where
  fifo : Nat
  master : Nat
  frame : Nat
  word : Word
  core : Option Nat
deriving DecidableEq, Repr

/-- The fault collector's state behind its registers: the unit each source last named (FIX_SRC.unit), the fencing
sources that named each unit since its fence began (R508), and the FATAL state of R510. -/
structure FixSt where
  srcUnit : Tab Nat
  fenceBy : Tab (List Nat)
  fatal : Bool
  faultN : Bool
deriving DecidableEq, Repr

/-- Before any fault: FAULT_N is high (`faultN` is the level of the pin). -/
def FixSt.reset : FixSt := { srcUnit := [], fenceBy := [], fatal := false, faultN := true }

/-- What a device reset in progress still needs (R457 to R466): whether RESET_N and PWR_GOOD hold the device in
reset, whether the reset is a cold one, the bring-up step in progress (8: complete), the training attempts of the
die link in training, the units that RST_LOCAL holds in local reset with the instant each entered, those that a bad clock holds, and the instant at which
the filter took the low level of RESET_N, where the counter ran on. Instants are without the steps of TB (log 156). -/
structure RstSt where
  resetN : Bool
  pwrGood : Bool
  cold : Bool
  held : Bool
  step : Nat
  linkTries : Nat
  linkAt : Nat
  stopped : Bool
  optRecord : List Word
  optCold : List Word
  perstN : Bool
  pcieTraining : Bool
  pcieUp : Bool
  localUnits : List (Nat × T80)
  clockBad : List Nat
  lowAt : Option T80
deriving DecidableEq, Repr

/-- Right after a power-on reset: PWR_GOOD and RESET_N high, a cold bring-up at its first step (R458, R462). -/
def RstSt.reset : RstSt :=
  { resetN := true, pwrGood := true, cold := true, held := false, step := 1, linkTries := 0, linkAt := 0,
    stopped := false, optRecord := [], optCold := [], perstN := false, pcieTraining := false, pcieUp := false,
    localUnits := [], clockBad := [], lowAt := none }

/-- The last completion the PCIe endpoint gave the host: the slots read, or Completer Abort (R482, R483), and the
MSI-X vectors sent, oldest first (R514, R124). -/
structure HostPort where
  data : List (BitVec 64)
  abort : Bool
  msix : List Nat
deriving DecidableEq, Repr

/-- No completion and no message yet. -/
def HostPort.reset : HostPort := { data := [], abort := false, msix := [] }

/-- Tally (R534 to R540): the two record banks, the sweep in progress (its start, the next slot to read, the values its
present group has left), the next instant at which a sweep starts, and the slot counters that the model counts: retired slots,
loads and traps of each position under position × 8 + entry. -/
structure TlySt where
  bank0 : List Word
  bank1 : List Word
  start : T80
  next : Nat
  group : List Word
  nextAt : T80
  slots : Tab Word
deriving DecidableEq, Repr

/-- No record yet. -/
def TlySt.reset : TlySt :=
  { bank0 := [], bank1 := [], start := ⟨0, 0⟩, next := 0, group := [], nextAt := ⟨0, 0⟩, slots := [] }

/-- The life-cycle fuses (two per state from PROVING on, R518), the test unit's generator (R525) and the JTAG
instruction that drives pins (R524), and whether one has stopped the executors since the last reset. -/
structure LcySt where
  fuseA : List Nat
  fuseB : List Nat
  lfsr : Word
  accesses : Nat
  jtagDrive : Bool
  stopped : Bool
deriving DecidableEq, Repr

/-- A BLANK device: no life-cycle fuse blown. -/
def LcySt.reset : LcySt := { fuseA := [], fuseB := [], lfsr := 1, accesses := 0, jtagDrive := false, stopped := false }

/-- What a core waits for; `none` while it issues instructions (R81 to R103). `past` marks a WAIT whose instant a time step has
carried the counter past (R83); `unitErr` is a URD (with its destination) or UWR whose access a fence has ended with an error response
that is on its way (R25). -/
inductive CoreWait where
  | none
  | wait (t : T80) (past : Bool)
  | wev (rd : Nat) (mask : Word) (deadline : Option T80)
  | sched (rd : Nat)
  | schedDone (rd : Nat) (res : Word) (late : Bool)
  | push (fifo frame : Nat) (w : Word)
  | qsend (desc queue rd : Nat) (stamp : Bool)
  | urd (rd unit off : Nat)
  | uwr (unit off : Nat) (w : Word)
  | unitErr (rd : Option Nat) (unit off : Nat)
  | kop (rd : Nat) (out : Nat) (data : List Word) (status : Word)
deriving DecidableEq, Repr

/-- One outstanding load (R75): the load itself, how many instructions issued behind it, what has come back
(0 nothing, 2 an error, 3 an error that a fence has caused and that is on its way, R25), the registers, accumulators and flags as they stood before it,
and the instant before which the test unit holds its response back (R525). -/
structure Load where
  pc : Nat
  rd : Nat
  pair : Bool
  addr : Nat
  after : Nat
  back : Nat
  kind : Option Nat
  regs : Tab Word
  a0 : BitVec 88
  a1 : BitVec 88
  flags : Flags
  due : T80
deriving DecidableEq, Repr

/-- The state of one core (R42): position 0 to 15 an Easel core, 16 + 8g + e engine e of Brush group g (R535).
`due` is the instant before which the test unit holds back the response that a URD or UWR waits for (R525), `evts` holds the pending edge events of R85, `stErr` the error responses to
posted stores on their way to the core (address and kind) and `stBack` those that have reached it and not trapped yet (R105), `held` the WAIT or WEV that a trap has
ended and RESUME takes up again (R83, R105), `fenced` an engine held in reset by its group's wrapper (R508). -/
structure Core where
  regs : Tab Word
  a0 : BitVec 88
  a1 : BitVec 88
  flags : Flags
  pc : Nat
  halted : Bool
  keeper : Bool
  inTrap : Bool
  waiting : CoreWait
  loads : List Load
  stErr : List (Nat × Option Nat)
  stBack : List (Nat × Option Nat)
  evts : Nat
  held : CoreWait
  fenced : Bool
  due : T80
deriving DecidableEq, Repr

/-- A core after a reset that reaches it: registers, accumulators and flags zero (R47), not running (R110). -/
def Core.reset : Core :=
  { regs := [], a0 := 0, a1 := 0, flags := Flags.zero, pc := 0, halted := true, keeper := false, inTrap := false,
    waiting := .none, loads := [], stErr := [], stBack := [], evts := 0, held := .none, fenced := false, due := ⟨0, 0⟩ }

/-- The mailbox (R118 to R121): the command and response slots of the window, the command copied at the doorbell, whether
it has begun, and the image that a LOAD_IMAGE under way has checked, with the section that it writes next (R113, R120). -/
structure MbxSt where
  win : Tab (BitVec 64)
  resp : Tab (BitVec 64)
  cmd : List (BitVec 64)
  started : Bool
  image : List Word
  section_ : Nat
deriving DecidableEq, Repr

/-- An empty mailbox. -/
def MbxSt.reset : MbxSt := { win := [], resp := [], cmd := [], started := false, image := [], section_ := 0 }

/-- What the header of a loaded image fixes for its cores (R112): the House functions it replaces, its entry and trap handler
addresses, its initial g30 and the cores it starts. -/
structure ImgHdr where
  replaces : Nat
  entry : Nat
  tvec : Nat
  stack : Nat
  start : Nat
deriving DecidableEq, Repr

/-- No image loaded. -/
def ImgHdr.reset : ImgHdr := { replaces := 0, entry := 0, tvec := 0, stack := 0, start := 0 }

/-- The House set (R114 to R117): boot images refused, whether its bring-up is complete, and the image last loaded into Easel
cluster c (under c) or Brush group g (under 4 + g). -/
structure HouseSt where
  bootRefused : Nat
  bringUpDone : Bool
  images : Tab ImgHdr
deriving DecidableEq, Repr

/-- Bring-up under way, no image loaded. -/
def HouseSt.reset : HouseSt := { bootRefused := 0, bringUpDone := false, images := [] }

/-- The T80 counter (R126): seconds, nanoseconds, the 48-bit fraction and the 32-bit residue; the time of the tick
before; the amount still to be slewed in units of 10^-12 / 1024 ns (R132); an armed load (R131); and whether the counter
counts (R462); the increment emitted on the last tick (R126, in 2^-48 ns), the sum of the steps and of the load made (R280), the slew applied since the
last Palette tick (R186), the time before the first step of this tick (R135, R153), the last leap's instant with TB_UTC_OFS before
it (R138), the ticks counted (R198), the millisecond of the last comparison of the copies, and by how many units of 2^-10 ns a unit's local copy of the counter
stands off it (R32: none does, but by a hardware failure). -/
structure TbSt where
  sec : Nat
  ns : Nat
  phi : Nat
  residue : Nat
  prev : T80
  rem : Int
  load : Option (Word × Word)
  counting : Bool
  leapEnd : T80
  emit : Nat
  steps : Int
  slewed : Int
  raw : Nat
  pre : Option T80
  leapAt : Option (T80 × Nat)
  compared : Nat
  copies : Tab Int
deriving DecidableEq, Repr

/-- The counter after a cold reset: zero, and not counting until bring-up step 3 (R130, R462). -/
def TbSt.reset : TbSt :=
  { sec := 0, ns := 0, phi := 0, residue := 0, prev := ⟨0, 0⟩, rem := 0, load := none, counting := false,
    leapEnd := ⟨0, 0⟩, emit := 2 ^ 48, steps := 0, slewed := 0, raw := 0, pre := none, leapAt := none,
    compared := 0, copies := [] }

/-- A stroke: its T80, action word, tag and check word (R140). -/
structure Stroke where
  hi : Word
  lo : Word
  act : Word
  tag : Nat
  chk : Nat
deriving DecidableEq, Repr

/-- One ledger slot (R148). `state` is 0 FREE, 1 PENDING, 2 DISPATCHED, 3 DONE, 4 REPORTED; `report` the code of word 4;
`commit` whether the stroke has reached its commit point (R36), `chip` whether a verified copy of its words is on chip
(R570), `twin` whether it is the mirrored copy of a stroke accepted by the other unit (R450), `resume` whether it fell due before
t_resume and executes there (R159). -/
structure Slot where
  state : Nat
  report : Nat
  leadDone : Bool
  keeper : Bool
  seq : Nat
  offerer : Nat
  late : Nat
  commit : Bool
  chip : Bool
  twin : Bool
  resume : Bool
  stroke : Stroke
deriving DecidableEq, Repr

/-- A FREE slot. -/
def Slot.free : Slot :=
  { state := 0, report := 0, leadDone := false, keeper := false, seq := 0, offerer := 0, late := 0, commit := false, chip := false, twin := false,
    resume := false, stroke := { hi := 0, lo := 0, act := 0, tag := 0, chk := 0 } }

/-- Who waits for the answer of an offer: a core in SCHED, the mailbox's OFFER_STROKE, a KEY_UPDATE with its update slot (R377), the House Palette
control for a step (R190), or nobody: House, or one that has been stopped or aborted since. -/
inductive Asker where
  | core (k : Nat)
  | mailbox
  | update (slot : Nat)
  | step
  | nobody
deriving DecidableEq, Repr

/-- An offer not yet answered (R149, R568): who offers (a core position, or none for the mailbox), who waits for the answer, the stroke, the
slot it was given and what that held before, whether its own ledger write has completed, whether the twin has acknowledged it, whether it was
mirrored, whether its time had passed. An offer
with no slot waits on another offer of the same stroke or on recovery; `fromTwin` marks a mirrored stroke received, `at_` is when its
STROKE frame was sent. -/
structure Offer where
  core : Option Nat
  asker : Asker
  stroke : Stroke
  keeper : Bool
  slot : Option Nat
  old : Slot
  wrote : Bool
  mirrored : Bool
  acked : Bool
  late : Bool
  fromTwin : Bool
  at_ : T80
deriving DecidableEq, Repr

/-- The trailing edge still to come of a pulse (R154). -/
structure Trail where
  slot : Nat
  seq : Nat
  pin : Nat
  at_ : T80
  level : Bool
deriving DecidableEq, Repr

/-- The Sketchbook behind its registers: the state table with the stroke words (R148, R570), offers in progress, the
completion journal (R158: seq, report, lateness), pulse trailing edges, PUSH strokes waiting for their FIFOs (R152), whether
the executors are armed (R159), what they wait for (0 nothing, 1 recovery, 2 t_resume), whether the recovery to come follows
a cold reset, the level each pin moved on this
tick had before it (1 low, 2 high; R153, R270), and the seqs of the mirrored strokes whose acknowledgement had not come when the last
reset struck (R150). -/
structure SkbSt where
  slots : Tab Slot
  offers : List Offer
  journal : List (Nat × Nat × Nat)
  trails : List Trail
  pushWait : List Nat
  armed : Bool
  waits : Nat
  cold : Bool
  tickPins : Tab Nat
  unresolved : List Nat
deriving DecidableEq, Repr

/-- An empty ledger; the executors are not armed until t_resume (R159). -/
def SkbSt.reset : SkbSt :=
  { slots := [], offers := [], journal := [], trails := [], pushWait := [], armed := false, waits := 1, cold := true,
    tickPins := [], unresolved := [] }

/-- What one Palette slot holds behind its registers: X of R186 in 10^-12/1024 ns, the samples since the last tick (R169),
the time of the last sample, the cross-check history (instant, deviation) and D (R179), since when D has stayed within half
its budget, the source faults set by PAL_CMD and by the port that feeds the slot (R174), the instant of the last qrank
change (R173), the end of the qualification timer (R176), whether the filter restarts from the next sample (R177), whether the host has cleared its
disagreement (R181), whether TDC1's stamps for slot 8 are uncalibrated (R288), and the whole seconds by which its samples are kept in
range while the time is not valid (R183). The instants of a slot are without the steps of TB (log 156). -/
structure PalSlot where
  x : Int
  pend : List Int
  lastAt : Option T80
  hist : List (Nat × Int)
  d : Int
  clearFrom : Option T80
  cmdFault : Bool
  portFault : Bool
  rankAt : T80
  qualEnd : T80
  restart : Bool
  cleared : Bool
  oscFault : Bool
  seed : Int
deriving DecidableEq, Repr

/-- A slot with nothing measured yet. -/
def PalSlot.reset : PalSlot :=
  { x := 0, pend := [], lastAt := none, hist := [], d := 0, clearFrom := none, cmdFault := false, portFault := false,
    rankAt := ⟨0, 0⟩, qualEnd := ⟨0, 0⟩, restart := true, cleared := false, oscFault := false, seed := 0 }

/-- A switch in progress (R187): the old slot, the new one, the decision tick, phase_o - X_o in 10^-12/1024 ns, phase_s
in 1/1024 ns, and X_o as they stood then, A once computed (10^-12/1024 ns), the old slot's reference term (R225), or UND_B_ENTRY
where the switch leaves HOLD or FREQ mode, and the event entries that then count beside it (R221). -/
structure Switch where
  from_ : Option Nat
  to_ : Nat
  t0 : T80
  base : Int
  phaseS : Int
  xo : Int
  a : Option Int
  oldRef : Nat
  oldEvt : Nat
  fromHold : Bool
deriving DecidableEq, Repr

/-- One REFIN divider (R170, R171): raw edges since the last divided one, the last divided edge, and how many
consecutive good spacings have been seen. -/
structure RefIn where
  raw : Nat
  last : Option T80
  good : Nat
deriving DecidableEq, Repr

/-- A divider that has seen no edge. -/
def RefIn.reset : RefIn := { raw := 0, last := none, good := 0 }

/-- The Palette behind its registers: the slots, the dividers, the switch in progress, the configuration writes held
behind it (R185), since when |e| has stayed in the lock window (R192), the switch allowances still live (R189), whether the
last holdover began because the selected slot went DRIFTING (R212), the whole millisecond of the last tick (R168),
whether the step awaited is the wide step of R191, the step in µs that House has still to offer and whether one was not made (R190, R191), and what carries ATOM_IN's
accumulated phase over to slot 8's (R166). -/
structure PalSt where
  slots : Tab PalSlot
  refin : Tab RefIn
  sw : Option Switch
  heldWrites : List (Nat × Word)
  lockFrom : Option T80
  allow : Nat
  holdDrift : Bool
  ticks : Nat
  wide : Bool
  stepUs : Option Int
  stepMissed : Bool
  anchor : Option Int
deriving DecidableEq, Repr

/-- FREE-RUN with no slot selected (R195). -/
def PalSt.reset : PalSt :=
  { slots := [], refin := [], sw := none, heldWrites := [], lockFrom := none, allow := 0, holdDrift := false,
    ticks := 0, wide := false, stepUs := none, stepMissed := false, anchor := none }

/-- A learning sample (R206): its instant, the mean of TB_STEER - F in 2^-40 F40 units, and the mean temperature in mK. -/
structure LearnPt where
  at_ : T80
  y : Int
  temp : Int
deriving DecidableEq, Repr

/-- The Underpainting behind its registers: I and L (R201) in 2^-40 F40 units, the bandwidth in force in 2^-20 µHz and when it was
last halved, the damping in force (R202), the mode held before BRIDGE (R203), the last loop update, the history of L (R212: instant and L, newest
first), the phase of R205 in 2^-40 × 10^-10 ns, the learning samples waiting and in the fit (R206, R207) with the seconds
accepted, the last external temperature write (R210), the last on-die reading in mK, whether |T - T_ref| exceeds
UND_T_DEV, H of the tick before (R222),
the start of the FREQ term (R214), the two integrals of R213 in mK × 1/1024 ns (temperature valid, invalid) with the instant
they stand at, their values at each whole hour of the holdover, newest first (R216), the steps of TB made when it began (R213), whether the loop has run since cold reset, whether y0 has been set at
the first lock (R208), the TDC1 reading since the last tick, the phase of OSC_IN against ATOM_IN as TDC1 last gave it, in 1/1024 ns, with its value
and age in ticks when F was computed last (R198), the sums of TB_STEER - F and of the temperature over the ticks since the last learning sample and
their number, the second of that sample, the hour of the last model update and the second of the last prediction (R206, R207, R216), and whether UND_CMD op 2
asks for the predictions. Instants here are without the steps of TB (log 156). -/
structure UndSt where
  i : Int
  l : Int
  bw : Nat
  halved : T80
  zeta : Nat
  before : Nat
  lastUpd : Option T80
  lHist : List (Nat × Int)
  xc : Int
  waiting : List LearnPt
  fit : List LearnPt
  secs : Nat
  extAt : Option T80
  sensor : Int
  tempHigh : Bool
  hPrev : Nat
  hFrom : T80
  tInt : Nat
  tBad : Nat
  intAt : T80
  hours : List (Nat × Nat)
  holdSteps : Int
  ran : Bool
  locked : Bool
  lastSample : Option T80
  osc : Option Int
  oscRef : Option Int
  oscAge : Nat
  lrnSum : Int
  lrnTemp : Int
  lrnN : Nat
  lrnSec : Nat
  fitHour : Nat
  predSec : Nat
  recompute : Bool
deriving DecidableEq, Repr

/-- The servo off, nothing learned. -/
def UndSt.reset : UndSt :=
  { i := 0, l := 0, bw := 0, halved := ⟨0, 0⟩, zeta := 5000, before := 0, lastUpd := none, lHist := [], xc := 0, waiting := [], fit := [],
    secs := 0, extAt := none, sensor := 0, tempHigh := false, hPrev := 0, hFrom := ⟨0, 0⟩, tInt := 0, tBad := 0, intAt := ⟨0, 0⟩,
    hours := [], holdSteps := 0, ran := false, locked := false, lastSample := none, osc := none, oscRef := none, oscAge := 0,
    lrnSum := 0, lrnTemp := 0, lrnN := 0, lrnSec := 0, fitHour := 0, predSec := 0, recompute := false }

/-- One attestation record in the making (R238, R239): its serial, second, words, and sig_state (0 pending). -/
structure AttRec where
  serial : Nat
  sec : Nat
  words : List Word
  sig : Nat
deriving DecidableEq, Repr

/-- The Glaze behind its registers: which event entries were activated after UND_B_ENTRY was latched (R221), lineage
causes waiting for the next Palette tick (R229), records awaiting their signature, the digest of the last record (R238), the selected slot's rank and the Palette state on the tick
before, and the upstream identities committed for each slot (R243), B_pub of the last 1,024 ticks, newest first (R334), and the
latest 16 lineage identifiers with their ticks, newest first (R230, R231). -/
structure GlzSt where
  evtNew : Nat
  causes : List Nat
  recs : List AttRec
  digest : List Word
  lastRank : Nat
  lastState : Nat
  ups : Tab (Word × Word)
  bHist : List Nat
  lins : List (T80 × Word)
deriving DecidableEq, Repr

/-- No record yet; every digest word zero (R238). -/
def GlzSt.reset : GlzSt :=
  { evtNew := 0, causes := [], recs := [], digest := [], lastRank := 15, lastState := 0,
    ups := [], bHist := [], lins := [] }

/-- An effect that falls due at a stated delay after the command that starts it; the timebase tick on which the counter
reaches its time performs it (R30). -/
inductive Timed where
  | bridge
  | absorb
  | slewA
  | steer
  | holdMode
  | holdL
deriving DecidableEq, Repr

/-- One Varnish PLL behind its registers (R244 to R262): the reference phase θ in VCO cycles on this tick and on the one before, the steps of TB
it has followed, the ratio in force (n_int, n_num, n_den and d), the glide offset g and its target in 10^-12, when the present HOP or SEARCH
was entered, whether it was entered as a search, the band memory entry that the present band comes from, how many searches have failed since the last RELOCK or en
set, when ACQUIRE was entered, when lock was declared last and when the input was found bad last, the band memory order
of use (least recent first), the earliest instant at which outputs ungate (R256), whether the phase is returning to
the grid after a glide (R260), the cycles by which glides have moved θ off it, the instant of the next part of that return and of the next part of a phase
step (R261), whether a step's step_done is still to come, and by how many ps the emitter terms stand above their steady value for steps begun (R262). Instants
but for `ungateAt` are without the steps of TB (log 156). -/
structure VarSt where
  theta : Rat
  was : Rat
  steps : Int
  nInt : Nat
  nNum : Nat
  nDen : Nat
  d : Nat
  g : Int
  gTarget : Int
  entered : T80
  bySearch : Bool
  used : Option Nat
  searches : Nat
  acqAt : T80
  lockedAt : T80
  lossAt : T80
  order : List Nat
  ungateAt : T80
  realign : Bool
  off : Rat
  alignAt : T80
  stepAt : T80
  stepOpen : Bool
  raised : Nat
deriving DecidableEq, Repr

/-- A PLL that is off (R249). -/
def VarSt.reset : VarSt :=
  { theta := 0, was := 0, steps := 0, nInt := 24, nNum := 0, nDen := 1, d := 4, g := 0, gTarget := 0, entered := ⟨0, 0⟩, bySearch := false,
    used := none, searches := 0, acqAt := ⟨0, 0⟩, lockedAt := ⟨0, 0⟩, lossAt := ⟨0, 0⟩, order := [], ungateAt := ⟨0, 0⟩, realign := false,
    off := 0, alignAt := ⟨0, 0⟩, stepAt := ⟨0, 0⟩, stepOpen := false, raised := 0 }

/-- One output behind its registers (R247, R255, R263, R264, R509): whether its clock runs, whether it stops at its next falling edge and is to go
high-impedance then, the VCO cycle from which the divider of an output without a grid counts, what its driver does on the next tick, the fine
delay of its last edge in 1/1024 ns, the tick t0 of a FATAL state whose safe state it has still to take, the instant of a give-up that has still to release
it (R448), and the last tick on which its own level was high (R449). -/
structure OutSt where
  run : Bool
  stop : Bool
  leave : Bool
  base : Rat
  drive : Option Bool
  fine : Nat
  safeAt : Option T80
  giveAt : Option T80
  highAt : Option T80
deriving DecidableEq, Repr

/-- An output that is off. -/
def OutSt.reset : OutSt :=
  { run := false, stop := false, leave := false, base := 0, drive := none, fine := 0, safeAt := none, giveAt := none, highAt := none }

/-- A frame of the twin link waiting for its acknowledgement: sequence number, type, payload, times sent, and when it
was last sent (R435, R436). -/
structure TwFrame where
  seq : Nat
  kind : Nat
  payload : List Word
  sends : Nat
  at_ : T80
deriving DecidableEq, Repr

/-- The twin unit behind its registers (R432 to R455): link sequence numbers, frames not acknowledged, frames sent
(newest first), the last valid frame, whether the link-key copy is held (R437), whether HELLO has been verified and sent,
the mirrored state of R442 not yet applied, the planned swap (its
instant, whether the peer acknowledged, when it was sent, whether the mailbox waits for it), the GIVE received, the
instant of drive permission, when LAPSED became quiet and when the unit became standby-ready without a break, the
outputs that still await their driver (R449) or the end of their check (R453), whether this unit took part in a planned
swap not yet ended, whether its state is that of a cold reset (R439), the departure time of the last frame received, when
en was set, the round trips of the last 10 s (instant, ns), the last progress of the acknowledgement, how many PPS samples
in a row lay within 50 ps (R444), the mirrored state last sent, whether the ownership line is still to be released after the last driver (R448), when the
last HELLO went out (R438), and whether the present silence has been reported (R456). A check stands with the instant its output's driver enabled (R453). -/
structure TwSt where
  txSeq : Nat
  rxSeq : Nat
  unacked : List TwFrame
  sent : List (Nat × List Word)
  lastRx : T80
  keyCopy : Bool
  helloRx : Bool
  helloTx : Bool
  mirror : Tab Word
  swapAt : Option T80
  swapAck : Bool
  swapSent : T80
  swapMbx : Bool
  give : Option T80
  driveAt : Option T80
  gapFrom : T80
  quietFrom : T80
  readyFrom : Option T80
  waitOut : List Nat
  checks : List (Nat × T80)
  swapping : Bool
  coldReset : Bool
  lastDep : T80
  enAt : T80
  rtts : List (Nat × Nat)
  progressAt : T80
  alignRun : Nat
  mirrorSent : Tab Word
  releasing : Bool
  helloAt : T80
  silent : Bool
deriving DecidableEq, Repr

/-- Pairing off (R438). -/
def TwSt.reset : TwSt :=
  { txSeq := 0, rxSeq := 0, unacked := [], sent := [], lastRx := ⟨0, 0⟩, keyCopy := false, helloRx := false,
    helloTx := false, mirror := [], swapAt := none, swapAck := false,
    swapSent := ⟨0, 0⟩, swapMbx := false, give := none, driveAt := none, gapFrom := ⟨0, 0⟩, quietFrom := ⟨0, 0⟩,
    readyFrom := none, waitOut := [], checks := [], swapping := false, coldReset := true, lastDep := ⟨0, 0⟩,
    enAt := ⟨0, 0⟩, rtts := [], progressAt := ⟨0, 0⟩, alignRun := 0, mirrorSent := [], releasing := false, helloAt := ⟨0, 0⟩, silent := false }

/-- An open pairing edge (R277, R278): its instant at full internal precision in 1/16 of 1/1024 ns with the steps of TB
taken out (R280), whether it is a start, whether the calibration was not valid for it, the second it fell in, and the
instant at which its window closes, counted as its own. -/
structure TdcEdge where
  x : Int
  start : Bool
  uncal : Bool
  sec : Nat
  close : Int
deriving DecidableEq, Repr

/-- One TDC channel behind its registers (R275 to R288): the result queue, the open edges, the last accepted edge of each
polarity, the FREQ gate in progress (its end, the count, first and last edge, and whether an edge was uncalibrated), the
ovf and swap marks owed to the next record, the code-density tables of lines A and B in 1/16 LSB, the last completed
calibration with the die temperature at it in mK (R287), and of TDC1 the raw edges since the last divided one and ATOM_IN's accumulated
phase in 1/1024 ns without the steps of TB (R198, R271). -/
structure TdcSt where
  queue : List (List Word)
  opens : List TdcEdge
  lastRise : Option Int
  lastFall : Option Int
  gateEnd : Option T80
  gateCount : Nat
  gateFirst : Option Int
  gateLast : Int
  gateUncal : Bool
  ovf : Bool
  swap : Bool
  lineA : Tab Nat
  lineB : Tab Nat
  calAt : Option T80
  calTemp : Int
  raw : Nat
  phase : Option Int
deriving DecidableEq, Repr

/-- A channel after a reset: nothing queued, no table (R291). -/
def TdcSt.reset : TdcSt :=
  { queue := [], opens := [], lastRise := none, lastFall := none, gateEnd := none, gateCount := 0, gateFirst := none,
    gateLast := 0, gateUncal := false, ovf := false, swap := false, lineA := [], lineB := [],
    calAt := none, calTemp := 0, raw := 0, phase := none }

/-- A tracking pair beside its registers (R296, R298 to R300, R314): the stream whose fault lost it, when its pull-in began, when it last had carrier
lock on antenna A, the millisecond and the contents of its last record, and whether the symbols held at a loss of lock are still to be
pushed. Instants here and below are without steps (log 156). -/
structure GnsPair where
  lostBy : Option Nat
  pullAt : Option T80
  lockAt : T80
  recAt : Option Nat
  last : Option PairMeas
  symbols : Bool
deriving DecidableEq, Repr

/-- A pair that has not run. -/
def GnsPair.reset : GnsPair := { lostBy := none, pullAt := none, lockAt := ⟨0, 0⟩, recAt := none, last := none, symbols := false }

/-- The GNSS baseband and its navigation function beside their registers: the words behind the index registers; the last fault of each faulted
stream; the pairs; the bank's next entry, the cells searched so far in the sweep, the sweep's start, the end of the dwell that a restart
waits for, the strongest peak on antenna A by signal, and the secondary peaks by entry with their signal (R298, R302 to R304, R313); the
signals flagged and for how many seconds the spread of each band has been small (R313, R314); the last solution's second and signals, the age
of the kept orbits and what they predict, and the last kept fix (R305 to R307); when both spoofing tests became clear, the survey's start, the
last sleep or wake of sentinel mode, whether it is on and how far a wake has come (0 none, 1 waiting for the streams, 2 searching); since
when a timing fix has stood and fewer than four pairs track; and whether a first sketch-mode search has begun. -/
structure GnsSt where
  list : Tab Word
  aid : Tab Word
  chCtl : Tab Word
  chAid : Tab Word
  chStat : Tab Word
  faultAt : Tab (Option T80)
  pairs : Tab GnsPair
  entry : Nat
  cells : Nat
  sweepAt : T80
  restart : Option T80
  top : Tab (Option BankPeak)
  second : Tab (List (Nat × BankPeak))
  flagged : List Nat
  doaRun : Tab Nat
  solved : Option Nat
  signals : List Nat
  orbits : Nat
  aims : List GnsAim
  keptAt : Option T80
  clearFrom : Option T80
  surveyAt : Option T80
  sentAt : T80
  sentinel : Bool
  wake : Nat
  fixFrom : Option T80
  fewFrom : Option T80
  started : Bool
deriving DecidableEq, Repr

/-- Nothing searched and nothing tracked. -/
def GnsSt.reset : GnsSt :=
  { list := [], aid := [], chCtl := [], chAid := [], chStat := [], faultAt := [], pairs := [], entry := 0, cells := 0, sweepAt := ⟨0, 0⟩,
    restart := none, top := [], second := [], flagged := [], doaRun := [], solved := none, signals := [], orbits := 2, aims := [],
    keptAt := none, clearFrom := none, surveyAt := none, sentAt := ⟨0, 0⟩, sentinel := false, wake := 0, fixFrom := none, fewFrom := none,
    started := false }

/-- A time-of-day message of the UART (R163): the TAI and the UTC second of the edge, its UTC offset, whether the edge began a leap
second, the two announcements, and the line's baud rate. -/
structure TodMsg where
  edge : Nat
  utc : Int
  offset : Int
  leapSecond : Bool
  leap61 : Bool
  leap59 : Bool
  baud : Nat
deriving DecidableEq, Repr

/-- One frame waiting for departure on a line port (R330): the address of its descriptor, its queue, the stamp identifier
asked for, the bytes of a frame that a House service built with the words it puts into R327's descriptor (word 1 above its
length, word 2, word 3), whether it is a two-step Sync, the Pdelay_Resp_Follow_Up that goes after it: the place of its
PTP message and its octets, and the place of the lineage identifier that a one-step Sync carries of its departure (R231). -/
structure TxFrame where
  desc : Nat
  queue : Nat
  stampId : Option Nat
  bytes : List Nat
  ctl : Nat
  arm : Word
  time : Word
  sync : Bool
  after : Option (Nat × List Nat)
  lineage : Option Nat
deriving DecidableEq, Repr

/-- One line port behind its registers: the transmit-stamp queue (identifier, S40, instant), the frames waiting, the next
stamp identifier (R325), the receive buffers delivered with the instant of their stamps (R326), txdone words that wait for
room, the last frame sent with its sub-port, and up to when each sub-port's line is taken, in 1/1024 ns without steps (R156, R330). -/
structure LpSt where
  tsq : List (Nat × Word × T80)
  txq : List TxFrame
  nextId : Nat
  given : Tab T80
  done : List Word
  last : Option (Nat × List Nat)
  busy : Tab Int
deriving DecidableEq, Repr

/-- Nothing waiting. -/
def LpSt.reset : LpSt := { tsq := [], txq := [], nextId := 0, given := [], done := [], last := none, busy := [] }

/-- A bucket held in a group's sitter cache (R353): the group, the instant of its first change since it was last written
back, and its twelve words. -/
structure Bucket where
  group : Nat
  dirtyAt : Option T80
  words : List Word
deriving DecidableEq, Repr

/-- The sitter unit behind its registers: the buckets held in the groups' caches, the serial of the hash key drawn, and
whether the table has been cleared since the last cold reset (R349, R353). -/
structure StzSt where
  cache : Tab Bucket
  keySerial : Nat
  cleared : Bool
deriving DecidableEq, Repr

/-- Nothing cached. -/
def StzSt.reset : StzSt := { cache := [], keySerial := 0, cleared := false }

/-- A key of an authenticated PTP session (R338): its SPP, its key identifier and the handle that the pair maps to. -/
structure PtpAuth where
  spp : Nat
  keyId : Nat
  handle : Nat
deriving DecidableEq, Repr

/-- A PTP client session (R335, R338, R340). As configured: its port, its master's and its own port identity (ten octets), the
octets of its Delay_Req up to and with the 34-octet PTP header, its announceReceiptTimeout in ms, its asymmetry as a P40, the uncertainty of that in ps, its
key. As it runs: the last Sync (sequence number, t2, correction) and t1, the Delay_Req sent (sequence number, stamp
identifier), in 2^-16 ns; the clockAccuracy last announced, boundPs and lineage of the last message with a Glaze TLV, and
the messages discarded. -/
structure PtpClient where
  port : Nat
  source : List Nat
  own : List Nat
  header : List Nat
  announceMs : Nat
  asym : Int
  asymUnc : Option Nat
  auth : Option PtpAuth
  sync : Option (Nat × Int × Int)
  t1 : Option Int
  req : Option (Nat × Nat)
  accuracy : Nat
  bound : Option Nat
  discarded : Nat
deriving DecidableEq, Repr

/-- A master port of the PTP service as configured (R335, R336, R338): its port identity (ten octets), its IP address, the
logMessageInterval of its Delay_Resp, whether its Pdelay_Resp is two-step, and its key; and the messages it discarded. -/
structure PtpMaster where
  own : List Nat
  ip : List Nat
  logInterval : Nat
  twoStep : Bool
  auth : Option PtpAuth
  discarded : Nat
deriving DecidableEq, Repr

/-- A unicast session granted (R337, R339): its port, the requester's port identity, the message type and the end. -/
structure PtpGrant where
  port : Nat
  peer : List Nat
  kind : Nat
  until_ : T80
deriving DecidableEq, Repr

/-- What the PTP and NTP services remember and are configured with (R335 to R343): for each slot the last Announce heard; for
each port the last ESMC PDU heard and the last QL rank sent with when, the departure of the last two-step Sync, and the
sequence numbers by port and message kind; the client sessions by number, the master ports, the unicast sessions granted,
and the handle of each RFC 8573 key identifier. -/
structure PtpSt where
  announce : Tab T80
  esmcHeard : Tab T80
  esmcSent : Tab (Nat × T80)
  seqs : Tab Nat
  lastSync : Tab T80
  clients : Tab PtpClient
  masters : Tab PtpMaster
  grants : List PtpGrant
  ntpKeys : Tab Nat
deriving DecidableEq, Repr

/-- Nothing heard, and nothing configured. -/
def PtpSt.reset : PtpSt :=
  { announce := [], esmcHeard := [], esmcSent := [], seqs := [], lastSync := [], clients := [], masters := [], grants := [],
    ntpKeys := [] }


/-- An operator-defined key (R359, R375): kind, parent, permissions, label and epoch. -/
structure KeyDef where
  kind : Nat
  parent : Nat
  perm : Nat
  label : List Nat
  epoch : Nat
deriving DecidableEq, Repr

/-- A dynamic child or a session key (R359, R364, R346): its kind, the handle it descends from and, for a child of an NTS
master, that master's epoch; whether Keeper derived it, its octets, its epoch, its permissions, and whether it has been used
since it was loaded. -/
structure KeyChild where
  kind : Nat
  parent : Nat
  master : Option Nat
  keeper : Bool
  key : List Nat
  epoch : Nat
  perm : Nat
  used : Bool
deriving DecidableEq, Repr

/-- One operation of an update (R375), its secret unwrapped. -/
structure UpdOp where
  code : Nat
  kind : Nat
  handle : Nat
  parent : Nat
  perm : Nat
  label : List Nat
  secret : List Nat
deriving DecidableEq, Repr

/-- One update slot (R377). -/
structure UpdSlot where
  ops : List UpdOp
  counter : Nat
  effect : Nat
deriving DecidableEq, Repr

/-- A request at the PKE (R366): whether Keeper made it, its operation (0 SIGN, 1 VERIFY, 2 ECDH, 3 a public half), the core
that waits for it, and whether it is a verification that fails. -/
structure PkeReq where
  keeper : Bool
  op : Nat
  core : Option Nat
  fails : Bool
deriving DecidableEq, Repr

/-- The key vault behind its registers (R359 to R383): the Pair Secret and the Operator Root secret, how often each has been
replaced, the operator-defined keys and the update slots (with their shadows in the backup SRAM), dynamic children, session
keys, the key cache (most recently used first), the verification-key fuse slots written after manufacture, the PKE's requests
(the one in service first), the command window, the DRBG's requests since its last reseed, and the update slot that a
KEY_UPDATE waits on. -/
structure KvSt where
  pair : Option (List Nat)
  opRoot : Option (List Nat)
  pairEpoch : Nat
  opEpoch : Nat
  defs : Tab KeyDef
  dyn : Tab KeyChild
  sess : Tab KeyChild
  cache : List Nat
  slots : Tab UpdSlot
  vk : Tab (List Nat)
  pke : List PkeReq
  win : Tab Word
  drbgUsed : Nat
  updWaits : Option Nat
deriving DecidableEq, Repr

/-- A new device: only the Device Unique Secret. -/
def KvSt.reset : KvSt :=
  { pair := none, opRoot := none, pairEpoch := 0, opEpoch := 0, defs := [], dyn := [], sess := [],
    cache := [], slots := [], vk := [], pke := [], win := [], drbgUsed := 0, updWaits := none }

/-- A reset of the KEY domain or its power-up: the cache, session and dynamic handles are gone, the roots come back from
BK (R364, R470). -/
def KvSt.reload (k : KvSt) : KvSt :=
  { k with dyn := [], sess := [], cache := [], pke := [], win := [], drbgUsed := 0, updWaits := none }

/-- One stamp kept by the span protocol function: the frame's seq, its T80 and whether it was uncal (R397). -/
structure SpStamp where
  seq : Nat
  at_ : T80
  uncal : Bool
deriving DecidableEq, Repr

/-- One span port behind its registers (R387 to R407): the last 16 stamps sent and received, the next seq to send, the frames
whose txstamp record has not come yet (their seq), the instant the newest one is held to, the peer's newest seq received, the
samples kept for cross-colour calibration (launch instant, c and m in ps), the start of the window, samples formed in a row
with the present peer, the instant since which a mismatch has stood, the last theta in ps with its launch instant, the last m
and U_sag, whether the port's slot carries a source fault of this function, the last frame that left, and the steady instant up to
which it holds the line, in 1/1024 ns (R392). -/
structure SpSt where
  sent : List SpStamp
  recv : List SpStamp
  nextSeq : Nat
  launched : List Nat
  heldTo : Option T80
  peerLast : Option Nat
  xc : List (Nat × Rat × Rat)
  xcFrom : Option T80
  good : Nat
  mismatchFrom : Option T80
  theta : Option (Rat × T80)
  lastM : Rat
  lastSag : Nat
  faulted : Bool
  last : List Nat
  busy : Int
deriving DecidableEq, Repr

/-- No peer heard. -/
def SpSt.reset : SpSt :=
  { sent := [], recv := [], nextSeq := 0, launched := [], heldTo := none, peerLast := none, xc := [], xcFrom := none,
    good := 0, mismatchFrom := none, theta := none, lastM := 0, lastSag := 0, faulted := false, last := [], busy := 0 }

/-- What the last valid HELLO of a neighbour said (R412): its UID, the claim it follows, its cost, hops and parent, the
flags, whether it is adjacent, and when it came. -/
structure Neigh where
  uid : Nat
  rootUid : Nat
  rootCand : Nat
  rootSeq : Nat
  cost : Nat
  hops : Nat
  parent : Nat
  flags : Nat
  adjacent : Bool
  at_ : T80
deriving DecidableEq, Repr

/-- The Atelier function behind its registers (R410 to R422): the route table by address, the neighbours (ports 0 to 3,
and bus neighbours from 16 on), the followed root with its last seq and when it advanced, since when it is followed, the
roots dropped with the last seq seen, the better claim being held and since when, the parent (a neighbour) and since when,
whether the path to the root crosses the bus, the span port whose slot the Palette configuration now favours, the UIDs
recorded on the way to the root (uid, neighbour, until), the addresses granted here (uid, address), the last REGISTER, whether
it was refused as full and whether it was granted, the seed L of R422, how many samples slot 23 has had, the last second
relayed, the instants of the last HELLO and of the root's last count, and the next sequence number of each port. -/
structure AtlSt where
  routes : Tab Word
  nodes : Tab Neigh
  root : Option Nat
  rootSeq : Nat
  rootAt : T80
  rootFrom : T80
  dropped : Tab Nat
  better : Option (Nat × T80)
  parent : Option Nat
  parentFrom : T80
  crosses : Bool
  timeQ : Option Nat
  seen : List (Nat × Nat × T80)
  grants : List (Nat × Nat)
  regAt : Option T80
  regFull : Bool
  registered : Bool
  seed : Option Int
  relayCount : Nat
  relayed : Option Nat
  helloAt : Option T80
  countAt : T80
  seqs : Tab Nat
deriving DecidableEq, Repr

/-- No neighbour and no root. -/
def AtlSt.reset : AtlSt :=
  { routes := [], nodes := [], root := none, rootSeq := 0, rootAt := ⟨0, 0⟩, rootFrom := ⟨0, 0⟩, dropped := [],
    better := none, parent := none, parentFrom := ⟨0, 0⟩, crosses := false, timeQ := none, seen := [], grants := [],
    regAt := none, regFull := false, registered := false, seed := none, relayCount := 0, relayed := none,
    helloAt := none, countAt := ⟨0, 0⟩, seqs := [] }

/-- The Studio bus transmitter (R425): the frame it holds with its queue, the attempts made, and the end of the present
back-off; the last frame that left the pins; the instant from which the bus may carry a frame, its interframe gap over; and House's stamps of the frames
delivered, the newest of each source node (R427). Instants are without the steps of TB but for the stamps (log 156). -/
structure StbSt where
  cur : Option (Nat × List Word)
  attempts : Nat
  backoff : Option T80
  last : List Word
  gapTo : T80
  stamps : List (Nat × T80)
deriving DecidableEq, Repr

/-- The transmitter is free. -/
def StbSt.reset : StbSt := { cur := none, attempts := 0, backoff := none, last := [], gapTo := ⟨0, 0⟩, stamps := [] }

/-- The whole machine. `pending` is the queue of commands waiting, first in, first out. `freeCtr` counts the free
values taken (the model's own field, not the spec's). `regs` holds every register of every unit under its word offset in
the register space (unit × 0x100 + offset), unlisted registers at their reset value; `lat` the true LO words of the HI
and LO pairs whose LO register shows what the last HI read latched; `evc` the 8-bit event counts of R515 under
register × 64 + bit; `mem` every memory word under its word address (R479); `dramErr` the bursts that stand
uncorrectable (R486); `fifoWait` the writes that wait for a FIFO to take them (R497, R499); `clkAt` the time, without steps, of the last access that each unit's
fast clock has served (R473); `tdcTurn` the channel whose result queue was drained last (R284); `gnsKeep` the kept GNSS record in the backup SRAM (R306); `tmpOn`
the tamper sources that go on alarming, by their bit of TMP_CAUSE (R386); `scrubAt` the instant of the last scrub step (R487). -/
structure State where
  pending : List Instr
  freeCtr : Nat
  regs : Tab Word
  lat : Tab Word
  evc : Tab Nat
  mem : Tab Word
  dramErr : Tab Nat
  fifos : Tab Fifo
  fifoWait : List FifoWrite
  clkAt : Tab T80
  fix : FixSt
  rst : RstSt
  host : HostPort
  tly : TlySt
  lcy : LcySt
  cores : Tab Core
  mbx : MbxSt
  house : HouseSt
  tb : TbSt
  skb : SkbSt
  pal : PalSt
  und : UndSt
  glz : GlzSt
  timed : List (T80 × Timed)
  var : Tab VarSt
  outs : Tab OutSt
  pins : Tab Nat
  tw : TwSt
  tdc : Tab TdcSt
  tdcTurn : Nat
  gns : GnsSt
  gnsKeep : Tab Word
  tmpOn : Nat
  scrubAt : Option T80
  lp : Tab LpSt
  tod : Option TodMsg
  stz : StzSt
  ptp : PtpSt
  kv : KvSt
  sp : Tab SpSt
  atl : AtlSt
  stb : StbSt
deriving DecidableEq, Repr

/-- The machine right after a power-on (cold) reset: every register at its reset value, memory with nothing listed,
bring-up at its first step (R13, R458, R462). -/
def State.reset : State :=
  { pending := [], freeCtr := 0, regs := [(1, 1)], lat := [], evc := [], mem := [], dramErr := [], fifos := [],
    fifoWait := [], clkAt := [], fix := FixSt.reset, rst := RstSt.reset, host := HostPort.reset, tly := TlySt.reset, lcy := LcySt.reset, cores := [],
    mbx := MbxSt.reset, house := HouseSt.reset, tb := TbSt.reset, skb := SkbSt.reset, pal := PalSt.reset,
    und := UndSt.reset, glz := GlzSt.reset, timed := [], var := [], outs := [], pins := [], tw := TwSt.reset,
    tdc := [], tdcTurn := 15, gns := GnsSt.reset, gnsKeep := [], tmpOn := 0, scrubAt := none, lp := [], tod := none, stz := StzSt.reset, ptp := PtpSt.reset, kv := KvSt.reset,
    sp := [], atl := AtlSt.reset, stb := StbSt.reset }


end Sys2Proof.Machine
end

