-- ==== Sys2Proof/Machine/Ops.lean ====
section
/-! DEFINITION. The named operations over the state: registers and their fields, W1C bits with their event counts,
free values, time, memory words, queues of time-driven effects, FIFOs, and fault collection. -/

namespace Sys2Proof.Machine

/-- The outcome of a command. -/
abbrev Out := Host.Outcome State Fault Refusal

/-! ## Registers -/

/-- The value a register holds. -/
def State.rd (s : State) (a : Nat) : Word := tabGet regReset s.regs a

/-- The state with a register holding `w`. -/
def State.wr (s : State) (a : Nat) (w : Word) : State := { s with regs := tabSet regReset s.regs a w }

/-- The value of a field. -/
def State.get (s : State) (f : Fld) : Nat := fieldOf (s.rd f.addr) f.hi f.lo

/-- Whether a field is not zero. -/
def State.on (s : State) (f : Fld) : Bool := decide (s.get f ≠ 0)

/-- The value of a field read as a signed number. -/
def State.getI (s : State) (f : Fld) : Int := signedOf (f.hi + 1 - f.lo) (s.get f)

/-- The state with a field holding `v`. -/
def State.put (s : State) (f : Fld) (v : Nat) : State := s.wr f.addr (putField (s.rd f.addr) f.hi f.lo v)

/-- The state with a field holding a signed number. -/
def State.putI (s : State) (f : Fld) (v : Int) : State := s.put f (v % 2 ^ (f.hi + 1 - f.lo)).toNat

/-- The state with a one-bit field set or cleared. -/
def State.putB (s : State) (f : Fld) (b : Bool) : State := s.put f (b2n b)

/-- A counter field that rolls over. -/
def State.inc (s : State) (f : Fld) : State := s.put f (s.get f + 1)

/-- A counter field that saturates. -/
def State.incSat (s : State) (f : Fld) : State :=
  if s.get f + 1 < 2 ^ (f.hi + 1 - f.lo) then s.put f (s.get f + 1) else s

/-- The true LO word of a pair whose HI read latches LO. -/
def State.lo (s : State) (a : Nat) : Word := tabGet regReset s.lat a

/-- The state with a T80 in a HI and LO register pair; LO shows it when HI is next read. -/
def State.putT (s : State) (hi lo : Nat) (t : T80) : State :=
  let s := s.wr hi (T80hi t)
  { s with lat := tabSet regReset s.lat lo (T80lo t) }

/-- The T80 held in such a pair. -/
def State.getT (s : State) (hi lo : Nat) : T80 := t80Of (s.rd hi) (s.lo lo)

/-! ## Event bits and Tally counters -/

/-- The key of the event count of bit `i` of the register at `a`. -/
def evKey (a i : Nat) : Nat := a * 64 + i

/-- The event count of a bit (R515). -/
def State.evCount (s : State) (a i : Nat) : Nat := tabGet (fun _ => 0) s.evc (evKey a i)

/-- The offset of a unit's register whose name ends in _EVENTS, none for a unit without one (R532). -/
def eventsOff (u : Nat) : Option Nat :=
  if u = 0x001 ∨ u = 0x005 then some 0x03
  else if u = 0x003 then some 0x07
  else if u = 0x004 then some 0x12
  else if u = 0x006 then some 0x04
  else if u = 0x010 then some 0x0D
  else if u = 0x011 then some 0x2B
  else if u = 0x012 then some 0x15
  else if 0x020 ≤ u ∧ u ≤ 0x023 then some 0x0D
  else if 0x028 ≤ u ∧ u ≤ 0x03B then some 0x03
  else if 0x040 ≤ u ∧ u ≤ 0x04F then some 0x0B
  else if u = 0x050 then some 0x1A
  else if u = 0x078 then some 0x06
  else if 0x080 ≤ u ∧ u ≤ 0x083 then some 0x0B
  else if u = 0x0C0 then some 0x0D
  else if 0x0D0 ≤ u ∧ u ≤ 0x0D3 then some 0x07
  else if u = 0x0D8 then some 0x03
  else if u = 0x0D9 then some 0x04
  else if u = 0x0DA then some 0x0E
  else if u = 0x0E0 then some 0x10
  else if u = 0x0E1 then some 0x06
  else if u = 0x0E2 then some 0x06
  else if u = 0x0F0 then some 0x19
  else if u = 0x0F2 then some 0x07
  else none

/-- Tally counter `i` of unit `u` adds 1 when event `code` is the one it selects; a fenced unit's counters do not
count (R531 to R533). -/
def tallyOne (s : State) (u code i : Nat) : State :=
  if fieldOf (s.rd (UNIT_TALLY_SEL u)) (8 * i + 7) (8 * i) = code then
    s.wr (UNIT_TALLY u i) (s.rd (UNIT_TALLY u i) + 1)
  else s

/-- An event of unit `u` occurs once (R531). -/
def tally (s : State) (u code : Nat) : State :=
  if code = 0 ∨ s.on (UNIT_STATUS_fenced u) then s
  else tallyOne (tallyOne (tallyOne (tallyOne s u code 0) u code 1) u code 2) u code 3

/-- Hardware sets W1C bit `i` of the register at `a`: the bit is set and its 8-bit event count adds one, saturating
(R14, R515); the Tally code 0x80 + i counts it when the register is the unit's _EVENTS (R532). -/
def State.event (s : State) (a i : Nat) : State :=
  let s := s.wr a (s.rd a ||| w40 (2 ^ i))
  let n := s.evCount a i
  let s := { s with evc := tabSet (fun _ => 0) s.evc (evKey a i) (if n < 255 then n + 1 else 255) }
  if eventsOff (a / 256) = some (a % 256) then tally s (a / 256) (0x80 + i) else s

/-- Hardware sets the W1C bit that a one-bit field names. -/
def State.ev (s : State) (f : Fld) : State := s.event f.addr f.lo

/-! ## Free values -/

/-- A value the spec leaves open, and the state in which the next one is another (log 1). -/
def State.free (s : State) : Word × State := (Config.freeWord s.freeCtr, { s with freeCtr := s.freeCtr + 1 })

/-- A free number below `n`. -/
def State.freeBelow (s : State) (n : Nat) : Nat × State :=
  let (w, s) := s.free
  (w.toNat % n, s)

/-- A free T80 where the one that is written is not normalized, which R5 makes unpredictable; else the one written (log 151). -/
def timeOrFree (t : T80) (s : State) : T80 × State :=
  if t80Normal t then (t, s)
  else
    let (hi, s) := s.free
    let (lo, s) := s.freeBelow unitsPerSec
    ({ sec := hi.toNat, low := lo }, s)

/-! ## Time -/

/-- The counter's T80 (R126): frac is φ[47:38]. Every local copy shows the same value (R32). -/
def State.now (s : State) : T80 := { sec := s.tb.sec, low := s.tb.ns * 1024 + s.tb.phi / 2 ^ 38 }

/-- Whether the counter is at or after `t` (R30). -/
def State.reached (s : State) (t : T80) : Bool := t80Le t s.now

/-- Whether this is the first tick on which the counter is at or after `t` (R30); a step on the tick changes nothing in that
(R135, R153). -/
def State.onTick (s : State) (t : T80) : Bool := t80Le t (s.tb.pre.getD s.now) && t80Lt s.tb.prev t

/-- The time without its steps and its load (R131, R134, R280): what a duration is measured on (log 156). -/
def State.steady (s : State) : T80 := t80OfUnits ((t80Units s.now : Int) - s.tb.steps).toNat

/-- Whether `t`, an instant without steps, has come. -/
def State.elapsed (s : State) (t : T80) : Bool := t80Le t s.steady

/-- Whether `n` ns have passed since `t`, an instant without steps. -/
def State.passed (s : State) (t : T80) (n : Nat) : Bool := t80Le (t80Add t (nsU n : Nat)) s.steady

/-- The instant `n` ns from now. -/
def State.afterNs (s : State) (n : Nat) : T80 := t80Add s.now (nsU n : Nat)

/-- Put an effect on the list that the timebase tick works off (R30). -/
def State.later (s : State) (n : Nat) (e : Timed) : State := { s with timed := s.timed ++ [(s.afterNs n, e)] }

/-! ## Memory -/

/-- What a memory word that nothing has written reads as (log 7): House ROM its mask contents, all else zero. -/
def memDefault (a : Nat) : Word := if a < 0x80000 then Config.romWord a else 0

/-- The memory word at `a`. -/
def State.ld (s : State) (a : Nat) : Word := tabGet memDefault s.mem a

/-- The state with the memory word at `a` holding `w`. -/
def State.st (s : State) (a : Nat) (w : Word) : State := { s with mem := tabSet memDefault s.mem a w }

/-- Consecutive memory words. -/
def State.ldN (s : State) : Nat → Nat → List Word
  | _, 0 => []
  | a, n + 1 => s.ld a :: State.ldN s (a + 1) n

/-- Consecutive memory words written. -/
def State.stN (s : State) : Nat → List Word → State
  | _, [] => s
  | a, w :: ws => State.stN (s.st a w) (a + 1) ws

/-- The DRAM burst of a word address (R481). -/
def burstOf (a : Nat) : Nat := (a - 0x10000000) / 12

/-- Whether a burst stands uncorrectable (R486). -/
def State.badBurst (s : State) (b : Nat) : Bool := decide (tabGet (fun _ => 0) s.dramErr b ≠ 0)

/-- A burst is found uncorrectable and left as stored, or a full write replaces it (R486). -/
def State.setBurst (s : State) (b : Nat) (bad : Bool) : State :=
  { s with dramErr := tabSet (fun _ => 0) s.dramErr b (b2n bad) }

/-! ## FIFOs -/

/-- The FIFO numbered `n`. -/
def State.fifo (s : State) (n : Nat) : Fifo := tabGet (fun _ => Fifo.reset) s.fifos n

/-- The state with FIFO `n` replaced. -/
def State.setFifo (s : State) (n : Nat) (q : Fifo) : State :=
  { s with fifos := tabSet (fun _ => Fifo.reset) s.fifos n q }

/-- Words a FIFO holds, length slots and the open packet included (R494, R505). -/
def fifoUsed (q : Fifo) : Nat :=
  (q.closed.map List.length).sum + (match q.owner with | none => 0 | some _ => q.openWords.length + 1)

/-- The depth of a FIFO (R494). -/
def fifoDepth (q : Fifo) : Nat := 2 ^ q.depthLog

/-- Whether the life-cycle state permits perturbation (R525): PROVING and RETURNED. -/
def tstOpen (s : State) : Bool := decide (s.get LCY_STATE_state = 1) || decide (s.get LCY_STATE_state = 3)

/-- Whether the test unit makes FIFO `n` report itself full now (R525). The spec gives the length of the full part and
of the period, not where a period begins: the phase is a free value (log 1). -/
def backPressure (s : State) (n : Nat) : Bool :=
  tstOpen s && s.on TST_CTL_bp_en && decide (s.get TST_BP_fifo = n)
    && decide ((t80Units s.steady / 1024 + Config.bpPhase) % (max 1 (s.get TST_BP_period_ns)) < s.get TST_BP_full_ns)

/-- Free words of FIFO `n` as a producer sees them. -/
def fifoRoom (s : State) (n : Nat) : Nat :=
  if backPressure s n then 0 else fifoDepth (s.fifo n) - fifoUsed (s.fifo n)

/-- A readable word is present (R501). -/
def fifoNotEmpty (q : Fifo) : Bool := q.en && q.closed.any (fun p => !p.isEmpty)

/-- At least one free word remains (R501). -/
def fifoNotFull (s : State) (n : Nat) : Bool := (s.fifo n).en && decide (0 < fifoRoom s n)

/-- Discard every word before the cut point, except what is left of a packet the reader has begun (R500), and count
the WASH that takes effect. -/
def fifoCut (q : Fifo) : Fifo :=
  { q with
    closed := if q.packet && q.begun then q.closed.take 1 else [],
    cut := false,
    nWash := (q.nWash + 1) % 2 ^ 32 }

/-- Abandon the open packet (R497): its words and length slot are withdrawn and a pending cut takes effect. -/
def fifoAbandon (s : State) (n : Nat) : State :=
  let q := s.fifo n
  match q.owner with
  | none => s
  | some _ =>
    let q := { q with owner := none, openWords := [], nAbandon := (q.nAbandon + 1) % 2 ^ 32 }
    ((s.setFifo n (if q.cut then fifoCut q else q))).ev FIFO_EVENTS_abandoned

/-- The length word of a packet (R496). -/
def lengthWord (m len : Nat) : Word := w40 (m * 2 ^ 32 + len)

/-- Close the open packet of a FIFO, its length word first (R496), and let a pending cut take effect (R500). -/
def fifoClose (q : Fifo) (m : Nat) (ws : List Word) : Fifo :=
  let q := { q with closed := q.closed ++ [lengthWord m ws.length :: ws], owner := none, openWords := [] }
  if q.cut then fifoCut q else q

/-- Whether a write of framing `fr` by master `m` can be taken now (R496, R497, R499): the FIFO is not held by another
master's open packet and has room, a FIRST or ONLY word needing its length slot as well. -/
def fifoTakes (s : State) (n m fr : Nat) : Bool :=
  let q := s.fifo n
  (match q.owner with | none => true | some o => decide (o = m))
    && decide ((if q.packet ∧ (fr = 1 ∨ fr = 3) then 2 else 1) ≤ fifoRoom s n)

/-- Whether framing `fr` (0 plain or inside, 1 first, 2 last, 3 only) fits the FIFO's mode and its open packet; a write
that breaks framing is unpredictable (R125, R496). -/
def fifoFramed (q : Fifo) (fr : Nat) : Bool :=
  if q.packet then (if fr = 1 ∨ fr = 3 then decide (q.owner = none) else decide (q.owner ≠ none)) else decide (fr = 0)

/-- A word is written with framing `fr` by master `m` (R495, R496); the FIFO takes it. -/
def fifoPut (q : Fifo) (m fr : Nat) (w : Word) : Fifo :=
  if q.packet then
    if fr = 1 then { q with owner := some m, openWords := [w] }
    else if fr = 2 then fifoClose q m (q.openWords ++ [w])
    else if fr = 3 then fifoClose q m [w]
    else { q with openWords := q.openWords ++ [w] }
  else { q with closed := q.closed ++ [[w]] }

/-- The reader pops one word (R496, R498): none when nothing is readable. -/
def fifoPop (q : Fifo) : Option Word × Fifo :=
  match q.closed with
  | [] => (none, q)
  | [] :: t => (none, { q with closed := t, begun := false })
  | (w :: p) :: t =>
    if p.isEmpty then (some w, { q with closed := t, begun := false })
    else (some w, { q with closed := p :: t, begun := true })

/-- A WASH (R500): with no packet open the cut point is the present tail and is reached at once. -/
def fifoWash (q : Fifo) : Fifo :=
  if q.en then (match q.owner with | none => fifoCut q | some _ => { q with cut := true }) else q

/-- A producer that must not wait pushes a whole packet when there is room for it (R499). -/
def fifoPacket (s : State) (n m : Nat) (ws : List Word) : Option State :=
  let q := s.fifo n
  if q.en ∧ q.owner = none ∧ ws.length + (if q.packet then 1 else 0) ≤ fifoRoom s n then
    some (s.setFifo n (if q.packet then fifoClose q m ws else { q with closed := q.closed ++ ws.map (fun w => [w]) }))
  else none

/-! ## Cores -/

/-- A core by position. -/
def State.core (s : State) (k : Nat) : Core := tabGet (fun _ => Core.reset) s.cores k

/-- The state with a core replaced. -/
def State.setCore (s : State) (k : Nat) (c : Core) : State :=
  { s with cores := tabSet (fun _ => Core.reset) s.cores k c }

/-- No answer of an offer reaches a core that no longer waits in the SCHED that made it (R87, R110). -/
def coreMuted (s : State) (k : Nat) : State :=
  { s with skb := { s.skb with offers := s.skb.offers.map (fun (o : Offer) => if o.asker = Asker.core k then { o with asker := .nobody } else o) } }

/-- The unit that holds a core's control block, and the offset of its first register (R110, R356). -/
def coreBlock (k : Nat) : Nat :=
  if k < 16 then (0x064 + k) * 0x100 else (0x088 + (k - 16) / 8) * 0x100 + 0x10 * ((k - 16) % 8)

/-- The master ID of a core (R490). -/
def coreMaster (k : Nat) : Nat := if k < 16 then k else 16 + (k - 16) / 8

/-- The offerer code of a core in a ledger slot (R148). -/
def coreOfferer (k : Nat) : Nat := if k < 16 then k else 0x40 + (k - 16)

/-- The core position of an offerer code, none for the host mailbox. -/
def offererCore (o : Nat) : Option Nat := if o < 16 then some o else if 0x40 ≤ o ∧ o < 0x60 then some (o - 0x40 + 16) else none

/-- An edge event becomes pending at a core (R85). -/
def coreEvent (s : State) (k bit : Nat) : State :=
  let c := s.core k
  s.setCore k { c with evts := Nat.lor c.evts (2 ^ bit) }

/-- An edge event becomes pending at every core. -/
def allCoresEvent (s : State) (bit : Nat) : State :=
  (List.range 48).foldl (fun s k => coreEvent s k bit) s

/-- Whether a core of the image loaded under `key` runs; core 0 belongs to no image (R111). -/
def imageRuns (s : State) (key : Nat) : Bool :=
  if key < 4 then (List.range 4).any (fun j => decide (4 * key + j ≠ 0) && !(s.core (4 * key + j)).halted)
  else (List.range 8).any (fun e => !(s.core (16 + 8 * (key - 4) + e)).halted)

/-- Whether a running image replaces House function `f` (R116, R117). -/
def houseReplaced (s : State) (f : Nat) : Bool :=
  s.house.images.any (fun e => e.2.replaces.testBit f && imageRuns s e.1)

/-! ## Mailbox -/

/-- The mailbox sends an MSI-X message for an MBX_IRQ bit that is enabled (R124). -/
def mbxIrq (s : State) (bit : Nat) : State :=
  let s := s.event MBX_IRQ bit
  if bitAt (s.rd MBX_IRQ_EN) bit then
    { s with host := { s.host with msix := s.host.msix ++
      [if bit = 2 then s.get MBX_VECTOR_notice_vec else s.get MBX_VECTOR_done_vec] } }
  else s

/-- A lapse-log entry, a halted core or an attestation is waiting (R124). -/
def mbxNotice (s : State) : State := mbxIrq s 2

/-- Whether the unit is the standby of a pair. -/
def twStandby (s : State) : Bool := s.on TW_CFG_en && decide (s.get TW_STATUS_role = 2)

/-- The mailbox command that runs ends with a status and result words (R118, R121): the response slots are filled, each with the
sequence number, busy clears, done is raised, and a WRONG_STATE refusal is counted (R124). Nothing waits any more for an offer that the
command made. -/
def mbxFinish (s : State) (status : Nat) (res : List Word) : State :=
  if !s.on MBX_STATUS_busy then s
  else
    let seq := s.get MBX_DOORBELL_seq
    let head : Nat := 2 ^ 63 + status * 2 ^ 56 + res.length * 2 ^ 48
    let slots := (List.range 64).map (fun i =>
      (i, BitVec.ofNat 64 (seq * 2 ^ 40 + (res.getD i 0).toNat + (if i = 0 then head else 0))))
    let slots := slots.filter (fun e => decide (e.2 ≠ 0))
    let s := { s with
      mbx := { s.mbx with resp := slots, cmd := [], started := false, image := [], section_ := 0 },
      skb := { s.skb with offers := s.skb.offers.map (fun (o : Offer) => if o.asker = Asker.mailbox then { o with asker := .nobody } else o) },
      kv := { s.kv with updWaits := none } }
    let s := s.put MBX_STATUS_busy 0
    let s := s.put MBX_STATUS_resp_valid 1
    let s := s.put MBX_STATUS_last_status status
    let s := s.put MBX_STATUS_last_seq seq
    let s := if status = 1 then s.inc MBX_REFUSED_refused else s
    mbxIrq s 0

/-- Whether a mailbox command is legal in a service state (R123; 0 BOOTING, 1 SERVING, 2 STANDBY, 3 MAINTENANCE, 4 TAMPERED,
5 FAULT). -/
def mbxLegal (code st : Nat) : Bool :=
  let ok : List Nat := match code with
    | 0x01 => [0, 1, 2, 3, 4, 5]
    | 0x02 => [1, 2, 3]
    | 0x03 => [1, 2, 3]
    | 0x04 => [1, 2, 3]
    | 0x05 => [1, 3]
    | 0x06 => [1, 3]
    | 0x07 => [1, 2, 3, 4]
    | 0x08 => [1, 2, 3]
    | 0x09 => [1, 2]
    | 0x0A => [3]
    | 0x0B => [1]
    | 0x0C => [1, 3]
    | 0x0D => [1, 2, 3, 4, 5]
    | 0x0E => [3]
    | _ => []
  ok.contains st

/-- The code of the command that runs (R118). -/
def mbxCode (s : State) : Nat := bitsOf (s.mbx.cmd.getD 0 0).toNat 63 56

/-- The service state changes (R122, R124): a command that has begun and is not legal in the new state ends with ABORTED (R120),
but for the planned swap whose own role change it is (R454); the
token nonce is drawn on entering MAINTENANCE (R520), and ext_en clears on leaving it (R523). -/
def mbxState (s : State) (st : Nat) : State :=
  let old := s.get MBX_STATUS_state
  if st = old then s
  else
    let s := mbxIrq (s.put MBX_STATUS_state st) 1
    let s := if old = 3 then s.putB LCY_JTAG_ext_en false else s
    let s := if st = 3 then
        let (a, s) := s.free
        let (b, s) := s.free
        (s.put LCY_NONCE_HI_val (fieldOf a 31 0)).put LCY_NONCE_LO_val (fieldOf b 31 0)
      else s
    if !s.mbx.started ∨ mbxLegal (mbxCode s) st ∨ (mbxCode s = 0x0B ∧ st = 2) then s
    else mbxFinish s 7 (if mbxCode s = 7 then [s.rd KV_UPD_CTR] else [])

/-- The service state by present role (R122). -/
def roleState (s : State) : Nat := if twStandby s then 2 else 1

/-- A state change (R120, R122): 0 role change, 1 tamper, 2 FATAL, 3 House bring-up complete, 4 tamper cleared. -/
def mbxQueue (s : State) (e : Nat) : State :=
  let st := s.get MBX_STATUS_state
  match e with
  | 0 => if st = 1 ∨ st = 2 then mbxState s (roleState s) else s
  | 1 => if st = 5 then s else mbxState s 4
  | 2 => mbxState s 5
  | 3 => if st = 0 then mbxState s (if s.on KV_STATUS_tampered then 4 else roleState s) else s
  | _ => if st = 4 then mbxState s (roleState s) else s

/-! ## Twin link -/

/-- A frame is sent on the twin link (R435): it takes the next sequence number and waits for its acknowledgement. -/
def twSend (s : State) (kind : Nat) (payload : List Word) : State :=
  if s.on TW_CFG_en then
    let n := (s.tw.txSeq + 1) % 65536
    let fr : TwFrame := { seq := n, kind := kind, payload := payload, sends := 1, at_ := s.steady }
    let t : TwSt := { s.tw with txSeq := n, sent := (kind, payload) :: s.tw.sent, unacked := s.tw.unacked ++ [fr] }
    State.inc { s with tw := t } TW_CNT_TX_count
  else s

/-- The responses of the packet services that a port still holds are dropped (R40). -/
def dropAnswers (s : State) : State :=
  { s with lp := s.lp.foldl (fun t e =>
      tabSet (fun _ => LpSt.reset) t e.1 { e.2 with txq := e.2.txq.filter (fun f => decide (f.bytes = [])) }) [] }

/-- TW changes role (R432): every core has its event (R85), and no response goes out any more (R40). -/
def twRole (s : State) (r : Nat) : State :=
  if s.get TW_STATUS_role = r then s else dropAnswers (allCoresEvent (s.put TW_STATUS_role r) 29)

/-- Whether the unit is the active one of a pair (R432). -/
def twActive (s : State) : Bool := s.on TW_CFG_en && decide (s.get TW_STATUS_role = 1)

/-- Whether the pair is in sync (R438). -/
def twSync (s : State) : Bool := decide (s.get TW_STATUS_pstate = 3)

/-! ## Varnish and pins -/

/-- A Varnish PLL. -/
def State.varSt (s : State) (n : Nat) : VarSt := tabGet (fun _ => VarSt.reset) s.var n

/-- The state with a Varnish PLL replaced. -/
def State.setVar (s : State) (n : Nat) (v : VarSt) : State := { s with var := tabSet (fun _ => VarSt.reset) s.var n v }

/-- What an output holds behind its registers. -/
def State.out (s : State) (k : Nat) : OutSt := tabGet (fun _ => OutSt.reset) s.outs k

/-- The state with an output replaced. -/
def State.setOut (s : State) (k : Nat) (o : OutSt) : State := { s with outs := tabSet (fun _ => OutSt.reset) s.outs k o }

/-- The level of a pin (R141: 0 to 19 OUT0 to OUT19, 32 to 63 GPIO0 to GPIO31): the level its strokes have left, or on which its clock
stands on this tick (R246). -/
def State.level (s : State) (p : Nat) : Bool := decide (tabGet (fun _ => 0) s.pins p ≠ 0)

/-- The state with a pin's level set. -/
def State.setLevel (s : State) (p : Nat) (b : Bool) : State := { s with pins := tabSet (fun _ => 0) s.pins p (b2n b) }

/-- A Palette slot. -/
def State.slot (s : State) (n : Nat) : PalSlot := tabGet (fun _ => PalSlot.reset) s.pal.slots n

/-- The state with a Palette slot replaced. -/
def State.setSlot (s : State) (n : Nat) (p : PalSlot) : State :=
  { s with pal := { s.pal with slots := tabSet (fun _ => PalSlot.reset) s.pal.slots n p } }

end Sys2Proof.Machine
end

