-- ==== Sys2Proof/Machine/SkbBase.lean ====
section
/-! DEFINITION. Strokes, ledger slots, offers and their answers, and completions: what the Sketchbook, the twin unit and
every executor share (R140 to R160). -/

namespace Sys2Proof.Machine

/-- A ledger slot of the state table. -/
def State.led (s : State) (i : Nat) : Slot := tabGet (fun _ => Slot.free) s.skb.slots i

/-- The state with a ledger slot replaced. -/
def State.setLed (s : State) (i : Nat) (x : Slot) : State :=
  { s with skb := { s.skb with slots := tabSet (fun _ => Slot.free) s.skb.slots i x } }

/-- The T80 of a stroke. -/
def strokeAt (k : Stroke) : T80 := t80Of k.hi k.lo

/-- The class of a stroke (R141). -/
def strokeClass (k : Stroke) : Nat := fieldOf k.act 39 36

/-- The pin of a PIN stroke. -/
def strokePin (k : Stroke) : Nat := fieldOf k.act 35 30

/-- The check word of a stroke (R33): words 0 to 2 as five bytes each, least significant first, then the tag. -/
def checkWord (hi lo act : Word) (tag : Nat) : Nat := crc32c (bytesOf hi ++ bytesOf lo ++ bytesOf act ++ [tag % 256])

/-- A stroke as offered, its check word made (R34). -/
def mkStroke (hi lo act : Word) (tag : Nat) : Stroke :=
  { hi := hi, lo := lo, act := act, tag := tag, chk := checkWord hi lo act tag }

/-- Whether a stroke verifies against its check word. -/
def strokeOk (k : Stroke) : Bool := decide (k.chk = checkWord k.hi k.lo k.act k.tag)

/-- The four words of a stroke (R140). -/
def strokeWords (k : Stroke) : List Word := [k.hi, k.lo, k.act, w40 (k.tag * 2 ^ 32 + k.chk)]

/-- The six words of a slot (R148). -/
def slotWords (x : Slot) : List Word :=
  strokeWords x.stroke ++
    [w40 (x.state * 2 ^ 37 + x.report * 2 ^ 34 + b2n x.leadDone * 2 ^ 33 + b2n x.keeper * 2 ^ 32 + x.seq),
     w40 (x.offerer * 2 ^ 32 + x.late)]

/-- The slot that six words hold. -/
def slotOfWords (ws : List Word) : Slot :=
  let g := fun i => ws.getD i 0
  { state := fieldOf (g 4) 39 37, report := fieldOf (g 4) 36 34, leadDone := bitAt (g 4) 33, keeper := bitAt (g 4) 32,
    seq := fieldOf (g 4) 31 0, offerer := fieldOf (g 5) 39 32, late := fieldOf (g 5) 31 0, commit := true, chip := false, twin := false,
    resume := false, stroke := { hi := g 0, lo := g 1, act := g 2, tag := fieldOf (g 3) 39 32, chk := fieldOf (g 3) 31 0 } }

/-- The DRAM word address of a slot (R148). -/
def slotAddr (s : State) (i : Nat) : Nat := s.get SKB_LEDGER_BASE_base + 6 * i

/-- Write a slot's words to the DRAM ledger (R148, R149). -/
def ledgerStore (s : State) (i : Nat) : State := s.stN (slotAddr s i) (slotWords (s.led i))

/-- Whether a slot holds a pending stroke: state PENDING or DISPATCHED (R147). -/
def slotPending (x : Slot) : Bool := decide (x.state = 1 ∨ x.state = 2)

/-- Slots in state PENDING or DISPATCHED. -/
def pendingCount (s : State) : Nat := (s.skb.slots.filter (fun e => slotPending e.2)).length

/-- REPORTED slots. -/
def reportedCount (s : State) : Nat := (s.skb.slots.filter (fun e => decide (e.2.state = 4))).length

/-- Acceptance order: seq `a` came before seq `b`, the 32-bit number having wrapped between them or not (R148; log 152). -/
def seqBefore (a b : Nat) : Bool :=
  let d := (b + 2 ^ 32 - a) % 2 ^ 32
  decide (0 < d) && decide (d < 2 ^ 31)

/-- Time order, then acceptance order (R37, R157). -/
def strokeBefore (a b : Slot) : Bool :=
  t80Lt (strokeAt a.stroke) (strokeAt b.stroke)
    || (decide (t80Units (strokeAt a.stroke) = t80Units (strokeAt b.stroke)) && seqBefore a.seq b.seq)

/-- Whether a pending slot is in the near set: fewer than 1,024 pending slots precede it. -/
def inNear (s : State) (i : Nat) : Bool :=
  slotPending (s.led i)
    && decide ((s.skb.slots.filter (fun e => slotPending e.2 && strokeBefore e.2 (s.led i))).length < 1024)

/-- The SCHED result word (R88). -/
def schedWord (code seq : Nat) : Word := w40 (code * 2 ^ 36 + (if code ≤ 1 then seq else 0))

/-- A refused or re-offered answer is counted (R165). -/
def countAnswer (s : State) (code : Nat) : State :=
  if code = 1 then s.inc SKB_CNT_REOFFER_count
  else if code = 2 then s.inc SKB_CNT_PAST_count
  else if code = 3 then (s.inc SKB_CNT_FULL_count).ev SKB_EVENTS_full
  else if code = 4 then s.inc SKB_CNT_SOON_count
  else s

/-- The KEYUPD stroke of a KEY_UPDATE is answered (R377): at its commit point the counter advances with its anchors; a
refusal frees the slot. Every KEY_UPDATE response carries the counter (R376), and a refusal the result word too. A command that has
ended before then is not answered again. -/
def kvAnswered (s : State) (slot code seq : Nat) : State :=
  let u := s.kv.slots.find? (fun e => decide (e.1 = slot))
  let waits := decide (s.kv.updWaits = some slot) && decide (mbxCode s = 0x07)
  let s : State := if s.kv.updWaits = some slot then { s with kv := { s.kv with updWaits := none } } else s
  if code ≤ 1 then
    let s := match u with
      | some (_, x) => (s.put KV_UPD_CTR_counter x.counter).put KV_ANCHOR_anchors (x.counter / 4096)
      | none => s
    if waits then mbxFinish s 0 [s.rd KV_UPD_CTR] else s
  else
    let s : State := { s with kv := { s.kv with slots := tabDel s.kv.slots slot } }
    if waits then mbxFinish s 6 [s.rd KV_UPD_CTR, schedWord code seq] else s

/-- The answer of an offer reaches the one that waits for it (R87, R88, R121): the core's SCHED completes two cycles later by
SCHED_RESULT; a mailbox offer ends with OK or REFUSED and the result word; a KEY_UPDATE by `kvAnswered`. -/
def answerOffer (s : State) (o : Offer) (code seq : Nat) (late : Bool) : State :=
  let s := countAnswer s code
  match o.asker with
  | .core k =>
    let c := s.core k
    match c.waiting with
    | .sched rd => s.setCore k { c with waiting := .schedDone rd (schedWord code seq) late }
    | _ => s
  | .mailbox => if mbxCode s = 0x05 then mbxFinish s (if code ≤ 1 then 0 else 6) [schedWord code seq] else s
  | .update j => kvAnswered s j code seq
  | .step => if 1 < code then { s with pal := { s.pal with stepMissed := true } } else s
  | .nobody => s

/-- A report is made (R160): the offering core's stroke-notice event, or the mailbox notice. -/
def noticeOfferer (s : State) (o : Nat) : State :=
  match offererCore o with
  | some k => coreEvent s k 25
  | none => mbxNotice s

/-- A completion enters the journal, which holds the latest 1,024 (R158). -/
def journalAdd (s : State) (seq report late : Nat) : State :=
  { s with skb := { s.skb with journal := ((seq, report, late) :: s.skb.journal).take 1024 } }

/-- A slot ends with a report or none (R148, R160): REPORTED or DONE, counted, noticed, and journalled. On the active unit
of a pair in sync the completion goes to the twin as a NOTE (R442). -/
def finishSlot (s : State) (i report late : Nat) : State :=
  let x := s.led i
  let s := s.setLed i { x with state := if report = 0 then 3 else 4, report := report, late := late }
  let s := if report = 1 then s.inc SKB_CNT_LATE_count else if report = 2 then s.inc SKB_CNT_LAPSED_count else s
  let s := if report = 0 then s else noticeOfferer (s.ev SKB_EVENTS_report) x.offerer
  if twActive s && twSync s then twSend s 4 [w40 x.seq, w40 report] else s

/-- A stroke completes at its executor (R158). -/
def complete (s : State) (i report late : Nat) : State :=
  finishSlot (journalAdd s (s.led i).seq report late) i report late

/-- The lateness in ns of an effect at `t` of a stroke, rounded up so that any lateness reads at least 1, saturating (R148). -/
def latenessAt (t : T80) (k : Stroke) : Nat :=
  let d := t80Diff t (strokeAt k)
  if d ≤ 0 then 0 else min ((d.toNat + 1023) / 1024) 0xFFFFFFFF

/-- Lateness in ns of an effect now. -/
def latenessNow (s : State) (k : Stroke) : Nat := latenessAt s.now k

/-- The report and lateness of a stroke that takes effect now (R160): a stroke performed on its tick is on time, and one that
fell due before t_resume is as late as t_resume (R159). -/
def lateReport (s : State) (x : Slot) : Nat × Nat :=
  let l := if x.resume then latenessAt (s.getT SKB_T_RESUME_HI SKB_T_RESUME_LO) x.stroke
    else if s.onTick (strokeAt x.stroke) then 0 else latenessNow s x.stroke
  (if l = 0 then 0 else 1, l)

/-- A stroke ends now with a report of its own, TARGET_ERROR or NO_FRAME, and its lateness (R148, R160). -/
def completeAs (s : State) (i report : Nat) : State := complete s i report (lateReport s (s.led i)).2

/-- The Keeper-only stroke classes (R90). -/
def keeperClass (c : Nat) : Bool := decide (c = 6 ∨ c = 7)

/-- Whether a stroke of the class is never executed late by its offer rule: PIN, and LAUNCH without late_ok (R145). -/
def strictClass (k : Stroke) : Bool :=
  decide (strokeClass k = 1) || (decide (strokeClass k = 4) && !bitAt k.act 35)

/-- The minimum lead time in ns (R144). -/
def minLead (s : State) (c : Nat) : Nat :=
  (if c = 2 then 1000 else if c = 4 then 2000 else 250)
    + (if s.on SKB_CTL_mirror_en then s.get SKB_MIRROR_LEAD_lead else 0)

/-- The later of two seqs (log 152). -/
def seqLater (a b : Nat) : Nat := if seqBefore a b then b else a

/-- SKB_SEQ holds the seq of the last acceptance (R571; of acceptances that come out of order, the highest, log 152). -/
def noteAccepted (s : State) (seq : Nat) : State := s.put SKB_SEQ_seq (seqLater (s.get SKB_SEQ_seq) seq)

/-- The commit point of an offer's stroke (R36): its slot counts as accepted, and the offer is answered. -/
def commitOffer (s : State) (o : Offer) : State :=
  match o.slot with
  | none => s
  | some i =>
    let s := noteAccepted (s.setLed i { s.led i with commit := true }) (s.led i).seq
    answerOffer s o 0 (s.led i).seq o.late

/-- An offer whose stroke is discarded or refused (R146, R441): its slot holds again what it held before, which its ledger write, where
it has completed, is followed by (R17), and the offer is answered SOON. -/
def dropOffer (s : State) (o : Offer) : State :=
  match o.slot with
  | none => s
  | some i =>
    let s := s.setLed i o.old
    answerOffer (if o.wrote then ledgerStore s i else s) o 4 0 false

/-- Pairing ends while offers wait for their STROKE_ACK (R441): each commits on its own DRAM write alone, but a PIN
stroke or a LAUNCH without late_ok whose time is then nearer than its standalone minimum lead is refused with SOON. -/
def offersUnpaired (s : State) : State :=
  let os := s.skb.offers
  let s := { s with skb := { s.skb with offers := [] } }
  os.foldl (fun s o =>
    if o.mirrored && !o.acked then
      if strictClass o.stroke
          && t80Lt (strokeAt o.stroke) (s.afterNs (if strokeClass o.stroke = 4 then 2000 else 250)) then
        dropOffer s o
      else if o.wrote then commitOffer s { o with mirrored := false }
      else { s with skb := { s.skb with offers := s.skb.offers ++ [{ o with mirrored := false }] } }
    else { s with skb := { s.skb with offers := s.skb.offers ++ [o] } }) s

end Sys2Proof.Machine
end

