-- ==== Sys2Proof/Machine/Reset.lean ====
section
/-! DEFINITION. What a local reset of one unit returns to its reset value, and which units make up a cluster, a region
and a power domain (R18, R20, R23, R24). -/

namespace Sys2Proof.Machine

/-- The registers that `p` picks take their reset values, but for the fields that survive at level `lvl` (1 a warm
reset, 2 every reset while BK is powered; R13, R460). -/
def regsBack (s : State) (lvl : Nat) (p : Nat → Bool) : State :=
  let back := fun (all t : Tab Word) (e : Nat × Word) =>
    if p e.1 then tabSet regReset t e.1 (keepPart lvl e.1 (tabGet regReset all e.1)) else t
  { s with regs := s.regs.foldl (back s.regs) s.regs, lat := s.lat.foldl (back s.lat) s.lat }

/-- The units of the cluster a unit belongs to (R20); a unit outside the listed clusters forms one of its own. -/
def clusterUnits (u : Nat) : List Nat :=
  let easel := fun c => [0x060 + c, 0x064 + 4 * c, 0x065 + 4 * c, 0x066 + 4 * c, 0x067 + 4 * c]
  let brush := fun g => [0x088 + g, 0x098 + 2 * g, 0x099 + 2 * g, 0x080 + g]
  let varn := fun n => [0x020 + n, 0x028 + 4 * n, 0x029 + 4 * n, 0x02A + 4 * n, 0x02B + 4 * n, 0x038 + n]
  if 0x060 ≤ u ∧ u ≤ 0x063 then easel (u - 0x060)
  else if 0x064 ≤ u ∧ u ≤ 0x073 then easel ((u - 0x064) / 4)
  else if 0x080 ≤ u ∧ u ≤ 0x083 then brush (u - 0x080)
  else if 0x088 ≤ u ∧ u ≤ 0x08B then brush (u - 0x088)
  else if 0x098 ≤ u ∧ u ≤ 0x09F then brush ((u - 0x098) / 2)
  else if 0x040 ≤ u ∧ u ≤ 0x04F then (List.range 4).map (fun i => 0x040 + (u - 0x040) / 4 * 4 + i)
  else if 0x020 ≤ u ∧ u ≤ 0x023 then varn (u - 0x020)
  else if 0x028 ≤ u ∧ u ≤ 0x037 then varn ((u - 0x028) / 4)
  else if 0x038 ≤ u ∧ u ≤ 0x03B then varn (u - 0x038)
  else [u]

/-- Every unit of the device (R18). -/
def allUnits : List Nat := (List.range 256).filter (fun u => (unitDomain u).isSome)

/-- The units of a power domain. -/
def domainUnits (d : Nat) : List Nat := allUnits.filter (fun u => decide (unitDomain u = some d))

/-- The units of a region, numbered as `unitRegion`. -/
def regionUnits (r : Nat) : List Nat := allUnits.filter (fun u => decide (unitRegion u = r))

/-- Units that only Keeper may reach (R104); ECk_CTL and the ledger-control registers are handled at the register. -/
def keeperUnit (u : Nat) : Bool := decide (u = 0x002 ∨ u = 0x003 ∨ u = 0x006 ∨ u = 0x0C0 ∨ u = 0x0C1)

/-- The engines of Brush group `g` as core positions (R535). -/
def groupEngines (g : Nat) : List Nat := (List.range 8).map (fun e => 16 + 8 * g + e)

/-- A core is reset (R47): its transfers end, its wait ends, it does not run. -/
def resetCore (s : State) (k : Nat) : State :=
  let s := coreMuted s k
  { s.setCore k Core.reset with fifoWait := s.fifoWait.filter (fun e => decide (e.core ≠ some k)) }

/-- The unit that answers an access of the word at `a` (R479), none where none does. -/
def wordUnit (a : Nat) : Option Nat :=
  if 0x100000 ≤ a ∧ a < 0x180000 then some (0x060 + (a - 0x100000) / 0x20000)
  else if 0x200000 ≤ a ∧ a < 0x240000 then some (0x088 + (a - 0x200000) / 0x10000)
  else if 0x400000 ≤ a ∧ a < 0x410000 then some ((a - 0x400000) / 0x100)
  else if 0x500000 ≤ a ∧ a < 0x510000 then some 0x0E2
  else if 0x600000 ≤ a ∧ a < 0x601000 then some 0x0C0
  else if 0x10000000 ≤ a ∧ a < 0x13000000 then some 0x0E0
  else none

/-- What a core still has outstanding to unit `u` is ended with an error response of a kind of R504 (R25, R467, R469): a load, and
the access of a waiting URD or UWR but for one that the wrapper serves. -/
def coreEnds (u kind : Nat) (c : Core) : Core :=
  let at_ := fun (l : Load) => decide (wordUnit l.addr = some u) || (l.pair && decide (wordUnit ((l.addr + 1) % 2 ^ 32) = some u))
  { c with
    loads := c.loads.map (fun l => if l.back = 0 ∧ at_ l then { l with back := 3, kind := some kind } else l),
    waiting := match c.waiting with
      | .urd rd v off => if v = u ∧ off < 0xF0 then .unitErr (some rd) v off else .urd rd v off
      | .uwr v off w => if v = u ∧ off < 0xF0 then .unitErr none v off else .uwr v off w
      | w => w }

/-- The wrapper of a unit completes every outstanding transfer to it with an error response (R25). -/
def endTransfers (s : State) (u kind : Nat) : State := { s with cores := s.cores.map (fun e => (e.1, coreEnds u kind e.2)) }

/-- The packets that a master holds open are abandoned when it is reset or fenced (R497). -/
def abandonBy (s : State) (m : Nat) : State :=
  s.fifos.foldl (fun s e => if e.2.owner = some m then fifoAbandon s e.1 else s) s

/-- Whether a power domain is on: BK and AO are never switched; the others as PWR_STATE shows (R468). -/
def domainOn (s : State) (d : Nat) : Bool := decide (d ≤ 1) || decide ((s.get PWR_STATE_on).testBit d)

/-- The error response of the register at `a` as its unit stands, by the kinds of R504 (R25, R92, R480). -/
def unitErr (s : State) (a : Nat) : Option Nat :=
  match unitDomain (a / 256) with
  | none => some 0
  | some d =>
    if !domainOn s d then some 3
    else if 0xF0 ≤ a % 256 then none
    else if s.on (UNIT_STATUS_fenced (a / 256)) || s.on (UNIT_STATUS_in_reset (a / 256)) then some 2
    else none

/-- Word `i` of the committed option record (R567); zero where both copies failed. -/
def optWord (s : State) (i : Nat) : Word := s.rst.optRecord.getD i 0

/-- A field of a word of the option record that carries a bit set in [39]: its default where set is 0. -/
def optField (s : State) (i hi lo dflt : Nat) : Nat :=
  if bitAt (optWord s i) 39 then fieldOf (optWord s i) hi lo else dflt

/-- The number of the output that carries the PPS, none when no PPS is emitted (R161, R567). -/
def ppsOut (s : State) : Option Nat := if optField s 7 5 5 0 = 1 then none else some (optField s 7 4 0 16)

/-! ## Outputs and their emitter terms -/

/-- The outputs of Varnish cluster `n` (R20). -/
def clusterOuts (n : Nat) : List Nat := [4 * n, 4 * n + 1, 4 * n + 2, 4 * n + 3, 16 + n]

/-- The PLL of an output. -/
def outVar (k : Nat) : Nat := if k < 16 then k / 4 else k - 16

/-- The device figure of emitter `k` in ps: an output's placement by its mode (R266), none for a clock that is not aligned (R260); a line port's
stamp point and truncation (R324), a span port's two stamps (R396). -/
def emitFigure (s : State) (k : Nat) : Nat :=
  if k < 20 then
    let mode := s.get (OUTk_CFG_mode k)
    if mode = 1 ∧ !s.on (OUTk_STATUS_aligned k) then unbounded
    else (if k < 16 then (if mode = 2 then 15 else 12) else 60) + (if mode = 2 then 0 else s.get (VARn_LOCK_lock_win (outVar k)))
  else if k < 24 then 203
  else 25

/-- By how much the emitter terms of cluster `n` stand above their steady value (R226, R262): the steps of its PHASE strokes accepted and not
yet executed, and those begun whose step_done has not come. -/
def stepRaise (s : State) (n : Nat) : Nat :=
  s.skb.slots.foldl (fun a e =>
    let k := e.2.stroke
    if slotPending e.2 ∧ strokeClass k = 2 ∧ fieldOf k.act 35 34 = n then a + (signedOf 30 (fieldOf k.act 29 0)).natAbs else a)
    (s.varSt n).raised

/-- The House Glaze function writes the term of emitter `k` from the option record, with what a phase step adds to a clock, and the ToD function the
UART's, that of the PPS output (R163, R226, R262, R567). -/
def houseEmit (s : State) (k : Nat) : State :=
  let s := if !houseReplaced s 2 ∧ bitAt (optWord s (39 + k)) 39 ∧ (unitErr s GLZ_CTL).isNone then
      let more := if k < 20 ∧ s.get (OUTk_CFG_mode k) = 1 then stepRaise s (outVar k) else 0
      s.wr (GLZ_EMITk k) (w40 (addE (addE (emitFigure s k) (fieldOf (optWord s (39 + k)) 38 0)) more))
    else s
  if !houseReplaced s 11 ∧ ppsOut s = some k ∧ (unitErr s GLZ_CTL).isNone then s.wr (GLZ_EMITk 28) (s.rd (GLZ_EMITk k)) else s

/-- The House functions follow what moves an output's figure once they run. -/
def houseFollow (s : State) (ks : List Nat) : State := if s.house.bringUpDone then ks.foldl houseEmit s else s

/-- An output's aligned bit, with aligned_lost where it falls (R247, R270), and its emitter term (R260). -/
def setAligned (s : State) (k : Nat) (b : Bool) : State :=
  let was := s.on (OUTk_STATUS_aligned k)
  let s := s.putB (OUTk_STATUS_aligned k) b
  let s := if was && !b then s.ev (OUTk_EVENTS_aligned_lost k) else s
  if was = b then s else houseFollow s [k]

/-- An output in clock mode is gated (R255): its clock stops at the next falling edge. -/
def gateOut (s : State) (k : Nat) : State :=
  if s.get (OUTk_CFG_mode k) = 1 then
    let was := s.on (OUTk_STATUS_gated k)
    let s := setAligned (s.putB (OUTk_STATUS_gated k) true) k false
    let s := s.setOut k { s.out k with stop := (s.out k).run }
    if was then s else s.ev (OUTk_EVENTS_gate k)
  else s

/-- The clock-mode outputs of a cluster are gated (R250). -/
def gateCluster (s : State) (n : Nat) : State :=
  (clusterOuts n).foldl gateOut (s.putB (VARn_STATUS_gated n) true)

/-- What a reset of unit `u` clears behind its registers. -/
def unitInner (s : State) (u : Nat) : State :=
  if 0x064 ≤ u ∧ u ≤ 0x073 then resetCore (abandonBy s (u - 0x064)) (u - 0x064)
  else if u = 0x010 then { s with pal := PalSt.reset }
  else if u = 0x011 then { s with und := UndSt.reset }
  else if u = 0x012 then { s with glz := GlzSt.reset }
  else if 0x018 ≤ u ∧ u ≤ 0x01F then
    { s with pal := { s.pal with refin := tabSet (fun _ => RefIn.reset) s.pal.refin (u - 0x018) RefIn.reset } }
  else if 0x020 ≤ u ∧ u ≤ 0x023 then
    let v := s.varSt (u - 0x020)
    (gateCluster s (u - 0x020)).setVar (u - 0x020)
      { VarSt.reset with theta := v.theta, was := v.was, steps := v.steps, nInt := v.nInt, nNum := v.nNum, nDen := v.nDen, d := v.d, g := v.g }
  else if 0x028 ≤ u ∧ u ≤ 0x03B then (s.setLevel (u - 0x028) false).setOut (u - 0x028) OutSt.reset
  else if 0x040 ≤ u ∧ u ≤ 0x04F then { s with tdc := tabSet (fun _ => TdcSt.reset) s.tdc (u - 0x040) TdcSt.reset }
  else if u = 0x050 then { s with gns := GnsSt.reset }
  else if u = 0x079 then { s with mbx := MbxSt.reset }
  else if 0x080 ≤ u ∧ u ≤ 0x083 then
    { s with lp := tabSet (fun _ => LpSt.reset) s.lp (u - 0x080) LpSt.reset }
  else if 0x088 ≤ u ∧ u ≤ 0x08B then
    (groupEngines (u - 0x088)).foldl resetCore (abandonBy s (16 + (u - 0x088)))
  else if u = 0x090 then { s with stz := { s.stz with cache := [] } }
  else if u = 0x0C0 then { s with kv := s.kv.reload }
  else if 0x0D0 ≤ u ∧ u ≤ 0x0D3 then
    { s with sp := tabSet (fun _ => SpSt.reset) s.sp (u - 0x0D0) SpSt.reset }
  else if u = 0x0D8 then { s with atl := AtlSt.reset }
  else if u = 0x0D9 then { s with stb := StbSt.reset }
  else if u = 0x0DA then { s with tw := { TwSt.reset with coldReset := s.tw.coldReset } }
  else if u = 0x0E2 then { s with fifos := [], fifoWait := [] }
  else if u = 0x0F2 then { s with tly := TlySt.reset }
  else s

/-- A local reset of one unit (R24). Its common block at 0xF0 to 0xFF stays (R528); a local reset of SKB returns its
events and counters and nothing else (R571); a unit of the Always-on/Backup region is never reset alone (R467). -/
def unitLocalReset (s : State) (u : Nat) : State :=
  if u = 0x078 then regsBack s 2 (fun a => decide (a / 256 = u) && decide (6 ≤ a % 256) && decide (a % 256 ≤ 14))
  else if unitRegion u = 0 then s
  else
    let s := endTransfers s u 2
    let gen := s.get (BRGg_GEN_gen (u - 0x088))
    let s := unitInner (regsBack s (if u = 0x0C0 then 1 else 2) (fun a => decide (a / 256 = u) && decide (a % 256 < 0xF0))) u
    if 0x088 ≤ u ∧ u ≤ 0x08B then s.put (BRGg_GEN_gen (u - 0x088)) (gen + 1) else s

/-- Whether GPIO `n` is an output whose driver is enabled (R560). -/
def gpioDriven (s : State) (n : Nat) : Bool := decide (7 ≤ s.rst.step) && decide ((optField s 97 31 0 0).testBit n)

end Sys2Proof.Machine
end

