-- ==== Sys2Proof/Machine/Fault.lean ====
section
/-! DEFINITION. The fault collector: classes, reporting, fences, the FATAL reaction, and the give-up of a paired
active unit that several of its reactions start (R506 to R516, R438, R439, R447, R448). -/

namespace Sys2Proof.Machine

/-- The class of a source (R506): 0 NOTE, 1 DEGRADE, 2 FATAL, 3 reserved. -/
def srcClass (s : State) (n : Nat) : Nat :=
  if n ≤ 11 then 2 else if n ≤ 14 then 1 else if n = 15 then 3 else if n ≤ 41 then 1 else if n ≤ 57 then 0
  else if n ≤ 110 then 1 else if n ≤ 113 then 0 else if n ≤ 145 then 1 else if n ≤ 177 then 0
  else if n ≤ 223 then 3 else if n ≤ 255 then b2n (bitAt (s.rd FIX_SW_CLASS) (n - 224)) else 3

/-- The unit that a source of a fixed unit, core, engine, pipe or cluster names (R506, R516). -/
def srcFixedUnit (n : Nat) : Option Nat :=
  if 26 ≤ n ∧ n ≤ 41 then some (0x064 + (n - 26))
  else if 78 ≤ n ∧ n ≤ 85 then some (0x098 + (n - 78))
  else if 86 ≤ n ∧ n ≤ 89 then some (0x060 + (n - 86))
  else if 90 ≤ n ∧ n ≤ 93 then some (0x088 + (n - 90))
  else if 94 ≤ n ∧ n ≤ 97 then some (0x040 + 4 * (n - 94))
  else if 98 ≤ n ∧ n ≤ 101 then some (0x020 + (n - 98))
  else if 114 ≤ n ∧ n ≤ 145 then some (0x088 + (n - 114) / 8)
  else none

/-- The essential units (R507). -/
def essentialUnit (u : Nat) : Bool :=
  [0x004, 0x0F0, 0x000, 0x001, 0x005, 0x010, 0x011, 0x012, 0x078, 0x079, 0x064, 0x060, 0x0C0, 0x0E0, 0x0E1, 0x0E2].contains u

/-- The source of a region failure (R506). -/
def regionSource (r : Nat) : Nat := [6, 7, 8, 12, 9, 13, 10, 14, 11].getD r 6

/-- The source of a unit fault of a region (R506: 16 to 24 in the order of R18). -/
def unitFaultSource (u : Nat) : Nat := 16 + unitRegion u

/-- The status bit of a source. -/
def srcStatus (s : State) (n : Nat) : Bool := bitAt (s.rd (FIX_STATUS (n / 40))) (n % 40)

/-- A NOTE or DEGRADE source sets its status bit and reports (R508, R513, R514). -/
def reportSrc (s : State) (n : Nat) : State :=
  let s := s.event (FIX_STATUS (n / 40)) (n % 40)
  if s.fix.fatal ∨ bitAt (s.rd (FIX_MASK (n / 40))) (n % 40) then s
  else { s with host := { s.host with msix := s.host.msix ++ [s.get FIX_VECTOR_vec] } }

/-- Loading TW_GEN with its setter (R439). -/
def twNewGen (s : State) : State :=
  let s := s.wr TW_GEN (s.rd TW_GEN + 1)
  (s.put TW_GEN_UID_HI_val Config.uidHi.toNat).put TW_GEN_UID_LO_val Config.uidLo.toNat

/-- pstate leaves SYNC or REFILL for LAPSED (R438): sync lost is reported, the active unit takes a new generation (R439),
and offers that wait for the twin are settled (R441). -/
def leaveSync (s : State) : State :=
  let p := s.get TW_STATUS_pstate
  if p = 2 ∨ p = 3 then
    let s := s.put TW_STATUS_pstate 4
    let s := { s with tw := { s.tw with quietFrom := s.steady, readyFrom := none } }
    let s := s.put TW_STATUS_ready 0
    let s := s.putB SKB_CTL_mirror_en false
    let s := if p = 3 then
        let s := reportSrc (s.ev TW_EVENTS_sync_lost) 106
        if twActive s then twNewGen s else s
      else s
    offersUnpaired s
  else s

/-- The executors stop and t_reset is latched, unless they have not been armed since an earlier reset (R157, R159). -/
def stopExecutors (s : State) : State :=
  let s := if s.skb.armed then s.putT TB_RESET_T_HI TB_RESET_T_LO s.now else s
  { s with skb := { s.skb with armed := false, trails := [] } }

/-- An output goes high-impedance. -/
def outRelease (s : State) (k : Nat) : State := s.putB (OUTk_STATUS_driving k) false

/-- A give-up reaches an output (R448): it is released at once where it is low or in pulse mode, else on a later tick. -/
def outGive (s : State) (k : Nat) : State :=
  if s.on (OUTk_STATUS_driving k) && s.level k && decide (s.get (OUTk_CFG_mode k) ≠ 2) then s.setOut k { s.out k with giveAt := some s.steady }
  else outRelease s k

/-- Give-up of the active unit of a pair (R447, R448) with t_stop = `t`: no stroke at or after t_stop executes here, GIVE
carries t_stop and the seq of the last completion noted, the outputs are released and the ownership line on the tick after the last of them, and
pairing leaves SYNC. -/
def giveUpAt (t : T80) (s : State) : State :=
  if twActive s then
    let s := { s with skb := { s.skb with armed := false, trails := [] } }
    let s := s.putT TW_T_STOP_HI TW_T_STOP_LO t
    let s := twSend s 7 [T80hi t, T80lo t, w40 ((s.skb.journal.head?.map (fun j => j.1)).getD 0)]
    let s := (List.range 20).foldl outGive s
    let s : State := { s with tw := { s.tw with releasing := true } }
    let s := s.ev TW_EVENTS_gave_up
    let s := leaveSync s
    let s := { s with tw := { s.tw with gapFrom := s.steady, driveAt := none, give := none, waitOut := [], checks := [] } }
    mbxQueue (twRole s 2) 0
  else s

/-- Give-up on the tick on which it is decided. -/
def giveUp (s : State) : State := giveUpAt s.now s

/-- An output in mode 1 or 2 goes to its safe state (R267, R509): its gated level, or high-impedance. -/
def outSafe (s : State) (k : Nat) : State :=
  if s.get (OUTk_CFG_mode k) = 0 then s
  else
    let s := s.putB (OUTk_STATUS_safe_forced k) true
    let s := s.setLevel k false
    if s.get (OUTk_CFG_safe k) = 0 then s else outRelease s k

/-- A unit is named by a source: UNIT_FAULT and FIX_SRC show it (R508, R527, R528). -/
def nameUnit (s : State) (n u : Nat) : State :=
  let s := tally (s.put (UNIT_FAULT_source u) n) u 0x07
  let s := s.ev (UNIT_FAULT_fault u)
  { s with fix := { s.fix with srcUnit := tabSet (fun _ => 0) s.fix.srcUnit n u } }

/-- UNIT_STATUS.first_fatal follows FIX_FIRST_SRC (R528). -/
def markFirstFatal (s : State) (named : Option Nat) : State :=
  let s := s.regs.foldl (fun t e => if e.1 % 256 = 0xF1 then t.put (UNIT_STATUS_first_fatal (e.1 / 256)) 0 else t) s
  match named with
  | none => s
  | some u => s.put (UNIT_STATUS_first_fatal u) 1

/-- A FATAL source (R509 to R511): its status bit; and on the first, the FATAL state with its reaction. A source set
while the device is FATAL sets its status bit and nothing more, but that of the sources of one tick the lowest is recorded. -/
def fatalEnter (s : State) (n : Nat) (named : Option Nat) : State :=
  let a := FIX_STATUS (n / 40)
  let s := s.wr a (s.rd a ||| w40 (2 ^ (n % 40)))
  let same := s.tb.counting && decide (s.getT FIX_FIRST_T_HI FIX_FIRST_T_LO = s.now) && decide (n < s.get FIX_FIRST_SRC_source)
  if s.fix.fatal then
    (if same ∧ s.on FIX_FIRST_SRC_valid then markFirstFatal (s.wr FIX_FIRST_SRC (w40 (0x100 + n))) named else s)
  else
    let s := { s with fix := { s.fix with fatal := true, faultN := false } }
    let s := s.wr FIX_FIRST_SRC (w40 (0x100 + n))
    let s := s.putT FIX_FIRST_T_HI FIX_FIRST_T_LO s.now
    let s := markFirstFatal s named
    let s := stopExecutors s
    let s := giveUp s
    let t := s.steady
    let s := (List.range 20).foldl (fun s k => if s.get (OUTk_CFG_mode k) = 0 then s else s.setOut k { s.out k with safeAt := some t }) s
    let s := { s with rst := { s.rst with stopped := decide (s.rst.step < 8) } }
    mbxQueue s 2

/-- A wrapper fences a unit (R25, R508): it is held in local reset, and `n` is one of the sources that named it since
the fence began. Fencing TW ends pairing (R27). -/
def fenceUnit (n : Nat) (s : State) (u : Nat) : State :=
  let s := nameUnit s n u
  let had := if s.on (UNIT_STATUS_fenced u) then tabGet (fun _ => []) s.fix.fenceBy u else []
  let s := if u = 0x0DA then leaveSync s else s
  let s := unitLocalReset s u
  let s := s.putB (UNIT_STATUS_in_reset u) true
  let s := s.putB (UNIT_STATUS_fenced u) true
  { s with fix := { s.fix with fenceBy := tabSet (fun _ => []) s.fix.fenceBy u (if had.contains n then had else n :: had) } }

/-- The units a source's reaction fences, once the unit it names is known (R506). -/
def fenceTargets (n : Nat) (named : Option Nat) : List Nat :=
  if n = 12 then regionUnits 3
  else if n = 13 then regionUnits 5
  else if n = 14 then regionUnits 7
  else match named with
    | none => []
    | some u =>
      if (16 ≤ n ∧ n ≤ 41) ∨ (78 ≤ n ∧ n ≤ 85) then [u]
      else if 86 ≤ n ∧ n ≤ 101 then clusterUnits u
      else []

/-- A source is raised by detection (R508, R511, R507), naming a unit where it names one. -/
def raiseSrc (s : State) (n : Nat) (unit : Option Nat) : State :=
  let named := match srcFixedUnit n with | some u => some u | none => unit
  match srcClass s n with
  | 3 => s
  | 2 => fatalEnter s n named
  | c =>
    let s := reportSrc s n
    if s.fix.fatal then s
    else
      let s := if c = 1 then
          let s := (fenceTargets n named).foldl (fenceUnit n) s
          if 114 ≤ n ∧ n ≤ 145 then
            let s := nameUnit s n (0x088 + (n - 114) / 8)
            (resetCore s (16 + (n - 114))).setCore (16 + (n - 114)) { Core.reset with fenced := true }
          else s
        else s
      match named with
      | none => s
      | some u =>
        let s := { s with fix := { s.fix with srcUnit := tabSet (fun _ => 0) s.fix.srcUnit n u } }
        if essentialUnit u ∧ ((16 ≤ n ∧ n ≤ 26) ∨ (86 ≤ n ∧ n ≤ 101)) then fatalEnter s (regionSource (unitRegion u)) (some u)
        else s

/-- A burst is found uncorrectable (R486): recorded with the master whose read found it, counted, and reported by the
source 109. A reader that R490 lists under no ID leaves the record's master open: it is a free value (log 1). -/
def dramUncorr (s : State) (b : Nat) (scrub : Bool) (master : Option Nat) : State :=
  let (m, s) := match master with | some m => (m, s) | none => s.freeBelow 32
  let s := s.put MEM_ERR_ADDR_addr (0x10000000 + 12 * b)
  let s := (s.put MEM_ERR_INFO_scrub (b2n scrub)).put MEM_ERR_INFO_master (if scrub then 0 else m)
  raiseSrc ((s.incSat MEM_CNT_UNCORR_count).ev MEM_EVENTS_uncorr) 109 none

/-- The source of a core's double trap (R107) and of a core halted on a trap (R106, R109). -/
def doubleTrapSource (k : Nat) : Nat := if k < 16 then 26 + k else 114 + (k - 16)
def haltSource (k : Nat) : Nat := if k < 16 then 42 + k else 146 + (k - 16)

end Sys2Proof.Machine
end

