-- ==== Sys2Proof/Machine/Access.lean ====
section
/-! DEFINITION. The register access every unit shares: whether the unit answers (R25, R92, R480), whether the master may
(R104), the error record of the matrix (R493), and the reserved fields and values of a write (R12, R15). -/

namespace Sys2Proof.Machine

/-- Whether only Keeper may read the register at `a` (R104, R488). -/
def keeperRead (a : Nat) : Bool :=
  keeperUnit (a / 256) || (decide (a / 256 = 0x0E0) && decide (8 ≤ a % 256) && decide (a % 256 ≤ 15))

/-- Whether only Keeper may write the register at `a` (R104, R110, R165, R488, R512). -/
def keeperWrite (a : Nat) : Bool :=
  let u := a / 256
  let off := a % 256
  keeperRead a
    || (decide (u = 0x078) && decide (off ≤ 2))
    || (decide (0x064 ≤ u) && decide (u ≤ 0x073) && decide (off ≤ 1))
    || (decide (0x088 ≤ u) && decide (u ≤ 0x08B) && decide (off < 0x80) && decide (off % 16 ≤ 1))
    || decide (a = FIX_SW_CLASS)

/-- The error response a master's access of the register at `a` gets, none when it is performed. -/
def regErr (s : State) (m : Master) (a : Nat) (write : Bool) : Option Nat :=
  match unitErr s a with
  | some k => some k
  | none => if !m.keeper && (if write then keeperWrite a else keeperRead a) then some 1 else none

/-- The matrix records an error response (R493): `bar` 3 for an access that is not the host's. -/
def mtxRecord (s : State) (m : Master) (kind addr : Nat) (write : Bool) (bar : Nat) (rel : Bool) : State :=
  let s := s.put MTX_ERR_ADDR_addr addr
  let s := s.wr MTX_ERR_INFO (w40 (bar * 2 ^ 12 + b2n rel * 2 ^ 11 + b2n write * 2 ^ 10 + kind * 2 ^ 7 + m.id.val))
  let s := if kind = 0 then s.inc MTX_CNT_DECODE_count
    else if kind = 1 then s.inc MTX_CNT_PRIV_count
    else if kind = 5 then s.inc MTX_CNT_HOST_ALIGN_count else s
  s.ev MTX_EVENTS_err

/-- The error record of an access that is not the host's. -/
def mtxErr (s : State) (m : Master) (kind addr : Nat) (write : Bool) : State := mtxRecord s m kind addr write 3 false

/-- The fast clock of unit `u` serves an access or starts. -/
def clockUse (s : State) (u : Nat) : State := { s with clkAt := tabSet (fun _ => ⟨0, 0⟩) s.clkAt u s.steady }

/-- An access other than to the common block starts the unit's clock, and delays its stop (R31, R473). -/
def startClock (s : State) (a : Nat) : State :=
  if 0xF0 ≤ a % 256 then s
  else
    let s := clockUse s (a / 256)
    if s.on (UNIT_STATUS_clk_on (a / 256)) then s
    else tally (s.putB (UNIT_STATUS_clk_on (a / 256)) true) (a / 256) 0x06

/-- An error response to an access of the register at `a`: the wrapper's are counted by its Tally (R532), and the matrix
records it (R493). -/
def errReg (s : State) (m : Master) (k a : Nat) (write : Bool) : State :=
  mtxErr (if k = 1 ∨ k = 2 then tally s (a / 256) 0x05 else s) m k (0x00400000 + a) write

/-- Error injection (R525): whether this access of unit `u` is the nth one, which is not performed. -/
def injectErr (s : State) (u : Nat) : Bool × State :=
  if tstOpen s ∧ s.on TST_CTL_err_en ∧ s.get TST_ERR_unit = u ∧ s.get TST_ERR_nth ≠ 0 then
    let n := s.lcy.accesses + 1
    let s := { s with lcy := { s.lcy with accesses := n } }
    if n % s.get TST_ERR_nth = 0 then (true, s.inc TST_CNT_count) else (false, s)
  else (false, s)

/-- When the response to an access of the word at `a` may come: the test unit holds a response of the unit or of DRAM back by delay_ns, or by
a pseudo-random time up to it, whose generator's taps are not stated: a free value (R525; log 1). -/
def respDue (s : State) (a : Nat) : T80 × State :=
  let u := s.get TST_RESP_unit
  let here : Bool := match wordUnit a with | some v => decide (v = u) || (decide (u = 0xFFF) && decide (0x10000000 ≤ a)) | none => false
  if tstOpen s ∧ s.on TST_CTL_resp_en ∧ here then
    let (d, s) := if s.on TST_RESP_random then s.freeBelow (s.get TST_RESP_delay_ns + 1) else (s.get TST_RESP_delay_ns, s)
    (t80Add s.steady (nsU d : Nat), s.inc TST_CNT_count)
  else (⟨0, 0⟩, s)

/-- The address of a register in the memory map (R479). -/
def regSpace (a : Nat) : Nat := 0x00400000 + a

/-- A write of a register: its error response, or its reserved fields and values, or its effect `eff`. -/
def writeReg (m : Master) (a : Nat) (w : Word) (eff : State → Out) (s : State) : Out :=
  match regErr s m a true with
  | some k => .next (errReg s m k a true)
  | none =>
    if !reservedBitsZero (regFields a) w then .fault .unpredictable
    else if !legalValues (regFields a) w then .fault .reservedValue
    else
      let (inj, s) := injectErr s (a / 256)
      if inj then .next s else eff (tally (startClock s a) (a / 256) 0x04)

/-- A write by the field types alone (R12). -/
def plainWrite (s : State) (a : Nat) (w : Word) : State := s.wr a (writeFields (regFields a) (s.rd a) w)

/-- A read of a register with an effect of its own: its error response, or the state its effect leaves. -/
def readReg (m : Master) (a : Nat) (eff : State → State) (s : State) : Out :=
  match regErr s m a false with
  | some k => .next (errReg s m k a false)
  | none =>
    let (inj, s) := injectErr s (a / 256)
    .next (if inj then s else eff (tally (startClock s a) (a / 256) 0x03))

/-- What a House function's own write leaves; nothing where the write would stop. -/
def houseDo (s : State) (f : State → Out) : State := match f s with | .next t => t | _ => s

/-- Only the first of several outcomes' states goes on: a next state is passed to `f`. -/
def thenOut (o : Out) (f : State → Out) : Out :=
  match o with
  | .next s => f s
  | .fault e => .fault e
  | .refused r => .refused r

/-- Rounding a quotient of integers to the nearest integer; where two are equally near the spec names neither, and a free
value decides (log 1). -/
def roundQ (s : State) (x : Int) (d : Nat) : Int × State :=
  let q := x / (d : Int)
  let r := x % (d : Int)
  if 2 * r < (d : Int) then (q, s)
  else if 2 * r > (d : Int) then (q + 1, s)
  else
    let (w, s) := s.free
    (if bitAt w 0 then q else q + 1, s)

/-- Dropping the fraction of a quotient where the spec does not say which neighbour is kept (log 1). -/
def freeQ (s : State) (x : Int) (d : Nat) : Int × State :=
  let q := x / (d : Int)
  if x % (d : Int) = 0 then (q, s)
  else
    let (w, s) := s.free
    (if bitAt w 0 then q else q + 1, s)

/-- The shift that the test unit adds to a timestamp of class `target` (0 line ports, 1 span ports, 2 TDC), in 1/1024 ns
(R525): ofs and a pseudo-random value within ±amp. The generator's taps are not stated: its values are free (log 1). -/
def stampShift (s : State) (target : Nat) : Int × State :=
  if tstOpen s ∧ s.on TST_CTL_stamp_en ∧ (s.get TST_STAMP_target = target ∨ s.get TST_STAMP_target = 3) then
    let amp := s.get TST_STAMP_amp
    let (x, s) := s.freeBelow (2 * amp + 1)
    (s.getI TST_STAMP_ofs + (x : Int) - (amp : Int), s.inc TST_CNT_count)
  else (0, s)

end Sys2Proof.Machine
end

