-- ==== Sys2Proof/Machine/TbBase.lean ====
section
/-! DEFINITION. The writes of the timebase that other units share, and the T80 counter's own commands that need no
executor (R126 to R133, R32). -/

namespace Sys2Proof.Machine

/-- One P40 unit (1/1024 ns) in the units in which the slew remainder is held (10^-12/1024 ns). -/
abbrev fineUnit : Int := 1000000000000

/-- A P40 is added to the slew remainder, saturating at the range limit (R133). -/
def slewAdd (s : State) (x : Int) : State :=
  let r := s.tb.rem + x * fineUnit
  let hi : Int := (2 ^ 39 - 1) * fineUnit
  let lo : Int := -(2 ^ 39) * fineUnit
  if r > hi then State.ev { s with tb := { s.tb with rem := hi } } TB_EVENTS_slew_sat
  else if r < lo then State.ev { s with tb := { s.tb with rem := lo } } TB_EVENTS_slew_sat
  else { s with tb := { s.tb with rem := r } }

/-- The P40 of TB_SLEW_REM: the remainder rounded toward zero (R164). -/
def slewRem (s : State) : Word := i40 (s.tb.rem.tdiv fineUnit)

/-- The exact increment of a tick in 2^-80 ns, before rounding, as a numerator over 10^16 (R126), with the slew `amt` of
the tick in 10^-12/1024 ns. -/
def incNum (steer amt : Int) : Nat := ((1024 * 10 ^ 16 - 1024 * steer + 10000 * amt) * 2 ^ 70).toNat

/-- The increment in 2^-80 ns (R126): exact where it is such a multiple, else rounded as the implementation does (log 4). -/
def incUnits (steer amt : Int) : Nat :=
  let x := incNum steer amt
  let q := x / 10 ^ 16
  if x % 10 ^ 16 = 0 then q else if Config.incRoundUp x then q + 1 else q

/-- The slew of one tick in 10^-12/1024 ns (R132): limited by the rate, and by what remains. -/
def slewOfTick (s : State) : Int :=
  let lim : Int := ((1024 * s.get TB_SLEW_RATE_rate : Nat) : Int)
  if s.tb.rem ≥ 0 then min lim s.tb.rem else max (-lim) s.tb.rem

/-- One tick of the counter (R126, R132). -/
def tbCount (s : State) : State :=
  let t := s.tb
  let amt := slewOfTick s
  let total := t.residue + incUnits (s.getI TB_STEER_steer) amt
  let emit := total >>> 32
  let phi := t.phi + emit
  let ns := t.ns + phi / 2 ^ 48
  { s with tb := { t with
      residue := total % 2 ^ 32, emit := emit, phi := phi % 2 ^ 48, ns := ns % 1000000000,
      sec := (t.sec + ns / 1000000000) % 2 ^ 40, prev := s.now, pre := none, rem := t.rem - amt, slewed := t.slewed + amt, raw := t.raw + 1 } }

/-- COPY_COMPARE (R32): once per millisecond TB compares every copy with itself; a copy that differs raises the FATAL source 1. A copy
differs only by a hardware failure: `slip` is one that has struck unit `unit`'s copy, in 1/1024 ns, none where it is 0. A unit in reset
holds no copy. -/
def execCopyCompare (bad : CopySlip) (s : State) : Out :=
  let u := bad.unit.toNat
  let off := tabGet (fun _ => 0) s.tb.copies u + sgn bad.slip
  let s : State := if (unitErr s (u * 0x100)).isSome then s
    else { s with tb := { s.tb with copies := tabSet (fun _ => 0) s.tb.copies u off } }
  let ms := t80Units s.steady / nsU 1000000
  if ms = s.tb.compared then .next s
  else
    let s : State := { s with tb := { s.tb with compared := ms } }
    .next (if s.tb.copies.isEmpty then s else raiseSrc s 1 none)

/-- The effect of a TB_STEER write (R128). Another master's write while the Underpainting steers breaks the documented
sequencing (R200). -/
def steerWrite (w : Word) (s : State) : Out :=
  if s.on UND_CTL_run then .fault .unpredictable else .next (s.wr TB_STEER w)

/-- TB_STEER_WRITE (R128): the value takes effect whole on the next tick. -/
def execTbSteerWrite (m : Master) (w : Word) (s : State) : Out := writeReg m TB_STEER w (steerWrite w) s

/-- TB_SLEW_ADD_WRITE (R133). -/
def execTbSlewAddWrite (m : Master) (w : Word) (s : State) : Out :=
  writeReg m TB_SLEW_ADD w (fun s => .next (slewAdd s (sgn w))) s

/-- The effect of a TB_LOAD_LO write (R131): the first one while the time is not valid arms the load; any other is
ignored. Of a pair that is no normalized T80 the time loaded is free (R5, log 151). -/
def loadLoWrite (w : Word) (s : State) : Out :=
  if s.on TB_STATUS_time_valid || s.tb.load.isSome then .next (s.ev TB_EVENTS_load_ignored)
  else
    let (t, s) := timeOrFree (t80Of (s.rd TB_LOAD_HI) w) s
    .next { s with tb := { s.tb with load := some (T80hi t, T80lo t) } }

/-- TB_LOAD_LO_WRITE (R131). -/
def execTbLoadLoWrite (m : Master) (w : Word) (s : State) : Out := writeReg m TB_LOAD_LO w (loadLoWrite w) s

/-- TIME_LOAD (R131, R422): on the tick after the arming write the pair enters the counter and the time is valid; the
seeds of the samples end. -/
def execTimeLoad (s : State) : Out :=
  match s.tb.load with
  | none => .next s
  | some (hi, lo) =>
    let jump := (t80Units (t80Of hi lo) : Int) - (t80Units s.now : Int)
    let s := { s with tb := { s.tb with sec := hi.toNat, ns := lo.toNat / 1024, phi := lo.toNat % 1024 * 2 ^ 38,
                                        prev := s.now, load := none, steps := s.tb.steps + jump },
                            atl := { s.atl with seed := none },
                            pal := { s.pal with slots := s.pal.slots.map (fun (e : Nat × PalSlot) => (e.1, { e.2 with seed := 0 })) } }
    .next (s.putB TB_STATUS_time_valid true)

/-- A direct write to TB_STEP_US, TB_STEP_S or TB_LEAP_EXEC (R569): no effect but the event. -/
def directStepWrite (m : Master) (a : Nat) (s : State) : Out :=
  match regErr s m a true with
  | some k => .next (mtxErr s m k (regSpace a) true)
  | none => .next (State.ev (startClock s a) TB_EVENTS_direct_ignored)

/-- TB_DIRECT_STEP_WRITE (R569): which is 0 TB_STEP_US, 1 TB_STEP_S, 2 TB_LEAP_EXEC. -/
def execTbDirectStepWrite (m : Master) (which : Fin 3) (_w : Word) (s : State) : Out :=
  directStepWrite m (([TB_STEP_US, TB_STEP_S, TB_LEAP_EXEC] : List Nat).getD which.val TB_LEAP_EXEC) s

/-- LEAP_END (R137): in_leap clears one second after the leap stroke's T80. -/
def execLeapEnd (s : State) : Out :=
  if s.on TB_STATUS_in_leap ∧ s.reached s.tb.leapEnd then .next (s.putB TB_STATUS_in_leap false) else .next s

end Sys2Proof.Machine
end

