-- ==== Sys2Proof/Machine/Glz.lean ====
section
/-! DEFINITION. The Glaze: the five terms of the bound, its publication, the lineage record and the quality advertised
(R220 to R236). -/

namespace Sys2Proof.Machine

/-- Picoseconds, rounded up, of a magnitude in 10^-12/1024 ns. -/
def psOfFine (x : Int) : Nat := upE (x.natAbs * 1000) (1024 * 10 ^ 12)

/-- Picoseconds, rounded up, of a magnitude in 1/1024 ns. -/
def psOfUnits (x : Int) : Nat := upE (x.natAbs * 1000) 1024

/-- The reference term of a slot with offset `x` still to absorb (R189). -/
def refTerm (s : State) (n : Nat) (x : Int) : Nat :=
  addE (addE (s.get (PAL_Sn_BOUND_bound n)) (psOfFine x)) (psOfUnits (s.slot n).d)

/-- The sum of the active event entries that `mask` picks (R220, R221). -/
def evtTerm (s : State) (mask : Nat) : Nat :=
  (List.range 8).foldl (fun acc k => if mask.testBit k then addE acc (s.get (GLZ_EVTk_VAL_term k)) else acc) 0

/-- The selected slot, none when no slot is selected. -/
def selSlot (s : State) : Option Nat := if s.on PAL_STATE_sel_valid then some (s.get PAL_STATE_sel_slot) else none

/-- The kind of a slot: 0 FREQ, 1 PHASE, 2 TOD (R167). -/
def slotKind (s : State) (n : Nat) : Nat := s.get (PAL_Sn_CFG_kind n)

/-- The published terms: T_ref, T_meas, T_path, T_hold, T_evt (R220). -/
structure Terms where
  ref : Nat
  meas : Nat
  path : Nat
  hold : Nat
  evt : Nat
deriving DecidableEq, Repr

/-- The sum of the terms (R10, R220). -/
def Terms.sum (t : Terms) : Nat := addE (addE (addE (addE t.ref t.meas) t.path) t.hold) t.evt

/-- The larger of each term (R223). -/
def Terms.max (a b : Terms) : Terms :=
  { ref := Nat.max a.ref b.ref, meas := Nat.max a.meas b.meas, path := Nat.max a.path b.path,
    hold := Nat.max a.hold b.hold, evt := Nat.max a.evt b.evt }

/-- Every term the same. -/
def Terms.all (x : Nat) : Terms := { ref := x, meas := x, path := x, hold := x, evt := x }

/-- T_hold made to cover the millisecond to come (R222), from UND_H on this tick and on the one before. -/
def holdMargin (s : State) : Nat :=
  let h := s.get UND_H_h
  if h ≥ unbounded then unbounded else addE (addE h (2 * (h - s.und.hPrev))) 1

/-- The 25 ps allowances still live (R189). -/
def allowance (s : State) : Nat := 25 * s.pal.allow

/-- The terms while a switch runs (R225): the old slot's and the new slot's together. Only the old slot's reference term is frozen. -/
def switchTerms (s : State) (w : Switch) : Terms :=
  let n := w.to_
  let old := fun (f : Nat → Fld) => match w.from_ with | some o => if w.fromHold then 0 else s.get (f o) | none => 0
  let newX : Nat := match w.a with
    | some a => psOfFine a
    | none => addE (psOfUnits w.phaseS) (psOfFine w.base)
  let newRef := addE (addE (s.get (PAL_Sn_BOUND_bound n)) newX) (psOfUnits (s.slot n).d)
  { ref := addE w.oldRef newRef,
    meas := addE (addE (old GLZ_Sn_MEAS_term) (s.get (GLZ_Sn_MEAS_term n))) (25 + allowance s),
    path := addE (old GLZ_Sn_ASYM_term) (s.get (GLZ_Sn_ASYM_term n)),
    hold := if w.fromHold then holdMargin s else 0,
    evt := evtTerm s (if w.fromHold then s.glz.evtNew ||| w.oldEvt else 255) }

/-- What stamp jitter adds while it is enabled (R526): amp + |ofs| in ps, rounded up. -/
def jitterPs (s : State) : Nat :=
  if tstOpen s ∧ s.on TST_CTL_stamp_en then upE ((s.get TST_STAMP_amp + (s.getI TST_STAMP_ofs).natAbs) * 1000) 1024
  else 0

/-- The term of emitter `k` (R226, R526). -/
def emitTerm (s : State) (k : Nat) : Nat := addE (s.get (GLZ_EMITk_term k)) (jitterPs s)

/-- The terms with the test unit's share in T_meas (R526). -/
def withJitter (s : State) (r : Nat × Terms) : Nat × Terms := (r.1, { r.2 with meas := addE r.2.meas (jitterPs s) })

/-- The situation of R221 and its terms, but for the test unit's share. -/
def plainTerms (s : State) : Nat × Terms :=
  let st := s.get PAL_STATE_state
  if st = 0 ∨ !s.on UND_CTL_run ∨ !s.on GLZ_CTL_run then (4, (Terms.all unbounded))
  else match s.pal.sw with
    | some w => (1, switchTerms s w)
    | none =>
      if st = 3 ∨ st = 4 then
        (2, { ref := s.get UND_B_ENTRY_b, meas := 0, path := 0, hold := holdMargin s, evt := evtTerm s s.glz.evtNew })
      else match selSlot s with
        | none => (4, (Terms.all unbounded))
        | some n =>
          if slotKind s n = 0 then
            (3, { ref := 0, meas := allowance s, path := 0, hold := holdMargin s, evt := evtTerm s s.glz.evtNew })
          else
            (0, { ref := refTerm s n (s.slot n).x, meas := addE (s.get (GLZ_Sn_MEAS_term n)) (allowance s),
                  path := s.get (GLZ_Sn_ASYM_term n), hold := 0, evt := evtTerm s 255 })

/-- The situation of R221 and its terms. -/
def termsNow (s : State) : Nat × Terms := withJitter s (plainTerms s)

/-- The clockAccuracy codes of IEEE 1588-2019 from 0x17 (1 ps) to 0x30 (10 s), in whole ps (R236; PRESUMED,
log 8): the step of 2.5 ps holds up to 2. -/
def accuracySteps : List Nat :=
  [1, 2, 10, 25, 100, 250, 1000, 2500, 10000, 25000, 100000, 250000, 1000000, 2500000, 10000000, 25000000, 100000000,
   250000000, 1000000000, 2500000000, 10000000000, 25000000000, 100000000000, 250000000000, 1000000000000,
   10000000000000]

/-- The clockAccuracy of a bound (R236). -/
def accuracyCode (b : Nat) : Nat :=
  if b ≥ unbounded then 0xFE
  else
    match accuracySteps.zipIdx.find? (fun p => decide (b ≤ p.1)) with
    | some p => 0x17 + p.2
    | none => 0x31

/-- A rise of B_pub reaches every emitter (R333, R334, R392, R396): BSEQ advances on a rise, BMAX covers it. -/
def boundToEmitters (s : State) (b : Nat) (rise : Bool) : State :=
  let m := (s.glz.bHist.foldl Nat.max b)
  (List.range 4).foldl (fun s i =>
    let s := (s.put (BRGg_BMAX_b i) m).put (SPp_BMAX_b i) m
    if rise then (s.inc (BRGg_BSEQ_bseq i)).inc (SPp_BSEQ_bseq i) else s) s

/-- The bound is published (R222): terms, sum, mode and what follows from them. -/
def publish (s : State) (mode : Nat) (t : Terms) : State :=
  let b := t.sum
  let old := s.get GLZ_B_b
  let s := (((((s.wr GLZ_T_REF (w40 t.ref)).wr GLZ_T_MEAS (w40 t.meas)).wr GLZ_T_PATH (w40 t.path)).wr GLZ_T_HOLD
    (w40 t.hold)).wr GLZ_T_EVT (w40 t.evt)).wr GLZ_B (w40 b)
  let s := s.put GLZ_STATUS_mode mode
  let s := s.putB GLZ_STATUS_unbounded (decide (b ≥ unbounded))
  let s := if b ≥ unbounded ∧ old < unbounded then s.ev GLZ_EVENTS_unbounded else s
  let s := s.put GLZ_ACCURACY_code (accuracyCode b)
  boundToEmitters s b (decide (old < b))

/-- The terms as published. -/
def publishedTerms (s : State) : Terms :=
  { ref := (s.rd GLZ_T_REF).toNat, meas := (s.rd GLZ_T_MEAS).toNat, path := (s.rd GLZ_T_PATH).toNat,
    hold := (s.rd GLZ_T_HOLD).toNat, evt := (s.rd GLZ_T_EVT).toNat }

/-- Between Palette ticks the bound never falls (R223): every term that rises, and a change of mode, reaches B_pub. -/
def glzRefresh (s : State) : State :=
  let (mode, t) := termsNow s
  let p := publishedTerms s
  let old := s.get GLZ_STATUS_mode
  if mode = 4 then (if old = 4 then s else publish s 4 t)
  else if old = 4 then s
  else
    let m := p.max t
    if m = p ∧ mode = old then s else publish s mode m

/-- The lineage identifier as the machine stands (R228). -/
def lineageId (s : State) (serial : Nat) : Nat :=
  let st := s.get PAL_STATE_state
  match selSlot s with
  | none => serial * 2 ^ 20 + 31 * 2 ^ 15 + st * 2 ^ 12 + 15 * 2 ^ 8 + 255
  | some n =>
    serial * 2 ^ 20 + n * 2 ^ 15 + st * 2 ^ 12 + s.get (PAL_Sn_STATUS_eff_rank n) * 2 ^ 8 + s.get (GLZ_Sn_CAL_hops n)

/-- The source group of a slot, 0 to 5 for A to F (R166): slot 23 is E while a PTP session, F as the spare. -/
def slotGroup (s : State) (n : Nat) : Nat :=
  if n ≤ 8 then 0 else if n = 9 then 1 else if n ≤ 13 then 2 else if n ≤ 17 then 3 else if n ≤ 22 then 4
  else if s.get (PAL_Sn_ADV_qsrc 23) = 3 then 4 else 5

/-- The CRC-32C of words, five bytes each, least significant first (R33, R230). -/
def crcWords (ws : List Word) : Nat := crc32c (ws.flatMap bytesOf)

/-- A lineage record is written with its cause (R229, R230). -/
def lineageRecord (s : State) (cause : Nat) : State :=
  let prev := s.get GLZ_LIN_SERIAL_serial
  let serial := (prev + 1) % 2 ^ 20
  let s := s.put GLZ_LIN_SERIAL_serial serial
  let id := lineageId s serial
  let s := s.wr GLZ_LIN (w40 id)
  let s := { s with glz := { s.glz with lins := ((s.now, w40 id) :: s.glz.lins).take 16 } }
  let n := selSlot s
  let g := match n with | none => 15 | some k => slotGroup s k
  let fld := fun (f : Nat → Fld) => match n with | none => 0 | some k => s.get (f k)
  let up := match n with | none => ((0 : Word), (0 : Word)) | some k => tabGet (fun _ => (0, 0)) s.glz.ups k
  let body : List Word :=
    [w40 id, T80hi s.now, T80lo s.now,
     w40 (cause * 2 ^ 36 + g * 2 ^ 32 + fld PAL_Sn_ADV_raw * 2 ^ 24 + fld PAL_Sn_ADV_qsrc * 2 ^ 20
          + s.get UND_STATUS_stage * 2 ^ 16),
     w40 (fld GLZ_Sn_CAL_hops * 2 ^ 32 + fld GLZ_Sn_CAL_cal_id), up.1, up.2,
     w40 (s.get UND_STATUS_learn_h), w40 (prev * 2 ^ 20), w40 Config.uidHi.toNat, w40 Config.uidLo.toNat]
  let at_ := s.get GLZ_LIN_BASE_base + 12 * (serial % 4096)
  let s := (s.setBurst (burstOf at_) false).stN at_ (body ++ [w40 (crcWords body)])
  let s := s.ev GLZ_EVENTS_lin_change
  { s with glz := { s.glz with lastState := s.get PAL_STATE_state, lastRank := fld PAL_Sn_STATUS_eff_rank } }

/-- The lineage identifier that stood on the tick of an instant (R231), as far back as the records on chip go; before
them the oldest (DESIGN CHOICE, log 175). -/
def lineageAt (s : State) (t : T80) : Word :=
  match s.glz.lins.find? (fun e => t80Le e.1 t) with
  | some e => e.2
  | none => match s.glz.lins.getLast? with | some e => e.2 | none => s.rd GLZ_LIN

/-- A cause of a lineage record waits for the Palette tick (R229). -/
def lineageCause (s : State) (c : Nat) : State := { s with glz := { s.glz with causes := c :: s.glz.causes } }

/-- The NTP leap indicator from TB_LEAP (R138). -/
def leapIndicator (s : State) : Nat :=
  if s.on TB_LEAP_leap61 || s.on TB_STATUS_in_leap then 1 else if s.on TB_LEAP_leap59 then 2 else 0

/-- The advertised quality (R235): clockClass, stratum, LI and QL rank. -/
def advertised (s : State) : Nat × Nat × Nat × Nat :=
  let st := s.get PAL_STATE_state
  let li := leapIndicator s
  let hold := (s.get GLZ_ADV_CFG_hold_class, 1, li, s.get GLZ_ADV_CFG_hold_ql)
  if st = 0 ∨ s.get GLZ_STATUS_mode = 4 then (s.get GLZ_ADV_CFG_free_class, 16, 3, 6)
  else if st = 3 then hold
  else if st = 4 then
    let k := s.get GLZ_ADV_CFG_lost_stratum
    (s.get GLZ_ADV_CFG_lost_class, k, if k = 16 then 3 else li, 6)
  else if s.on PAL_STATE_time_traceable then
    (6, 1, li, match selSlot s with | none => 15 | some n => s.get (PAL_Sn_STATUS_eff_rank n))
  else hold

/-- GLZ_ADV follows on every Palette tick (R235). -/
def advUpdate (s : State) : State :=
  let (cls, strat, li, ql) := advertised s
  let worse := decide (s.get GLZ_ADV_clock_class < cls) || decide (s.get GLZ_ADV_stratum < strat)
  let s := (((s.put GLZ_ADV_clock_class cls).put GLZ_ADV_stratum strat).put GLZ_ADV_li li).put GLZ_ADV_ql_rank ql
  if worse then s.ev GLZ_EVENTS_quality_fell else s

/-- The Glaze's part of a Palette tick (R222, R229, R235): publication, the history behind the maxima, the lineage record
with the lowest cause that fell on the tick, and the advertised quality. -/
def glzTick (s : State) : State :=
  let (mode, t) := termsNow s
  let s := publish s mode t
  let s := { s with glz := { s.glz with bHist := (s.get GLZ_B_b :: s.glz.bHist).take 1024 } }
  let s := boundToEmitters s (s.get GLZ_B_b) false
  let s := if s.tb.ns < 1000000 then s.put GLZ_B_MAX_b ((s.glz.bHist.take 1000).foldl Nat.max 0) else s
  let rank := match selSlot s with | none => 0 | some n => s.get (PAL_Sn_STATUS_eff_rank n)
  let causes := s.glz.causes
    ++ (if s.get PAL_STATE_state ≠ s.glz.lastState then [2] else [])
    ++ (if rank ≠ s.glz.lastRank then [3] else [])
  let s := match causes with
    | [] => s
    | c :: cs =>
      let s := lineageRecord s (cs.foldl Nat.min c)
      { s with glz := { s.glz with causes := [] } }
  advUpdate s

/-! ## Register writes of their own -/

/-- The effect of a GLZ_CTL write: run set after a reset is cause START (R229). ntp_ef_en and GLZ_NTP_EF.en mirror each
other (R243; log 149). -/
def glzCtlWrite (w : Word) (s : State) : Out :=
  let was := s.on GLZ_CTL_run
  let s := plainWrite s GLZ_CTL w
  let s := s.putB GLZ_NTP_EF_en (s.on GLZ_CTL_ntp_ef_en)
  .next (if !was && s.on GLZ_CTL_run then lineageCause s 0 else s)

/-- The effect of a GLZ_NTP_EF write (R233; log 149). -/
def ntpEfWrite (w : Word) (s : State) : Out :=
  let s := plainWrite s GLZ_NTP_EF w
  .next (s.putB GLZ_CTL_ntp_ef_en (s.on GLZ_NTP_EF_en))

/-- The effect of a GLZ_EVTk_VAL write (R243): a non-zero term activates the entry, zero deactivates it. -/
def evtWrite (k : Nat) (w : Word) (s : State) : Out :=
  let s := s.wr (GLZ_EVTk_VAL k) w
  .next { s with glz := { s.glz with evtNew := if w = 0 then s.glz.evtNew &&& (255 - 2 ^ k) else s.glz.evtNew ||| 2 ^ k } }

/-- EVENT_ENTRY_WRITE (R243). -/
def execEventEntryWrite (m : Master) (k : Fin 8) (w : Word) (s : State) : Out :=
  writeReg m (GLZ_EVTk_VAL k) w (evtWrite k w) s

/-- An event entry that is active counts down at a whole second (R243). -/
def evtSecond (s : State) : State :=
  (List.range 8).foldl (fun s k =>
    let life := s.get (GLZ_EVTk_LIFE_life k)
    if s.get (GLZ_EVTk_VAL_term k) = 0 ∨ life = 0 ∨ life = 0xFFFFF then s else s.put (GLZ_EVTk_LIFE_life k) (life - 1)) s

/-- EVENT_ENTRY_EXPIRY (R243): an active entry whose life has counted down to 0 deactivates. -/
def execEventEntryExpiry (k : Fin 8) (s : State) : Out :=
  if s.get (GLZ_EVTk_VAL_term k) ≠ 0 ∧ s.get (GLZ_EVTk_LIFE_life k) = 0 then evtWrite k 0 s else .next s

/-- The effect of a GLZ_Sn_UP_LO write (R243): it commits the identity; a change for the selected slot is a cause (R229). -/
def upLoWrite (n : Nat) (w : Word) (s : State) : Out :=
  let s := s.wr (GLZ_Sn_UP_LO n) w
  let id := (s.rd (GLZ_Sn_UP_HI n), w)
  let changed := decide (tabGet (fun _ => ((0 : Word), (0 : Word))) s.glz.ups n ≠ id)
  let s := { s with glz := { s.glz with ups := tabSet (fun _ => (0, 0)) s.glz.ups n id } }
  .next (if changed ∧ selSlot s = some n then lineageCause s 5 else s)

/-- UPSTREAM_ID_COMMIT (R243). -/
def execUpstreamIdCommit (m : Master) (n : Fin 24) (w : Word) (s : State) : Out :=
  writeReg m (GLZ_Sn_UP_LO n) w (upLoWrite n w) s

/-- The effect of a GLZ_Sn_CAL write: a changed value of the selected slot is a lineage cause (R229). -/
def calWrite (n : Nat) (w : Word) (s : State) : Out :=
  let changed := decide (s.rd (GLZ_Sn_CAL n) ≠ w)
  let s := s.wr (GLZ_Sn_CAL n) w
  .next (if changed ∧ selSlot s = some n then lineageCause s 4 else s)

end Sys2Proof.Machine
end

