-- ==== Sys2Proof/Machine/Tdc.lean ====
section
/-! DEFINITION. The time-interval measurement channels and the REFIN units that feed some of them (R170, R171, R271 to
R292). -/

namespace Sys2Proof.Machine

/-- A channel. -/
def State.chan (s : State) (n : Nat) : TdcSt := tabGet (fun _ => TdcSt.reset) s.tdc n

/-- The state with a channel replaced; TDCn_STATUS shows its queue and its open edges. -/
def State.setChan (s : State) (n : Nat) (c : TdcSt) : State :=
  let s := { s with tdc := tabSet (fun _ => TdcSt.reset) s.tdc n c }
  (s.put (TDCn_STATUS_qlevel n) c.queue.length).put (TDCn_STATUS_open n) c.opens.length

/-- The Palette slot a channel's timestamps feed (R271). -/
def tdcSlot (n : Nat) : Option Nat := if n = 0 then some 8 else if 2 ≤ n ∧ n ≤ 9 then some (n - 2) else none

/-- A privileged channel: TDC0 and TDC1 (R271). -/
def tdcPrivileged (n : Nat) : Bool := decide (n ≤ 1)

/-- Whether a polarity selection (0 rise, 1 fall, 2 both) takes an edge. -/
def edgeSelected (sel : Nat) (rise : Bool) : Bool := decide (sel = 2) || decide (sel = if rise then 0 else 1)

/-- A sample reaches a Palette slot (R168, R169), in 1/1024 ns. -/
def palSample (s : State) (n : Nat) (x : Int) : State :=
  let p := s.slot n
  s.setSlot n { p with pend := p.pend ++ [x], lastAt := some s.steady }

/-! ## REFIN -/

/-- One REFIN divider. -/
def State.refin (s : State) (n : Nat) : RefIn := tabGet (fun _ => RefIn.reset) s.pal.refin n

/-- The state with a divider replaced. -/
def State.setRefin (s : State) (n : Nat) (r : RefIn) : State :=
  { s with pal := { s.pal with refin := tabSet (fun _ => RefIn.reset) s.pal.refin n r } }

/-- The nominal divided period in 1/1024 ns, as a numerator over nom_hz (R170). -/
def refinPeriodNum (s : State) (n : Nat) : Nat := s.get (REFINn_CFG_div n) * unitsPerSec

/-- A divided edge of REFINn (R171): its count, los and coarse; los clears with the second of two consecutive edges whose spacing is
good. -/
def refinDivided (s : State) (n : Nat) : State :=
  let r := s.refin n
  let hz := max 1 (s.get (REFINn_NOM_nom_hz n))
  let near : Bool := match r.last with
    | none => false
    | some t =>
      let d := (t80Diff s.steady t) * hz - (refinPeriodNum s n : Int)
      decide (d * 1000 ≤ (refinPeriodNum s n : Int)) && decide (-(refinPeriodNum s n : Int) ≤ d * 1000)
  let s := s.inc (REFINn_COUNT_count n)
  let s := match r.last with | none => s | some _ => s.putB (REFINn_STATUS_coarse n) (!near)
  let good := if near then r.good + 1 else 0
  let s := if good ≥ 1 then s.putB (REFINn_STATUS_los n) false else s
  let s := s.putB (REFINn_STATUS_active n) true
  s.setRefin n { raw := 0, last := some s.steady, good := good }

/-- A raw edge at REFn: whether it is a divided edge that goes on to the channel, and the divider after it (R170). -/
def refinEdge (s : State) (n : Nat) (rise : Bool) : Bool × State :=
  if s.on (REFINn_CFG_en n) && edgeSelected (s.get (REFINn_CFG_edge n)) rise then
    let r := s.refin n
    if r.raw + 1 ≥ s.get (REFINn_CFG_div n) then (true, refinDivided s n)
    else (false, s.setRefin n { r with raw := r.raw + 1 })
  else (false, s)

/-- REFIN_LOS (R171): no divided edge within 1.5 nominal divided periods of the previous one. -/
def execRefinLos (n : Fin 8) (s : State) : Out :=
  match s.on (REFINn_CFG_en n), (s.refin n).last with
  | true, some t =>
    if 2 * (t80Diff s.steady t) * (max 1 (s.get (REFINn_NOM_nom_hz n)) : Nat) > 3 * (refinPeriodNum s n : Int)
        ∧ !s.on (REFINn_STATUS_los n) then
      let s := s.putB (REFINn_STATUS_los n) true
      let s := s.ev (REFINn_STATUS_los_event n)
      let s := s.putB (REFINn_STATUS_active n) false
      .next (s.setRefin n { (s.refin n) with good := 0 })
    else .next s
  | _, _ => .next s

/-- The effect of a write of REFINn_CFG or REFINn_NOM (R197): nom_hz = 0 with en = 1 is reserved, and STATUS.active reads 0 where en
is 0. -/
def refinWrite (n a : Nat) (w : Word) (s : State) : Out :=
  let s := plainWrite s a w
  if s.on (REFINn_CFG_en n) then
    (if s.get (REFINn_NOM_nom_hz n) = 0 then .fault .reservedValue else .next s)
  else .next ((s.putB (REFINn_STATUS_active n) false).setRefin n { s.refin n with good := 0 })

/-- TDC1 divides ATOM_IN by 10 or by 5 and stamps every divided rising edge (R271): whether this edge is one. -/
def atomEdge (s : State) (rise : Bool) : Bool × State :=
  let c := s.chan 1
  if !rise then (false, s)
  else if c.raw + 1 ≥ (if bitAt (s.rd (TDCn_IN 1)) 0 then 10 else 5) then (true, s.setChan 1 { c with raw := 0 })
  else (false, s.setChan 1 { c with raw := c.raw + 1 })

/-! ## Records -/

/-- A result of a channel is completed (R282, R284): it joins the queue, or is dropped when the queue is full. -/
def tdcRecord (s : State) (n : Nat) (value : Word) (kind : Nat) (uncal flag : Bool) (partner ext : Nat) : State :=
  if !s.on (TDCn_CFG_route_fifo n) then s
  else
    let c := s.chan n
    if c.queue.length ≥ 32 then
      let s := s.setChan n { c with ovf := true }
      (s.inc (TDCn_CNT_DROPPED_count n)).ev (TDCn_EVENTS_dropped n)
    else
      let w1 := w40 (n * 2 ^ 36 + kind * 2 ^ 34 + b2n uncal * 2 ^ 32 + b2n c.swap * 2 ^ 31 + b2n flag * 2 ^ 30
        + partner * 2 ^ 26 + ext % 2 ^ 26)
      let s := s.setChan n { c with queue := c.queue ++ [[value, w1]], swap := false }
      s.inc (TDCn_CNT_RECORDS_count n)

/-- An interval between two edges (R279): the P40 of the difference rounded to 1/1024 ns, and whether they coincide. -/
def tdcInterval (s : State) (n : Nat) (a b : TdcEdge) (partner : Nat) : State :=
  let later := if a.x ≤ b.x then b.sec else a.sec
  let d := b.x - a.x
  let coincide := decide (-16 < d) && decide (d < 16)
  let (v, s) := if coincide then ((0 : Int), s) else roundQ s d 16
  tdcRecord s n (i40 v) 1 (a.uncal || b.uncal) coincide partner later

/-- An open edge ends unpaired (R277, R278): a start is counted UNMATCHED, a stop ORPHAN. -/
def tdcUnpaired (s : State) (n : Nat) (e : TdcEdge) : State :=
  if e.start then (s.inc (TDCn_CNT_UNMATCHED_count n)).ev (TDCn_EVENTS_unmatched n)
  else (s.inc (TDCn_CNT_ORPHAN_count n)).ev (TDCn_EVENTS_orphan n)

/-- An edge is held open; a fifth closes the oldest at once (R278). -/
def tdcOpen (s : State) (n : Nat) (e : TdcEdge) : State :=
  let c := s.chan n
  match c.opens with
  | o :: rest =>
    if c.opens.length ≥ 4 then tdcUnpaired (s.setChan n { c with opens := rest ++ [e] }) n o
    else s.setChan n { c with opens := c.opens ++ [e] }
  | [] => s.setChan n { c with opens := [e] }

/-- The first open edge that satisfies a test, and the others. -/
def takeFirst (p : TdcEdge → Bool) : List TdcEdge → Option TdcEdge × List TdcEdge
  | [] => (none, [])
  | e :: es => if p e then (some e, es) else let (r, t) := takeFirst p es; (r, e :: t)

/-- The pairing window of a channel in 1/16 of 1/1024 ns. -/
def pairWindow (s : State) (n : Nat) : Int := (s.get (TDCn_PAIR_window n) * 16384 : Nat)

/-- An edge in PAIRED mode (R278). -/
def tdcPaired (s : State) (n : Nat) (e : TdcEdge) : State :=
  let c := s.chan n
  let either := s.on (TDCn_CFG_either n)
  let within := fun (o : TdcEdge) => decide (o.start ≠ e.start) && decide (e.x - o.x ≤ pairWindow s n)
  let (hit, rest) := if e.start && !either then (none, c.opens) else takeFirst within c.opens
  let partner := s.get (TDCn_PAIR_partner n)
  match hit with
  | some o =>
    let s := s.setChan n { c with opens := rest }
    if e.start then tdcInterval s n e o partner else tdcInterval s n o e partner
  | none => if e.start || either then tdcOpen s n e else tdcUnpaired s n e

/-- An instant that every edge still to come at channel `n` is stamped at or after, in 1/16 of 1/1024 ns: one tick before now, moved by
the channel's trims as its stamps are (R272). -/
def stampFloor (s : State) (n : Nat) : Int :=
  16 * ((t80Units s.now : Int) - 1024 - s.getI (TDCn_SKEW_skew n) + s.getI (TDCn_OFS_ofs n))

/-- An accepted edge in INTERVAL mode (R277). -/
def tdcIntervalEdge (s : State) (n : Nat) (rise : Bool) (e : TdcEdge) : State :=
  let c := s.chan n
  if edgeSelected (s.get (TDCn_CFG_start_edge n)) rise then
    match c.opens with
    | o :: _ => tdcUnpaired (s.setChan n { c with opens := [{ e with start := true }] }) n { o with start := true }
    | [] => s.setChan n { c with opens := [{ e with start := true }] }
  else
    match c.opens with
    | o :: _ => tdcInterval (s.setChan n { c with opens := [] }) n o e 0
    | [] => tdcUnpaired s n { e with start := false }

/-- The length of a FREQ gate in 1/1024 ns. -/
def gateLen (s : State) (n : Nat) : Int := ((s.get (TDCn_GATE_gate_ms n) * 1024000000 : Nat) : Int)

/-- The gate that ends at `g` gives its record, and the next one is that which ends `k` lengths later; gates passed over in between
give none (R281; log 159). -/
def freqClose (s : State) (n : Nat) (g : T80) (k : Nat) : State :=
  let c := s.chan n
  let (span, s) := match c.gateFirst with
    | none => ((0 : Int), s)
    | some f => if c.gateCount < 2 then (0, s) else roundQ s (c.gateLast - f) 16
  let s := s.setChan n { c with gateEnd := some (t80Add g (gateLen s n * k)), gateCount := 0, gateFirst := none, gateUncal := false }
  tdcRecord s n (i40 span) 2 c.gateUncal false 0 (min c.gateCount 0x3FFFFFF)

/-- An accepted edge in FREQ mode (R281): counted in the gate that its timestamp `t` falls in, the gates before it having ended. -/
def tdcFreqEdge (s : State) (n : Nat) (t : Int) (e : TdcEdge) : State :=
  match (s.chan n).gateEnd with
  | none => s
  | some g =>
    let past := t - 16 * (t80Units g : Int)
    let s := if 0 ≤ past then freqClose s n g (past / (16 * max 1 (gateLen s n)) + 1).toNat else s
    if past < -(16 * gateLen s n) then s
    else
      let c := s.chan n
      s.setChan n { c with gateCount := c.gateCount + 1, gateLast := e.x,
                           gateFirst := (match c.gateFirst with | none => some e.x | some f => some f),
                           gateUncal := c.gateUncal || e.uncal }

/-- An accepted edge of channel `n` opens a start at every other channel that names it as its partner (R276, R278). -/
def tdcPartnerStarts (s : State) (n : Nat) (rise : Bool) (e : TdcEdge) : State :=
  (List.range 16).foldl (fun s m =>
    if m ≠ n ∧ s.on (TDCn_CFG_en m) ∧ s.get (TDCn_CFG_mode m) = 2 ∧ s.get (TDCn_PAIR_partner m) = n
        ∧ edgeSelected (s.get (TDCn_CFG_start_edge m)) rise then
      tdcPaired s m { e with start := true, close := e.x + pairWindow s m }
    else s) s

/-- fine(c) of a raw code in 1/16 of 1/1024 ns (R286, R287), of a privileged channel from the table of its line, be its calibration
still valid or not (R288); of a line that has no table the spec states none (log 1). -/
def tdcFine (s : State) (n code : Nat) : Int × State :=
  if tdcPrivileged n then
    let c := s.chan n
    let table := if s.on (TDCn_STATUS_line n) then c.lineB else c.lineA
    if !table.isEmpty then (((tabGet (fun _ => 0) table code : Nat) : Int), s)
    else
      let (x, s) := s.freeBelow 32768
      ((x : Int), s)
  else
    let e0 := s.getI (TDCn_INL_corr n (code / 16))
    let e1 := s.getI (TDCn_INL_corr n ((code / 16 + 1) % 64))
    let (corr, s) := freeQ s (e0 * 16 + (e1 - e0) * ((code % 16 : Nat) : Int)) 16
    (16 * (code : Int) + corr, s)

/-- The timestamp of an edge that reaches its first timebase tick now, in 1/16 of 1/1024 ns (R272). -/
def tdcStamp (s : State) (n code : Nat) : Int × State :=
  let (f, s) := tdcFine s n code
  let (p, s) := freeQ s (f * (s.tb.emit : Int)) (2 ^ 48)
  let (j, s) := stampShift s 2
  (16 * (t80Units s.now : Int) - p - 16 * s.getI (TDCn_SKEW_skew n) + 16 * s.getI (TDCn_OFS_ofs n) + 16 * j, s)

/-- The value congruent to `x` modulo `p` that lies nearest to 0. -/
def nearZero (x p : Int) : Int := let r := x % p; if 2 * r > p then r - p else r

/-- The phase of a slot's edge against the nearest whole second (PHASE) or, for a FREQ slot, against the nearest multiple of
the divided period counted from the epoch, then unwrapped from the slot's filtered phase (R167, R168). The divided period is a fraction
where nom_hz does not divide it. -/
def tdcPhase (s : State) (n slot : Nat) (t : Int) : Int :=
  if s.get (PAL_Sn_CFG_kind slot) = 0 then
    let ph := s.getI (PAL_Sn_PHASE_phase slot)
    if n = 0 ∨ 9 < n then ph + nearZero (t - ph) unitsPerSec
    else
      let num : Int := max 1 (refinPeriodNum s (n - 2) : Nat)
      let hz : Int := max 1 (s.get (REFINn_NOM_nom_hz (n - 2)) : Nat)
      let k := (2 * (t - ph) * hz + num) / (2 * num)
      t - (2 * k * num + hz) / (2 * hz)
  else nearZero t unitsPerSec

/-- ATOM_IN's accumulated phase against the timebase after a stamp of TDC1 (R198, R271): its nominal divided period is 1 µs. OSC_IN's phase
against ATOM_IN is that with all that steering and slews have taken from the ticks given back. -/
def atomPhase (s : State) (r : Int) : State :=
  let c := s.chan 1
  let x := r - s.tb.steps
  let p : Int := (nsU 1000 : Nat)
  let y := match c.phase with | none => nearZero x p | some y => y + nearZero (x - y) p
  let taken := ((s.tb.raw * 1024 : Nat) : Int) - (t80Units s.now - s.tb.steps)
  { s.setChan 1 { c with phase := some y } with und := { s.und with osc := some (y + taken) } }

/-- A PPS of slot 8 ties ATOM_IN's accumulated phase to the slot's (R166; log 165). -/
def atomAnchor (s : State) (x : Int) : State :=
  match (s.chan 1).phase with
  | none => s
  | some y => { s with pal := { s.pal with anchor := some (x + s.tb.steps - y) } }

/-- On each Palette tick slot 8 has a sample from ATOM_IN, whose edges TDC1 stamps (R166): the phase that the last PPS gave it, moved by
what ATOM_IN's has changed since (log 165). A FREQ slot needs no PPS for it. -/
def oscSample (s : State) : State :=
  match s.und.lastSample, (s.chan 1).phase with
  | some _, some y =>
    if s.get (PAL_Sn_CFG_kind 8) = 0 then palSample s 8 (y + s.pal.anchor.getD 0 - s.tb.steps)
    else match s.pal.anchor with
      | none => s
      | some a => s.setSlot 8 { s.slot 8 with pend := (s.slot 8).pend ++ [nearZero (y + a - s.tb.steps) unitsPerSec] }
  | _, _ => s

/-- A sample of slot 23 on the standby, with the slot's terms (R443, R289). -/
def standbySample (s : State) (x : Int) : State :=
  if houseReplaced s 10 then s
  else palSample ((s.wr (GLZ_Sn_MEAS 23) 21).wr (GLZ_Sn_ASYM 23) (s.rd TW_PATH_UNC)) 23 x

/-- The PPS net and the 10 MHz net of a pair (R443, R444, R456): TDC14 gives TW_ALIGN and, on the standby, slot 23's
sample; TDC15 refines it, the PPS resolving the 100 ns ambiguity. `r` is the edge's stamp in 1/1024 ns. -/
def twAlign (s : State) (n : Nat) (rise : Bool) (r : Int) : State :=
  if !s.on TW_CFG_en ∨ !rise then s
  else if n = 14 then
    let x := nearZero r unitsPerSec
    let ok := decide (x.natAbs * 1000 ≤ 50 * 1024)
    let s := (s.wr TW_ALIGN (sat40 x).1).putB TW_STATUS_aligned ok
    let s := { s with tw := { s.tw with alignRun := if ok then min 10 (s.tw.alignRun + 1) else 0 } }
    if twStandby s then standbySample s x else s
  else if n = 15 ∧ twStandby s then
    let p : Int := (nsU 100 : Nat)
    let base := sgn (s.rd TW_ALIGN)
    let d := (r - base) % p
    standbySample s (base + (if 2 * d > p then d - p else d))
  else s

/-- An accepted edge (R275, R276): the last stamp, the Palette route, the partners' starts and the channel's own mode. -/
def tdcAccept (s : State) (n : Nat) (rise : Bool) (t : Int) (e : TdcEdge) : State :=
  let (r, s) := roundQ s t 16
  let stamp := t80OfUnits r.toNat
  let s := s.putT (TDCn_LAST_HI n) (TDCn_LAST_LO n) stamp
  let selected := if 1 ≤ n ∧ n ≤ 9 then true else edgeSelected (s.get (TDCn_CFG_edge n)) rise
  let s := if s.on (TDCn_CFG_route_pal n) && selected then
      match tdcSlot n with
      | some k =>
        let x := tdcPhase s n k r
        let s := palSample s k x
        let s := s.setSlot k { s.slot k with portFault := e.uncal }
        if n = 0 then atomAnchor s x else s
      | none =>
        if n = 1 then
          let s := (atomPhase s r).setSlot 8 { s.slot 8 with oscFault := e.uncal }
          { s with und := { s.und with lastSample := some stamp } }
        else s
    else s
  let s := twAlign s n rise r
  let s := tdcPartnerStarts s n rise e
  let mode := s.get (TDCn_CFG_mode n)
  if mode = 1 then tdcIntervalEdge s n rise e
  else if !selected then s
  else if mode = 0 then tdcRecord s n (T80lo stamp) 0 e.uncal (!rise) 0 stamp.sec
  else if mode = 2 then tdcPaired s n { e with start := false }
  else tdcFreqEdge s n t e

/-- Dead time and hold-off (R275): 0 accepted, 1 missed, 2 held. -/
def tdcWindow (s : State) (n : Nat) (rise : Bool) (x : Int) : Nat :=
  let c := s.chan n
  let since := fun (o : Option Int) (w : Int) => match o with | none => false | some y => decide (x - y < w)
  let hold := s.get (TDCn_HOLDOFF_holdoff n)
  if since (if rise then c.lastRise else c.lastFall) ((hold * 16384 : Nat) : Int) then 2
  else if since c.lastRise 52429 ∨ since c.lastFall 52429 then 1
  else 0

/-- TDC_EDGE (R272): an edge at the channel's input reaches its first timebase tick with raw code `code`. On TDC2 to TDC9
it is the edge at the REFIN input; on TDC1 it is one of ATOM_IN. -/
def execTdcEdge (n : Fin 16) (rise : Bool) (code : BitVec 11) (s : State) : Out :=
  let s := s.putB (TDCn_STATUS_input n) rise
  let (pass, s) := if 2 ≤ n.val ∧ n.val ≤ 9 then refinEdge s (n.val - 2) rise else if n.val = 1 then atomEdge s rise else (true, s)
  if !pass || !s.on (TDCn_CFG_en n) then .next s
  else
    let (t, s) := tdcStamp s n code.toNat
    let x := t - 16 * s.tb.steps
    match tdcWindow s n rise x with
    | 2 => .next (s.inc (TDCn_CNT_HELD_count n))
    | 1 => .next ((s.inc (TDCn_CNT_MISSED_count n)).ev (TDCn_EVENTS_missed n))
    | _ =>
      let c := s.chan n
      let s := s.setChan n (if rise then { c with lastRise := some x } else { c with lastFall := some x })
      let e : TdcEdge := { x := x, start := false, uncal := !s.on (TDCn_STATUS_cal_valid n), sec := (t80OfUnits ((t + 8) / 16).toNat).sec,
                           close := x + pairWindow s n }
      .next (tdcAccept s n rise t e)

/-- Whether an open edge's window has closed (R278): no edge still to come, a stop at the channel or a start at its partner, can lie
within it. -/
def pairGone (s : State) (n : Nat) (e : TdcEdge) : Bool :=
  decide (e.close < stampFloor s (if e.start then n else s.get (TDCn_PAIR_partner n)) - 16 * s.tb.steps)

/-- PAIR_WINDOW_CLOSE (R278): every open pairing edge whose window has closed is counted. -/
def execPairWindowClose (n : Fin 16) (s : State) : Out :=
  if s.get (TDCn_CFG_mode n) = 2 then
    let c := s.chan n
    let gone := c.opens.filter (pairGone s n)
    let s := s.setChan n { c with opens := c.opens.filter (fun e => !pairGone s n e) }
    .next (gone.foldl (fun s e => tdcUnpaired s n e) s)
  else .next s

/-- FREQ_GATE_END (R281): the record of the gate that ends, no edge in it being still to come, and the next gate back to back. -/
def execFreqGateEnd (n : Fin 16) (s : State) : Out :=
  match (s.chan n).gateEnd with
  | some g =>
    if s.on (TDCn_CFG_en n) ∧ s.get (TDCn_CFG_mode n) = 3 ∧ 16 * (t80Units g : Int) ≤ stampFloor s n then .next (freqClose s n g 1)
    else .next s
  | none => .next s

/-- The head record of a channel's queue as it is delivered (R282, R284). -/
def drainWords (c : TdcSt) : List Word :=
  let r := c.queue.headD []
  [r.getD 0 0, (r.getD 1 0) ||| w40 (b2n c.ovf * 2 ^ 33)]

/-- The FIFO after a channel's head record has been pushed to it, none where a full one holds the drain (R284); a disabled FIFO ignores
the record (R502). -/
def drainPush (s : State) (n : Nat) : Option State :=
  let q := s.get (TDCn_CFG_fifo n)
  if !(s.fifo q).en then some s else fifoPacket s q 23 (drainWords (s.chan n))

/-- Whether channel `n` is the next of the round (R284): the first after the one drained last with a record that nothing holds. -/
def drainTurn (s : State) (n : Nat) : Bool :=
  ((List.range 16).map (fun i => (s.tdcTurn + 1 + i) % 16)).find? (fun c => !(s.chan c).queue.isEmpty && (drainPush s c).isSome) = some n

/-- TDC_RECORD_DRAIN (R284): the TDC DMA, whose round has come to the channel, pushes its head record to its FIFO as one two-word
packet. -/
def execTdcRecordDrain (n : Fin 16) (s : State) : Out :=
  if drainTurn s n then
    let c := s.chan n
    match drainPush s n with
    | some s => .next ({ s with tdcTurn := n.val }.setChan n { c with queue := c.queue.drop 1, ovf := false })
    | none => .next s
  else .next s

/-! ## Calibration -/

/-- The calibration of a channel is valid or not (R288). -/
def tdcCalValid (s : State) (n : Nat) (ok : Bool) : State :=
  let was := s.on (TDCn_STATUS_cal_valid n)
  let s := s.putB (TDCn_STATUS_cal_valid n) ok
  if was && !ok then raiseSrc (s.ev (TDCn_EVENTS_cal_lost n)) (62 + n) none
  else if !was && ok then s.ev (TDCn_EVENTS_cal_done n)
  else s

/-- Whether a calibration is due (R287): none has completed since reset or the last one is period_s old (log 166), or the die
temperature has moved by temp_dk since it. -/
def calDue (s : State) (n : Nat) : Bool :=
  let c := s.chan n
  let per := s.get (TDCn_CAL_period_s n)
  let moved := s.get (TDCn_CAL_temp_dk n)
  (decide (per ≠ 0) && (match c.calAt with | none => true | some t => s.passed t (per * 1000000000)))
    || (decide (moved ≠ 0) && c.calAt.isSome && decide (moved * 100 ≤ (s.und.sensor - c.calTemp).natAbs))

/-- CAL_START (R287): a calibration of the idle line starts on its period or on a temperature change. -/
def execCalStart (n : Fin 2) (s : State) : Out :=
  if s.on (TDCn_CFG_en n) ∧ !s.on (TDCn_STATUS_calibrating n) ∧ calDue s n then
    .next (s.putB (TDCn_STATUS_calibrating n) true)
  else .next s

/-- CAL_NOW (R287): a write of TDCn_CAL with cal_now starts or restarts a calibration. -/
def calNowWrite (n : Nat) (w : Word) (s : State) : Out :=
  let s := plainWrite s (TDCn_CAL n) w
  .next (if bitAt w 0 then s.putB (TDCn_STATUS_calibrating n) true else s)

def execCalNow (m : Master) (n : Fin 2) (w : Word) (s : State) : Out :=
  writeReg m (TDCn_CAL n) w (calNowWrite n w) s

/-- Whether a privileged channel is past the dead time of its last edges, so that its lines may swap (R275, R287). -/
def swapFree (s : State) (n : Nat) : Bool :=
  let c := s.chan n
  let now := 16 * ((t80Units s.now : Int) - s.tb.steps)
  let clear := fun (o : Option Int) => match o with | none => true | some y => decide (52429 ≤ now - y)
  clear c.lastRise && clear c.lastFall

/-- CAL_LINE_SWAP (R287): the calibration ends with the N hits of the line's 1,280 bins, the table of the line follows from them, and the
lines swap on a tick on which neither is within its dead time. A table entry is kept to 1/16, rounded to the nearest as the spec's example is. -/
def execCalLineSwap (n : Fin 2) (hits : List Nat) (s : State) : Out :=
  if s.on (TDCn_STATUS_calibrating n) ∧ hits.length ≤ 1280 ∧ hits.sum = 2 ^ (20 + 2 * s.get (TDCn_CAL_hits n)) ∧ swapFree s n then
    let c := s.chan n
    let total : Nat := 2 ^ (20 + 2 * s.get (TDCn_CAL_hits n))
    let entry := fun (k below h : Nat) => (k, ((2 * below + h) * 16384 + total) / (2 * total))
    let table := (hits.foldl (fun (acc : Tab Nat × Nat × Nat) h =>
      (acc.1 ++ [entry acc.2.1 acc.2.2 h], acc.2.1 + 1, acc.2.2 + h)) ([], 0, 0)).1.filter (fun e => e.2 ≠ 0)
    let b := s.on (TDCn_STATUS_line n)
    let c := if b then { c with lineA := table } else { c with lineB := table }
    let s := s.setChan n { c with swap := true, calAt := some s.steady, calTemp := s.und.sensor }
    let s := s.putB (TDCn_STATUS_line n) (!b)
    let s := s.putB (TDCn_STATUS_calibrating n) false
    .next (if s.on (TDCn_STATUS_cal_valid n) then s.ev (TDCn_EVENTS_cal_done n) else tdcCalValid s n true)
  else .next s

/-- CAL_EXPIRED (R288): a calibration older than four periods is no longer valid. -/
def execCalExpired (n : Fin 2) (s : State) : Out :=
  match (s.chan n).calAt with
  | some t =>
    if s.on (TDCn_STATUS_cal_valid n) ∧ s.get (TDCn_CAL_period_s n) ≠ 0
        ∧ t80Diff s.steady t > ((4 * s.get (TDCn_CAL_period_s n) * unitsPerSec : Nat) : Int) then
      .next (tdcCalValid s n false)
    else .next s
  | none => .next s

/-- DLL_LOCK (R286): the delay loop of a DLL channel locks. -/
def execDllLock (n : Fin 16) (s : State) : Out :=
  if 2 ≤ n.val ∧ s.on (TDCn_CFG_en n) ∧ !s.on (TDCn_STATUS_dll_lock n) then
    .next (tdcCalValid (s.putB (TDCn_STATUS_dll_lock n) true) n true)
  else .next s

/-- TDC_DLL_UNLOCK (R288): the delay loop of a DLL channel loses lock. -/
def execTdcDllUnlock (n : Fin 16) (s : State) : Out :=
  if 2 ≤ n.val ∧ s.on (TDCn_STATUS_dll_lock n) then
    .next (tdcCalValid (s.putB (TDCn_STATUS_dll_lock n) false) n false)
  else .next s

/-! ## Configuration -/

/-- Values of TDCn_CFG that R292 calls reserved for the channel. -/
def tdcCfgReserved (n : Nat) (w : Word) : Bool :=
  let mode := fieldOf w 12 11
  let st := fieldOf w 14 13
  decide (fieldOf w 16 15 = 3) || decide (st = 3) || (decide (mode = 1) && decide (st = 2))
    || (decide (1 ≤ n) && decide (n ≤ 9) && decide (mode ≠ 0)) || (decide (10 ≤ n) && bitAt w 18)

/-- The effect of a write of a configuration register (R290). -/
def tdcCfgWrite (n off : Nat) (w : Word) (s : State) : Out :=
  let a := (0x040 + n) * 256 + off
  let en := s.on (TDCn_CFG_en n)
  let ignored := fun (s : State) => s.ev (TDCn_EVENTS_cfg_ignored n)
  if off = 0 then
    if tdcCfgReserved n w then .fault .reservedValue
    else
      let old := s.rd a
      let s := if en ∧ w.toNat / 2 ≠ old.toNat / 2 then ignored s else s
      let s := if en then s.putB (TDCn_CFG_en n) (bitAt w 0) else plainWrite s a w
      let s := s.putB (TDCn_STATUS_active n) (bitAt w 0)
      if en && !bitAt w 0 then
        .next (s.setChan n { s.chan n with opens := [], gateEnd := none, gateCount := 0, gateFirst := none,
                                           gateUncal := false, lastRise := none, lastFall := none })
      else if !en && bitAt w 0 then
        let s := if tdcPrivileged n then s.putB (TDCn_STATUS_dll_lock n) true else s
        if s.get (TDCn_CFG_mode n) = 3 then
          let ms := (t80Units s.now + 1024000000 - 1) / 1024000000 + s.get (TDCn_GATE_gate_ms n)
          .next (s.setChan n { s.chan n with gateEnd := some (t80OfUnits (ms * 1024000000)) })
        else .next s
      else .next s
  else if en then .next (ignored s)
  else .next (plainWrite s a w)

/-- TDC_CFG_WRITE (R290): a write of one of the configuration registers, named by its offset. -/
def execTdcCfgWrite (m : Master) (n : Fin 16) (off : Fin 7) (w : Word) (s : State) : Out :=
  if off.val = 5 then writeReg m ((0x040 + n) * 256 + 5) w (fun s => .next s) s
  else writeReg m ((0x040 + n) * 256 + off) w (tdcCfgWrite n off w) s

/-- TDCn_CDT_DATA: fine of the code at TDCn_CDT_IDX on the line in use, in 1/16 LSB (R292). -/
def tdcTable (s : State) (n : Nat) : Word :=
  let c := s.chan n
  w40 (tabGet (fun _ => 0) (if s.on (TDCn_STATUS_line n) then c.lineB else c.lineA) (s.get (TDCn_CDT_IDX_idx n)))

end Sys2Proof.Machine
end

