-- ==== Sys2Proof/Machine/Und.lean ====
section
/-! DEFINITION. The Underpainting: the steering sum, the servo loop, the model and its learning, holdover and the growth
term (R198 to R218). -/

namespace Sys2Proof.Machine

/-! ## Square roots -/

/-- Bitwise search of the integer square root. -/
def isqrtGo : Nat → Nat → Nat → Nat
  | 0, r, _ => r
  | k + 1, r, x => isqrtGo k (if (r + 2 ^ k) * (r + 2 ^ k) ≤ x then r + 2 ^ k else r) x

/-- The integer square root, rounded down. -/
def isqrt (x : Nat) : Nat := isqrtGo (Nat.log2 x / 2 + 1) 0 x

/-- The integer square root, rounded up. -/
def isqrtUp (x : Nat) : Nat := let r := isqrt x; if r * r = x then r else r + 1

/-- Ceiling of a quotient. -/
def ceilDiv (x d : Nat) : Nat := (x + d - 1) / d

/-! ## The steering sum -/

/-- One F40 unit in the units of L and I (2^-40 F40). -/
abbrev loopUnit : Nat := 2 ^ 40

/-- The instant at which M is evaluated: the middle of the millisecond that the last Palette tick began (R198). -/
def midMs (s : State) : T80 :=
  let ms := t80Units s.now / 1024000000
  t80OfUnits (ms * 1024000000 + 512000000)

/-- UND_M_T0, or the open instant that a pair which is no normalized T80 stands for (R5). -/
def modelT0 (s : State) : T80 :=
  let t := s.getT UND_M_T0_HI UND_M_T0_LO
  if t80Normal t then t else t80OfUnits (Config.oddTime (s.rd UND_M_T0_HI ++ s.rd UND_M_T0_LO))

/-- T - T_ref in mK (R198). -/
def tempDiff (s : State) : Int := s.getI UND_TEMP_temp - s.getI UND_M_TREF_tref

/-- The denominator of M. -/
abbrev modelDen : Nat := 86400 * unitsPerSec * 1000

/-- M as a numerator over `modelDen` F40 units (R198, R208, R210): drift and tc serve from stage TRAINED on; tc while the
temperature is valid and its term enabled. -/
def modelNum (s : State) : Int :=
  let full := decide (2 ≤ s.get UND_STATUS_stage)
  let dt := t80Diff (midMs s) (modelT0 s)
  let y0 : Int := s.getI UND_M_Y0_val * (modelDen : Nat)
  let dr : Int := if full then s.getI UND_M_DRIFT_val * dt * 1000 else 0
  let tc : Int := if full ∧ s.on UND_CTL_temp_en ∧ s.on UND_STATUS_temp_valid then
      s.getI UND_M_TC_val * tempDiff s * ((86400 * unitsPerSec : Nat) : Int) else 0
  y0 + dr + tc

/-- What a learning sample is the mean of, TB_STEER - F and the temperature in use, once more (R206). -/
def learnTick (s : State) : State :=
  { s with und := { s.und with lrnSum := s.und.lrnSum + (s.getI TB_STEER_steer - s.getI UND_FLY_val),
                               lrnTemp := s.und.lrnTemp + s.getI UND_TEMP_temp, lrnN := s.und.lrnN + 1 } }

/-- TB_STEER := F + M + L, rounded to the nearest F40 unit, or the range limit with steer_sat (R198, R199). -/
def steerNow (s : State) : State :=
  if !s.on UND_CTL_run then s
  else
    let num := (s.getI UND_FLY_val * (modelDen : Nat) + modelNum s) * (loopUnit : Nat) + s.und.l * (modelDen : Nat)
    let (x, s) := roundQ s num (modelDen * loopUnit)
    let (w, sat) := sat40 x
    let was := s.on UND_STATUS_steer_sat
    let s := s.putB UND_STATUS_steer_sat sat
    let s := if sat && !was then raiseSrc (s.ev UND_EVENTS_steer_sat) 102 none else s
    let (m, s) := roundQ s (modelNum s) modelDen
    let (l, s) := roundQ s s.und.l loopUnit
    let s := ((s.wr UND_MODEL_Y (sat40 m).1).wr UND_LOOP_Y (sat40 l).1).wr UND_STEER w
    learnTick (s.wr TB_STEER w)

/-! ## Holdover -/

/-- The uncertainty registers in force (R208): learned ones from stage TRAINED on unless use_spec is set. -/
def uncBase (s : State) : Nat :=
  if 2 ≤ s.get UND_STATUS_stage ∧ !s.on UND_CTL_use_spec then UND_LRN_Y else UND_SPEC_Y

/-- H in ps after `tu` units of 1/1024 ns, with the integrals of |T - T_ref| in mK × 1/1024 ns over the time in which the
temperature was valid and of UND_T_DEV over the rest (R213). -/
def growth (s : State) (tu vInt bInt : Nat) : Nat :=
  let u := fun (i : Nat) => (s.rd (uncBase s + i)).toNat
  let q : Nat := 2 ^ 40
  let c := u 2 * vInt + ((s.getI UND_M_TC_val).natAbs + u 2) * bInt
  let num := (u 0 + 5) * tu * (2 * unitsPerSec * 86400 * 1000) + u 1 * tu * tu * 1000 + c * (2 * unitsPerSec * 86400)
  let den := 2 * unitsPerSec * unitsPerSec * 86400 * 1000
  let xn := u 3 * u 3 * tu * (unitsPerSec * unitsPerSec * 86400) + u 4 * u 4 * tu * tu * tu
  let xd := unitsPerSec * unitsPerSec * unitsPerSec * 86400
  let total := ceilDiv (num * q) den + 3 * isqrtUp (ceilDiv (xn * q * q) xd)
  addE (upE total (q * 10000)) (if s.on UND_CTL_flywheel then 10 else 0)

/-- Whether a FREQ slot is selected. -/
def freqSelected (s : State) : Bool := match selSlot s with | none => false | some n => decide (slotKind s n = 0)

/-- One hour in 1/1024 ns. -/
abbrev hourUnits : Nat := 3600 * unitsPerSec

/-- The instant of UND_HOLD_T without the steps of TB, in 1/1024 ns. -/
def holdStart (s : State) : Int := (t80Units (s.getT UND_HOLD_T_HI UND_HOLD_T_LO) : Int) - s.und.holdSteps

/-- The time elapsed since UND_HOLD_T in 1/1024 ns (R213). -/
def holdFor (s : State) : Nat := ((t80Units s.steady : Int) - holdStart s).toNat

/-- The integrals of R213 carried to now, and kept at each whole hour. The reading of a tick stands for the time since the one before. -/
def holdIntegrals (s : State) : State :=
  let dt := (t80Diff s.steady s.und.intAt).toNat
  let u := s.und
  let u := { u with intAt := s.steady }
  let u := if s.on UND_STATUS_temp_valid then { u with tInt := u.tInt + (tempDiff s).natAbs * dt }
    else { u with tBad := u.tBad + s.get UND_T_DEV_tdev * dt }
  let k := if s.get UND_STATUS_mode = 4 then holdFor s / hourUnits - u.hours.length else 0
  { s with und := { u with hours := List.replicate k (u.tInt, u.tBad) ++ u.hours } }

/-- H(t) on a Palette tick (R213, R214, R199). -/
def growthNow (s : State) : Nat :=
  if s.get PAL_STATE_state = 0 ∨ !s.on PAL_STATE_locked_once ∨ s.on UND_STATUS_steer_sat then unbounded
  else if freqSelected s then
    let tu := (t80Diff s.steady s.und.hFrom).toNat
    addE (addE (s.get UND_B_ENTRY_b) (upE ((s.get UND_FREQ_UNC_unc + 5) * tu) (10000 * unitsPerSec)))
      (if s.on UND_CTL_flywheel then 10 else 0)
  else if s.get UND_STATUS_mode = 4 then
    growth s (holdFor s) s.und.tInt s.und.tBad
  else 0

/-- UND_B_ENTRY is latched with the bound of the tick before, and entries activated from now on count anew (R211, R221). -/
def latchEntry (s : State) : State :=
  let s := s.put UND_B_ENTRY_b (s.get GLZ_B_b)
  { s with glz := { s.glz with evtNew := 0 } }

/-- Step 1 of the holdover entry on its Palette tick, with steps 2 and 3 to follow (R211). -/
def holdEnter (s : State) : State :=
  let s := latchEntry s
  let s := s.putT UND_HOLD_T_HI UND_HOLD_T_LO s.now
  let s := s.ev UND_EVENTS_hold_enter
  let s := { s with und := { s.und with tInt := 0, tBad := 0, intAt := s.steady, hours := [], holdSteps := s.tb.steps } }
  (s.later 1000 .holdMode).later 2000 .holdL

/-- The sum and the number of the entries of the history of L in a span of instants. -/
def lSum (h : List (Nat × Int)) (lo hi : Nat) : Int × Nat :=
  h.foldl (fun acc e => if lo ≤ e.1 ∧ e.1 < hi then (acc.1 + e.2, acc.2 + 1) else acc) (0, 0)

/-- L_hold (R212): the mean of L over the hold_avg seconds that end hold_guard seconds before the entry, or over what
history exists; zero in the two cases of R212. -/
def lHold (s : State) : Int × State :=
  if !s.und.ran ∨ (s.pal.holdDrift ∧ 2 ≤ s.get UND_STATUS_stage) then (0, s)
  else
    let t0 := (holdStart s).toNat
    let hi := t0 - s.get UND_HOLD_CFG_hold_guard * unitsPerSec
    let a := lSum s.und.lHist (hi - s.get UND_HOLD_CFG_hold_avg * unitsPerSec) hi
    let b := if a.2 = 0 then lSum s.und.lHist 0 (t0 + 1) else a
    if b.2 = 0 then (s.und.l, s) else freeQ s b.1 b.2

/-- Step 2 of a holdover entry (R211): mode HOLD. -/
def holdMode (s : State) : State :=
  if s.on UND_CTL_run ∧ (s.get PAL_STATE_state = 3 ∨ s.get PAL_STATE_state = 4) then
    (s.put UND_STATUS_mode 4).put UND_STATUS_narrowing 0
  else s

/-- Step 3 (R211): L takes L_hold. -/
def holdL (s : State) : State :=
  if s.get UND_STATUS_mode = 4 then
    let (l, s) := lHold s
    { s with und := { s.und with l := l } }
  else s

/-! ## The loop -/

/-- The bandwidth of the selected slot's group in 2^-20 µHz (R202). -/
def groupBw (s : State) : Nat :=
  match selSlot s with | none => 0 | some n => s.get (UND_BW_bw (slotGroup s n)) * 2 ^ 20

/-- The mode the servo takes when a slot is selected (R203), with the bandwidth ACQUIRE starts at (R202). -/
def servoStart (s : State) : State :=
  let track := decide (2 ≤ s.get UND_STATUS_stage) && s.on PAL_STATE_locked_once
  let acq := s.get UND_ACQ_BW_acq_bw * 2 ^ 20
  let s := { s with und := { s.und with i := s.und.l, bw := if track then groupBw s else max acq (groupBw s),
                                        halved := s.steady, zeta := s.get UND_LOOP_zeta } }
  let s := s.putB UND_STATUS_narrowing (!track && decide (groupBw s < acq))
  s.put UND_STATUS_mode (if track ∨ acq ≤ groupBw s then 2 else 1)

/-- The bandwidth and the damping from the next update on (R202): in TRACK the group's; in ACQUIRE halved every narrow_s seconds down to it,
then TRACK. The update of the tick on which they change still runs with the old ones, so that L does not jump on that tick. -/
def narrow (s : State) : State :=
  let s : State := { s with und := { s.und with zeta := s.get UND_LOOP_zeta } }
  if s.get UND_STATUS_mode = 2 then { s with und := { s.und with bw := groupBw s } }
  else if s.get UND_STATUS_mode = 1 then
    let due := t80Add s.und.halved ((s.get UND_LOOP_narrow_s * unitsPerSec : Nat) : Int)
    if t80Le due s.steady then
      let bw := s.und.bw / 2
      if bw ≤ groupBw s then
        let s := { s with und := { s.und with bw := groupBw s, halved := due } }
        (s.put UND_STATUS_mode 2).put UND_STATUS_narrowing 0
      else { s with und := { s.und with bw := bw, halved := due } }
    else s
  else s

/-- wn of R201 in 2^-64 rad/s: 2 pi × bw / sqrt(1 + 2 z^2 + sqrt((1 + 2 z^2)^2 + 1)), rounded down. -/
def loopWn (zeta bw : Nat) : Nat :=
  let zn := 1000000 + 2 * zeta * zeta
  let s32 := zn * 2 ^ 32 + isqrt ((zn * zn + 10 ^ 12) * 2 ^ 64)
  let root := isqrt (s32 * 2 ^ 64)
  6283185307179586476925 * bw * 2 ^ 92 / (10 ^ 24 * root)

/-- The last bits that the loop's arithmetic keeps are not stated: each product is free by one unit of 2^-40 F40 (log 1). -/
def freeBit (s : State) (x : Int) : Int × State :=
  let (w, s) := s.free
  (x + (b2n (bitAt w 0) : Nat), s)

/-- The loop update on a tick that brings a sample (R201), with e in 10^-12/1024 ns. The interval before the very first
update is not stated and free (log 1). -/
def loopUpdate (s : State) (e : Int) : State :=
  let (tau, s) : Nat × State := match s.und.lastUpd with
    | some t => ((t80Diff s.steady t).toNat, s)
    | none => s.freeBelow unitsPerSec
  let zeta := s.und.zeta
  let wn := loopWn zeta s.und.bw
  -- e in 10^-21/1024 s, F40 units of 10^-16, results in 2^-40 F40
  let di : Int := (wn * wn : Nat) * e * (tau : Nat) * (10 ^ 16 * 2 ^ 40 : Nat) / ((2 ^ 128 * 1024 * 10 ^ 21 * unitsPerSec : Nat) : Int)
  let dp : Int := ((2 * zeta * wn : Nat) : Int) * e * (10 ^ 16 * 2 ^ 40 : Nat) / ((1000 * 2 ^ 64 * 1024 * 10 ^ 21 : Nat) : Int)
  let (di, s) := freeBit s di
  let (dp, s) := freeBit s dp
  let i := s.und.i + di
  { s with und := { s.und with i := i, l := i + dp, lastUpd := some s.steady, ran := true } }

/-- UND_XC_PHASE falls by L × 1 ms on every tick, saturating (R205). -/
def xcStep (s : State) : State :=
  let x := s.und.xc - s.und.l
  let (p, s) := freeQ s (x * 1024) (10 ^ 10 * loopUnit)
  let (w, sat) := sat40 p
  let x : Int := if sat then sgn w * (10 ^ 10 * loopUnit : Nat) / 1024 else x
  ({ s with und := { s.und with xc := x } } : State).wr UND_XC_PHASE w

/-! ## Temperature -/

/-- The temperature in use (R210) from the sensor's reading in mK. -/
def tempTick (s : State) (sensor : Int) : State :=
  let src := s.get UND_CTL_temp_src
  let ext := s.und.extAt.isSome
  let (t, s) : Int × State :=
    if src = 1 then (s.getI UND_TEMP_EXT_ext, s)
    else if src = 2 ∧ ext then freeQ s (sensor + s.getI UND_TEMP_EXT_ext) 2
    else (sensor, s)
  let ok := decide (src ≠ 1) || ext
  let s := (s.putI UND_TEMP_temp t).putB UND_TEMP_valid ok
  let s := s.putB UND_STATUS_temp_valid ok
  let high := ok && decide (s.get UND_T_DEV_tdev < (tempDiff s).natAbs)
  let s := if high && !s.und.tempHigh then s.ev UND_EVENTS_temp_range else s
  { s with und := { s.und with tempHigh := high, sensor := sensor } }

/-! ## Predictions -/

/-- H after `k` hours from the base instant, with the integrals as they stood for an hour gone by and UND_T_DEV for the time still to come
(R216). -/
def growthAt (s : State) (k : Nat) : Nat :=
  let tu := k * hourUnits
  if s.get UND_STATUS_mode = 4 then
    let gone := holdFor s
    if gone ≤ tu then growth s tu (s.und.tInt + s.get UND_T_DEV_tdev * (tu - gone)) s.und.tBad
    else
      let at_ := if k = 0 then (0, 0) else s.und.hours.getD (s.und.hours.length - k) (s.und.tInt, s.und.tBad)
      growth s tu at_.1 at_.2
  else growth s tu (s.get UND_T_DEV_tdev * tu) 0

/-- The most hours after which the bound does not exceed the limit: a bitwise search. -/
def predGo (s : State) (base lim : Nat) : Nat → Nat → Nat
  | 0, r => r
  | k + 1, r => predGo s base lim k (if addE base (growthAt s (r + 2 ^ k)) ≤ lim then r + 2 ^ k else r)

/-- UND_PRED_H and UND_PRED_TIME (R216). -/
def predict (s : State) : State :=
  let base := if s.get UND_STATUS_mode = 4 then s.get UND_B_ENTRY_b else s.get GLZ_B_b
  let s' := s.put UND_PRED_H_h (growthAt s (s.get UND_PRED_Q_horizon))
  s'.put UND_PRED_TIME_hours (predGo s base (s.get PAL_HOLD_LIMIT_limit) 20 0)

/-- PREDICTION_UPDATE (R216): once a second. -/
def execPredictionUpdate (s : State) : Out :=
  if s.steady.sec = s.und.predSec then .next s
  else .next (predict { s with und := { s.und with predSec := s.steady.sec } })

/-! ## The Palette tick -/

/-- F (R198): what OSC_IN's phase against ATOM_IN has gained since the last reading of TDC1, over the milliseconds since (log 167). A tick
without a reading leaves it. With flywheel = 0 it is zero. -/
def flyTick (s : State) : State :=
  let u := s.und
  let (f, s) : Word × State := match u.lastSample, u.osc, u.oscRef with
    | some _, some p, some q =>
      let (x, s) := freeQ s ((p - q) * 10 ^ 16) (1024 * 10 ^ 6 * (u.oscAge + 1))
      ((sat40 x).1, s)
    | _, _, _ => (s.rd UND_FLY, s)
  let u := if u.lastSample.isSome then { u with oscRef := u.osc, oscAge := 0, lastSample := none } else { u with oscAge := u.oscAge + 1 }
  ({ s with und := u } : State).wr UND_FLY (if s.on UND_CTL_flywheel then f else 0)

/-- y0 at the first lock (R208): the mean of L + M. -/
def firstModel (s : State) : State :=
  let h := s.und.lHist.take (Config.lockMean + 1)
  let n := max 1 h.length
  let sum := if h.isEmpty then s.und.l else h.foldl (fun a e => a + e.2) 0
  let (y, s) := freeQ s (sum * (modelDen : Nat) + (n : Int) * modelNum s * (loopUnit : Nat)) (n * modelDen * loopUnit)
  State.putT { (s.wr UND_M_Y0 (sat40 y).1) with und := { s.und with locked := true } } UND_M_T0_HI UND_M_T0_LO s.now

/-- UND_CMD op 2 is carried out (R216). -/
def predictAsked (s : State) : State :=
  if s.und.recompute then predict { s with und := { s.und with recompute := false } } else s

/-- The Underpainting's part of a Palette tick (R198 to R214): `fresh` says that the selected slot brought a sample, `e` is
the servo's input in 10^-12/1024 ns, `sensor` the on-die sensor's reading in mK (R210). -/
def undTick (s : State) (fresh : Bool) (e sensor : Int) : State :=
  let s := tempTick s sensor
  let s := { s with und := { s.und with hPrev := s.get UND_H_h } }
  let s := holdIntegrals s
  let s := flyTick s
  if !s.on UND_CTL_run then
    let s := xcStep s
    predictAsked (s.wr UND_H (w40 (growthNow s)))
  else
    let st := s.get PAL_STATE_state
    let s := if s.get UND_STATUS_mode = 0 then
        (if st = 3 ∨ st = 4 then ((s.put UND_STATUS_mode 4).ev UND_EVENTS_hold_enter).later 2000 .holdL
         else if s.on PAL_STATE_sel_valid then servoStart s else s)
      else s
    let live := decide (s.get UND_STATUS_mode = 1) || decide (s.get UND_STATUS_mode = 2)
    let s := narrow (if live && fresh then loopUpdate s e else s)
    let s := xcStep s
    let s := if live then { s with und := { s.und with lHist := (t80Units s.steady, s.und.l) :: s.und.lHist } } else s
    let s := if st = 2 ∧ s.get UND_STATUS_stage = 0 ∧ !s.und.locked then firstModel s else s
    let s := s.wr UND_H (w40 (growthNow s))
    (predictAsked s).later 3000 .steer

/-! ## Learning -/

/-- Learning restarts at UNTRAINED (R209). -/
def learnRestart (s : State) : State :=
  let s := { s with und := { s.und with waiting := [], fit := [], secs := 0, locked := false } }
  (s.put UND_STATUS_stage 0).put UND_STATUS_learn_h 0

/-- The samples still waiting are discarded (R206). -/
def dropWaiting (s : State) : State := { s with und := { s.und with waiting := [] } }

/-- The stage that a number of hours gives (R208). -/
def stageOf (h : Nat) : Nat := if h = 0 then 0 else if h < 24 then 1 else if h < 168 then 2 else 3

/-- Whether a learning sample may be taken (R206). -/
def learnable (s : State) : Bool :=
  let good := match selSlot s with
    | none => false
    | some n => s.on PAL_STATE_time_traceable || decide (s.get (PAL_Sn_STATUS_eff_rank n) ≤ 3)
  s.on UND_CTL_learn_en && decide (s.get PAL_STATE_state = 2) && decide (s.get UND_STATUS_mode = 2) && good
    && (s.on UND_STATUS_temp_valid || !s.on UND_CTL_temp_en)

/-- The learning sample of the second that has passed (R206): the means over its ticks. -/
def learnTake (s : State) : State :=
  let (y, s) := freeQ s (s.und.lrnSum * (loopUnit : Nat)) s.und.lrnN
  let (t, s) := freeQ s s.und.lrnTemp s.und.lrnN
  { s with und := { s.und with waiting := s.und.waiting ++ [{ at_ := s.steady, y := y, temp := t }] } }

/-- The samples that have waited hold_avg seconds enter the fit, which keeps those of the latest 7 days, and the stage follows the hours
accepted (R206, R207, R208). -/
def learnAccept (s : State) : State :=
  let due := fun (e : LearnPt) => s.passed e.at_ (s.get UND_HOLD_CFG_hold_avg * 1000000000)
  let taken := s.und.waiting.filter due
  let week := fun (e : LearnPt) => decide (t80Diff s.steady e.at_ ≤ ((604800 * unitsPerSec : Nat) : Int))
  let u := { s.und with waiting := s.und.waiting.filter (fun e => !due e),
                        fit := (s.und.fit ++ taken).filter week, secs := s.und.secs + taken.length }
  let s := { s with und := u }
  let h := min (u.secs / 3600) 0xFFFFF
  let old := s.get UND_STATUS_stage
  let s := s.put UND_STATUS_learn_h h
  if old < stageOf h then (s.put UND_STATUS_stage (stageOf h)).ev UND_EVENTS_stage_up else s

/-- LEARNING_SAMPLE (R206, R208): once a second. -/
def execLearningSample (s : State) : Out :=
  if s.steady.sec = s.und.lrnSec then .next s
  else
    let s := if learnable s ∧ s.und.lrnN ≠ 0 then learnTake s else s
    .next (learnAccept { s with und := { s.und with lrnSum := 0, lrnTemp := 0, lrnN := 0, lrnSec := s.steady.sec } })

/-- The sums of a weighted least-squares fit of y to y0 + a × x + b × z (R207). -/
structure Normal where
  n : Nat
  w : Int
  x : Int
  z : Int
  xx : Int
  xz : Int
  zz : Int
  y : Int
  xy : Int
  zy : Int
deriving DecidableEq, Repr

/-- x of a sample: its instant against the present one in 1/1024 ns. -/
def fitX (s : State) (p : LearnPt) : Int := t80Diff p.at_ s.steady

/-- z of a sample: T - T_ref in mK. -/
def fitZ (s : State) (p : LearnPt) : Int := p.temp - s.getI UND_M_TREF_tref

/-- The weight of a sample (R207; log 168). -/
def fitW (s : State) (p : LearnPt) : Int := (Config.fitWeight ((-fitX s p).toNat / unitsPerSec) : Int) + 1

/-- The sums over the samples of the fit. -/
def fitSums (s : State) : Normal :=
  s.und.fit.foldl (fun a p =>
    let w := fitW s p
    let x := fitX s p
    let z := fitZ s p
    { n := a.n + 1, w := a.w + w, x := a.x + w * x, z := a.z + w * z, xx := a.xx + w * x * x, xz := a.xz + w * x * z,
      zz := a.zz + w * z * z, y := a.y + w * p.y, xy := a.xy + w * x * p.y, zy := a.zy + w * z * p.y })
    { n := 0, w := 0, x := 0, z := 0, xx := 0, xz := 0, zz := 0, y := 0, xy := 0, zy := 0 }

/-- What the fit gives (R207): the determinant `d` of its normal equations, the three parameters and the diagonal of the inverse as numerators
over it, the weighted sum of the squared residuals and the largest of them, over d² and d, and the sum of the squared differences of
successive residuals over d². -/
structure Fit where
  n : Nat
  d : Nat
  par : List Int
  inv : List Int
  ssq : Nat
  top : Nat
  dif : Nat
deriving DecidableEq, Repr

/-- The fit, by Cramer's rule (R207). -/
def fitNow (s : State) : Fit :=
  let a := fitSums s
  let c11 := a.xx * a.zz - a.xz * a.xz
  let c12 := a.xz * a.z - a.x * a.zz
  let c13 := a.x * a.xz - a.xx * a.z
  let c22 := a.w * a.zz - a.z * a.z
  let c23 := a.x * a.z - a.w * a.xz
  let c33 := a.w * a.xx - a.x * a.x
  let d := a.w * c11 + a.x * c12 + a.z * c13
  let p0 := c11 * a.y + c12 * a.xy + c13 * a.zy
  let p1 := c12 * a.y + c22 * a.xy + c23 * a.zy
  let p2 := c13 * a.y + c23 * a.xy + c33 * a.zy
  let res := s.und.fit.map (fun p => p.y * d - (p0 + p1 * fitX s p + p2 * fitZ s p))
  let ssq := (s.und.fit.zip res).foldl (fun acc e => acc + fitW s e.1 * e.2 * e.2) 0
  let dif := (res.zip (res.drop 1)).foldl (fun acc e => acc + (e.2 - e.1) * (e.2 - e.1)) 0
  { n := a.n, d := d.toNat, par := [p0, p1, p2], inv := [c11, c22, c33], ssq := ssq.toNat,
    top := res.foldl (fun m r => max m r.natAbs) 0, dif := dif.toNat }

/-- Whether the samples determine the three parameters with residuals left over. -/
def Fit.ok (f : Fit) : Bool := decide (0 < f.d) && decide (3 < f.n)

/-- The unit of each parameter: F40 at an instant, per day and per K, against the units of x and z. -/
def fitUnits : List Nat := [1, 86400 * unitsPerSec, 1000]

/-- Parameter `j` in its register's unit. -/
def fitPar (s : State) (f : Fit) (j : Nat) : Int × State :=
  freeQ s (f.par.getD j 0 * (fitUnits.getD j 1 : Nat)) (f.d * loopUnit)

/-- 3 sigma of parameter `j` in its register's unit, rounded up. -/
def fitSigma3 (f : Fit) (j : Nat) : Nat :=
  let u := fitUnits.getD j 1
  ceilDiv (isqrtUp (ceilDiv (9 * f.ssq * (f.inv.getD j 0).toNat * u * u) (f.d ^ 3 * (f.n - 3)))) loopUnit

/-- The learned uncertainties of a fit (R207): 3 sigma and the largest residual, and sigma_wf as the Allan deviation of the residuals at 1 s.
How a residual is expressed in the units of drift and tc, and how sigma_rw is estimated, the spec does not state: those are free
(log 168). -/
def fitUncertain (s : State) (f : Fit) : State :=
  let cap := fun (x : Nat) => w40 (min x (2 ^ 40 - 1))
  let (rd, s) := s.free
  let (rt, s) := s.free
  let (rw, s) := s.free
  let s := s.wr UND_LRN_Y (cap (fitSigma3 f 0 + ceilDiv f.top (f.d * loopUnit)))
  let s := s.wr (UND_LRN_Y + 1) (cap (fitSigma3 f 1 + rd.toNat))
  let s := s.wr (UND_LRN_Y + 2) (cap (fitSigma3 f 2 + rt.toNat))
  let s := s.wr (UND_LRN_Y + 3) (cap (ceilDiv (isqrtUp (ceilDiv f.dif (2 * (f.n - 1) * f.d * f.d))) loopUnit))
  s.wr (UND_LRN_Y + 4) rw

/-- MODEL_UPDATE (R207, R208): once an hour the registers take the fit; y0 is re-expressed at the present instant so that M is continuous.
Where the samples determine no fit its results are free (log 168). -/
def execModelUpdate (s : State) : Out :=
  if s.steady.sec / 3600 = s.und.fitHour ∨ !s.on UND_CTL_learn_en ∨ s.und.fit.isEmpty ∨ s.get UND_STATUS_stage = 0 then .next s
  else
    let s : State := { s with und := { s.und with fitHour := s.steady.sec / 3600 } }
    let old := modelNum s
    let f := fitNow s
    let s := if s.get UND_STATUS_stage < 2 then s
      else if f.ok then
        let (d, s) := fitPar s f 1
        let (t, s) := fitPar s f 2
        (s.wr UND_M_DRIFT (sat40 d).1).wr UND_M_TC (sat40 t).1
      else
        let (d, s) := s.free
        let (t, s) := s.free
        (s.wr UND_M_DRIFT d).wr UND_M_TC t
    let s := if f.ok then fitUncertain s f
      else (List.range 5).foldl (fun s i => let (w, s) := s.free; s.wr (UND_LRN_Y + i) w) s
    let s := s.putT UND_M_T0_HI UND_M_T0_LO (midMs s)
    let s := s.wr UND_M_Y0 0
    let (y, s) := freeQ s (old - modelNum s) modelDen
    .next (s.wr UND_M_Y0 (sat40 y).1)

/-- RESTART_LEARNING (R209): UND_CMD op 1. -/
def execRestartLearning (m : Master) (s : State) : Out := writeReg m UND_CMD 1 (fun s => .next (learnRestart s)) s

/-- RECOMPUTE_PREDICTIONS (R216): UND_CMD op 2. -/
def execRecomputePredictions (m : Master) (s : State) : Out :=
  writeReg m UND_CMD 2 (fun s => .next { s with und := { s.und with recompute := true } }) s

/-- The effect of a UND_TEMP_EXT write (R210): it renews the external temperature. -/
def tempExtWrite (w : Word) (s : State) : Out :=
  .next { (s.wr UND_TEMP_EXT w) with und := { s.und with extAt := some s.steady } }

/-- UND_TEMP_EXT_WRITE (R210). -/
def execUndTempExtWrite (m : Master) (w : Word) (s : State) : Out := writeReg m UND_TEMP_EXT w (tempExtWrite w) s

/-- TEMP_STALE (R210): ten seconds after the last write. -/
def execTempStale (s : State) : Out :=
  match s.und.extAt with
  | some t =>
    if s.passed t 10000000000 then
      .next (State.ev { s with und := { s.und with extAt := none } } UND_EVENTS_temp_stale)
    else .next s
  | none => .next s

/-- The effect of a write of a model or learned-uncertainty register (R209). -/
def modelWrite (a : Nat) (w : Word) (s : State) : Out :=
  if s.on UND_CTL_learn_en then .next (s.ev UND_EVENTS_cfg_ignored)
  else
    let s := if a = UND_M_T0_LO then { s with lat := tabSet regReset s.lat a w } else s
    .next ((s.wr a w).put UND_STATUS_stage 2)

/-- UND_MODEL_WRITE (R209): register `i` of UND_M_Y0 to UND_M_T0_LO (0 to 5) and UND_LRN_Y to UND_LRN_RW (6 to 10). -/
def execUndModelWrite (m : Master) (i : Fin 11) (w : Word) (s : State) : Out :=
  let a := if i.val < 6 then UND_M_Y0 + i.val else UND_LRN_Y + (i.val - 6)
  writeReg m a w (modelWrite a w) s

/-- The effect of a UND_CTL write: run cleared puts the servo in OFF (R203); a change of flywheel or temp_src is ignored
in HOLD and restarts learning otherwise (R209). -/
def undCtlWrite (w : Word) (s : State) : Out :=
  let change := decide (bitAt w 2 ≠ s.on UND_CTL_flywheel) || decide (fieldOf w 6 5 ≠ s.get UND_CTL_temp_src)
  let was := s.on UND_CTL_run
  if change ∧ s.get UND_STATUS_mode = 4 then .next (s.ev UND_EVENTS_cfg_ignored)
  else
    let s := plainWrite s UND_CTL w
    let s := if change then learnRestart s else s
    .next (if bitAt w 0 || !was then s
      else
        let s := if s.get UND_STATUS_mode = 4 then s.ev UND_EVENTS_hold_exit else s
        (s.put UND_STATUS_mode 0).put UND_STATUS_narrowing 0)

end Sys2Proof.Machine
end

