-- ==== Sys2Proof/Machine/Palette.lean ====
section
/-! DEFINITION. The Palette's slots: samples, limits, qualification, cross-check and disagreement, and the commands of
PAL_CMD that act on one slot (R166 to R183). -/

namespace Sys2Proof.Machine

/-- Whether House still runs one of its functions (R116). -/
def houseRuns (s : State) (f : Nat) : Bool := !houseReplaced s f

/-- A P40 held as a word; a value outside the range, for which the spec states none, is free (log 1). -/
def p40OrFree (s : State) (x : Int) : Word × State := if (sat40 x).2 then s.free else (i40 x, s)

/-- The instant `sec` seconds after `t`. -/
def secsAfter (t : T80) (sec : Nat) : T80 := t80Add t ((sec * unitsPerSec : Nat) : Int)

/-- Whether a slot is measured by a program through its sample register (R166). -/
def programSlot (n : Nat) : Bool := (decide (9 ≤ n) && decide (n ≤ 13)) || decide (18 ≤ n)

/-- Whether the recovered clock of a line port reaches its slot (R166). -/
def syncELive (s : State) (p : Nat) : Bool :=
  s.on (LPp_CFG_en p) && (s.get (LPp_STATUS_rx_lock p)).testBit (s.get (LPp_CFG_synce_lane p))

/-- The filtered phase of a slot. -/
def slotPhase (s : State) (n : Nat) : Int := s.getI (PAL_Sn_PHASE_phase n)

/-- Whether a sample differs from the filtered phase by more than jump_ns (R174), modulo the divided period for a FREQ slot
of a REF input. -/
def jumps (s : State) (n : Nat) (x : Int) : Bool :=
  let d := x - slotPhase s n
  let lim := s.get (PAL_Sn_LIMITS_jump_ns n) * 1024
  if n ≤ 7 ∧ slotKind s n = 0 ∧ s.get (REFINn_NOM_nom_hz n) ≠ 0 then
    let hz := s.get (REFINn_NOM_nom_hz n)
    let per : Int := ((refinPeriodNum s n : Nat) : Int)
    let r := (d * hz) % per
    decide (((lim * hz : Nat) : Int) < min r (per - r))
  else decide (lim < d.natAbs)

/-- The mean of a tick's samples (R169). -/
def meanOf (s : State) (xs : List Int) : Int × State := roundQ s xs.sum xs.length

/-- The samples since the last tick enter the filter (R168, R169, R177): whether the slot brought a sample, and whether one
jumped, which leaves nothing of what the slot has held. The filter itself is not stated: its outputs are free values, but for a restart,
which begins at the sample, the mean of the tick's. -/
def slotIngest (s : State) (n : Nat) : Bool × Bool × State :=
  let p := s.slot n
  match p.pend with
  | [] => (false, false, s)
  | x :: xs =>
    let s := s.setSlot n { p with pend := [], restart := false }
    if p.restart then
      let (x, s) := meanOf s (x :: xs)
      let (w, s) := p40OrFree s x
      let (f, s) := s.free
      (true, false, (s.wr (PAL_Sn_PHASE n) w).wr (PAL_Sn_FREQ n) f)
    else if (x :: xs).any (jumps s n) then
      (false, true, s.setSlot n { p with pend := [], restart := true, hist := [], d := 0, clearFrom := none })
    else
      let (w, s) := s.free
      let (f, s) := s.free
      (true, false, (s.wr (PAL_Sn_PHASE n) w).wr (PAL_Sn_FREQ n) f)

/-- Activity (R169, R171, R174). Of slot 8, for which no rule gives a window, a PPS edge within the last 1.5 s, as R171 gives a REF input of
1 PPS (DESIGN CHOICE, log 160). -/
def slotActive (s : State) (n : Nat) : Bool :=
  if n ≤ 7 then s.on (REFINn_STATUS_active n) && !s.on (REFINn_STATUS_los n)
  else if 14 ≤ n ∧ n ≤ 17 then syncELive s (n - 14)
  else match (s.slot n).lastAt with
    | none => false
    | some t =>
      if n = 8 then decide (2 * t80Diff s.steady t ≤ ((3 * unitsPerSec : Nat) : Int))
      else t80Lt s.steady (secsAfter t (s.get PAL_XC_CFG_smp_timeout))

/-- A source fault (R174): REFIN, the port or program that feeds the slot, or PAL_CMD. -/
def slotFaulty (s : State) (n : Nat) : Bool :=
  (s.slot n).cmdFault || (s.slot n).portFault || (s.slot n).oscFault
    || (decide (n ≤ 7) && (s.on (REFINn_STATUS_los n) || s.on (REFINn_STATUS_coarse n)))

/-- The hard limits broken, as PAL_Sn_STATUS.fail shows them (R174, R196). -/
def slotFails (s : State) (n : Nat) (jumped : Bool) : Nat :=
  b2n (!slotActive s n)
    + 2 * b2n (decide (s.get (PAL_Sn_LIMITS_freq_lim n) * 100000 < (s.getI (PAL_Sn_FREQ_freq n)).natAbs))
    + 4 * b2n jumped + 8 * b2n (decide (s.get (PAL_Sn_STATUS_eff_rank n) = 15)) + 16 * b2n (slotFaulty s n)

/-- A slot enters QUALIFYING: the timer restarts from the full time (R176), which is measured without steps (DESIGN CHOICE, log 156). -/
def slotQualify (s : State) (n : Nat) : State :=
  let t := if s.on (PAL_Sn_STATUS_ever_qualified n) then s.get (PAL_Sn_CFG_wtr n) else s.get (PAL_Sn_CFG_first_qual n)
  let s := s.put (PAL_Sn_STATUS_sstate n) 2
  s.setSlot n { s.slot n with qualEnd := secsAfter s.steady t, cleared := false }

/-- A slot becomes FAILED (R175); the selected one failing during a switch queues a decision (R185). -/
def slotFail (s : State) (n : Nat) : State :=
  let s := (s.put (PAL_Sn_STATUS_sstate n) 1).ev PAL_EVENTS_slot_fail
  if s.on PAL_STATE_switching ∧ selSlot s = some n then s.putB PAL_STATE_reselect_pending true else s

/-- A worsened qrank takes effect, whatever the slot's state (R173), and the state follows the limits (R175). -/
def slotState (s : State) (n : Nat) (jumped : Bool) : State :=
  let s := if s.get (PAL_Sn_STATUS_eff_rank n) < s.get (PAL_Sn_ADV_qrank n) then
      s.put (PAL_Sn_STATUS_eff_rank n) (s.get (PAL_Sn_ADV_qrank n)) else s
  if !s.on (PAL_Sn_CFG_enable n) then
    let p := s.slot n
    let s := s.setSlot n { p with pend := [], hist := [], d := 0, clearFrom := none, restart := true, cleared := false }
    (s.put (PAL_Sn_STATUS_sstate n) 0).put (PAL_Sn_STATUS_fail n) 0
  else
    let f := slotFails s n jumped
    let s := s.put (PAL_Sn_STATUS_fail n) f
    let st := s.get (PAL_Sn_STATUS_sstate n)
    if f = 0 then (if st ≤ 1 then slotQualify s n else s) else if st = 1 then s else slotFail s n

/-! ## Cross-check -/

/-- The prediction source (R178); when it changes, every slot's history restarts (R179). -/
def xcSource (s : State) : State :=
  let und := !(decide (s.get (PAL_Sn_STATUS_sstate 8) = 3) || decide (selSlot s = some 8))
  if und = s.on PAL_XC_SRC_und then s
  else
    let s := s.putB PAL_XC_SRC_und und
    (List.range 24).foldl (fun s n => s.setSlot n { s.slot n with hist := [], d := 0 }) s

/-- The predicted phase a slot is compared with (R178). -/
def predicted (s : State) (n : Nat) : Int :=
  if n = 8 ∨ s.on PAL_XC_SRC_und then s.getI UND_XC_PHASE_phase else slotPhase s 8

/-- D of a slot on a tick that brings a sample, and the DRIFTING transitions (R179). -/
def slotXcheck (s : State) (n : Nat) (fresh : Bool) : State :=
  let st := s.get (PAL_Sn_STATUS_sstate n)
  let p := s.slot n
  if !s.on PAL_CTL_xc_en then s.setSlot n { p with hist := [], d := 0 }
  else if st ≤ 1 ∨ !fresh then s
  else
    let now := t80Units s.steady
    let x := slotPhase s n - predicted s n
    let hist := (p.hist ++ [(now, x)]).filter (fun e => decide (now ≤ e.1 + s.get PAL_XC_CFG_xc_win * unitsPerSec))
    let d := x - ((hist.head?.map (fun e => e.2)).getD x)
    let budget := s.get (PAL_Sn_XCHK_drift_budget n)
    let ovr := decide (budget * 1024 < d.natAbs * 1000)
    let half := decide (2 * (d.natAbs * 1000) ≤ budget * 1024)
    let from_ := if half then some (p.clearFrom.getD s.steady) else none
    let p := { p with hist := hist, d := d, clearFrom := if st = 4 then from_ else none }
    let s := s.setSlot n p
    if ovr ∧ (st = 2 ∨ st = 3) then (s.put (PAL_Sn_STATUS_sstate n) 4).ev PAL_EVENTS_drifting else s

/-- The seconds left that PAL_Sn_STATUS.timer shows, a part of a second counting whole (R196). -/
def slotTimer (s : State) (n : Nat) : State :=
  let st := s.get (PAL_Sn_STATUS_sstate n)
  let p := s.slot n
  let left := fun (t : T80) => ceilDiv (t80Diff t s.steady).toNat unitsPerSec
  let win := s.get PAL_XC_CFG_xc_win
  let v := if st = 2 then left p.qualEnd
    else if st = 4 then (match p.clearFrom with | none => win | some t => left (secsAfter t win))
    else 0
  s.put (PAL_Sn_STATUS_timer n) (min v 0xFFFF)

/-! ## Disagreement -/

/-- A sum of E40 values in ps is exceeded by a magnitude in 1/1024 ns. -/
def beyondPs (x : Int) (ps : Nat) : Bool := decide (ps < unbounded) && decide (ps * 1024 < x.natAbs * 1000)

/-- The sum of R180 is exceeded. -/
def disagreeSum (s : State) (n : Nat) : Bool :=
  beyondPs (slotPhase s n)
    (addE (addE (s.get GLZ_B_b) (s.get (PAL_Sn_BOUND_bound n))) (s.get (PAL_Sn_XCHK_dis_margin n) * 1000))

/-- Another QUALIFIED PHASE or TOD slot of a different group confirms the slot (R181). -/
def confirmed (s : State) (n : Nat) : Bool :=
  (List.range 24).any (fun m =>
    decide (s.get (PAL_Sn_STATUS_sstate m) = 3) && decide (slotKind s m ≠ 0) && decide (slotGroup s m ≠ slotGroup s n)
      && !beyondPs (slotPhase s n - slotPhase s m)
        (addE (addE (s.get (PAL_Sn_BOUND_bound n)) (s.get (PAL_Sn_BOUND_bound m)))
          (s.get (PAL_Sn_XCHK_dis_margin n) * 1000)))

/-- A slot becomes QUALIFIED (R175); during a switch this queues a decision (R185). -/
def slotQualified (s : State) (n : Nat) : State :=
  let s := (s.put (PAL_Sn_STATUS_sstate n) 3).ev PAL_EVENTS_qualified
  if s.on PAL_STATE_switching then s.putB PAL_STATE_reselect_pending true else s

/-- R180 and R181 on a tick: a slot whose range flag is set always disagrees; one whose phase exceeds the sum disagrees
unless another slot confirms it or the host has cleared it. A FREQ slot never does. -/
def slotDisagree (s : State) (n : Nat) : State :=
  let st := s.get (PAL_Sn_STATUS_sstate n)
  if st ≠ 3 ∧ st ≠ 5 then s
  else if slotKind s n = 0 then (if st = 5 then slotQualified s n else s)
  else
    let range := s.on (PAL_Sn_STATUS_range n)
    let ovr := disagreeSum s n
    let s := if !ovr then s.setSlot n { s.slot n with cleared := false } else s
    let bad := range || (ovr && !confirmed s n && !(s.slot n).cleared)
    if bad then
      (if st = 3 ∧ selSlot s ≠ some n then (s.put (PAL_Sn_STATUS_sstate n) 5).ev PAL_EVENTS_disagreeing else s)
    else if st = 5 then slotQualified s n
    else s

/-! ## Commands on one slot -/

/-- The effect of a sample write (R169): an extreme value sets the range flag; any other clears it and is a sample. -/
def sampleWrite (n : Nat) (w : Word) (s : State) : Out :=
  if w = 0x7FFFFFFFFF#40 ∨ w = 0x8000000000#40 then
    let s := s.putB (PAL_Sn_STATUS_range n) true
    .next (s.setSlot n { s.slot n with lastAt := some s.steady })
  else .next (palSample (s.putB (PAL_Sn_STATUS_range n) false) n (sgn w))

/-- A feeding function gives slot `n` the offset `x` in 1/1024 ns (R169, R183, R191). While the time is not valid the sample is taken against
the local time plus whole seconds that bring the first one within 0.5 s (log 164); afterwards an offset outside the P40 range is recorded
first, in whole µs. -/
def feedSlot (s : State) (n : Nat) (x : Int) : State :=
  if !s.on TB_STATUS_time_valid then
    let p := s.slot n
    let sec : Int := if p.lastAt.isSome then p.seed else (nearZero x unitsPerSec - x) / unitsPerSec
    let s := s.setSlot n { p with seed := sec }
    houseDo s (sampleWrite n (sat40 (x + sec * unitsPerSec)).1)
  else
    let s := if (sat40 x).2 then
        let us := x.tdiv (nsU 1000 : Nat)
        let (w, s) := if (sat40 us).2 then s.free else (i40 us, s)
        (s.wr PAL_WIDE_OFS w).wr PAL_WIDE_CTL (w40 (32 + n))
      else s
    houseDo s (sampleWrite n (sat40 x).1)

/-- The program-measured slots in the order of their sample registers (R196). -/
def sampleSlots : List Nat := [9, 10, 11, 12, 13, 18, 19, 20, 21, 22, 23]

/-- PAL_SAMPLE_WRITE (R169): sample register `i` of R196. -/
def execPalSampleWrite (m : Master) (i : Fin 11) (w : Word) (s : State) : Out :=
  let n := sampleSlots.getD i.val 9
  writeReg m (PAL_Sn_SAMPLE n) w (sampleWrite n w) s

/-- SAMPLE_TIMEOUT (R169): no sample for smp_timeout seconds. -/
def execSampleTimeout (n : Fin 24) (s : State) : Out :=
  if programSlot n ∧ s.on (PAL_Sn_CFG_enable n) ∧ 2 ≤ s.get (PAL_Sn_STATUS_sstate n) ∧ !slotActive s n then
    .next (slotFail (s.put (PAL_Sn_STATUS_fail n) (slotFails s n false)) n)
  else .next s

/-- RANK_HOLD_EXPIRY (R173): an improved qrank that has stood for 10 s takes effect. -/
def execRankHoldExpiry (n : Fin 24) (s : State) : Out :=
  if s.get (PAL_Sn_ADV_qrank n) < s.get (PAL_Sn_STATUS_eff_rank n) ∧ s.passed (s.slot n).rankAt 10000000000 then
    .next (s.put (PAL_Sn_STATUS_eff_rank n) (s.get (PAL_Sn_ADV_qrank n)))
  else .next s

/-- QUALIFICATION_TIMER_EXPIRY (R176), with the first check of R180. -/
def execQualificationTimerExpiry (n : Fin 24) (s : State) : Out :=
  if s.get (PAL_Sn_STATUS_sstate n) = 2 ∧ s.passed (s.slot n).qualEnd 0 then
    let s := slotQualified (s.putB (PAL_Sn_STATUS_ever_qualified n) true) n
    .next (slotDisagree (slotTimer s n) n)
  else .next s

/-- DRIFT_CLEAR_EXPIRY (R179): half the budget held for a whole window; the slot requalifies over wtr. -/
def execDriftClearExpiry (n : Fin 24) (s : State) : Out :=
  match (s.slot n).clearFrom with
  | some t =>
    if s.get (PAL_Sn_STATUS_sstate n) = 4 ∧ s.passed t (s.get PAL_XC_CFG_xc_win * 1000000000) then
      let s := s.put (PAL_Sn_STATUS_sstate n) 2
      .next (s.setSlot n { s.slot n with qualEnd := secsAfter s.steady (s.get (PAL_Sn_CFG_wtr n)), clearFrom := none })
    else .next s
  | none => .next s

/-- The word of PAL_CMD with an operation and a slot (R196). -/
def palCmdWord (op n : Nat) : Word := w40 (op * 32 + n)

/-- PAL_CMD op 1 (R181). -/
def palClear (n : Nat) (s : State) : Out :=
  if s.get (PAL_Sn_STATUS_sstate n) = 5 then
    .next (slotQualified (s.setSlot n { s.slot n with cleared := true }) n)
  else .next s

/-- PAL_CMD op 2 (R176). -/
def palRestart (n : Nat) (s : State) : Out :=
  let st := s.get (PAL_Sn_STATUS_sstate n)
  if st = 0 then .next s
  else
    let s := s.putB (PAL_Sn_STATUS_ever_qualified n) false
    .next (if st = 1 then s else slotQualify s n)

/-- PAL_CMD op 3 (R190, R191): after a step hold the remaining offset is slewed; a wide step's hold ends with no slew; an
offset outside the P40 range leaves the hold. -/
def palSlew (s : State) : Out :=
  if !s.on PAL_STATE_step_hold then .next s
  else if s.pal.wide then
    .next (State.putB { s with pal := { s.pal with wide := false } } PAL_STATE_step_hold false)
  else match selSlot s with
    | none => .next s
    | some n =>
      let x := (s.slot n).x
      if (sat40 (x.tdiv fineUnit)).2 then .next s
      else .next ((slewAdd s (-(x.tdiv fineUnit))).putB PAL_STATE_step_hold false)

/-- PAL_CMD op 4 and 5 (R174). -/
def palFault (n : Nat) (on : Bool) (s : State) : Out := .next (s.setSlot n { s.slot n with cmdFault := on })

/-- PAL_CMD op 6 (R191), accepted only in the case that rule lays down. -/
def palWide (n : Nat) (s : State) : Out :=
  if slotKind s n = 2 ∧ s.get (PAL_Sn_STATUS_sstate n) = 5 ∧ s.on (PAL_Sn_STATUS_range n) ∧ s.on PAL_WIDE_CTL_valid
      ∧ s.get PAL_WIDE_CTL_slot = n ∧ s.get TB_STEP_THRESH_thresh ≠ 0 ∧ !s.on PAL_STATE_switching then
    let s := (s.putB PAL_STATE_step_hold true).ev PAL_EVENTS_step_wanted
    .next { s with pal := { s.pal with wide := true, stepUs := some (-(s.getI PAL_WIDE_OFS_ofs)) } }
  else .next s

/-- The effect of a PAL_CMD write (R196). Value 7 is reserved; a slot above 23 names none. -/
def palCmdWrite (w : Word) (s : State) : Out :=
  let op := fieldOf w 7 5
  let n := fieldOf w 4 0
  if op = 7 then .fault .reservedValue
  else if op = 3 then palSlew s
  else if 24 ≤ n then .next s
  else if op = 1 then palClear n s
  else if op = 2 then palRestart n s
  else if op = 4 then palFault n true s
  else if op = 5 then palFault n false s
  else if op = 6 then palWide n s
  else .next s

/-- CLEAR_DISAGREEING (R181). -/
def execClearDisagreeing (m : Master) (n : Fin 24) (s : State) : Out :=
  writeReg m PAL_CMD (palCmdWord 1 n) (palClear n) s

/-- RESTART_QUALIFICATION (R176). -/
def execRestartQualification (m : Master) (n : Fin 24) (s : State) : Out :=
  writeReg m PAL_CMD (palCmdWord 2 n) (palRestart n) s

/-- SLEW_AFTER_STEP (R190). -/
def execSlewAfterStep (m : Master) (n : Fin 24) (s : State) : Out := writeReg m PAL_CMD (palCmdWord 3 n) palSlew s

/-- SET_SOURCE_FAULT (R174). -/
def execSetSourceFault (m : Master) (n : Fin 24) (s : State) : Out :=
  writeReg m PAL_CMD (palCmdWord 4 n) (palFault n true) s

/-- CLEAR_SOURCE_FAULT (R174). -/
def execClearSourceFault (m : Master) (n : Fin 24) (s : State) : Out :=
  writeReg m PAL_CMD (palCmdWord 5 n) (palFault n false) s

/-- STEP_TO_WIDE_OFFSET (R191). -/
def execStepToWideOffset (m : Master) (n : Fin 24) (s : State) : Out :=
  writeReg m PAL_CMD (palCmdWord 6 n) (palWide n) s

/-- The effect of a PAL_Sn_ADV write (R173): the instant of a change of qrank is kept. Values of qsrc above 5 are reserved. -/
def advWrite (n : Nat) (w : Word) (s : State) : Out :=
  let s := if fieldOf w 3 0 = s.get (PAL_Sn_ADV_qrank n) then s else s.setSlot n { s.slot n with rankAt := s.steady }
  .next (plainWrite s (PAL_Sn_ADV n) w)

/-- The effect of a write that a switch in progress holds back (R185): PAL_CTL, PAL_FORCE and the slot configuration. -/
def palHeldWrite (a : Nat) (w : Word) (s : State) : Out :=
  if s.on PAL_STATE_switching then .next { s with pal := { s.pal with heldWrites := s.pal.heldWrites ++ [(a, w)] } }
  else .next (plainWrite s a w)

end Sys2Proof.Machine
end

