-- ==== Sys2Proof/Machine/Gns.lean ====
section
/-! DEFINITION. The GNSS baseband: streams, tracking pairs, the search bank, kept data, and the House navigation function's
solution, spoofing alarms and sentinel mode (R293 to R320). -/

namespace Sys2Proof.Machine

/-! ## Streams and pairs -/

/-- A pair's control and status words. -/
def State.pairCtl (s : State) (p : Nat) : Word := tabGet (fun _ => 0) s.gns.chCtl p
def State.pairStat (s : State) (p : Nat) : Word := tabGet (fun _ => 0) s.gns.chStat p

/-- The state with a pair's control word replaced. -/
def State.setPairCtl (s : State) (p : Nat) (w : Word) : State :=
  { s with gns := { s.gns with chCtl := tabSet (fun _ => 0) s.gns.chCtl p w } }

/-- The state with a pair's status word replaced, and GNS_STATUS.tracked following. -/
def State.setPairStat (s : State) (p : Nat) (w : Word) : State :=
  let t : Tab Word := tabSet (fun _ => 0) s.gns.chStat p w
  { s with gns := { s.gns with chStat := t } }.put GNS_STATUS_tracked (t.filter (fun (e : Nat × Word) => decide (fieldOf e.2 2 0 = 2))).length

/-- A pair's state: 0 IDLE, 1 PULL-IN, 2 TRACKING, 3 LOST (R318). -/
def pairState (s : State) (p : Nat) : Nat := fieldOf (s.pairStat p) 2 0

/-- Whether a signal is in the L5 band (R297). -/
def signalL5 (sig : Nat) : Bool := decide (sig / 64 = 1 ∨ sig / 64 = 3 ∨ sig / 64 = 5)

/-- Whether a signal identifier is one R297 lists. -/
def signalOk (sig : Nat) : Bool :=
  let t := sig / 64
  let prn := sig % 64
  decide (1 ≤ prn) && decide (prn ≤ (if t ≤ 1 then 32 else if t ≤ 3 then 36 else if t ≤ 5 then 63 else 0))

/-- The signal of a pair. -/
def pairSignal (s : State) (p : Nat) : Nat := fieldOf (s.pairCtl p) 11 3

/-- A pair's inner state. -/
def State.gpair (s : State) (p : Nat) : GnsPair := tabGet (fun _ => GnsPair.reset) s.gns.pairs p

/-- The state with a pair's inner state replaced. -/
def State.setGpair (s : State) (p : Nat) (g : GnsPair) : State :=
  { s with gns := { s.gns with pairs := tabSet (fun _ => GnsPair.reset) s.gns.pairs p g } }

/-- The chips of a signal's primary code and its period in ms (R297). -/
def codeChips (sig : Nat) : Nat := [1023, 10230, 4092, 10230, 10230].getD (sig / 64) 10230
def codeMs (sig : Nat) : Nat := [1, 1, 4, 1, 10].getD (sig / 64) 1

/-- The stream of a signal on antenna A (R293). -/
def streamA (sig : Nat) : Nat := b2n (signalL5 sig)

/-- A pair goes to LOST, through the stream `m` where one faulted (R296, R298); its symbols are to be pushed (R300). -/
def pairLost (s : State) (p : Nat) (m : Option Nat) : State :=
  let w := putField (putField (putField (s.pairStat p) 2 0 3) 3 3 0) 4 4 0
  ((s.setGpair p { s.gpair p with lostBy := m, symbols := true }).setPairStat p w).ev GNS_EVENTS_ch_lost

/-- A pair starts to pull in (R298): at once when aided or when the bank has a peak of its signal on antenna A, otherwise with that peak. -/
def pairStart (s : State) (p : Nat) : State :=
  let aided := bitAt (s.pairCtl p) 1
  let peak := (tabGet (fun _ => none) s.gns.top (pairSignal s p)).isSome
  (s.setGpair p { GnsPair.reset with pullAt := if aided || peak then some s.steady else none }).setPairStat p 1

/-- The navigation function starts a pair aided with the window `w` (R296, R304, R317). -/
def pairAided (s : State) (p : Nat) (w : Word) : State :=
  let s := { s with gns := { s.gns with chAid := tabSet (fun _ => 0) s.gns.chAid p w } }
  pairStart (s.setPairCtl p (putField (putField (s.pairCtl p) 1 1 1) 0 0 1)) p

/-- STREAM_FAULT (R296): `cause` 0 GNSS_DCLK, 1 no toggling, 2 saturation, with the stream's saturation, rms and glitch
figures. Pairs that track on it go to LOST; a pair that uses it for antenna B alone loses lock there. -/
def execStreamFault (m : Fin 4) (cause : Fin 3) (sat rms : BitVec 8) (glitch : BitVec 32) (s : State) : Out :=
  if !domainOn s 4 then .next s
  else
    let s := (s.put (GSTm_STATUS_sat m) sat.toNat).put (GSTm_STATUS_rms m) rms.toNat
    let s := s.put (GSTm_CNT_GLITCH_count m) (s.get (GSTm_CNT_GLITCH_count m) + glitch.toNat)
    let s := if cause = 0 then s.putB GNS_STATUS_dclk_ok false else s
    let s := s.putB (GSTm_STATUS_ok m) false
    let oks := s.get GNS_STATUS_str_ok
    let s := s.put GNS_STATUS_str_ok (oks - Nat.land oks (2 ^ m.val))
    let s := if (tabGet (fun _ => none) s.gns.faultAt m).isSome then s else s.ev GNS_EVENTS_str_fault
    let s := { s with gns := { s.gns with faultAt := tabSet (fun _ => none) s.gns.faultAt m (some s.steady) } }
    .next ((List.range 128).foldl (fun s p =>
      if pairState s p ≠ 2 ∨ signalL5 (pairSignal s p) ≠ decide (m.val % 2 = 1) then s
      else if m.val < 2 then pairLost s p (some m.val)
      else s.setPairStat p (putField (s.pairStat p) 4 4 0)) s)

/-- The effect of a GNS_CH_CTL write on the pair GNS_CH_IDX selects (R298, R318): a signal of no listed type or PRN is
reserved; while the pair runs, only run changes. -/
def chCtlWrite (w : Word) (s : State) : Out :=
  let p := s.get GNS_CH_IDX_pair
  let old := s.pairCtl p
  let w := if bitAt old 0 then putField old 0 0 (b2n (bitAt w 0)) else w
  if bitAt w 0 && !signalOk (fieldOf w 11 3) then .fault .reservedValue
  else
    let s := s.setPairCtl p w
    .next (if bitAt w 0 && !bitAt old 0 then pairStart s p
      else if !bitAt w 0 && bitAt old 0 then (s.setGpair p .reset).setPairStat p 0
      else s)

/-- PAIR_RUN (R298): a GNS_CH_CTL write. -/
def execPairRun (m : Master) (w : Word) (s : State) : Out := writeReg m GNS_CH_CTL w (chCtlWrite w) s

/-- PAIR_PULL_IN_DONE (R298): within 50 ms from a peak or window of its signal the pair has pulled in and tracks. -/
def execPairPullInDone (p : Fin 128) (cn0a cn0b : BitVec 7) (lockB : Bool) (s : State) : Out :=
  let soon : Bool := match (s.gpair p).pullAt with | none => false | some t => decide (t80Diff s.steady t ≤ ((50 * nsU 1000000 : Nat) : Int))
  if pairState s p = 1 ∧ s.on GNS_CTL_en ∧ (s.get GNS_STATUS_str_ok).testBit (streamA (pairSignal s p)) ∧ soon then
    let dual := bitAt (s.pairCtl p) 2
    let w := w40 ((if dual then cn0b.toNat else 0) * 2 ^ 17 + cn0a.toNat * 2 ^ 10 + b2n (dual && lockB) * 16 + 8 + 2)
    .next (((s.setGpair p { s.gpair p with pullAt := none, lockAt := s.steady }).setPairStat p w).ev GNS_EVENTS_ch_lock)
  else .next s

/-- PAIR_LOST (R298): no carrier lock on antenna A for 100 ms. -/
def execPairLost (p : Fin 128) (s : State) : Out :=
  if pairState s p = 2 ∧ s.passed (s.gpair p).lockAt 100000000 then .next (pairLost s p none) else .next s

/-- PAIR_LOCK_B_LOSS (R298): the pair keeps tracking. -/
def execPairLockBLoss (p : Fin 128) (s : State) : Out :=
  if pairState s p = 2 then .next (s.setPairStat p (putField (s.pairStat p) 4 4 0)) else .next s

/-! ## Records (R299 to R301) -/

/-- A record goes to a FIFO as one packet, or is dropped whole and counted (R301). -/
def gnsPush (s : State) (fifo : Nat) (ws : List Word) : State :=
  match fifoPacket s fifo 22 ws with
  | some s => s
  | none => (s.inc GNS_CNT_DROPPED_count).ev GNS_EVENTS_overflow

/-- A signed number held at the ends of an `n`-bit field. -/
def satField (n : Nat) (x : Int) : Nat :=
  let hi : Int := 2 ^ (n - 1)
  ((if x ≥ hi then hi - 1 else if x < -hi then -hi else x) % 2 ^ n).toNat

/-- The carrier frequency of a signal in Hz (R293). -/
def carrierHz (sig : Nat) : Nat := if signalL5 sig then 1176450000 else 1575420000

/-- What a pair measured at the port, referred to the antenna phase centre (R295): what arrives at the port GSTm_DELAY later is at the phase centre
now, so code and carrier phase are ahead by what they advance in that time (log 171). -/
def atCentre (s : State) (p : Nat) (x : PairMeas) : PairMeas :=
  let sig := pairSignal s p
  let d := fun (m : Nat) => sgn (s.rd (GSTm_DELAY m))
  let cycles := fun (d : Int) => d * (carrierHz sig : Int) * 64 / 1000000000
  let m := streamA sig
  let ahead := d m * (codeChips sig * 2 ^ 20 : Nat) / ((codeMs sig * nsU 1000000 : Nat) : Int)
  { x with
    code := w40 (((x.code.toNat : Int) + ahead) % ((codeChips sig * 2 ^ 20 : Nat) : Int)).toNat
    carrier := w40 (((x.carrier.toNat : Int) + cycles (d m)) % 2 ^ 40).toNat
    dphi := BitVec.ofInt 16 ((x.dphi.toNat : Int) + cycles (d (m + 2)) - cycles (d m)) }

/-- The whole millisecond of the time scale that the counter is in. -/
def msNow (s : State) : Nat := s.tb.sec * 1000 + s.tb.ns / 1000000

/-- MEAS_RECORD (R299): a tracking pair's record at an epoch, one for each. -/
def execMeasRecord (p : Fin 128) (x : PairMeas) (s : State) : Out :=
  if pairState s p ≠ 2 ∨ msNow s % 1000 % max 1 (s.get GNS_EPOCH_epoch_ms) ≠ 0 ∨ (s.gpair p).recAt = some (msNow s) then .next s
  else
    let x := atCentre s p x
    let dual := bitAt (s.pairCtl p) 2
    let lockB := dual && x.lockB
    let cb := if dual then x.cn0b.toNat else 0
    let st := putField (putField (putField (putField (s.pairStat p) 23 17 cb) 16 10 x.cn0a.toNat) 4 4 (b2n lockB)) 3 3 (b2n x.lockA)
    let whole := x.lockA && lockB && x.whole
    let g := { s.gpair p with recAt := some (msNow s), last := some { x with whole := whole } }
    let s := (s.setGpair p (if x.lockA then { g with lockAt := s.steady } else g)).setPairStat p st
    .next (gnsPush s (s.get GNS_FIFO_meas_fifo)
      [w40 (pairSignal s p * 2 ^ 31 + p.val * 2 ^ 24 + x.cn0a.toNat * 2 ^ 17 + cb * 2 ^ 10 + msNow s % 1000), x.code, x.carrier,
       w40 (x.dphi.toNat * 2 ^ 24 + satField 20 x.doppler.toInt * 16 + b2n x.lockA * 8 + b2n lockB * 4 + b2n x.slip * 2 + b2n whole)])

/-- SYMBOL_RECORD (R300): 32 data symbols of a tracking pair, or once those held at a loss of lock. -/
def execSymbolRecord (p : Fin 128) (count : Fin 33) (ms : Fin 1000) (symbols : BitVec 32) (s : State) : Out :=
  let full := decide (pairState s p = 2) && decide (count.val = 32)
  let rest := decide (pairState s p = 3) && (s.gpair p).symbols && decide (count.val ≠ 0)
  if full || rest then
    let s := s.setPairStat p (putField (s.pairStat p) 5 5 1)
    let s := s.setGpair p { s.gpair p with symbols := false }
    .next (gnsPush s (s.get GNS_FIFO_sym_fifo)
      [w40 (pairSignal s p * 2 ^ 31 + p.val * 2 ^ 24 + count.val * 2 ^ 10 + ms.val), w40 (symbols.toNat % 2 ^ count.val)])
  else .next s

/-! ## The search bank (R302 to R304) -/

/-- The words of the bank list and its windows. -/
def bankEntry (s : State) (i : Nat) : Word := tabGet (fun _ => 0) s.gns.list i
def bankWindow (s : State) (i : Nat) : Word := tabGet (fun _ => 0) s.gns.aid i

/-- The first valid entry of the bank list from `i` on; 256 past the last. -/
def nextEntry (s : State) : Nat → Nat → Nat
  | 0, _ => 256
  | n + 1, i =>
    if 256 ≤ i then 256 else if bitAt (bankEntry s i) 39 then i else nextEntry s n (i + 1)

/-- The code-Doppler cells of an entry over the streams of its mask: half a chip over the whole code, or its window when aided (R302, R304). -/
def entryCells (s : State) (i : Nat) : Nat :=
  let w := bankEntry s i
  let streams := ((List.range 4).filter (fun m => bitAt w (35 + m))).length
  let code := if s.get GNS_CTL_bank_mode = 1 then 2 * fieldOf (bankWindow s i) 21 12 + 1 else 2 * codeChips (fieldOf w 34 26)
  code * s.get GNS_BANK_CFG_bins * streams

/-- How long the dwells for that many cells take, in ns (R302). -/
def dwellNs (s : State) (cells : Nat) : Nat := ceilDiv cells 12288 * s.get GNS_BANK_CFG_noncoh * 1000000

/-- A sweep begins at `t` at the first valid entry. -/
def sweepStart (s : State) (t : T80) : State :=
  let run := s.on GNS_CTL_en && s.on GNS_CTL_bank_en
  { s with gns := { s.gns with entry := nextEntry s 256 0, cells := 0, restart := none, sweepAt := t } }.putB GNS_STATUS_sweeping run

/-- The sweep in progress is to end with its dwell (R304). -/
def bankRestart (s : State) : State :=
  if !s.on GNS_STATUS_sweeping ∨ s.gns.restart.isSome then s
  else
    let dwell := max 1 (nsU (s.get GNS_BANK_CFG_noncoh * 1000000))
    let n := ceilDiv (t80Diff s.steady s.gns.sweepAt).toNat dwell
    { s with gns := { s.gns with restart := some (t80Add s.gns.sweepAt ((n * dwell : Nat) : Int)) } }

/-- The distance of two code phases around a primary code, in 1/16 chip. -/
def codeApart (sig a b : Nat) : Nat :=
  let n := codeChips sig * 16
  let d := if a < b then b - a else a - b
  min (d % n) (n - d % n)

/-- The Doppler of a peak, in 10 Hz. -/
def peakHz (k : BankPeak) : Int := k.doppler.toInt

/-- Whether a correlation lies in the cells of an entry, on a stream of its mask (R302, R304). -/
def inCells (s : State) (i : Nat) (k : BankPeak) : Bool :=
  let w := bankEntry s i
  let a := bankWindow s i
  let aided := decide (s.get GNS_CTL_bank_mode = 1)
  let off := peakHz k - (if aided then signedOf 12 (fieldOf a 11 0) else 0)
  bitAt w (35 + k.stream.val)
    && decide (2 * off.natAbs ≤ s.get GNS_BANK_CFG_bins * s.get GNS_BANK_CFG_bin_hz)
    && (!aided || decide (codeApart (fieldOf w 34 26) k.code.toNat (fieldOf a 39 22) ≤ 8 * fieldOf a 21 12))

/-- A peak takes its place among others of falling level. -/
def placePeak (k : BankPeak) : List BankPeak → List BankPeak
  | [] => [k]
  | x :: l => if x.level.toNat < k.level.toNat then k :: x :: l else x :: placePeak k l

/-- The peaks that an entry reports (R303): the three strongest above the threshold, none within 1.5 chips of a stronger one of its stream. -/
def entryPeaks (s : State) (i : Nat) (found : List BankPeak) : List BankPeak :=
  let sig := fieldOf (bankEntry s i) 34 26
  let above := found.filter (fun k => inCells s i k && decide (s.get GNS_BANK_THR_thr < k.level.toNat))
  let sorted := above.foldl (fun l k => placePeak k l) []
  (sorted.foldl (fun l k =>
    if l.any (fun x => decide (x.stream = k.stream) && decide (codeApart sig x.code.toNat k.code.toNat ≤ 24)) then l else l ++ [k]) []).take 3

/-- The first pair that tracks a signal and the code phase of its last record in 1/16 chip. -/
def trackedCode (s : State) (sig : Nat) : Option Nat :=
  match (List.range 128).find? (fun p => decide (pairState s p = 2) && decide (pairSignal s p = sig)) with
  | none => none
  | some p => (s.gpair p).last.map (fun x => x.code.toNat / 2 ^ 16)

/-- The secondary peaks of a tracked signal (R313): rank 2 or 3, more than 1.5 chips from the tracked code phase, and no more than peak_ratio below
the strongest. -/
def secondaries (s : State) (sig : Nat) (peaks : List BankPeak) : List BankPeak :=
  match trackedCode s sig, peaks with
  | some c, first :: rest => rest.filter (fun k =>
      decide (24 < codeApart sig k.code.toNat c) && decide ((first.level.toNat - k.level.toNat) * 5 ≤ 2 * s.get GNS_SPOOF_peak_ratio))
  | _, _ => []

/-- The secondary-peak test of an entry (R313): the signal is flagged where a secondary peak lies within 2 chips and 100 Hz of one that the
sweep before reported; a sweep without such a repeat lifts the flag (log 170). -/
def peakTest (s : State) (i sig : Nat) (peaks : List BankPeak) : State :=
  let now := secondaries s sig peaks
  let old := tabGet (fun _ => []) s.gns.second i
  let again := now.any (fun k => old.any (fun (e : Nat × BankPeak) =>
    decide (e.1 = sig) && decide (codeApart sig e.2.code.toNat k.code.toNat ≤ 32) && decide ((peakHz e.2 - peakHz k).natAbs ≤ 10)))
  let others := s.gns.flagged.filter (fun x => decide (x ≠ sig))
  { s with gns := { s.gns with second := tabSet (fun _ => []) s.gns.second i (now.map (fun k => (sig, k))),
                               flagged := if again then others ++ [sig] else others } }

/-- The strongest peak of an entry on antenna A is the one that its pairs pull in from (R298), and on a wake those that ran before are started aided
with its place (R317). -/
def peakFound (s : State) (sig : Nat) (peaks : List BankPeak) : State :=
  let top := peaks.find? (fun k => decide (k.stream.val < 2))
  let s := { s with gns := { s.gns with top := tabSet (fun _ => none) s.gns.top sig top } }
  match top with
  | none => s
  | some k =>
    (List.range 128).foldl (fun s p =>
      let g := s.gpair p
      if pairSignal s p ≠ sig then s
      else if pairState s p = 1 ∧ g.pullAt.isNone then s.setGpair p { g with pullAt := some s.steady }
      else if s.gns.wake = 2 ∧ pairState s p = 0 ∧ bitAt (s.pairCtl p) 0 ∧ houseRuns s 3 then
        pairAided s p (w40 (k.code.toNat * 2 ^ 22 + 2 * 2 ^ 12 + k.doppler.toNat))
      else s) s

/-- BANK_ENTRY_END (R303): the dwells of an entry are over, and up to three peaks above the threshold are pushed, the strongest first. -/
def execBankEntryEnd (peaks : List BankPeak) (s : State) : Out :=
  let i := s.gns.entry
  let cells := s.gns.cells + entryCells s i
  if !s.on GNS_STATUS_sweeping ∨ 256 ≤ i ∨ !s.passed s.gns.sweepAt (dwellNs s cells) then .next s
  else
    let sig := fieldOf (bankEntry s i) 34 26
    let kept := entryPeaks s i peaks
    let s := kept.zipIdx.foldl (fun s (k, r) =>
      gnsPush s (s.get GNS_FIFO_peak_fifo)
        [w40 (sig * 2 ^ 31 + k.stream.val * 2 ^ 29 + (r + 1) * 2 ^ 26 + k.code.toNat * 2 ^ 8),
         w40 (k.doppler.toNat * 2 ^ 28 + k.level.toNat * 2 ^ 20 + s.get GNS_BANK_SWEEPS_sweeps % 2 ^ 20)]) s
    let s := peakFound (if houseRuns s 3 then peakTest s i sig kept else s) sig kept
    .next { s with gns := { s.gns with entry := nextEntry s 256 (i + 1), cells := cells } }

/-- SWEEP_DONE (R302): every valid entry has been searched; the next sweep follows without a gap. -/
def execSweepDone (s : State) : Out :=
  let ns := dwellNs s s.gns.cells
  if s.on GNS_STATUS_sweeping ∧ 256 ≤ s.gns.entry ∧ s.gns.restart.isNone ∧ s.gns.cells ≠ 0 ∧ s.passed s.gns.sweepAt ns then
    let s := s.inc GNS_BANK_SWEEPS_sweeps
    .next (sweepStart ((s.put GNS_BANK_LAST_ms (ns / 1000000)).ev GNS_EVENTS_sweep_done) (t80Add s.gns.sweepAt (nsU ns : Nat)))
  else .next s

/-- BANK_RESTART (R304): the sweep ends with its dwell and the next one starts from entry 0. -/
def execBankRestart (s : State) : Out :=
  match s.gns.restart with
  | none => .next s
  | some t => if s.passed t 0 then .next (sweepStart s t) else .next s

/-- The effect of a GNS_CTL write: streams, sweeps and pairs follow their enables. -/
def gnsCtlWrite (w : Word) (s : State) : Out :=
  let old := s.rd GNS_CTL
  let s := plainWrite s GNS_CTL w
  let s := (List.range 4).foldl (fun s m =>
    if bitAt w (4 + m) then s
    else
      let oks := s.get GNS_STATUS_str_ok
      (s.putB (GSTm_STATUS_ok m) false).put GNS_STATUS_str_ok (oks - Nat.land oks (2 ^ m))) s
  let s := if fieldOf w 2 1 ≠ fieldOf old 2 1 then bankRestart s else s
  let run := bitAt w 0 && bitAt w 3
  let s := if run && !s.on GNS_STATUS_sweeping then sweepStart s s.steady
    else if !run then s.putB GNS_STATUS_sweeping false else s
  .next (if bitAt w 0 then s
    else (List.range 128).foldl (fun s p => if pairState s p = 0 then s else s.setPairStat p 0) s)

/-- The effect of a write of the bank list entry or window that GNS_BANK_LIST_IDX selects (R297, R304): a valid entry of a reserved signal is
rejected by name. -/
def bankWrite (window : Bool) (w : Word) (s : State) : Out :=
  let i := s.get GNS_BANK_LIST_IDX_idx
  if window then .next { s with gns := { s.gns with aid := tabSet (fun _ => 0) s.gns.aid i w } }
  else if bitAt w 39 && !signalOk (fieldOf w 34 26) then .fault .reservedValue
  else
    let s := if s.on GNS_CTL_bank_en then bankRestart s else s
    .next { s with gns := { s.gns with list := tabSet (fun _ => 0) s.gns.list i w } }

/-- The effect of a GNS_CH_AID write. -/
def chAidWrite (w : Word) (s : State) : Out :=
  .next { s with gns := { s.gns with chAid := tabSet (fun _ => 0) s.gns.chAid (s.get GNS_CH_IDX_pair) w } }

/-- The effect of a GSTm_CFG or GSTm_IF write: ignored while the stream is enabled (R320). -/
def gstWrite (m a : Nat) (w : Word) (s : State) : Out :=
  if (s.get GNS_CTL_str_en).testBit m ∧ a % 256 ≤ 1 then .next s else .next (plainWrite s a w)

/-! ## Kept data (R306) -/

/-- The address moves on after an access. -/
def keepNext (s : State) : State := s.put GNS_KEEP_ADDR_addr (s.get GNS_KEEP_ADDR_addr + 1)

/-- The kept word that GNS_KEEP_ADDR selects. -/
def keepWord (s : State) : Word := tabGet (fun _ => 0) s.gnsKeep (s.get GNS_KEEP_ADDR_addr)

/-- The effect of a GNS_KEEP_DATA write. -/
def keepWrite (w : Word) (s : State) : Out :=
  .next (keepNext { s with gnsKeep := tabSet (fun _ => 0) s.gnsKeep (s.get GNS_KEEP_ADDR_addr) w })

/-- KEEP_DATA_ACCESS (R306): a read or a write of GNS_KEEP_DATA; what a read returns goes to its reader. -/
def execKeepDataAccess (m : Master) (write : Bool) (w : Word) (s : State) : Out :=
  if write then writeReg m GNS_KEEP_DATA w (keepWrite w) s else readReg m GNS_KEEP_DATA keepNext s

/-! ## The navigation function (R305 to R317) -/

/-- The bank mode is changed by the navigation function. -/
def navBank (s : State) (mode : Nat) : State :=
  if s.get GNS_CTL_bank_mode = mode then s else (bankRestart s).put GNS_CTL_bank_mode mode

/-- The streams in use for a signal, as a mask (R304). -/
def streamsFor (s : State) (sig : Nat) : Nat := Nat.land (s.get GNS_CTL_str_en) (if signalL5 sig then 10 else 5)

/-- The signals that a sweep covers (R304): the tracked ones, and those that the orbits predict above the mask. -/
def navSignals (s : State) : List Nat :=
  let tracked := ((List.range 128).filter (fun p => decide (pairState s p = 2))).map (pairSignal s)
  ((tracked ++ s.gns.aims.map (fun a => a.signal.toNat)).eraseDups.filter signalOk).take 256

/-- The uncertainty of the best time available, in ps (R305): B_pub of a valid time, otherwise 200 ppm of the time since the kept fix, which the
slow clock counts (log 1); none where no kept fix is good. -/
def timeUnc (s : State) : Option Nat × State :=
  if s.on TB_STATUS_time_valid then (some (s.rd GLZ_B).toNat, s)
  else
    let ws := (List.range 3).map (fun i => tabGet (fun _ => (0 : Word)) s.gnsKeep (Config.keptFix.toNat + i))
    let crc := tabGet (fun _ => (0 : Word)) s.gnsKeep (Config.keptFix.toNat + 3)
    if crc.toNat ≠ crcWords ws then (none, s)
    else
      let (secs, s) := s.free
      (some (secs.toNat * 200000000), s)

/-- The half-width of the window of a signal, in half-chips (R305): time, position and orbit uncertainty with one half-chip of margin. -/
def aimHalf (s : State) (tunc : Nat) (a : GnsAim) : Nat :=
  let sig := a.signal.toNat
  let place := ceilDiv (s.get GNS_POS_CFG_pos_unc * 1000000000) 299792458
  min 1023 (ceilDiv ((tunc + place + a.orbit.toNat) * 2 * codeChips sig) (codeMs sig * 1000000000) + 1)

/-- The bank list as the navigation function writes it: the signals to cover, and the windows of those that the orbits predict. -/
def navFill (s : State) (tunc : Nat) : State :=
  let s := if s.on GNS_CTL_bank_en then bankRestart s else s
  let sigs := navSignals s
  let list := sigs.zipIdx.foldl (fun (t : Tab Word) (sig, i) =>
    tabSet (fun _ => 0) t i (w40 (2 ^ 39 + streamsFor s sig * 2 ^ 35 + sig * 2 ^ 26))) []
  let aid := sigs.zipIdx.foldl (fun (t : Tab Word) (sig, i) =>
    match s.gns.aims.find? (fun a => decide (a.signal.toNat = sig)) with
    | none => t
    | some a => tabSet (fun _ => 0) t i (w40 (a.code.toNat * 2 ^ 22 + aimHalf s tunc a * 2 ^ 12 + a.doppler.toNat))) s.gns.aid
  { s with gns := { s.gns with list := list, aid := aid } }

/-- Whether some signal to cover is not in the bank list. -/
def navGap (s : State) : Bool :=
  (navSignals s).any (fun sig =>
    !(List.range 256).any (fun i => bitAt (bankEntry s i) 39 && decide (fieldOf (bankEntry s i) 34 26 = sig)))

/-- The class of a start by the age of the orbits, the time's uncertainty and the position (R305): 0 hot, 1 warm, 2 cold. -/
def startClass (s : State) (tunc : Option Nat) : Nat :=
  match tunc with
  | none => 2
  | some t =>
    if !s.on GNS_POS_CFG_pos_valid then 2
    else if s.gns.orbits = 0 ∧ t ≤ 10000000 then 0
    else if s.gns.orbits ≤ 1 ∧ t ≤ 2000000000000 then 1
    else 2

/-- Sketch mode is begun (R305): an aided search, or a full one for a cold start. -/
def navSketch (s : State) : State :=
  let (tunc, s) := timeUnc s
  let s := navFill s (tunc.getD 0)
  navBank { s with gns := { s.gns with started := true, fixFrom := none } } (if startClass s tunc = 2 then 0 else 1)

/-- Step 3 of a wake (R317): with every enabled stream ok the search begins. -/
def navWake (s : State) : State :=
  let en := s.get GNS_CTL_str_en
  if s.gns.wake ≠ 1 ∨ Nat.land en (s.get GNS_STATUS_str_ok) ≠ en ∨ !houseRuns s 3 then s
  else
    let s := { s with gns := { s.gns with wake := 2 } }
    navSketch (houseDo s (gnsCtlWrite (putField (putField (s.rd GNS_CTL) 0 0 1) 3 3 1)))

/-- STREAM_CLEAR (R296): 10 ms without a fault. The navigation function restarts the pairs the stream had lost, aided, in sketch mode (R305);
on a wake the search begins with the last stream (R317). -/
def execStreamClear (m : Fin 4) (sat rms : BitVec 8) (s : State) : Out :=
  let quiet := match tabGet (fun _ => none) s.gns.faultAt m with | none => true | some t => s.passed t 10000000
  if !domainOn s 4 ∨ !(s.get GNS_CTL_str_en).testBit m ∨ !quiet then .next s
  else
    let s := (s.put (GSTm_STATUS_sat m) sat.toNat).put (GSTm_STATUS_rms m) rms.toNat
    let s := s.putB GNS_STATUS_dclk_ok true
    let s := s.putB (GSTm_STATUS_ok m) true
    let s := s.put GNS_STATUS_str_ok (Nat.lor (s.get GNS_STATUS_str_ok) (2 ^ m.val))
    let s := { s with gns := { s.gns with faultAt := tabSet (fun _ => none) s.gns.faultAt m none } }
    if !houseRuns s 3 then .next s
    else
      let lost := (List.range 128).filter (fun p =>
        decide (pairState s p = 3) && bitAt (s.pairCtl p) 0 && decide ((s.gpair p).lostBy = some m.val))
      let s := if lost.isEmpty then s else navSketch s
      .next (navWake (lost.foldl (fun s p =>
        let at_ := s.gns.aims.find? (fun a => decide (a.signal.toNat = pairSignal s p))
        pairAided s p (match at_ with
          | none => tabGet (fun _ => 0) s.gns.chAid p
          | some a => w40 (a.code.toNat * 2 ^ 22 + aimHalf s (s.rd GLZ_B).toNat a * 2 ^ 12 + a.doppler.toNat))) s))

/-- The qrank that slot 9 advertises for a fix (R307). -/
def navRank (fix : Nat) : Nat := if fix = 2 then 2 else if fix = 1 then 3 else 15

/-- PAL_S9_ADV for a fix. -/
def navAdv (fix rank : Nat) : Word := w40 (5 * 2 ^ 16 + fix * 2 ^ 8 + rank)

/-- The system of a signal: 0 GPS, 1 Galileo, 2 BeiDou (R297). -/
def signalSystem (sig : Nat) : Nat := sig / 128

/-- The consistent signals that may be used (R307, R319): tracked at the C/N0 mask or above, of a system and a band in use. -/
def navUsable (s : State) (x : GnsFix) : List Nat :=
  (x.signals.map BitVec.toNat).eraseDups.filter (fun sig =>
    signalOk sig && (s.get GNS_SYS_sys).testBit (signalSystem sig) && (!signalL5 sig || (s.get GNS_SYS_l5).testBit (signalSystem sig))
      && (List.range 128).any (fun p => decide (pairState s p = 2) && decide (pairSignal s p = sig)
          && decide (s.get GNS_MASKS_cn0 ≤ fieldOf (s.pairStat p) 16 10)))

/-- Those of the usable signals that no secondary peak has flagged (R313). -/
def navUsed (s : State) (usable : List Nat) : List Nat := usable.filter (fun sig => !s.gns.flagged.contains sig)

/-- The systems of some signals, as R310 numbers them: those with a signal at all, or (`dual`) with signals of both bands. -/
def navSystems (used : List Nat) (dual : Bool) : Nat :=
  ((List.range 3).map (fun y =>
    let mine := used.filter (fun sig => decide (signalSystem sig = y))
    b2n (!mine.isEmpty && (!dual || (mine.any signalL5 && mine.any (fun sig => !signalL5 sig)))) * 2 ^ y)).foldl (· + ·) 0

/-- The ionosphere's part (R309): half the modelled delay and never less than 5 ns where a system goes by its broadcast model. -/
def ionoPart (used : List Nat) (iono : Nat) : Nat :=
  if navSystems used true = navSystems used false then iono else max 5000 (ceilDiv iono 2)

/-- Slot 9's terms and sample for one second (R307, R309 to R311): the terms before the sample (R224). -/
def navFeed (s : State) (fix : Nat) (used : List Nat) (x : GnsFix) : State :=
  let s := houseDo s (advWrite 9 (navAdv fix (navRank fix)))
  if fix = 0 then s
  else
    let bound := x.space.toNat + ionoPart used x.iono.toNat + x.tropo.toNat + x.noise.toNat + x.projected.toNat + x.realise.toNat
    let s := (s.wr (PAL_Sn_BOUND 9) (w40 bound)).wr (GLZ_Sn_MEAS 9) (w40 (x.port.toNat + x.loop.toNat + x.variation.toNat))
    let s := s.wr (GLZ_Sn_ASYM 9) (w40 (x.delayCal.toNat + x.antenna.toNat))
    let s := (s.put (GLZ_Sn_UP_HI_kind 9) 3).put (GLZ_Sn_UP_HI_id_hi 9) 0
    let s := houseDo s (upLoWrite 9 (w40 (navSystems used true * 8 + navSystems used false)))
    let s := houseDo s (calWrite 9 (putField (s.rd (GLZ_Sn_CAL 9)) 39 32 0))
    feedSlot s 9 (((s.now.sec : Int) - (x.tai.toNat : Int)) * unitsPerSec + sgn x.sample)

/-- The broadcast leap-second count and announcement reach the ToD and IRIG-B function (R312). -/
def navLeap (s : State) (x : GnsFix) : State :=
  match x.utc with
  | none => s
  | some u =>
    if houseRuns s 11 then
      let s := (s.put TB_UTC_OFS_ofs u.toNat).putB TB_LEAP_utc_valid true
      (s.putB TB_LEAP_leap61 (decide (x.ann.val = 1))).putB TB_LEAP_leap59 (decide (x.ann.val = 2))
    else s

/-- Sketch mode, the bank list and the survey as the solution leaves them (R304, R305, R308). -/
def navModes (s : State) (fix : Nat) (n : Nat) : State :=
  let since := fun (b : Bool) (o : Option T80) => if b then some (o.getD s.steady) else none
  let fixFrom := since (decide (fix = 2)) s.gns.fixFrom
  let fewFrom := since (decide (s.get GNS_STATUS_tracked < 4)) s.gns.fewFrom
  let s := { s with gns := { s.gns with fixFrom := fixFrom, fewFrom := fewFrom } }
  let after := fun (o : Option T80) => match o with | none => false | some t => s.passed t 10000000000
  let s := if s.on GNS_NAV_STATUS_test then (navSketch s).putB GNS_NAV_STATUS_test false
    else if !s.gns.started then navSketch s
    else if after fewFrom then navSketch { s with gns := { s.gns with fewFrom := some s.steady } }
    else if after fixFrom then (let s := navBank s 0; if navGap s then navFill s (s.rd GLZ_B).toNat else s)
    else s
  if !s.on GNS_POS_CFG_pos_valid ∧ !s.on GNS_NAV_STATUS_surveying ∧ 4 ≤ n then
    { s with gns := { s.gns with surveyAt := some s.steady } }.putB GNS_NAV_STATUS_surveying true
  else s

/-- The circular spread of phases in 2^-16 cycle (R314): the shortest arc that holds them all (log 170). -/
def circularSpread (xs : List Nat) : Nat :=
  let sorted := xs.foldl (fun l x => l.filter (fun y => decide (y ≤ x)) ++ [x] ++ l.filter (fun y => decide (x < y))) []
  match sorted with
  | [] => 65536
  | x :: rest =>
    let (last, gap) := rest.foldl (fun (acc : Nat × Nat) y => (y, max acc.2 (y - acc.1))) (x, 0)
    65536 - max gap (x + 65536 - last)

/-- For one more second the spread of a band is evaluated (R314): `l5` the band; with a baseline set and antenna B's stream enabled. -/
def doaSecond (s : State) (l5 : Bool) : State :=
  let b := b2n l5
  let phases := (List.range 128).filterMap (fun p =>
    match (s.gpair p).last with
    | none => none
    | some x => if pairState s p = 2 ∧ signalL5 (pairSignal s p) = l5 ∧ x.whole then some x.dphi.toNat else none)
  let low := decide (s.get GNS_BASELINE_base_mm ≠ 0) && (s.get GNS_CTL_str_en).testBit (2 + b)
    && decide (s.get GNS_SPOOF_min_doa ≤ phases.length)
    && decide (circularSpread phases * 1000 < s.get GNS_SPOOF_doa_spread * 65536)
  let run := if low then tabGet (fun _ => 0) s.gns.doaRun b + 1 else 0
  { s with gns := { s.gns with doaRun := tabSet (fun _ => 0) s.gns.doaRun b run } }

/-- Whether the direction-of-arrival test (`doa`) or the secondary-peak test raises its alarm (R314, R315). -/
def spoofDue (s : State) (doa : Bool) : Bool :=
  if doa then (List.range 2).any (fun b => decide (5 ≤ tabGet (fun _ => 0) s.gns.doaRun b))
  else decide ((navUsed s s.gns.signals).length < s.gns.signals.length) && decide ((navUsed s s.gns.signals).length < 4)

/-- The last timing fix is written to the kept area once a minute, with its T80, the slow-clock count and their CRC-32C (R306; log 172). -/
def keepFix (s : State) : State :=
  let due := match s.gns.keptAt with | none => true | some t => s.passed t 60000000000
  if !due then s
  else
    let (slow, s) := s.free
    let ws := [T80hi s.now, T80lo s.now, slow]
    let keep := (ws ++ [w40 (crcWords ws)]).zipIdx.foldl (fun t (w, i) => tabSet (fun _ => 0) t (Config.keptFix.toNat + i) w) s.gnsKeep
    { s with gns := { s.gns with keptAt := some s.steady }, gnsKeep := keep }

/-- TIMING_SOLUTION (R307): the solution for the TAI second just ended, once a second and within 200 ms after it (R310). While the GNSS is
asleep only the orbits are followed. -/
def execTimingSolution (x : GnsFix) (s : State) : Out :=
  if !houseRuns s 3 ∨ !domainOn s 4 ∨ s.gns.solved = some s.tb.sec ∨ 200000000 < s.tb.ns then .next s
  else
    let s := { s with gns := { s.gns with solved := some s.tb.sec, orbits := x.orbits.val, aims := x.aims } }
    if s.on GNS_NAV_STATUS_asleep then .next s
    else
      let s := doaSecond (doaSecond s false) true
      let usable := navUsable s x
      let used := navUsed s usable
      let n := used.length
      let s := { s with gns := { s.gns with signals := usable } }
      let due := spoofDue s true || spoofDue s false
      let alarm := s.on GNS_NAV_STATUS_doa_alarm || s.on GNS_NAV_STATUS_peak_alarm || due
      let valid := s.on GNS_POS_CFG_pos_valid
      let fix := if alarm ∨ n = 0 ∨ !(s.get GNS_STATUS_str_ok).testBit 0 then 0
        else if valid ∧ 4 ≤ n then 2
        else if valid ∨ (s.on GNS_NAV_STATUS_surveying ∧ 4 ≤ n) then 1 else 0
      let clear := if due ∨ !s.gns.flagged.isEmpty then none else some (s.gns.clearFrom.getD s.steady)
      let s := { s with gns := { s.gns with clearFrom := clear } }
      let s := navModes s fix n
      let s := (s.put GNS_NAV_STATUS_used n).put GNS_NAV_STATUS_fix fix
      let s := navLeap (navFeed s fix used x) x
      let s := if fix = 2 then keepFix s else s
      .next (if fix = 2 ∧ s.gns.wake = 2 then
        let s := { s with gns := { s.gns with wake := 0 } }
        houseDo s (palHeldWrite (PAL_Sn_CFG 9) (putField (s.rd (PAL_Sn_CFG 9)) 0 0 1)) else s)

/-- SURVEY_END (R308): the weighted mean of the survey becomes the position. -/
def execSurveyEnd (x y z : Word) (unc : BitVec 32) (s : State) : Out :=
  match s.gns.surveyAt with
  | none => .next s
  | some t =>
    if s.on GNS_NAV_STATUS_surveying ∧ houseRuns s 3 ∧ s.passed t (s.get GNS_SURVEY_survey_s * 1000000000) then
      let s := ((s.wr GNS_POS_X x).wr GNS_POS_Y y).wr GNS_POS_Z z
      let s := s.wr GNS_POS_CFG (w40 (2 ^ 32 + unc.toNat))
      .next ({ s with gns := { s.gns with surveyAt := none } }.putB GNS_NAV_STATUS_surveying false)
    else .next s

/-- SPOOF_ALARM (R315): the direction-of-arrival test (`doa`) or the secondary-peak test raises its alarm. -/
def execSpoofAlarm (doa : Bool) (s : State) : Out :=
  if !houseRuns s 3 ∨ !spoofDue s doa then .next s
  else
    let s := houseDo s (advWrite 9 (putField (s.rd (PAL_Sn_ADV 9)) 3 0 15))
    let s := houseDo s (palFault 9 true)
    let s := s.putB (if doa then GNS_NAV_STATUS_doa_alarm else GNS_NAV_STATUS_peak_alarm) true
    .next (raiseSrc { s with gns := { s.gns with clearFrom := none } } 111 none)

/-- SPOOF_CLEAR (R315): both tests have stayed clear for hold_s. -/
def execSpoofClear (s : State) : Out :=
  match s.gns.clearFrom with
  | none => .next s
  | some t =>
    if (s.on GNS_NAV_STATUS_doa_alarm ∨ s.on GNS_NAV_STATUS_peak_alarm) ∧ houseRuns s 3
        ∧ s.passed t (s.get GNS_SPOOF_HOLD_hold_s * 1000000000) then
      let s := (s.putB GNS_NAV_STATUS_doa_alarm false).putB GNS_NAV_STATUS_peak_alarm false
      .next (houseDo s (palFault 9 false))
    else .next s

/-- Slot 9's lockout and enable as sentinel mode sets them. -/
def sentinelCfg (s : State) (lockout enable : Option Bool) : State :=
  let w := s.rd (PAL_Sn_CFG 9)
  let w := match lockout with | none => w | some b => putField w 3 3 (b2n b)
  let w := match enable with | none => w | some b => putField w 0 0 (b2n b)
  houseDo s (palHeldWrite (PAL_Sn_CFG 9) w)

/-- SENTINEL_SLEEP (R316): entered with the Palette locked to another slot, or on a standby; when awake in sentinel mode,
after awake_s. -/
def execSentinelSleep (s : State) : Out :=
  let other := decide (s.get PAL_STATE_state = 2) && s.on PAL_STATE_sel_valid && decide (s.get PAL_STATE_sel_slot ≠ 9)
  let due := !s.gns.sentinel || s.passed s.gns.sentAt (s.get GNS_SENT_awake_s * 1000000000)
  if houseRuns s 3 ∧ s.get GNS_SENT_period_s ≠ 0 ∧ !s.on GNS_NAV_STATUS_asleep ∧ due ∧ (other ∨ twStandby s) then
    let s := sentinelCfg s (some true) (some false)
    let w := putField (putField (s.rd GNS_CTL) 8 8 0) 0 0 0
    let s := houseDo s (gnsCtlWrite w)
    let s := s.putB GNS_NAV_STATUS_asleep true
    .next { s with gns := { s.gns with sentinel := true, wake := 0, sentAt := s.steady } }
  else .next s

/-- The GNSS wakes where it is asleep: fe_en is set, and the search waits for the streams (R317, steps 1 to 3). -/
def gnssWake (s : State) : State :=
  if !s.on GNS_NAV_STATUS_asleep then s
  else
    let s := (houseDo s (gnsCtlWrite (putField (s.rd GNS_CTL) 8 8 1))).putB GNS_NAV_STATUS_asleep false
    navWake { s with gns := { s.gns with wake := 1, sentAt := s.steady } }

/-- Sentinel mode is left at once, and lockout with it (R317, R451). -/
def sentinelExit (s : State) : State :=
  let s := gnssWake s
  sentinelCfg { s with gns := { s.gns with sentinel := false } } (some false) none

/-- Whether sentinel mode must be left at once (R317). -/
def sentinelLeave (s : State) : Bool :=
  s.gns.sentinel && !twStandby s && !(decide (s.get PAL_STATE_state = 2) && s.on PAL_STATE_sel_valid)

/-- SENTINEL_WAKE (R317): every period_s, or at once when the selected slot fails or the Palette leaves LOCKED; then
sentinel mode is left and lockout cleared. -/
def execSentinelWake (s : State) : Out :=
  let due := s.on GNS_NAV_STATUS_asleep && s.passed s.gns.sentAt (s.get GNS_SENT_period_s * 1000000000)
  if !houseRuns s 3 then .next s
  else if sentinelLeave s then .next (sentinelExit s)
  else if due then .next (gnssWake s)
  else .next s

end Sys2Proof.Machine
end

