-- ==== Sys2Proof/Machine/Crypto.lean ====
section
/-! DEFINITION. The cryptographic functions the spec names, as their published standards define them (log 6): SHA-256 and
SHA-384 (FIPS 180-4), HMAC (RFC 2104), AES (FIPS 197), AES-CMAC (RFC 4493), AES-SIV (RFC 5297), AES key unwrap (RFC 3394),
and the curve P-384 with ECDH and ECDSA (FIPS 186-5). The spec's rules that name them are R338, R343, R344, R360, R361,
R374 and R375. Messages, keys and results are lists of octets. -/

namespace Sys2Proof.Machine

/-- The `n`-octet pieces of a message in order, the last one as long as what is left. -/
def pieces (n : Nat) (m : List Nat) : List (List Nat) :=
  (List.range ((m.length + n - 1) / n)).map (fun i => octets m (n * i) n)

/-- The bitwise exclusive or of two octet strings. -/
def xorOctets (a b : List Nat) : List Nat := List.zipWith Nat.xor a b

/-! ## Hashes -/

/-- What distinguishes the members of the SHA-2 family: the word's width and octets, the rotations of the two sums, the
rotations and the shift of the two schedule functions, the round constants, the first chaining value and the octets given. -/
structure ShaParams where
  bits : Nat
  sumA : Nat × Nat × Nat
  sumE : Nat × Nat × Nat
  sched0 : Nat × Nat × Nat
  sched1 : Nat × Nat × Nat
  consts : List Nat
  start : List Nat
  out : Nat

/-- The round constants of SHA-256. -/
def sha256Consts : List Nat :=
  [0x428a2f98, 0x71374491, 0xb5c0fbcf, 0xe9b5dba5, 0x3956c25b, 0x59f111f1, 0x923f82a4, 0xab1c5ed5] ++
  [0xd807aa98, 0x12835b01, 0x243185be, 0x550c7dc3, 0x72be5d74, 0x80deb1fe, 0x9bdc06a7, 0xc19bf174] ++
  [0xe49b69c1, 0xefbe4786, 0x0fc19dc6, 0x240ca1cc, 0x2de92c6f, 0x4a7484aa, 0x5cb0a9dc, 0x76f988da] ++
  [0x983e5152, 0xa831c66d, 0xb00327c8, 0xbf597fc7, 0xc6e00bf3, 0xd5a79147, 0x06ca6351, 0x14292967] ++
  [0x27b70a85, 0x2e1b2138, 0x4d2c6dfc, 0x53380d13, 0x650a7354, 0x766a0abb, 0x81c2c92e, 0x92722c85] ++
  [0xa2bfe8a1, 0xa81a664b, 0xc24b8b70, 0xc76c51a3, 0xd192e819, 0xd6990624, 0xf40e3585, 0x106aa070] ++
  [0x19a4c116, 0x1e376c08, 0x2748774c, 0x34b0bcb5, 0x391c0cb3, 0x4ed8aa4a, 0x5b9cca4f, 0x682e6ff3] ++
  [0x748f82ee, 0x78a5636f, 0x84c87814, 0x8cc70208, 0x90befffa, 0xa4506ceb, 0xbef9a3f7, 0xc67178f2]

/-- The round constants of SHA-384. -/
def sha512Consts : List Nat :=
  [0x428a2f98d728ae22, 0x7137449123ef65cd, 0xb5c0fbcfec4d3b2f, 0xe9b5dba58189dbbc] ++
  [0x3956c25bf348b538, 0x59f111f1b605d019, 0x923f82a4af194f9b, 0xab1c5ed5da6d8118] ++
  [0xd807aa98a3030242, 0x12835b0145706fbe, 0x243185be4ee4b28c, 0x550c7dc3d5ffb4e2] ++
  [0x72be5d74f27b896f, 0x80deb1fe3b1696b1, 0x9bdc06a725c71235, 0xc19bf174cf692694] ++
  [0xe49b69c19ef14ad2, 0xefbe4786384f25e3, 0x0fc19dc68b8cd5b5, 0x240ca1cc77ac9c65] ++
  [0x2de92c6f592b0275, 0x4a7484aa6ea6e483, 0x5cb0a9dcbd41fbd4, 0x76f988da831153b5] ++
  [0x983e5152ee66dfab, 0xa831c66d2db43210, 0xb00327c898fb213f, 0xbf597fc7beef0ee4] ++
  [0xc6e00bf33da88fc2, 0xd5a79147930aa725, 0x06ca6351e003826f, 0x142929670a0e6e70] ++
  [0x27b70a8546d22ffc, 0x2e1b21385c26c926, 0x4d2c6dfc5ac42aed, 0x53380d139d95b3df] ++
  [0x650a73548baf63de, 0x766a0abb3c77b2a8, 0x81c2c92e47edaee6, 0x92722c851482353b] ++
  [0xa2bfe8a14cf10364, 0xa81a664bbc423001, 0xc24b8b70d0f89791, 0xc76c51a30654be30] ++
  [0xd192e819d6ef5218, 0xd69906245565a910, 0xf40e35855771202a, 0x106aa07032bbd1b8] ++
  [0x19a4c116b8d2d0c8, 0x1e376c085141ab53, 0x2748774cdf8eeb99, 0x34b0bcb5e19b48a8] ++
  [0x391c0cb3c5c95a63, 0x4ed8aa4ae3418acb, 0x5b9cca4f7763e373, 0x682e6ff3d6b2b8a3] ++
  [0x748f82ee5defb2fc, 0x78a5636f43172f60, 0x84c87814a1f0ab72, 0x8cc702081a6439ec] ++
  [0x90befffa23631e28, 0xa4506cebde82bde9, 0xbef9a3f7b2c67915, 0xc67178f2e372532b] ++
  [0xca273eceea26619c, 0xd186b8c721c0c207, 0xeada7dd6cde0eb1e, 0xf57d4f7fee6ed178] ++
  [0x06f067aa72176fba, 0x0a637dc5a2c898a6, 0x113f9804bef90dae, 0x1b710b35131c471b] ++
  [0x28db77f523047d84, 0x32caab7b40c72493, 0x3c9ebe0a15c9bebc, 0x431d67c49c100d4c] ++
  [0x4cc5d4becb3e42b6, 0x597f299cfc657e2a, 0x5fcb6fab3ad6faec, 0x6c44198c4a475817]

def sha256Params : ShaParams :=
  { bits := 32, sumA := (2, 13, 22), sumE := (6, 11, 25), sched0 := (7, 18, 3), sched1 := (17, 19, 10),
    consts := sha256Consts, out := 32,
    start := [0x6a09e667, 0xbb67ae85, 0x3c6ef372, 0xa54ff53a, 0x510e527f, 0x9b05688c, 0x1f83d9ab, 0x5be0cd19] }

def sha384Params : ShaParams :=
  { bits := 64, sumA := (28, 34, 39), sumE := (14, 18, 41), sched0 := (1, 8, 7), sched1 := (19, 61, 6),
    consts := sha512Consts, out := 48,
    start := [0xcbbb9d5dc1059ed8, 0x629a292a367cd507, 0x9159015a3070dd17, 0x152fecd8f70e5939,
             0x67332667ffc00b31, 0x8eb44a8768581511, 0xdb0c2e0d64f98fa7, 0x47b5481dbefa4fa4] }

/-- Rotation right by `n` of a word of `w` bits. -/
def rotr (w x n : Nat) : Nat := ((x >>> n) ||| (x <<< (w - n))) % 2 ^ w

def shaSum (w : Nat) (r : Nat × Nat × Nat) (x : Nat) : Nat := rotr w x r.1 ^^^ rotr w x r.2.1 ^^^ rotr w x r.2.2

def shaSched (w : Nat) (r : Nat × Nat × Nat) (x : Nat) : Nat := rotr w x r.1 ^^^ rotr w x r.2.1 ^^^ (x >>> r.2.2)

/-- The rounds: the working variables, and the next sixteen words of the schedule. -/
def shaRounds (p : ShaParams) : List Nat → List Nat → List Nat → List Nat
  | k :: ks, [a, b, c, d, e, f, g, h], w :: ws =>
    let m := 2 ^ p.bits
    let ch := (e &&& f) ^^^ ((m - 1 - e) &&& g)
    let maj := (a &&& b) ^^^ (a &&& c) ^^^ (b &&& c)
    let t1 := h + shaSum p.bits p.sumE e + ch + k + w
    let t2 := shaSum p.bits p.sumA a + maj
    let new := (shaSched p.bits p.sched1 (ws.getD 13 0) + ws.getD 8 0 + shaSched p.bits p.sched0 (ws.getD 0 0) + w) % m
    shaRounds p ks [(t1 + t2) % m, a, b, c, (d + t1) % m, e, f, g] (ws ++ [new])
  | _, v, _ => v

/-- One block into the chaining value. -/
def shaBlock (p : ShaParams) (v block : List Nat) : List Nat :=
  List.zipWith (fun a b => (a + b) % 2 ^ p.bits) v (shaRounds p p.consts v ((pieces (p.bits / 8) block).map beNum))

/-- The digest of a message: padded with a one bit, zeros and its length in bits. -/
def shaDigest (p : ShaParams) (m : List Nat) : List Nat :=
  let block := 2 * p.bits
  let len := p.bits / 4
  let zeros := (2 * block - 1 - len - m.length % block) % block
  let padded := m ++ [0x80] ++ List.replicate zeros 0 ++ beBytes len (8 * m.length)
  (((pieces block padded).foldl (shaBlock p) p.start).flatMap (beBytes (p.bits / 8))).take p.out

@[irreducible] def sha256 (m : List Nat) : List Nat := shaDigest sha256Params m

@[irreducible] def sha384 (m : List Nat) : List Nat := shaDigest sha384Params m

/-- HMAC-SHA-256 of a message under a key (R360, R361). -/
@[irreducible] def hmacSha256 (key m : List Nat) : List Nat :=
  let k := if 64 < key.length then sha256 key else key
  let k := k ++ List.replicate (64 - k.length) 0
  sha256 (k.map (Nat.xor 0x5C) ++ sha256 (k.map (Nat.xor 0x36) ++ m))

/-! ## AES -/

/-- The AES substitution table, sixteen octets a row. -/
def aesSboxRows : List Nat :=
  [0x637c777bf26b6fc53001672bfed7ab76, 0xca82c97dfa5947f0add4a2af9ca472c0] ++
  [0xb7fd9326363ff7cc34a5e5f171d83115, 0x04c723c31896059a071280e2eb27b275] ++
  [0x09832c1a1b6e5aa0523bd6b329e32f84, 0x53d100ed20fcb15b6acbbe394a4c58cf] ++
  [0xd0efaafb434d338545f9027f503c9fa8, 0x51a3408f929d38f5bcb6da2110fff3d2] ++
  [0xcd0c13ec5f974417c4a77e3d645d1973, 0x60814fdc222a908846eeb814de5e0bdb] ++
  [0xe0323a0a4906245cc2d3ac629195e479, 0xe7c8376d8dd54ea96c56f4ea657aae08] ++
  [0xba78252e1ca6b4c6e8dd741f4bbd8b8a, 0x703eb5664803f60e613557b986c11d9e] ++
  [0xe1f8981169d98e949b1e87e9ce5528df, 0x8ca1890dbfe6426841992d0fb054bb16]

/-- The AES inverse substitution table, sixteen octets a row. -/
def aesInvSboxRows : List Nat :=
  [0x52096ad53036a538bf40a39e81f3d7fb, 0x7ce339829b2fff87348e4344c4dee9cb] ++
  [0x547b9432a6c2233dee4c950b42fac34e, 0x082ea16628d924b2765ba2496d8bd125] ++
  [0x72f8f66486689816d4a45ccc5d65b692, 0x6c704850fdedb9da5e154657a78d9d84] ++
  [0x90d8ab008cbcd30af7e45805b8b34506, 0xd02c1e8fca3f0f02c1afbd0301138a6b] ++
  [0x3a9111414f67dcea97f2cfcef0b4e673, 0x96ac7422e7ad3585e2f937e81c75df6e] ++
  [0x47f11a711d29c5896fb7620eaa18be1b, 0xfc563e4bc6d279209adbc0fe78cd5af4] ++
  [0x1fdda8338807c731b11210592780ec5f, 0x60517fa919b54a0d2de57a9f93c99cef] ++
  [0xa0e03b4dae2af5b0c8ebbb3c83539961, 0x172b047eba77d626e169146355210c7d]

/-- An octet of a table of sixteen rows. -/
def tableOctet (rows : List Nat) (b : Nat) : Nat := (rows.getD (b / 16) 0 >>> (8 * (15 - b % 16))) % 256

/-- The product of two octets in AES's field, the first of four bits. -/
def fieldMul (c b : Nat) : Nat :=
  let dbl := fun (x : Nat) => if x < 128 then 2 * x else (2 * x) ^^^ 0x11B
  let b2 := dbl b
  let b4 := dbl b2
  let b8 := dbl b4
  (if c.testBit 0 then b else 0) ^^^ (if c.testBit 1 then b2 else 0)
    ^^^ (if c.testBit 2 then b4 else 0) ^^^ (if c.testBit 3 then b8 else 0)

/-- A column times the circulant matrix whose first row is `row`. -/
def mixColumn (row col : List Nat) : List Nat :=
  (List.range 4).map (fun r => (List.range 4).foldl (fun acc j => acc ^^^ fieldMul (row.getD ((j + 4 - r) % 4) 0) (col.getD j 0)) 0)

def mixColumns (row st : List Nat) : List Nat := (pieces 4 st).flatMap (mixColumn row)

/-- The rows of the state rotated left, row r by r times `by` octets of a column's four. -/
def shiftRows (by4 : Nat) (st : List Nat) : List Nat :=
  (List.range 16).map (fun i => st.getD ((i + 4 * by4 * (i % 4)) % 16) 0)

/-- The key schedule: `n` further words, the words so far last first; `nk` words make the key. -/
def aesExpand (nk : Nat) : Nat → List (List Nat) → List (List Nat)
  | 0, ws => ws
  | n + 1, ws =>
    let i := ws.length
    let t := ws.getD 0 []
    let sub := fun (l : List Nat) => l.map (tableOctet aesSboxRows)
    let rcon := (List.range (i / nk - 1)).foldl (fun r _ => fieldMul 2 r) 1
    let t := if i % nk = 0 then xorOctets (sub (t.drop 1 ++ t.take 1)) [rcon, 0, 0, 0]
             else if 6 < nk ∧ i % nk = 4 then sub t else t
    aesExpand nk n (xorOctets (ws.getD (nk - 1) []) t :: ws)

/-- The round keys in order. -/
def aesKeys (key : List Nat) : List (List Nat) :=
  let nk := key.length / 4
  pieces 16 ((aesExpand nk (4 * (nk + 7) - nk) (pieces 4 key).reverse).reverse.flatMap id)

def aesRounds : List (List Nat) → List Nat → List Nat
  | [], st => st
  | [rk], st => xorOctets (shiftRows 1 (st.map (tableOctet aesSboxRows))) rk
  | rk :: rest, st => aesRounds rest (xorOctets (mixColumns [2, 3, 1, 1] (shiftRows 1 (st.map (tableOctet aesSboxRows)))) rk)

def aesInvRounds : List (List Nat) → List Nat → List Nat
  | [], st => st
  | [rk], st => xorOctets ((shiftRows 3 st).map (tableOctet aesInvSboxRows)) rk
  | rk :: rest, st =>
    aesInvRounds rest (mixColumns [14, 11, 13, 9] (xorOctets ((shiftRows 3 st).map (tableOctet aesInvSboxRows)) rk))

/-- One block enciphered. -/
@[irreducible] def aesEncrypt (key block : List Nat) : List Nat :=
  match aesKeys key with | [] => block | k :: ks => aesRounds ks (xorOctets block k)

/-- One block deciphered. -/
@[irreducible] def aesDecrypt (key block : List Nat) : List Nat :=
  match (aesKeys key).reverse with | [] => block | k :: ks => aesInvRounds ks (xorOctets block k)

/-- A block doubled in CMAC's field. -/
def blockDouble (b : List Nat) : List Nat :=
  let x := 2 * beNum b
  beBytes 16 (if x < 2 ^ 128 then x else x ^^^ 0x87)

/-- A block shorter than sixteen octets padded with a one bit and zeros. -/
def blockPad (b : List Nat) : List Nat := b ++ [0x80] ++ List.replicate (15 - b.length) 0

/-- AES-CMAC of a message (R360). -/
@[irreducible] def aesCmac (key m : List Nat) : List Nat :=
  let k1 := blockDouble (aesEncrypt key (List.replicate 16 0))
  let n := max 1 ((m.length + 15) / 16) - 1
  let last := m.drop (16 * n)
  let last := if last.length = 16 then xorOctets last k1 else xorOctets (blockPad last) (blockDouble k1)
  aesEncrypt key (xorOctets last ((pieces 16 (m.take (16 * n))).foldl (fun x b => aesEncrypt key (xorOctets x b)) (List.replicate 16 0)))

/-- The SIV of associated-data items and a plaintext (RFC 5297's S2V). -/
def sivTag (key : List Nat) (items : List (List Nat)) (plain : List Nat) : List Nat :=
  let d := items.foldl (fun d s => xorOctets (blockDouble d) (aesCmac key s)) (aesCmac key (List.replicate 16 0))
  aesCmac key (if plain.length < 16 then xorOctets (blockDouble d) (blockPad plain)
    else plain.take (plain.length - 16) ++ xorOctets (plain.drop (plain.length - 16)) d)

/-- The counter-mode stream of a SIV over a text. -/
def sivStream (key tag text : List Nat) : List Nat :=
  let q := (List.range 128).foldl (fun acc i => if i = 31 ∨ i = 63 then acc else acc + (if (beNum tag).testBit i then 2 ^ i else 0)) 0
  xorOctets text ((List.range ((text.length + 15) / 16)).flatMap (fun i => aesEncrypt key (beBytes 16 (q + i))))

/-- The tag and the ciphertext of a plaintext: the first half of the key is for the tag, the second for the stream (R361). -/
@[irreducible] def sivSeal (key : List Nat) (items : List (List Nat)) (plain : List Nat) : List Nat :=
  let half := key.length / 2
  let tag := sivTag (key.take half) items plain
  tag ++ sivStream (key.drop half) tag plain

/-- The plaintext of a tag and a ciphertext; none where the tag is not the plaintext's. -/
@[irreducible] def sivOpen (key : List Nat) (items : List (List Nat)) (input : List Nat) : Option (List Nat) :=
  let half := key.length / 2
  let plain := sivStream (key.drop half) (input.take 16) (input.drop 16)
  if sivTag (key.take half) items plain = input.take 16 then some plain else none

/-- One step of the unwrapping of `n` blocks, number `t` of 6n: the check block and the blocks. -/
def unwrapStep (kek : List Nat) (n : Nat) (x : List Nat × List (List Nat)) (t : Nat) : List Nat × List (List Nat) :=
  let i := (t + n - 1) % n
  let b := aesDecrypt kek (beBytes 8 (beNum x.1 ^^^ t) ++ x.2.getD i [])
  (b.take 8, x.2.set i (b.drop 8))

/-- AES key unwrap (R375): none where the check block is not as RFC 3394 has it. -/
@[irreducible] def keyUnwrap (kek wrapped : List Nat) : Option (List Nat) :=
  let n := wrapped.length / 8 - 1
  let x := ((List.range (6 * n)).reverse.map (· + 1)).foldl (unwrapStep kek n) (wrapped.take 8, pieces 8 (wrapped.drop 8))
  if x.1 = List.replicate 8 0xA6 then some (x.2.flatMap id) else none

/-! ## P-384 -/

/-- The prime of P-384's field, and its constant b (a is -3). -/
def p384Prime : Nat := 2 ^ 384 - 2 ^ 128 - 2 ^ 96 + 2 ^ 32 - 1
def p384B : Nat := 0xb3312fa7e23ee7e4988e056be3f82d19181d9c6efe8141120314088f5013875ac656398d8a2ed19d2a85c8edd3ec2aef

/-- The order of the P-384 group. -/
def p384Order : Nat :=
  0xFFFFFFFFFFFFFFFFFFFFFFFFFFFFFFFFFFFFFFFFFFFFFFFFC7634D81F4372DDF581A0DB248B0A77AECEC196ACCC52973

/-- The base point. -/
def p384Base : Nat × Nat :=
  (0xaa87ca22be8b05378eb1c71ef320ad746e1d3b628ba79b9859f741e082542a385502f25dbf55296c3a545e3872760ab7,
   0x3617de4a96262c6f5d9e98bf9292dc29f8f41dbd289a147ce9da3113b5f0b8c00a60b1ce1d7e819d7a431d7c90ea0e5f)

/-- x to the power e modulo m, over the lowest `n` bits of e. -/
def powMod (m : Nat) : Nat → Nat → Nat → Nat
  | 0, _, _ => 1 % m
  | n + 1, x, e => (if e % 2 = 1 then x else 1) * powMod m n (x * x % m) (e / 2) % m

/-- The inverse modulo an odd prime of 384 bits. -/
def invMod (m x : Nat) : Nat := powMod m 384 (x % m) (m - 2)

/-- The sum of two points; none is the point at infinity. -/
def pointAdd : Option (Nat × Nat) → Option (Nat × Nat) → Option (Nat × Nat)
  | none, q => q
  | p, none => p
  | some (x1, y1), some (x2, y2) =>
    let p := p384Prime
    if x1 = x2 ∧ (y1 + y2) % p = 0 then none
    else
      let l := if x1 = x2 then (3 * x1 * x1 + p - 3) * invMod p (2 * y1) % p
               else (y2 + p - y1) * invMod p (x2 + p - x1) % p
      let x3 := (l * l + 2 * p - x1 - x2) % p
      some (x3, (l * (x1 + p - x3) + p - y1) % p)

/-- A point taken d times, over the lowest `n` bits of d. -/
def pointMul : Nat → Nat → Option (Nat × Nat) → Option (Nat × Nat)
  | 0, _, _ => none
  | n + 1, d, q => pointAdd (if d % 2 = 1 then q else none) (pointMul n (d / 2) (pointAdd q q))

/-- The octets X ‖ Y of a point, and the point that 96 octets spell, where it lies on the curve. -/
def pointBytes : Option (Nat × Nat) → List Nat
  | none => List.replicate 96 0
  | some (x, y) => beBytes 48 x ++ beBytes 48 y
def bytesPoint (b : List Nat) : Option (Nat × Nat) :=
  let x := beNum (b.take 48)
  let y := beNum (b.drop 48)
  if b.length = 96 ∧ x < p384Prime ∧ y < p384Prime ∧ (y * y + 3 * x) % p384Prime = (x * x * x + p384B) % p384Prime
  then some (x, y) else none

/-- The public half of a scalar (R367). -/
@[irreducible] def p384Public (d : Nat) : List Nat := pointBytes (pointMul 384 d (some p384Base))

/-- The ECDH secret of a scalar and a peer's public half: the product's X; none where the octets spell no point (R375). -/
@[irreducible] def p384Shared (d : Nat) (peer : List Nat) : Option (List Nat) :=
  (bytesPoint peer).bind (fun q => (pointMul 384 d (some q)).map (fun r => beBytes 48 r.1))

/-- The ECDSA signature r ‖ s of a digest under a scalar, with the random number k (R360). -/
@[irreducible] def p384Sign (d : Nat) (digest : List Nat) (k : Nat) : List Nat :=
  let n := p384Order
  let r := ((pointMul 384 k (some p384Base)).getD (0, 0)).1 % n
  beBytes 48 r ++ beBytes 48 (invMod n k * (beNum (digest.take 48) + r * d) % n)

/-- Whether 96 octets are the signature of a digest by the owner of a public half (R360, R376). -/
@[irreducible] def p384Verify (key digest sig : List Nat) : Bool :=
  let n := p384Order
  let r := beNum (sig.take 48)
  let t := beNum (sig.drop 48)
  let w := invMod n t
  match bytesPoint key with
  | none => false
  | some q =>
    decide (sig.length = 96 ∧ 0 < r ∧ r < n ∧ 0 < t ∧ t < n)
      && match pointAdd (pointMul 384 (beNum (digest.take 48) * w % n) (some p384Base)) (pointMul 384 (r * w % n) (some q)) with
        | none => false
        | some (x, _) => decide (x % n = r)

end Sys2Proof.Machine
end

