-- ==== Sys2Proof/Machine/KvBase.lean ====
section
/-! DEFINITION. The key vault's handles: key derivation, what a handle holds, and the vault's status (R359 to R363, R384). -/

namespace Sys2Proof.Machine

/-! ## Derivation -/

/-- The octets of an ASCII label. -/
def ascii (t : String) : List Nat := t.toList.map Char.toNat

/-- KDF in counter mode (R361): `bits` of output from a parent key, a label and a context. -/
def kdfBytes (parent label ctx : List Nat) (bits : Nat) : List Nat :=
  ((List.range ((bits + 255) / 256)).flatMap (fun i =>
    hmacSha256 parent (beBytes 4 (i + 1) ++ label ++ [0] ++ ctx ++ beBytes 4 bits))).take (bits / 8)

/-- The output length of a kind in bits (R361). -/
def kindBits (kind : Nat) : Nat := if kind = 2 then 128 else if kind = 4 ∨ kind = 5 then 512 else 256

/-- The key of a kind derived from a parent (R361); a P-384 scalar is kept as 48 octets. -/
def deriveKey (parent : List Nat) (kind : Nat) (label ctx : List Nat) : List Nat :=
  let out := kdfBytes parent label (kind :: ctx) (kindBits kind)
  if kind = 4 ∨ kind = 5 then beBytes 48 (beNum out % (p384Order - 1) + 1) else out

/-- The device's UID as eight octets. -/
def uidBytes : List Nat := beBytes 4 Config.uidHi.toNat ++ beBytes 4 Config.uidLo.toNat

/-! ## Handles -/

/-- What the vault knows of a live handle (R359, R360): kind, key, epoch, permissions, whether it is an NTS master or a
session handle (with its engine), and whether only Keeper may use it. -/
structure KeyInfo where
  kind : Nat
  key : List Nat
  epoch : Nat
  perm : Nat
  master : Bool
  engine : Option Nat
  keeper : Bool

/-- The life-cycle state (R518). -/
def lifeCycle (s : State) : Nat := s.get LCY_STATE_state

/-- The life-cycle state that the fuses record (R518): the highest whose two fuses are both blown. -/
def fuseState (s : State) : Nat :=
  (List.range 5).foldl (fun acc t => if s.lcy.fuseA.contains t ∧ s.lcy.fuseB.contains t then t else acc) 0

/-- A root as the vault holds it; none while tampered or where the life cycle has destroyed it (R381, R522). -/
def rootSecret (s : State) (h : Nat) : Option (List Nat) :=
  if lifeCycle s = 4 then none
  else if h = 1 then some Config.deviceSecret
  else if s.on KV_STATUS_tampered ∨ lifeCycle s = 3 then none
  else if h = 2 then s.kv.pair
  else if h = 3 then s.kv.opRoot
  else none

/-- The Pair Secret, or its stand-in where none is installed (R359). -/
def pairOrStandIn (s : State) : Option (List Nat) :=
  match rootSecret s 2 with
  | some k => some k
  | none => if s.on KV_STATUS_tampered then none else (rootSecret s 1).map (fun d => deriveKey d 0 (ascii "PAIR-STANDIN") [])

/-- The live NTS epoch whose master lies at 0x010 + `i`: the current one or one of the two before it (R370). -/
def liveEpoch (s : State) (i : Nat) : Option Nat :=
  let e := s.get KV_NTS_EPOCH_epoch
  (List.range 3).findSome? (fun d => if d ≤ e ∧ (e - d) % 4 = i then some (e - d) else none)

/-- The handle that 0x00F stands for (R359). -/
def resolveAlias (s : State) (h : Nat) : Nat := if h = 0x00F then 0x010 + s.get KV_NTS_EPOCH_epoch % 4 else h

/-- The live key of a handle, none where there is none (R359). -/
def keyInfo (s : State) (h0 : Nat) : Option KeyInfo :=
  let h := resolveAlias s h0
  let mk := fun (kind : Nat) (key : List Nat) (epoch perm : Nat) (keeper : Bool) =>
    ({ kind := kind, key := key, epoch := epoch, perm := perm, master := false, engine := none, keeper := keeper } : KeyInfo)
  if 1 ≤ h ∧ h ≤ 3 then
    (rootSecret s h).map (fun k => mk 0 k (if h = 2 then s.kv.pairEpoch else if h = 3 then s.kv.opEpoch else 0) 0 true)
  else if h = 4 then (rootSecret s 1).map (fun d => mk 5 (deriveKey d 5 (ascii "TRANSPORT") []) 0 0 true)
  else if h = 5 then (pairOrStandIn s).map (fun p => mk 4 (deriveKey p 4 (ascii "ATTEST") uidBytes) s.kv.pairEpoch 0 true)
  else if h = 6 then (pairOrStandIn s).map (fun p => mk 1 (deriveKey p 1 (ascii "TWIN") []) s.kv.pairEpoch 0 true)
  else if 0x010 ≤ h ∧ h ≤ 0x013 then
    match liveEpoch s (h - 0x010), rootSecret s 2 with
    | some e, some p => some { mk 3 (deriveKey p 3 (ascii "NTS-MASTER") (beBytes 4 e)) e 2 false with master := true }
    | _, _ => none
  else if 0x100 ≤ h ∧ h ≤ 0x8FF then
    match s.kv.defs.find? (fun e => decide (e.1 = h)) with
    | none => none
    | some (_, d) => (rootSecret s d.parent).map (fun p =>
        mk d.kind (deriveKey p d.kind d.label (beBytes 2 h)) d.epoch d.perm (!d.perm.testBit 1))
  else if 0x900 ≤ h ∧ h ≤ 0xF7F then
    if s.on KV_STATUS_tampered then none
    else (s.kv.dyn.find? (fun e => decide (e.1 = h))).map (fun e => mk e.2.kind e.2.key e.2.epoch e.2.perm e.2.keeper)
  else if 0xF80 ≤ h ∧ h ≤ 0xFBF then
    if s.on KV_STATUS_tampered then none
    else (s.kv.sess.find? (fun e => decide (e.1 = h))).map (fun e =>
      { mk 3 e.2.key e.2.epoch 2 false with engine := some ((h - 0xF80) / 2) })
  else none

/-- The handles that may hold a live key, and those that do. -/
def handlesHeld (s : State) : List Nat :=
  ([1, 2, 3, 4, 5, 6, 0x00F, 0x010, 0x011, 0x012, 0x013] ++ s.kv.defs.map Prod.fst ++ s.kv.dyn.map Prod.fst
    ++ s.kv.sess.map Prod.fst).filter (fun h => (keyInfo s h).isSome)

/-- KV_STATUS follows the vault (R384). -/
def kvRefresh (s : State) : State :=
  let s := s.putB KV_STATUS_pair_root (rootSecret s 2).isSome
  let s := s.putB KV_STATUS_op_root (rootSecret s 3).isSome
  let s := s.put KV_STATUS_live (handlesHeld s).length
  s.putB KV_STATUS_busy (!s.kv.pke.isEmpty)

end Sys2Proof.Machine
end

