-- ==== Sys2Proof/Machine/Sp.lean ====
section
/-! DEFINITION. Span ports and the House span protocol function: frames and stamps, the exchange, the two-way computation
and cross-colour calibration (R387 to R409). -/

namespace Sys2Proof.Machine

/-- A span port. -/
def State.span (s : State) (p : Nat) : SpSt := tabGet (fun _ => SpSt.reset) s.sp p

/-- The state with a span port replaced. -/
def State.setSpan (s : State) (p : Nat) (x : SpSt) : State := { s with sp := tabSet (fun _ => SpSt.reset) s.sp p x }

/-- Whether a span port is enabled and its unit answers. -/
def spanLive (s : State) (p : Nat) : Bool := s.on (SPp_CFG_en p) && (unitErr s (SPp_CFG p)).isNone

/-! ## Frames through FIFOs -/

/-- The packet at the head of a FIFO, without its length word, and the state with it popped; none where there is no whole
packet that no reader has begun. -/
def takePacket (s : State) (n : Nat) : Option (List Word × State) :=
  let q := s.fifo n
  match q.closed with
  | (_ :: ws) :: t =>
    if q.en && q.packet && !q.begun && (unitErr s FIFO_IDX).isNone then some (ws, s.setFifo n { q with closed := t }) else none
  | _ => none

/-- A unit or a House function pushes a packet when its FIFO has room for all of it (R499). The master it is in the
packet's length word is stated for no unit, and for no House function's core: it is free (log 1). -/
def pushPacket (s : State) (n : Nat) (ws : List Word) : Option State :=
  let (m, s) := s.freeBelow 25
  if (unitErr s FIFO_IDX).isSome then none else fifoPacket s n m ws

/-- The octets of a packet's words. -/
def wordsBytes (n : Nat) (ws : List Word) : List Nat := (ws.flatMap bytesOf).take n

/-- The words that hold a frame, five octets a word. -/
def frameWords (bs : List Nat) : List Word := packBytes (bs.length / 5 + 1) bs

/-- The address every span frame goes to (R387). -/
def spanGroup : Nat := 0x0180C200000E

/-- Whether a span port accepts a frame (R387): its length without FCS, its EtherType and its destination. The port's own
address is in the option record. -/
def spanTakes (s : State) (p : Nat) (bs : List Nat) : Bool :=
  let own := fieldOf (optWord s (18 + 2 * p)) 15 0 * 2 ^ 32 + fieldOf (optWord s (19 + 2 * p)) 31 0
  let dst := beNum (octets bs 0 6)
  decide (60 ≤ bs.length) && decide (bs.length ≤ 1514) && decide (beNum (octets bs 12 2) = 0x88B5)
    && (decide (dst = spanGroup) || (decide (own ≠ 0) && decide (dst = own)))

/-- SP_FRAME_RECEIVE (R387 to R391): a frame whose octets the line delivered (the FCS removed and found good or bad); its
timestamp point lay `age` 1/1024 ns before now. -/
def execSpFrameReceive (p : Fin 4) (bytes : List (BitVec 8)) (fcsOk : Bool) (age : BitVec 24) (s : State) : Out :=
  if !spanLive s p ∨ !s.on (SPp_STATUS_link p) then .next s
  else if !fcsOk then .next (s.inc (SPp_CNT_FCS_count p))
  else
    let bs := bytes.map BitVec.toNat
    let s := s.inc (SPp_CNT_RX_count p)
    if !spanTakes s p bs then .next (s.inc (SPp_CNT_DISCARD_count p))
    else
      let (sh, s) := stampShift s 1
      let t := t80Add s.now (-(age.toNat : Int) + s.getI (SPp_RX_OFS_val p) + sh)
      let kind := bs.getD 15 0
      let fifo := if 0x10 ≤ kind ∧ kind ≤ 0x1F then s.get (SPp_FIFO_rx_atel p) else s.get (SPp_FIFO_rx_span p)
      let w2 := w40 (b2n (!s.on (SPp_STATUS_cal_valid p)) * 2 ^ 39 + bs.length)
      match pushPacket s fifo (T80hi t :: T80lo t :: w2 :: frameWords bs) with
      | some s => .next s
      | none => .next ((s.inc (SPp_CNT_RX_DROP_count p)).ev (SPp_EVENTS_rx_drop p))

/-- The record of a transmit packet (R393). -/
def txRecord (s : State) (p res tag : Nat) (t : T80) : Option State :=
  pushPacket s (s.get (SPp_FIFO_txstamp p)) [w40 (res * 2 ^ 37 + tag), T80hi t, T80lo t]

/-- The spacing of a port's code-group or block boundaries in 1/1024 ns (R392). -/
def spBoundary (s : State) (p : Nat) : Nat := if s.on (SPp_CFG_mode p) then 6554 else 8192

/-- The line time of a frame of `n` octets in 1/1024 ns, with preamble, FCS and gap (R387). -/
def spLineTime (s : State) (p n : Nat) : Nat :=
  ((max 60 n + 24) * (if s.on (SPp_CFG_mode p) then 81920 else 819200) + 99) / 100

/-- SP_FRAME_DEPARTURE (R392, R393): the packet at the head of the tx FIFO starts on the port's next boundary, `off` 1/1024 ns from
now, or is dropped with its result. It waits while the frame before it holds the line; a held one waits for its time, a free one where
it is not normalized (R5, log 151). -/
def execSpFrameDeparture (p : Fin 4) (off : BitVec 14) (s : State) : Out :=
  if !spanLive s p then .next s
  else
    match takePacket s (s.get (SPp_FIFO_tx p)) with
    | none => .next s
    | some (ws, s') =>
      let w0 := ws.getD 0 0
      let len := fieldOf w0 13 0
      let tag := fieldOf w0 29 14
      let at_ := t80Of (ws.getD 1 0) (ws.getD 2 0)
      let (hold, s') := if bitAt w0 39 then timeOrFree at_ s' else (at_, s')
      let start := t80Add s.now (off.toNat : Int)
      let late := bitAt w0 39 && t80Lt (t80Add hold (nsU 1000 : Nat)) start
      if len < 60 ∨ 1514 < len ∨ ws.length < 3 + (len + 4) / 5 then .fault .unpredictable
      else if spBoundary s p ≤ off.toNat ∨ (bitAt w0 39 ∧ t80Lt start hold) then .next s
      else if !s.on (SPp_STATUS_link p) then .next ((txRecord s' p 3 tag ⟨0, 0⟩).getD s)
      else if late then
        match txRecord s' p 1 tag ⟨0, 0⟩ with
        | none => .next s
        | some t => .next ((t.inc (SPp_CNT_HOLD_MISSED_count p)).ev (SPp_EVENTS_hold_missed p))
      else if (t80Units start : Int) - s.tb.steps < (s.span p).busy then .next s
      else if bitAt w0 38 ∧ fieldOf w0 37 30 ≠ s.get (SPp_BSEQ_bseq p) then
        match txRecord s' p 2 tag ⟨0, 0⟩ with
        | none => .next s
        | some t => .next ((t.inc (SPp_CNT_STALE_count p)).ev (SPp_EVENTS_stale_bound p))
      else
        let (sh, s') := stampShift s' 1
        match txRecord s' p 0 tag (t80Add start (s.getI (SPp_TX_OFS_val p) + sh)) with
        | none => .next s
        | some t =>
          .next ((t.setSpan p { t.span p with
            last := wordsBytes len (ws.drop 3),
            busy := (t80Units start : Int) - s.tb.steps + (spLineTime s p len : Nat) }).inc (SPp_CNT_TX_count p))

/-- SP_ALIGN_LOCK (R387, R390): lock is reached with the link up; the alignment offset is measured. -/
def execSpAlignLock (p : Fin 4) (s : State) : Out :=
  if !spanLive s p then .next s
  else
    let was := s.on (SPp_STATUS_link p)
    let an := s.on (SPp_CFG_an_en p) && !s.on (SPp_CFG_mode p)
    let s := (((s.putB (SPp_STATUS_rx_lock p) true).putB (SPp_STATUS_link p) true).putB (SPp_STATUS_cal_valid p) true)
    let s := s.putB (SPp_STATUS_an_done p) an
    .next (if was then s else s.ev (SPp_EVENTS_link_change p))

/-- The effect of a write of SPp_CFG, SPp_TX_OFS or SPp_RX_OFS (R408). -/
def spCfgWrite (p a : Nat) (w : Word) (s : State) : Out :=
  if s.on (SPp_CFG_en p) then .next (s.ev (SPp_EVENTS_cfg_ignored p)) else .next (plainWrite s a w)

/-- SP_CFG_WRITE (R408): `i` picks SPp_CFG, SPp_TX_OFS or SPp_RX_OFS. -/
def execSpCfgWrite (m : Master) (p : Fin 4) (i : Fin 3) (w : Word) (s : State) : Out :=
  let a := ([SPp_CFG p, SPp_TX_OFS p, SPp_RX_OFS p] : List Nat).getD i.val (SPp_CFG p)
  writeReg m a w (spCfgWrite p a w) s

/-! ## The exchange frame -/

/-- The rank of an advertised bound in ps (R172). -/
def boundRank (b : Nat) : Nat :=
  if b ≤ 30000 then 1
  else if b ≤ 100000 then 2
  else if b ≤ 1000000 then 3
  else if b ≤ 10000000 then 4
  else if b ≤ 100000000 then 5
  else if b < unbounded then 6
  else 15

/-- The ps in a number of 1/1024 ns. -/
def psOf (u : Int) : Rat := (u : Rat) * 1000 / 1024

/-- A ps bound rounded up as an E40 (R10). -/
def ceilE (x : Rat) : Nat :=
  let n := (max x 0)
  upE n.num.toNat n.den

/-- |freq| + 10^-9 of a slot (R405). -/
def driftRate (s : State) (n : Nat) : Rat := ((s.getI (PAL_Sn_FREQ_freq n)).natAbs : Rat) / 10 ^ 16 + 1 / 10 ^ 9

/-- This device's UID as a number. -/
def ownUid : Nat := Config.uidHi.toNat * 2 ^ 32 + Config.uidLo.toNat

/-- The key of a link with a peer (R395, R411). -/
def linkKey (s : State) (name : String) (peer : Nat) : Option (List Nat) :=
  let lo := min ownUid peer
  let hi := max ownUid peer
  (rootSecret s 3).map (fun k => deriveKey k 1 (ascii name ++ beBytes 8 lo ++ beBytes 8 hi) [])

/-- HMAC-SHA-256-128. -/
def icvOf (key msg : List Nat) : List Nat := (hmacSha256 key msg).take 16

/-- Whether the frames of a span carry an ICV (R395): auth_en = 0 counts only in PROVING. -/
def spanAuth (s : State) (p : Nat) : Bool := s.on (SPp_RATE_auth_en p) || decide (lifeCycle s ≠ 1)

/-- The peer's UID as the function knows it; 0 is none. -/
def peerUid (s : State) (p : Nat) : Nat := s.get (SPp_PEER_HI_val p) * 2 ^ 32 + s.get (SPp_PEER_LO_val p)

/-- Sixteen octets of an ICV for a peer not known yet: no rule says what they are (log 1). -/
def freeIcv (s : State) : List Nat × State :=
  let (a, s) := s.free
  let (b, s) := s.free
  let (c, s) := s.free
  let (d, s) := s.free
  (wordsBytes 16 [a, b, c, d], s)

/-- The node position in mm and its uncertainty (R394); none with neither source. -/
def nodePos (s : State) : Option (Int × Int × Int × Nat) :=
  if s.on SP0_NODE_CFG_valid then
    some (s.getI SP0_NODE_X_val, s.getI SP0_NODE_Y_val, s.getI SP0_NODE_Z_val, s.get SP0_NODE_CFG_pos_unc)
  else if s.on GNS_POS_CFG_pos_valid then
    some (s.getI GNS_POS_X_val, s.getI GNS_POS_Y_val, s.getI GNS_POS_Z_val, s.get GNS_POS_CFG_pos_unc)
  else none

/-- A signed 64-bit number as eight octets. -/
def beI64 (x : Int) : List Nat := beBytes 8 (x % 2 ^ 64).toNat

/-- A T80 as ten octets. -/
def beT80 (t : T80) : List Nat := beBytes 5 t.sec ++ beBytes 5 t.low

/-- A T80 from ten octets. -/
def t80Be (bs : List Nat) (i : Nat) : T80 := { sec := beNum (octets bs i 5), low := beNum (octets bs (i + 5) 5) }

/-- The function takes the txstamp records of its own frames (R393, R397): up to `n` of them. Tags from 0x8000 on are the
Atelier function's (DESIGN CHOICE, log 40). -/
def drainStamps (p : Nat) : Nat → State → State
  | 0, s => s
  | n + 1, s =>
    match takePacket s (s.get (SPp_FIFO_txstamp p)) with
    | none => s
    | some (ws, s') =>
      let x := s'.span p
      let tag := fieldOf (ws.getD 0 0) 15 0
      match x.launched.find? (fun k => decide (k % 0x8000 = tag)) with
      | none => drainStamps p n s'
      | some k =>
        let st : SpStamp := { seq := k, at_ := t80Of (ws.getD 1 0) (ws.getD 2 0), uncal := false }
        let sent := if fieldOf (ws.getD 0 0) 39 37 = 0 then (st :: x.sent).take 16 else x.sent
        drainStamps p n (s'.setSpan p { x with sent := sent, launched := x.launched.filter (fun j => !decide (j = k)) })

/-- The spacing of a port's exchanges in 1/1024 ns (R394). -/
def exchangePeriod (s : State) (p : Nat) : Nat := unitsPerSec / max 1 (s.get (SPp_RATE_rate p))

/-- Octets 0 to 95 of an EXCHANGE payload (R394), with the bound of R396. -/
def exchangeBody (s : State) (p : Nat) (b : Nat) (pos : Int × Int × Int × Nat) : List Nat :=
  let x := s.span p
  let (tPrev, kPrev) := match x.sent.head? with | some st => (st.at_, st.seq) | none => (⟨0, 0⟩, 0xFFFFFFFF)
  let (tLast, kLast) := match x.recv.head? with
    | some st => if st.uncal then (⟨0, 0⟩, 0xFFFFFFFF) else (st.at_, st.seq)
    | none => (⟨0, 0⟩, 0xFFFFFFFF)
  let flags := b2n (s.on PAL_STATE_time_traceable)
    + 2 * b2n (decide (s.get GLZ_STATUS_mode = 2) || decide (s.get GLZ_STATUS_mode = 3))
    + 4 * b2n (twSync s && s.on TW_CFG_en) + 8 * b2n (decide (selSlot s = some (10 + p)))
  [1, 1] ++ beBytes 2 112 ++ uidBytes ++ beBytes 4 x.nextSeq ++ beT80 tPrev ++ beBytes 4 kPrev ++ beT80 tLast
    ++ beBytes 4 kLast ++ beBytes 5 b ++ beBytes 5 (s.rd GLZ_LIN).toNat ++ [s.get PAL_STATE_state, flags]
    ++ beI64 pos.1 ++ beI64 pos.2.1 ++ beI64 pos.2.2.1 ++ beBytes 4 pos.2.2.2
    ++ beBytes 4 (s.get (SPp_LAMBDA_TX_pm p)) ++ beBytes 4 (s.get (SPp_LAMBDA_RX_pm p))
    ++ [s.get (SPp_RATE_rate p), 0, 0, 0]

/-- An 88B5 frame to the span group address, from the port's own address. -/
def spanFrame (s : State) (p : Nat) (payload : List Nat) : List Nat :=
  let own := fieldOf (optWord s (18 + 2 * p)) 15 0 * 2 ^ 32 + fieldOf (optWord s (19 + 2 * p)) 31 0
  let bs := beBytes 6 spanGroup ++ beBytes 6 own ++ beBytes 2 0x88B5 ++ payload
  bs ++ List.replicate (60 - bs.length) 0

/-- EXCHANGE_SEND (R394 to R396): the frame for the next whole multiple of 1/rate s is built and pushed, held to that
instant, once for each instant. -/
def execExchangeSend (p : Fin 4) (s : State) : Out :=
  if !houseRuns s 7 ∨ !spanLive s p ∨ s.on KV_STATUS_tampered then .next s
  else
    match nodePos s with
    | none => .next s
    | some pos =>
      let s := drainStamps p 16 s
      let per := exchangePeriod s p
      let hold := t80OfUnits ((t80Units s.now / per + 1) * per)
      let x := s.span p
      if x.heldTo = some hold then .next s
      else
        let bseq := s.get (SPp_BSEQ_bseq p)
        let b := addE (s.get (SPp_BMAX_b p)) (emitTerm s (24 + p))
        let body := exchangeBody s p b pos
        let (icv, s) := if !spanAuth s p then (List.replicate 16 0, s)
          else if peerUid s p = 0 then freeIcv s
          else match linkKey s "SPAN" (peerUid s p) with
            | some k => (icvOf k body, s)
            | none => freeIcv s
        if spanAuth s p ∧ (rootSecret s 3).isNone then .next s
        else
          let fr := spanFrame s p (body ++ icv)
          let w0 := w40 (2 ^ 39 + 2 ^ 38 + bseq * 2 ^ 30 + x.nextSeq % 0x8000 * 2 ^ 14 + fr.length)
          match pushPacket s (s.get (SPp_FIFO_tx p)) (w0 :: T80hi hold :: T80lo hold :: frameWords fr) with
          | none => .next s
          | some s => .next (s.setSpan p { x with
              heldTo := some hold, launched := (x.nextSeq :: x.launched).take 64, nextSeq := (x.nextSeq + 1) % 2 ^ 32 })

/-! ## The two-way computation -/

/-- tau of R399 at a wavelength in pm, in ps/km. -/
def fibreTau (s : State) (p pm : Nat) : Rat :=
  let l2 : Rat := (pm : Rat) * pm / 10 ^ 6
  let z2 : Rat := (s.get (SPp_FIBRE_lambda0 p) : Rat) * s.get (SPp_FIBRE_lambda0 p) / 10 ^ 6
  (s.get (SPp_FIBRE_s0 p) : Rat) / 10 ^ 6 / 8 * (l2 + z2 * z2 / l2)

/-- m of R399 for a round trip of `r` ps; with ng = 0 the rule gives none, and it is free (log 1). -/
def fibreM (s : State) (p : Nat) (r : Rat) : Rat × State :=
  let ng := s.get (SPp_NG_ng p)
  if ng = 0 then let (w, s) := s.free; (psOf (sgn w), s)
  else
    let tkm : Rat := (ng : Rat) * 3335640952 / 10 ^ 9
    (r * (fibreTau s p (s.get (SPp_LAMBDA_RX_pm p)) - fibreTau s p (s.get (SPp_LAMBDA_TX_pm p))) / (4 * tkm), s)

/-- s of R404 in ps, from positions in mm. -/
def sagnac (peer own : Int × Int × Int × Nat) : Rat :=
  (8113561 : Rat) / 10 ^ 22 * ((peer.1 * own.2.1 - own.1 * peer.2.1 : Int) : Rat)

/-- A square root of a whole number of mm^2 in mm, rounded up at 10^-6 mm (DESIGN CHOICE, log 41). -/
def rootMm (x : Nat) : Rat := (isqrtUp (x * 10 ^ 12) : Rat) / 10 ^ 6

/-- U_sag of R404 in ps; lengths in mm. -/
def sagnacUnc (s : State) (p : Nat) (peer own : Int × Int × Int × Nat) : Nat :=
  let sq := fun (a b : Int) => ((a - b) * (a - b)).toNat
  let chord := rootMm (sq peer.1 own.1 + sq peer.2.1 own.2.1 + sq peer.2.2.1 own.2.2.1)
  let rho := fun (q : Int × Int × Int × Nat) => rootMm (sq q.1 0 + sq q.2.1 0)
  let dev : Rat := (s.get (SPp_SAG_dev_m p) : Rat) * 1000
  ceilE ((8113561 : Rat) / 10 ^ 22 * (4 * dev * chord + peer.2.2.2 * rho peer + own.2.2.2 * rho own))

/-- The dispersion term of R401 in ps for a half asymmetry `m`. -/
def dispTerm (s : State) (p : Nat) (m : Rat) : Nat :=
  if s.on (SPp_LINK_ST_xc_valid p) then ceilE ((s.get (SPp_XC_KU_val p) : Rat) / 10 ^ 9 * |m|)
  else ceilE (|m| * s.get (SPp_NG_disp_unc p) / 1000)

/-- GLZ_Sn_ASYM of a port (R405). -/
def spanAsym (s : State) (p : Nat) (m : Rat) (sag : Nat) : Nat :=
  let fu := s.get (SPp_FIX_f_unc p)
  if fu = 0xFFFFF then unbounded else addE (addE (dispTerm s p m) ((fu + 1) / 2)) sag

/-- A ps value as a P40 in 1/1024 ns, rounded to nearest. -/
def p40Ps (s : State) (x : Rat) : Int × State :=
  let y := x * 1024 / 1000
  roundQ s y.num y.den

/-- A register that shows a ps value as a P40. -/
def putPs (s : State) (a : Nat) (x : Rat) : State :=
  let (v, s) := p40Ps s x
  let (w, s) := p40OrFree s v
  s.wr a w

/-- The function's source fault on a port's slot (R407). -/
def spanFault (s : State) (p : Nat) (on : Bool) : State :=
  (houseDo s (palFault (10 + p) on)).setSpan p { s.span p with faulted := on, good := if on then 0 else (s.span p).good }

/-- An exchange that yields no sample (R397). -/
def spanSkip (s : State) (p : Nat) : State :=
  let s := (s.inc (SPp_CNT_UNPAIRED_count p)).putB (SPp_LINK_ST_peer_ok p) false
  s.setSpan p { s.span p with good := 0 }

/-- The launch instant that a departure belongs to: the nearest whole multiple of 1/rate. -/
def launchOf (s : State) (p : Nat) (t : T80) : Nat :=
  let per := exchangePeriod s p
  (t80Units t + per / 2) / per * per

/-- The slot's terms and sample for one exchange (R398, R405, R406), `a` to `d` being t1 to t4. -/
def spanSample (s : State) (p : Nat) (bs : List Nat) (own : Int × Int × Int × Nat) (a b c d : T80) : State :=
  let n := 10 + p
  let peer : Int × Int × Int × Nat := (signedOf 64 (beNum (octets bs 56 8)), signedOf 64 (beNum (octets bs 64 8)),
    signedOf 64 (beNum (octets bs 72 8)), beNum (octets bs 80 4))
  let go := t80Diff b a
  let back := t80Diff d c
  let r := psOf (go + back)
  let raw := psOf (go - back) / 2
  let sg := sagnac peer own
  let (m, s) := fibreM s p r
  let k : Rat := if s.on (SPp_LINK_ST_xc_valid p) then (s.get (SPp_XC_K_val p) : Rat) / 10 ^ 9 else 1
  let f : Rat := s.getI (SPp_FIX_f p)
  let th := raw - (sg + k * m + f / 2)
  let sag := sagnacUnc s p peer own
  let x := s.span p
  let at_ := launchOf s p c
  let from_ := match x.xcFrom with | some t => some t | none => if s.on (SPp_XC_xc_en p) then some s.steady else none
  let s := s.setSpan p { x with
    theta := some (th, t80OfUnits at_), lastM := m, lastSag := sag, good := x.good + 1, xcFrom := from_,
    xc := if s.on (SPp_XC_xc_en p) then x.xc ++ [(at_, raw - sg - f / 2, m)] else x.xc }
  let s := s.wr (SPp_RTT p) (w40 (go + back).toNat)
  let s := putPs (putPs (putPs s (SPp_RAW p) raw) (SPp_SAGNAC p) sg) (SPp_DISP p) (k * m)
  let s := (s.put (SPp_LINK_ST_method p) (b2n (s.on (SPp_LINK_ST_xc_valid p)))).putB (SPp_LINK_ST_peer_ok p) true
  let s := s.inc (SPp_CNT_SAMPLES_count p)
  let bound := beNum (octets bs 44 5)
  let s := s.wr (PAL_Sn_BOUND n) (w40 bound)
  let s := s.wr (GLZ_Sn_MEAS n) (w40 (addE 25 (ceilE (driftRate s n * |psOf (t80Diff c b)|))))
  let s := s.wr (GLZ_Sn_ASYM n) (w40 (spanAsym s p m sag))
  let rank := if s.on (SPp_LINK_ST_follows_me p) then 15 else boundRank bound
  let s := houseDo s (advWrite n (w40 (4 * 2 ^ 16 + bs.getD 54 0 % 256 * 2 ^ 8 + rank)))
  let s := s.wr (GLZ_Sn_UP_HI n) (w40 (2 * 2 ^ 32 + beNum (octets bs 4 4)))
  let s := houseDo s (upLoWrite n (w40 (beNum (octets bs 8 4))))
  let hops := min 255 (beNum (octets bs 49 5) % 256 + 1)
  let s := houseDo s (calWrite n (w40 (hops * 2 ^ 32 + s.get (SPp_LINK_ST_method p) * 2 ^ 28 + s.get (SPp_CAL_SERIAL_serial p))))
  let (v, s) := p40Ps s th
  let s := feedSlot s n v
  if 3 ≤ (s.span p).good ∧ (s.span p).faulted then spanFault s p false else s

/-- One exchange from a verified frame (R397), or none. -/
def spanExchange (s : State) (p : Nat) (bs : List Nat) : State :=
  let x := s.span p
  let held := fun (l : List SpStamp) (k : Nat) => if k = 0xFFFFFFFF then none else l.find? (fun st => decide (st.seq = k))
  let lost := decide (s.get (SPp_LAMBDA_TX_pm p) = 0) || decide (s.get (SPp_LAMBDA_RX_pm p) = 0)
  let s := if lost then (s.wr (GLZ_Sn_ASYM (10 + p)) (w40 unbounded)).put (SPp_LINK_ST_method p) 2 else s
  match held x.recv (beNum (octets bs 26 4)), held x.sent (beNum (octets bs 40 4)), nodePos s with
  | some t2, some t3, some own =>
    let t1 := t80Be bs 16
    let t4 := t80Be bs 30
    let r := t80Diff t2.at_ t1 + t80Diff t4 t3.at_
    if t2.uncal ∨ t3.uncal ∨ nsU 10000000 < (t80Diff t3.at_ t2.at_).natAbs ∨ (nsU 20000000 : Int) < r ∨ r < 0
        ∨ s.on (SPp_LINK_ST_mismatch p) then spanSkip s p
    else if lost then s
    else spanSample s p bs own t1 t2.at_ t3.at_ t4
  | _, _, _ => spanSkip s p

/-- The peer's identity, rate and wavelengths (R397, R399, R407): a changed UID and a mismatch of a second are source faults. -/
def spanPeer (s : State) (p : Nat) (bs : List Nat) : State :=
  let uid := beNum (octets bs 4 8)
  let old := peerUid s p
  let s := (s.put (SPp_PEER_HI_val p) (uid / 2 ^ 32)).put (SPp_PEER_LO_val p) (uid % 2 ^ 32)
  let s := if old ≠ 0 ∧ old ≠ uid then
      let s := spanFault s p true
      s.setSpan p { s.span p with recv := [], theta := none, xc := [], xcFrom := none }
    else s
  let apart := fun (a b : Nat) => decide (b + 100 < a) || decide (a + 100 < b)
  let bad := decide (bs.getD 92 0 ≠ s.get (SPp_RATE_rate p)) || apart (beNum (octets bs 84 4)) (s.get (SPp_LAMBDA_RX_pm p))
    || apart (beNum (octets bs 88 4)) (s.get (SPp_LAMBDA_TX_pm p))
  let s := (s.putB (SPp_LINK_ST_mismatch p) bad).putB (SPp_LINK_ST_follows_me p) ((bs.getD 55 0).testBit 3)
  let x := s.span p
  let since := if bad then (match x.mismatchFrom with | some t => some t | none => some s.steady) else none
  let s := s.setSpan p { x with mismatchFrom := since }
  match since with
  | some t => if s.elapsed (secsAfter t 1) ∧ !(s.span p).faulted then spanFault s p true else s
  | none => s

/-- EXCHANGE_PROCESS (R394 to R407): the function takes the next packet of rx_span. A frame of another version, type or
length is counted in SPp_CNT_DISCARD (log 42). -/
def execExchangeProcess (p : Fin 4) (s : State) : Out :=
  if !houseRuns s 7 ∨ (unitErr s (SPp_CFG p)).isSome then .next s
  else
    let s := drainStamps p 16 s
    match takePacket s (s.get (SPp_FIFO_rx_span p)) with
    | none => .next s
    | some (ws, s) =>
      let w2 := ws.getD 2 0
      let bs := (wordsBytes (fieldOf w2 13 0) (ws.drop 3)).drop 14
      if bs.getD 0 0 ≠ 1 ∨ bs.getD 1 0 ≠ 1 ∨ beNum (octets bs 2 2) ≠ 112 ∨ bs.length < 112 then
        .next (s.inc (SPp_CNT_DISCARD_count p))
      else
        let good := match spanAuth s p, linkKey s "SPAN" (beNum (octets bs 4 8)) with
          | false, _ => decide (octets bs 96 16 = List.replicate 16 0)
          | true, some k => decide (octets bs 96 16 = icvOf k (bs.take 96))
          | true, none => false
        if !good then .next ((s.inc (SPp_CNT_AUTH_count p)).putB (SPp_LINK_ST_auth_fail p) true)
        else
          let s := spanPeer (s.putB (SPp_LINK_ST_auth_fail p) false) p bs
          let x := s.span p
          let seq := beNum (octets bs 12 4)
          let st : SpStamp := { seq := seq, at_ := t80Of (ws.getD 0 0) (ws.getD 1 0), uncal := bitAt w2 39 }
          .next (spanExchange (s.setSpan p { x with recv := (st :: x.recv).take 16, peerLast := some seq }) p bs)

/-! ## Cross-colour calibration -/

/-- The partner of a port where the two form a cross-colour pair, but for the means of m (R402). -/
def xcPartner (s : State) (p : Nat) : Option Nat :=
  let q := s.get (SPp_XC_partner p)
  if q ≠ p ∧ s.on (SPp_XC_xc_en p) ∧ s.on (SPp_XC_xc_en q) ∧ s.get (SPp_XC_partner q) = p ∧ peerUid s p ≠ 0
      ∧ peerUid s p = peerUid s q ∧ !s.on (SPp_FIBRE_two_fibre p) ∧ s.rd (SPp_FIBRE p) = s.rd (SPp_FIBRE q)
      ∧ s.rd (SPp_NG p) = s.rd (SPp_NG q) then some q else none

/-- The u_i of R402 in ps. -/
def xcBound (s : State) (p : Nat) : Rat := (s.rd (GLZ_Sn_MEAS (10 + p))).toNat + 25 + (s.get (SPp_FIX_f_unc p) : Rat) / 2

/-- A port's window begins again. -/
def xcRestart (s : State) (p : Nat) : State := s.setSpan p { s.span p with xc := [], xcFrom := some s.steady }

/-- XC_WINDOW_END (R402, R403): the window of port `p` and its partner closes after xc_win seconds. -/
def execXcWindowEnd (p : Fin 4) (s : State) : Out :=
  match (s.span p).xcFrom with
  | none => .next s
  | some t =>
    let win := s.get (SPp_XC_xc_win p)
    if !houseRuns s 7 ∨ !s.elapsed (secsAfter t win) then .next s
    else
      match xcPartner s p with
      | none => .next (xcRestart s p)
      | some q =>
        let b := (s.span q).xc
        let pairs := (s.span p).xc.filterMap (fun e => (b.find? (fun g => decide (g.1 = e.1))).map (fun g => (e.2, g.2)))
        let due := win * s.get (SPp_RATE_rate p)
        let n : Rat := pairs.length
        let dm := (pairs.map (fun e => e.1.2 - e.2.2)).sum
        let dc := (pairs.map (fun e => e.1.1 - e.2.1)).sum
        let s := xcRestart (xcRestart s p) q
        if pairs.length * 10 < due * 9 ∨ pairs = [] ∨ |dm / n| < 5000 then .next s
        else
          let k := dc / dm
          let uk := (xcBound s p + xcBound s q) / |dm / n|
          if |k - 1| > 1 / 4 ∨ uk ≥ (s.get (SPp_NG_disp_unc p) : Rat) / 1000 then
            .next ((s.putB (SPp_LINK_ST_xc_reject p) true).putB (SPp_LINK_ST_xc_reject q) true)
          else
            let kk := k * 10 ^ 9
            let (kw, s) := freeQ s kk.num kk.den
            .next ([p.val, q].foldl (fun s i =>
              let s := ((s.wr (SPp_XC_K i) (i40 kw)).wr (SPp_XC_KU i) (w40 (ceilE (uk * 10 ^ 9)))).inc (SPp_CAL_SERIAL_serial i)
              ((s.putB (SPp_LINK_ST_xc_valid i) true).putB (SPp_LINK_ST_xc_reject i) false).put (SPp_LINK_ST_method i) 1) s)

/-- k of a port is cleared (R403): its GLZ_Sn_ASYM rises to the model term first. -/
def xcClear (s : State) (p : Nat) : State :=
  if !s.on (SPp_LINK_ST_xc_valid p) then s
  else
    let x := s.span p
    let s := s.putB (SPp_LINK_ST_xc_valid p) false
    let asym := max (s.rd (GLZ_Sn_ASYM (10 + p))).toNat (spanAsym s p x.lastM x.lastSag)
    let s := (s.wr (GLZ_Sn_ASYM (10 + p)) (w40 asym)).put (SPp_LINK_ST_method p) 0
    ((s.wr (SPp_XC_K p) (w40 1000000000)).wr (SPp_XC_KU p) 0).setSpan p { x with xc := [], xcFrom := none }

/-- The effect of a write of SPp_LAMBDA_TX, SPp_LAMBDA_RX, SPp_FIBRE, SPp_NG or SPp_XC (R403): k of the port and of its
partner is cleared. -/
def spParamWrite (p a : Nat) (w : Word) (s : State) : Out :=
  let q := s.get (SPp_XC_partner p)
  let s := if houseRuns s 7 then xcClear (if s.get (SPp_XC_partner q) = p then xcClear s q else s) p else s
  .next (plainWrite s a w)

end Sys2Proof.Machine
end

