-- ==== Sys2Proof/Machine/Atl.lean ====
section
/-! DEFINITION. The House Atelier function and the ATL unit's route table (R410 to R423, R430). -/

namespace Sys2Proof.Machine

/-- The state with the Atelier function's own data replaced. -/
def State.setAtl (s : State) (x : AtlSt) : State := { s with atl := x }

/-- A neighbour, none where nothing valid has been heard. -/
def neigh (s : State) (k : Nat) : Option Neigh := (s.atl.nodes.find? (fun e => decide (e.1 = k))).map Prod.snd

/-- Whether the function takes part in the fabric (R411, R416): it runs, and the vault is not tampered. -/
def atlLive (s : State) : Bool :=
  houseRuns s 8 && s.on ATL_CTL_run && !s.on KV_STATUS_tampered && (unitErr s ATL_CTL).isNone

/-- Whether this device is the root. -/
def isRoot (s : State) : Bool := decide (s.atl.root = some ownUid)

/-- The candidacy the device advertises (R413). -/
def ownCand (s : State) : Nat :=
  if s.on PAL_STATE_locked_once ∧ (s.get PAL_STATE_state = 4 ∨ s.get PAL_STATE_state = 0) then unbounded
  else s.get ATL_CAND_cand

/-! ## Frames -/

/-- The key of the link to a neighbour (R411): none without the Operator Root or where the peer's UID is not known. -/
def atlKey (s : State) (k peer : Nat) : Option (List Nat) :=
  if k < 4 then (if peer = 0 then none else linkKey s "ATEL" peer)
  else (rootSecret s 3).map (fun r => deriveKey r 1 (ascii "ATELBUS" ++ beBytes 2 (s.get ATL_CHASSIS_chassis)) [])

/-- The flags of R410. -/
def atlFlags (s : State) : Nat :=
  b2n (decide (ownCand s ≠ unbounded)) + 2 * b2n (isRoot s) + 4 * b2n s.atl.crosses + 8 * b2n (s.on ATL_STATE_addr_valid)

/-- A frame goes to neighbour `k` (R410, R426), `bcast` a broadcast on the bus; a FIFO without room loses it (log 43). `bound`
asks for the check of R392. -/
def atlSend (s : State) (k : Nat) (bcast : Bool) (kind src dst ttl : Nat) (body : List Nat) (bound : Bool) : State :=
  let port := min k 4
  let seq := tabGet (fun _ => 0) s.atl.seqs port
  let s := s.setAtl { s.atl with seqs := tabSet (fun _ => 0) s.atl.seqs port ((seq + 1) % 2 ^ 32) }
  let peer := if k < 4 then (match neigh s k with | some n => n.uid | none => peerUid s k) else 0
  let msg := [1, kind] ++ beBytes 2 (22 + body.length + 16) ++ uidBytes ++ beBytes 2 src ++ beBytes 2 dst ++ [ttl, atlFlags s]
    ++ beBytes 4 seq ++ body
  let (icv, s) := match atlKey s k peer with | some key => (icvOf key msg, s) | none => freeIcv s
  let pay := msg ++ icv
  if k < 4 then
    let fr := spanFrame s k pay
    let w0 := w40 (b2n bound * 2 ^ 38 + (if bound then s.get (SPp_BSEQ_bseq k) else 0) * 2 ^ 30
      + (0x8000 + seq % 0x8000) * 2 ^ 14 + fr.length)
    (pushPacket s (s.get (SPp_FIFO_tx k)) (w0 :: 0 :: 0 :: frameWords fr)).getD s
  else
    let w0 := w40 ((if bcast then 0xFF else k - 16) * 2 ^ 32 + pay.length)
    (pushPacket s (s.get STB_FIFO_tx1) (w0 :: frameWords pay)).getD s

/-- A frame received: the neighbour, its sender, addresses, hops left, flags and body. -/
structure AtlFrame where
  key : Nat
  kind : Nat
  uid : Nat
  src : Nat
  dst : Nat
  ttl : Nat
  flags : Nat
  body : List Nat
  whole : List Nat

/-- The frame at the head of ATL_FIFO.in (`port` 0 to 3: the span port it came from, which the packet does not name) or of the
Studio bus receive FIFO (`port` 4), with the state in which it is taken. A frame of another version, of a reserved type or
whose ICV fails gives none, and is taken and counted (R410, R411). -/
def atlTake (s : State) (port : Nat) : Option (Option AtlFrame × State) :=
  let fifo := if port < 4 then s.get ATL_FIFO_in else s.get STB_RX_FIFO_rx_atel
  (takePacket s fifo).map (fun r =>
    let (ws, s) := r
    let bs := if port < 4 then (wordsBytes (fieldOf (ws.getD 2 0) 13 0) (ws.drop 3)).drop 14
      else wordsBytes (fieldOf (ws.getD 0 0) 10 0) (ws.drop 1)
    let key := if port < 4 then port else 16 + fieldOf (ws.getD 0 0) 31 24 % 32
    let len := beNum (octets bs 2 2)
    let uid := beNum (octets bs 4 8)
    let kind := bs.getD 1 0
    let good := decide (bs.getD 0 0 = 1) && decide (0x10 ≤ kind) && decide (kind ≤ 0x14) && decide (38 ≤ len)
      && decide (len ≤ bs.length)
      && (match atlKey s key uid with | some k => decide (octets bs (len - 16) 16 = icvOf k (bs.take (len - 16))) | none => false)
    if good then
      (some { key := key, kind := kind, uid := uid, src := beNum (octets bs 12 2), dst := beNum (octets bs 14 2),
              ttl := bs.getD 16 0, flags := bs.getD 17 0, body := octets bs 22 (len - 38), whole := bs.take len }, s)
    else (none, s.inc ATL_CNT_BAD_count))

/-- A receive command for frames of one type: a bad frame is counted, another type is left for its own command. -/
def atlReceive (s : State) (port kind : Nat) (f : AtlFrame → State → State) : Out :=
  if !atlLive s then .next s
  else
    match atlTake s port with
    | none => .next s
    | some (none, s) => .next s
    | some (some fr, s') => .next (if fr.kind = kind then f fr s' else s)

/-! ## The state of the fabric -/

/-- ATL_STATE follows (R430); the phases as log 44 reads them. -/
def atlRefresh (s : State) : State :=
  let adj := s.atl.nodes.any (fun e => e.2.adjacent)
  let addr := s.on ATL_STATE_addr_valid
  let phase := if !atlLive s then 0
    else if !adj then 1
    else if !isRoot s ∧ s.atl.parent.isNone then 2
    else if !addr ∨ (!isRoot s ∧ !s.atl.registered) then 3 else 4
  let hops := match s.atl.parent with
    | some k => if isRoot s then 0 else (match neigh s k with | some n => n.hops + 1 | none => 0)
    | none => 0
  let s := ((s.put ATL_STATE_phase phase).putB ATL_STATE_root (isRoot s)).put ATL_STATE_hops hops
  let s := s.put ATL_STATE_parent_port (match s.atl.parent with | some k => if isRoot s then 7 else min k 4 | none => 7)
  s.put ATL_STATE_members (if isRoot s then s.atl.grants.length else 0)

/-- The device takes an address (R417). -/
def setAddr (s : State) (a : Nat) : State :=
  let changed := decide (s.get ATL_ADDR_addr ≠ a)
  let s := ((s.put ATL_ADDR_addr a).put ATL_ADDR_pref a).putB ATL_STATE_addr_valid true
  if changed then s.ev ATL_EVENTS_addr_change else s

/-- The number of valid routes. -/
def routeCount (s : State) : Nat := (s.atl.routes.filter (fun e => bitAt e.2 39)).length

/-- The effect of a write of a route entry (R430). -/
def routeWrite (a : Nat) (w : Word) (s : State) : State :=
  if bitAt w 39 ∧ 4096 ≤ routeCount s then s.ev ATL_EVENTS_rt_full
  else
    let s := s.setAtl { s.atl with routes := tabSet (fun _ => 0) s.atl.routes a w }
    s.put ATL_RT_COUNT_count (routeCount s)

/-- A route to neighbour `k` is installed (R417); one that already stands is left. -/
def installRoute (s : State) (a k : Nat) : State :=
  let w := w40 (2 ^ 39 + min k 4 * 2 ^ 36 + (if k < 4 then 0 else k - 16) * 2 ^ 8)
  if tabGet (fun _ => (0 : Word)) s.atl.routes a = w then s else routeWrite a w s

/-- The effect of an ATL_RT_DATA write (R430). -/
def rtDataWrite (w : Word) (s : State) : Out := .next (routeWrite (s.get ATL_RT_IDX_addr) w s)

/-- ATL_RT_DATA_WRITE (R430). -/
def execAtlRtDataWrite (m : Master) (w : Word) (s : State) : Out := writeReg m ATL_RT_DATA w (rtDataWrite w) s

/-- The lowest free address from `a` on. -/
def lowestAddr (used : List Nat) : Nat → Nat → Nat
  | 0, a => a
  | n + 1, a => if used.contains a then lowestAddr used n (a + 1) else a

/-- The address the root grants to a UID with a proposal, none when it holds 4,096 (R418). -/
def grantAddr (s : State) (uid want : Nat) : Option Nat × State :=
  match s.atl.grants.find? (fun g => decide (g.1 = uid)) with
  | some g => (some g.2, s)
  | none =>
    let used := s.atl.grants.map Prod.snd
    if 4096 ≤ s.atl.grants.length then (none, s)
    else
      let holder := s.atl.grants.find? (fun g => decide (g.2 = want))
      let take := match holder with | none => decide (0 < want ∧ want < 0xFFFF) | some g => decide (uid < g.1)
      let a := if take then want else lowestAddr used 4096 1
      let others := match holder with | some g => if take then s.atl.grants.filter (fun h => !decide (h = g)) else s.atl.grants
                                      | none => s.atl.grants
      (some a, s.setAtl { s.atl with grants := others ++ [(uid, a)] })

/-- The body of a GRANT (R417). -/
def grantBody (uid : Nat) (a : Option Nat) : List Nat :=
  beBytes 8 uid ++ beBytes 2 (a.getD 0) ++ [b2n a.isNone]

/-- The root grants toward neighbour `k`. -/
def grantTo (s : State) (k uid want : Nat) : State :=
  let (a, s) := grantAddr s uid want
  let s := match a with | some a => installRoute s a k | none => s
  atlSend s k false 0x12 (s.get ATL_ADDR_addr) 0 128 (grantBody uid a) false

/-- The root grants its own address first (R417). -/
def grantSelf (s : State) : State :=
  let (a, s) := grantAddr s ownUid (s.get ATL_ADDR_pref)
  match a with | some a => setAddr s a | none => s

/-- A UID that lost its address to a lower one is granted a new one (R418): toward the neighbour that its route names. -/
def grantAgain (s : State) (uid k : Nat) : State :=
  if uid = ownUid then grantSelf (s.put ATL_ADDR_pref 0)
  else
    let (a, s) := grantAddr s uid 0
    let s := match a with | some a => installRoute s a k | none => s
    atlSend s k false 0x12 (s.get ATL_ADDR_addr) 0 128 (grantBody uid a) false

/-- A root is followed (R414, R418). -/
def adoptRoot (s : State) (uid cand seq : Nat) : State :=
  let s := s.setAtl { s.atl with
    root := some uid, rootSeq := seq, rootAt := s.steady, rootFrom := s.steady, better := none, registered := false,
    regAt := none, regFull := false, grants := [], countAt := s.steady }
  let s := ((s.put ATL_ROOT_HI_val (uid / 2 ^ 32)).put ATL_ROOT_LO_val (uid % 2 ^ 32)).put ATL_ROOT_CAND_val cand
  let s := (s.inc ATL_CNT_REROOT_count).ev ATL_EVENTS_root_change
  if uid = ownUid then grantSelf s else s

/-- The claims heard from adjacent neighbours that may be followed (R414): (candidacy, uid, seq). One that names this device
as root is its own claim come back; one that names a dropped root needs a higher seq. -/
def claims (s : State) : List (Nat × Nat × Nat) :=
  s.atl.nodes.filterMap (fun e =>
    let n := e.2
    let stale := match s.atl.dropped.find? (fun d => decide (d.1 = n.rootUid)) with
      | some d => decide (n.rootSeq ≤ d.2) | none => false
    if n.adjacent ∧ n.rootUid ≠ ownUid ∧ !stale then some (n.rootCand, n.rootUid, n.rootSeq) else none)

/-- The better of two claims (R413): the lower (candidacy, UID); between two of one root, the higher seq. -/
def betterClaim (a b : Nat × Nat × Nat) : Nat × Nat × Nat :=
  if a.2.1 = b.2.1 then (if a.2.2 < b.2.2 then b else a)
  else if b.1 < a.1 ∨ (b.1 = a.1 ∧ b.2.1 < a.2.1) then b else a

/-- The present root's claim follows its seq (R414). -/
def refreshRoot (s : State) : State :=
  match s.atl.root with
  | none => s
  | some r =>
    if r = ownUid then s.put ATL_ROOT_CAND_val (ownCand s)
    else
      let mine := (claims s).filter (fun c => decide (c.2.1 = r) && decide (s.atl.rootSeq < c.2.2))
      match mine with
      | [] => s
      | c :: cs =>
        let b := cs.foldl betterClaim c
        (s.setAtl { s.atl with rootSeq := b.2.2, rootAt := s.steady }).put ATL_ROOT_CAND_val b.1

/-- The root is chosen (R413, R414). -/
def chooseRoot (s : State) : State :=
  let s := refreshRoot s
  let own : Nat × Nat × Nat := (ownCand s, ownUid, 0)
  let b := (claims s).foldl betterClaim own
  match s.atl.root with
  | none => adoptRoot s b.2.1 b.1 b.2.2
  | some r =>
    let wins := decide (b.2.1 ≠ r) && (decide (b.1 < s.get ATL_ROOT_CAND_val) || (decide (b.1 = s.get ATL_ROOT_CAND_val) && decide (b.2.1 < r)))
    if !wins then s.setAtl { s.atl with better := none }
    else if !s.elapsed (secsAfter s.atl.rootFrom (s.get ATL_TIMING_claim_hold)) then adoptRoot s b.2.1 b.1 b.2.2
    else
      match s.atl.better with
      | some (u, _) => if u = b.2.1 then s else s.setAtl { s.atl with better := some (b.2.1, s.steady) }
      | none => s.setAtl { s.atl with better := some (b.2.1, s.steady) }

/-- The cost of the link to a neighbour (R415). -/
def linkCost (s : State) (k : Nat) : Nat := if k < 4 then s.get (ATL_COST_cost k) else unbounded

/-- The parent: the neighbour with the least (cost, hops, UID) among those that follow the same root (R415). -/
def bestParent (s : State) : Option Nat :=
  let key := fun (e : Nat × Neigh) => (addE e.2.cost (linkCost s e.1), e.2.hops + 1, e.2.uid)
  let lt := fun (a b : Nat × Nat × Nat) => decide (a.1 < b.1) || (decide (a.1 = b.1) && (decide (a.2.1 < b.2.1)
    || (decide (a.2.1 = b.2.1) && decide (a.2.2 < b.2.2))))
  let ok := s.atl.nodes.filter (fun e => e.2.adjacent && decide (some e.2.rootUid = s.atl.root) && decide (e.2.hops < 127)
    && decide (e.2.parent ≠ ownUid))
  match ok with
  | [] => none
  | e :: es => some (es.foldl (fun a b => if lt (key b) (key a) then b else a) e).1

/-- Time follows the tree (R416). -/
def timeTree (s : State) : State :=
  let want := match s.atl.parent with
    | some k => if s.on ATL_CTL_time_en ∧ k < 4 ∧ !s.atl.crosses ∧ !isRoot s then some k else none
    | none => none
  if want = s.atl.timeQ then s
  else
    let s := s.setAtl { s.atl with timeQ := want }
    match want with
    | none => s
    | some q =>
      let cfg := fun (s : State) (n lock : Nat) (prio : Option Nat) =>
        let w := putField (s.rd (PAL_Sn_CFG n)) 3 3 lock
        houseDo s (palHeldWrite (PAL_Sn_CFG n) (match prio with | some p => putField w 11 4 p | none => w))
      let s := cfg s (10 + q) 0 (some (s.get ATL_PRIO_parent_prio))
      ([0, 1, 2, 3].filter (fun p => !decide (p = q))).foldl (fun s p => cfg s (10 + p) 1 none) s

/-- The spare slot's configuration for the relay (R421), when it differs from what stands. -/
def spareSlot (s : State) : State :=
  if !s.on ATL_CTL_relay_en ∨ s.on PAL_STATE_switching then s
  else
    let w := s.rd (PAL_Sn_CFG 23)
    let parentQ := match s.atl.timeQ with | some q => decide (s.get (PAL_Sn_STATUS_sstate (10 + q)) = 3) | none => false
    let spanSel := match selSlot s with | some n => decide (10 ≤ n) && decide (n ≤ 13) | none => false
    let new := if isRoot s then putField w 0 0 0
      else
        let w := putField (putField (putField (putField w 0 0 1) 2 1 2) 11 4 (s.get ATL_PRIO_relay_prio)) 39 28 (s.get ATL_PRIO_relay_qual)
        if parentQ then putField w 3 3 1 else if !spanSel then putField w 3 3 0 else w
    if new = w then s else houseDo s (palHeldWrite (PAL_Sn_CFG 23) new)

/-- The tree is formed again after a change (R413 to R416). -/
def atlElect (s : State) : State :=
  let s := chooseRoot s
  let p := if isRoot s then none else bestParent s
  let changed := decide (p ≠ s.atl.parent)
  let s := if changed then
      (s.setAtl { s.atl with parent := p, parentFrom := s.steady, registered := false, regAt := none, regFull := false }).ev
        ATL_EVENTS_parent_change
    else s
  let n := p.bind (neigh s)
  let crosses := match p, n with | some k, some n => decide (4 ≤ k) || n.flags.testBit 2 | _, _ => false
  let s := s.setAtl { s.atl with crosses := crosses }
  let path := if isRoot s then s.get ATL_ROOT_CAND_val
    else match p, n with | some k, some n => addE n.cost (linkCost s k) | _, _ => unbounded
  atlRefresh (spareSlot (timeTree (s.put ATL_PATH_val path)))

/-- The device leaves the fabric (R411). -/
def atlLeave (s : State) : State :=
  if s.atl.root.isNone ∧ s.atl.nodes = [] then s
  else
    let s := s.setAtl { AtlSt.reset with routes := s.atl.routes, seqs := s.atl.seqs, helloAt := s.atl.helloAt }
    let s := (s.putB ATL_STATE_addr_valid false).put ATL_ADDR_addr 0
    let s := ((s.put ATL_ROOT_HI_val 0).put ATL_ROOT_LO_val 0).put ATL_ROOT_CAND_val unbounded
    atlRefresh (s.put ATL_PATH_val unbounded)

/-! ## Neighbours and the root -/

/-- The body of a HELLO on port `k` (R412). -/
def helloBody (s : State) (k : Nat) : List Nat :=
  let peer := if k < 4 then (match neigh s k with | some n => n.uid | none => 0) else 0
  let parent := match s.atl.parent.bind (neigh s) with | some n => if isRoot s then 0 else n.uid | none => 0
  beBytes 8 peer ++ beBytes 8 (s.atl.root.getD 0) ++ beBytes 5 (s.get ATL_ROOT_CAND_val) ++ beBytes 4 s.atl.rootSeq
    ++ beBytes 5 (s.get ATL_PATH_val) ++ [s.get ATL_STATE_hops] ++ beBytes 8 parent

/-- ATL_HELLO_SEND (R412): every 10 ms on each enabled span port whose link is up, and as a broadcast on the bus. -/
def execAtlHelloSend (s : State) : Out :=
  if !atlLive s then .next (if houseRuns s 8 ∧ (unitErr s ATL_CTL).isNone then atlLeave s else s)
  else if (match s.atl.helloAt with | some t => !s.elapsed (t80Add t (nsU 10000000 : Nat)) | none => false) then .next s
  else
    let s := atlElect (s.setAtl { s.atl with helloAt := some s.steady })
    let send := fun (s : State) (k : Nat) => atlSend s k true 0x10 (s.get ATL_ADDR_addr) 0xFFFF 128 (helloBody s k) false
    let s := [0, 1, 2, 3].foldl (fun s p => if spanLive s p ∧ s.on (SPp_STATUS_link p) then send s p else s) s
    .next (if s.on STB_CFG_en ∧ (unitErr s STB_CFG).isNone then send s 16 else s)

/-- ATL_HELLO_RECEIVE (R412 to R416): from span port `port`, or 4 for the bus. -/
def execAtlHelloReceive (port : Fin 5) (s : State) : Out :=
  atlReceive s port 0x10 (fun fr s =>
    let b := fr.body
    let was := match neigh s fr.key with | some n => n.adjacent && decide (n.uid = fr.uid) | none => false
    let n : Neigh := {
      uid := fr.uid, rootUid := beNum (octets b 8 8), rootCand := beNum (octets b 16 5), rootSeq := beNum (octets b 21 4),
      cost := beNum (octets b 25 5), hops := b.getD 30 0, parent := beNum (octets b 31 8), flags := fr.flags,
      adjacent := decide (16 ≤ fr.key) || was || decide (beNum (octets b 0 8) = ownUid), at_ := s.steady }
    atlElect (s.setAtl { s.atl with nodes := tabIns (tabDel s.atl.nodes fr.key) fr.key n }))

/-- An adjacency is lost (R412, R415). -/
def adjacencyLost (s : State) (k : Nat) : State :=
  if (neigh s k).isNone then s else atlElect (s.setAtl { s.atl with nodes := tabDel s.atl.nodes k })

/-- ADJACENCY_TIMEOUT (R412): span port `port`, or node `node` of the bus where `port` is 4. -/
def execAdjacencyTimeout (port : Fin 5) (node : Fin 32) (s : State) : Out :=
  let k := if port.val < 4 then port.val else 16 + node.val
  match neigh s k with
  | none => .next s
  | some n => .next (if atlLive s ∧ s.elapsed (t80Add n.at_ (nsU 35000000 : Nat)) then adjacencyLost s k else s)

/-- SP_LINK_LOSS (R390, R407, R412): a span port's link goes down; its slot gets a source fault and its adjacency is lost. -/
def execSpLinkLoss (p : Fin 4) (s : State) : Out :=
  if !spanLive s p then .next s
  else
    let s := if s.on (SPp_STATUS_link p) then (s.putB (SPp_STATUS_link p) false).ev (SPp_EVENTS_link_change p) else s
    let s := if s.on (SPp_STATUS_cal_valid p) then (s.putB (SPp_STATUS_cal_valid p) false).ev (SPp_EVENTS_cal_lost p) else s
    let s := (s.putB (SPp_STATUS_rx_lock p) false).putB (SPp_STATUS_an_done p) false
    let s := if houseRuns s 7 then spanFault (s.putB (SPp_LINK_ST_peer_ok p) false) p true else s
    .next (if atlLive s then adjacencyLost s p else s)

/-- ROOT_SEQ_ADVANCE (R414). -/
def execRootSeqAdvance (s : State) : Out :=
  if atlLive s ∧ isRoot s ∧ s.elapsed (t80Add s.atl.countAt (nsU 100000000 : Nat)) then
    .next (s.setAtl { s.atl with rootSeq := (s.atl.rootSeq + 1) % 2 ^ 32, countAt := s.steady, rootAt := s.steady })
  else .next s

/-- ROOT_TIMEOUT (R414): the root is dropped, and claims of it up to the last seq seen are no longer accepted. -/
def execRootTimeout (s : State) : Out :=
  match s.atl.root with
  | none => .next s
  | some r =>
    if atlLive s ∧ r ≠ ownUid ∧ s.elapsed (t80Add s.atl.rootAt (nsU (100000000 * s.get ATL_TIMING_root_to) : Nat)) then
      .next (atlElect (s.setAtl { s.atl with
        root := none, better := none, dropped := tabIns (tabDel s.atl.dropped r) r s.atl.rootSeq }))
    else .next s

/-- CLAIM_HOLD_EXPIRY (R414): the better claim has been heard without a break. -/
def execClaimHoldExpiry (s : State) : Out :=
  match s.atl.better with
  | none => .next s
  | some (u, t) =>
    if atlLive s ∧ s.elapsed (secsAfter t (s.get ATL_TIMING_claim_hold)) then
      let own : Nat × Nat × Nat := (ownCand s, ownUid, 0)
      match (own :: claims s).filter (fun c => decide (c.2.1 = u)) with
      | [] => .next (s.setAtl { s.atl with better := none })
      | c :: cs =>
        let b := cs.foldl betterClaim c
        .next (atlElect (adoptRoot s b.2.1 b.1 b.2.2))
    else .next s

/-! ## Addresses -/

/-- A REGISTER of this device goes to its parent (R417). -/
def sendRegister (s : State) : State :=
  match s.atl.parent with
  | none => s
  | some k =>
    let s := atlSend s k false 0x11 (s.get ATL_ADDR_addr) 0 128 (uidBytes ++ beBytes 2 (s.get ATL_ADDR_pref)) false
    s.setAtl { s.atl with regAt := some s.steady, regFull := false }

/-- REGISTER_SEND (R417): the parent has been unchanged for stable_ms. -/
def execRegisterSend (s : State) : Out :=
  .next (if atlLive s ∧ !isRoot s ∧ !s.atl.registered ∧ s.atl.regAt.isNone
      ∧ s.elapsed (t80Add s.atl.parentFrom (nsU (10000000 * s.get ATL_TIMING_stable_ms) : Nat)) then sendRegister s else s)

/-- REGISTER_RETRY (R418): 200 ms without a GRANT, or 10 s after a refusal. -/
def execRegisterRetry (s : State) : Out :=
  match s.atl.regAt with
  | none => .next s
  | some t =>
    let due := t80Add t (nsU (if s.atl.regFull then 10000000000 else 200000000) : Nat)
    .next (if atlLive s ∧ !isRoot s ∧ !s.atl.registered ∧ s.elapsed due then sendRegister s else s)

/-- A frame is passed on to neighbour `k` with one hop less; none where its hops run out. -/
def atlForward (s : State) (fr : AtlFrame) (k : Nat) : Option State :=
  if fr.ttl ≤ 1 then none else some (atlSend s k false fr.kind fr.src fr.dst (fr.ttl - 1) fr.body false)

/-- REGISTER_RECEIVE (R417, R418): the UID is recorded against its neighbour for 1 s; the root grants, another device passes
the frame to its parent. -/
def execRegisterReceive (port : Fin 5) (s : State) : Out :=
  atlReceive s port 0x11 (fun fr s =>
    let uid := beNum (octets fr.body 0 8)
    let want := beNum (octets fr.body 8 2)
    let old := s.atl.seen.filter (fun e => !decide (e.1 = uid) && !s.elapsed e.2.2)
    let s := s.setAtl { s.atl with seen := old ++ [(uid, fr.key, secsAfter s.steady 1)] }
    if isRoot s then
      let loser := s.atl.grants.find? (fun g => decide (g.2 = want) && decide (uid < g.1)
        && !s.atl.grants.any (fun h => decide (h.1 = uid)))
      let route := tabGet (fun _ => (0 : Word)) s.atl.routes want
      let back := if fieldOf route 38 36 < 4 then fieldOf route 38 36 else 16 + fieldOf route 12 8
      let s := grantTo s fr.key uid want
      atlRefresh (match loser with
        | some g => if s.atl.grants.any (fun h => decide (h.1 = g.1)) then s else grantAgain s g.1 back
        | none => s)
    else match s.atl.parent with
      | none => s
      | some k => (atlForward s fr k).getD s)

/-- GRANT_RECEIVE (R417, R418). -/
def execGrantReceive (port : Fin 5) (s : State) : Out :=
  atlReceive s port 0x12 (fun fr s =>
    let uid := beNum (octets fr.body 0 8)
    let a := beNum (octets fr.body 8 2)
    let full := decide (fr.body.getD 10 0 = 1)
    if uid = ownUid then
      if full then
        atlRefresh ((s.setAtl { s.atl with regFull := true, regAt := some s.steady }).inc ATL_CNT_REG_REFUSED_count)
      else atlRefresh (setAddr (s.setAtl { s.atl with registered := true, regAt := none, regFull := false }) a)
    else match s.atl.seen.find? (fun e => decide (e.1 = uid) && !s.elapsed e.2.2) with
      | none => s
      | some (_, k, _) =>
        match atlForward s fr k with
        | none => s
        | some t => if full then t else installRoute t a k)

/-! ## Management frames -/

/-- The neighbours on the tree: the children and the parent (log 45). -/
def treeKeys (s : State) : List Nat :=
  (s.atl.nodes.filter (fun e => e.2.adjacent && (decide (e.2.parent = ownUid) || decide (s.atl.parent = some e.1)))).map Prod.fst

/-- A MGMT frame is delivered (R419): its whole payload (log 46). -/
def mgmtDeliver (s : State) (whole : List Nat) : State :=
  match pushPacket s (s.get ATL_FIFO_mgmt_rx) (frameWords whole) with
  | some s => s
  | none => s.inc ATL_CNT_MGMT_DROP_count

/-- A MGMT frame goes to neighbour `k`, with one hop less unless it starts here. -/
def mgmtTo (s : State) (fr : AtlFrame) (start : Bool) (k : Nat) : State :=
  if start then (atlSend s k false 0x14 fr.src fr.dst fr.ttl fr.body false).inc ATL_CNT_MGMT_FWD_count
  else match atlForward s fr k with
    | some s => s.inc ATL_CNT_MGMT_FWD_count
    | none => s.inc ATL_CNT_MGMT_DROP_count

/-- The routing of R419. -/
def mgmtRoute (s : State) (fr : AtlFrame) (start : Bool) : State :=
  if fr.dst = 0xFFFF then
    let s := mgmtDeliver s fr.whole
    ((treeKeys s).filter (fun k => start || !decide (k = fr.key))).foldl (fun s k => mgmtTo s fr start k) s
  else if s.on ATL_STATE_addr_valid ∧ fr.dst = s.get ATL_ADDR_addr then mgmtDeliver s fr.whole
  else
    let w := tabGet (fun _ => (0 : Word)) s.atl.routes fr.dst
    if bitAt w 39 ∧ fieldOf w 38 36 = 5 then mgmtDeliver s fr.whole
    else if bitAt w 39 then mgmtTo s fr start (if fieldOf w 38 36 < 4 then fieldOf w 38 36 else 16 + fieldOf w 12 8)
    else match (if isRoot s then none else s.atl.parent) with
      | some k => mgmtTo s fr start k
      | none => s.inc ATL_CNT_MGMT_DROP_count

/-- MGMT_FRAME_RECEIVE (R419). -/
def execMgmtFrameReceive (port : Fin 5) (s : State) : Out := atlReceive s port 0x14 (fun fr s => mgmtRoute s fr false)

/-- MGMT_SEND (R419): the packet at the head of mgmt_tx. A length above 1,400 is not one the rule allows. -/
def execMgmtSend (s : State) : Out :=
  if !atlLive s then .next s
  else match takePacket s (s.get ATL_FIFO_mgmt_tx) with
    | none => .next s
    | some (ws, s) =>
      let w0 := ws.getD 0 0
      let len := fieldOf w0 26 16
      if 1400 < len then .fault .unpredictable
      else
        let src := s.get ATL_ADDR_addr
        let dst := fieldOf w0 15 0
        let body := wordsBytes len (ws.drop 1)
        let whole := [1, 0x14] ++ beBytes 2 (38 + len) ++ uidBytes ++ beBytes 2 src ++ beBytes 2 dst ++ [128, atlFlags s, 0, 0, 0, 0]
          ++ body ++ List.replicate 16 0
        .next (mgmtRoute s { key := 0, kind := 0x14, uid := ownUid, src := src, dst := dst, ttl := 128, flags := atlFlags s,
                             body := body, whole := whole } true)

/-! ## The relay -/

/-- The tree children over span links. -/
def spanChildren (s : State) : List Nat :=
  (s.atl.nodes.filter (fun e => decide (e.1 < 4) && e.2.adjacent && decide (e.2.parent = ownUid))).map Prod.fst

/-- The body of a RELAY (R420). -/
def relayBody (t : T80) (cum : Int) (rb path : Nat) (lin : List Nat) : List Nat :=
  beT80 t ++ beBytes 5 (cum % 2 ^ 40).toNat ++ beBytes 5 rb ++ beBytes 5 path ++ lin

/-- RELAY_SEND (R420): the root, 20 ms after a whole second, once for each. -/
def execRelaySend (s : State) : Out :=
  let sec := s.now.sec
  if atlLive s ∧ isRoot s ∧ nsU 20000000 ≤ s.now.low ∧ s.atl.relayed ≠ some sec then
    let s := s.setAtl { s.atl with relayed := some sec }
    .next ((spanChildren s).foldl (fun s k =>
      let b := addE (s.get (SPp_BMAX_b k)) (emitTerm s (24 + k))
      atlSend s k false 0x13 (s.get ATL_ADDR_addr) 0xFFFF 128 (relayBody ⟨sec, 0⟩ 0 b 0 (beBytes 5 (s.rd GLZ_LIN).toNat)) true) s)
  else .next s

/-- Slot 23 is fed from a RELAY (R420, R422): its terms and its sample `cum`. -/
def relayFeed (s : State) (t : T80) (rb path : Nat) (cum : Int) : State :=
  let yr : Rat := if 10 ≤ s.atl.relayCount then driftRate s 23 else 1 / 10 ^ 5
  let age : Rat := psOf (t80Diff s.now t)
  let s := s.wr (GLZ_Sn_ASYM 23) (w40 path)
  let s := s.wr (GLZ_Sn_MEAS 23) (w40 (addE (ceilE (yr * |age|)) 1))
  let s := s.wr (PAL_Sn_BOUND 23) (w40 rb)
  let raw := s.get (PAL_Sn_ADV_raw 23)
  let s := houseDo s (advWrite 23 (w40 (4 * 2 ^ 16 + raw * 2 ^ 8 + boundRank (addE rb path))))
  let root := s.atl.root.getD 0
  let s := s.wr (GLZ_Sn_UP_HI 23) (w40 (2 * 2 ^ 32 + root / 2 ^ 32))
  let s := houseDo s (upLoWrite 23 (w40 (root % 2 ^ 32)))
  let s := houseDo s (calWrite 23 (putField (s.rd (GLZ_Sn_CAL 23)) 39 32 (min 255 (s.get ATL_STATE_hops))))
  let s := s.setAtl { s.atl with relayCount := s.atl.relayCount + 1 }
  if s.on TB_STATUS_time_valid then feedSlot s 23 cum else houseDo s (sampleWrite 23 (sat40 cum).1)

/-- The seed of R422: none once the time is valid; the one chosen on the first RELAY; or the whole seconds that bring the
sample `x` (ps) nearest to zero. -/
def relaySeed (s : State) (x : Rat) : Option Int × State :=
  if s.on TB_STATUS_time_valid then (none, s)
  else match s.atl.seed with
    | some l => (some l, s)
    | none =>
      let y := -x / 10 ^ 12
      let (l, s) := roundQ s y.num y.den
      (some l, s)

/-- RELAY_RECEIVE (R420 to R422): from the parent on its span port; any other is left without effect, and one that no
exchange is complete for cannot be carried on. -/
def execRelayReceive (port : Fin 5) (s : State) : Out :=
  atlReceive s port 0x13 (fun fr s =>
    let q := fr.key
    match (s.span q).theta with
    | none => s
    | some (th, launch) =>
      if s.atl.parent ≠ some q ∨ 4 ≤ q then s
      else
        let t := t80Be fr.body 0
        let cumIn := psOf (signedOf 40 (beNum (octets fr.body 10 5)))
        let rb := beNum (octets fr.body 15 5)
        let pathIn := beNum (octets fr.body 20 5)
        let x := cumIn + th
        let (seed, s) := relaySeed s x
        let s := s.setAtl { s.atl with seed := seed }
        let (cum, s) := p40Ps s (x + (seed.getD 0 : Rat) * 10 ^ 12)
        let yb := driftRate s (10 + q)
        let hop := addE (addE (addE (addE 25 (s.rd (GLZ_Sn_MEAS (10 + q))).toNat) (s.rd (GLZ_Sn_ASYM (10 + q))).toNat)
          (ceilE (yb * |th|))) (ceilE (yb * |psOf (t80Diff t launch)|))
        let path := addE pathIn hop
        let s := if s.on ATL_CTL_relay_en then spareSlot (relayFeed s t rb path cum) else s
        if fr.ttl ≤ 1 then s
        else (spanChildren s).foldl (fun s k =>
          atlSend s k false 0x13 fr.src fr.dst (fr.ttl - 1)
            (relayBody t (sgn (sat40 cum).1) rb path (octets fr.body 25 5)) false) s)

end Sys2Proof.Machine
end

