-- ==== Sys2Proof/Machine/Operands.lean ====
section
/-! DEFINITION. The operand forms of Idearyn: general registers with g0 hard-wired (R43), register pairs (R44), the second
operand of an arithmetic instruction (R50), effective addresses (R68), branch targets (R64), and the fields of R49 that must be
zero. -/

namespace Sys2Proof.Machine

/-- The value of general register `r`: g0 reads as zero (R43). -/
def Core.g (c : Core) (r : Nat) : Word := if r = 0 then 0 else tabGet (fun _ => (0 : Word)) c.regs r

/-- General register `r` is written: a write of g0 is discarded (R43). -/
def Core.setG (c : Core) (r : Nat) (w : Word) : Core :=
  if r = 0 then c else { c with regs := tabSet (fun _ => (0 : Word)) c.regs r w }

/-- A pair may be named as a source by an even number (R44). -/
def pairSrc (r : GReg) : Bool := decide (r.val % 2 = 0)

/-- A pair may be named as a destination by an even number that is not 0 (R44). -/
def pairDst (r : GReg) : Bool := decide (r.val % 2 = 0) && decide (r.val ≠ 0)

/-- The time that pair `r` holds (R44). -/
def Core.pair (c : Core) (r : Nat) : T80 := t80Of (c.g r) (c.g (r + 1))

/-- A pair is written (R44). -/
def Core.setPair (c : Core) (r : Nat) (hi lo : Word) : Core := (c.setG r hi).setG (r + 1) lo

/-- The second operand with its immediate sign-extended: ADD and SUB (R50). -/
def Core.srcS (c : Core) : Src2 → Word
  | .reg r => c.g r
  | .imm i => sext 19 i.toNat

/-- The second operand with its immediate zero-extended: AND, OR and XOR (R50). -/
def Core.srcZ (c : Core) : Src2 → Word
  | .reg r => c.g r
  | .imm i => w40 i.toNat

/-- The amount of a shift: six bits of the register or of the immediate (R54). -/
def Core.shiftBy (c : Core) : Src2 → Nat
  | .reg r => (c.g r).toNat % 64
  | .imm i => i.toNat % 64

/-- A shift immediate's bits [18:6] are reserved (R50). -/
def shiftOk : Src2 → Bool
  | .reg _ => true
  | .imm i => decide (i.toNat < 64)

/-- The registers that a second operand reads. -/
def srcRegs : Src2 → List Nat
  | .reg r => [r.val]
  | .imm _ => []

/-- The effective address of a load or store, modulo 2^32 (R68). -/
def Core.ea (c : Core) (base : GReg) (off : BitVec 19) : Nat :=
  ((((c.g base).toNat % 2 ^ 32 : Nat) : Int) + signedOf 19 off.toNat) % (2 ^ 32) |>.toNat

/-- The target of a branch or call (R64): an offset from its own address, or the low 32 bits of a register. -/
def Core.target (c : Core) : Target → Nat
  | .off o => (((c.pc : Int) + signedOf 19 o.toNat) % (2 ^ 32)).toNat
  | .reg r => (c.g r).toNat % 2 ^ 32

/-- The registers that a target reads. -/
def targetRegs : Target → List Nat
  | .off _ => []
  | .reg r => [r.val]

end Sys2Proof.Machine
end

