-- ==== Sys2Proof/Machine/Flags.lean ====
section
/-! DEFINITION. The computation of Idearyn: results and flags of arithmetic, shifts, multiplication, accumulators and time
(R52 to R62). Each function answers the result with the flags after it; `f` is the flags before. -/

namespace Sys2Proof.Machine

/-- Z and N by a 40-bit result (R53). -/
def flagsZN (f : Flags) (r : Word) : Flags := { f with z := decide (r = 0), n := bitAt r 39 }

/-- The true signed result lies outside -2^39 to 2^39 - 1 (R53). -/
def outside40 (x : Int) : Bool := decide (x < -(2 ^ 39)) || decide (2 ^ 39 ≤ x)

/-- ADD (R52). -/
def addFlags (f : Flags) (a b : Word) : Word × Flags :=
  let r := a + b
  (r, { flagsZN f r with c := decide (2 ^ 40 ≤ a.toNat + b.toNat), v := outside40 (sgn a + sgn b) })

/-- SUB (R52). -/
def subFlags (f : Flags) (a b : Word) : Word × Flags :=
  let r := a - b
  (r, { flagsZN f r with c := decide (a.toNat < b.toNat), v := outside40 (sgn a - sgn b) })

/-- AND, OR and XOR: V cleared, C unchanged (R52). -/
def logicFlags (f : Flags) (r : Word) : Word × Flags := (r, { flagsZN f r with v := false })

/-- A shift's flags (R52, R54): V cleared; C unchanged when the amount is 0. -/
def shiftFlags (f : Flags) (n : Nat) (r : Word) (c : Bool) : Word × Flags :=
  (r, { flagsZN f r with c := if n = 0 then f.c else c, v := false })

/-- SHL (R54). -/
def shlFlags (f : Flags) (a : Word) (n : Nat) : Word × Flags :=
  shiftFlags f n (a <<< n) (decide (n ≤ 40) && bitAt a (40 - n))

/-- SHR (R54). -/
def shrFlags (f : Flags) (a : Word) (n : Nat) : Word × Flags :=
  shiftFlags f n (a >>> n) (decide (n ≤ 40) && bitAt a (n - 1))

/-- SRA (R54). -/
def sraFlags (f : Flags) (a : Word) (n : Nat) : Word × Flags :=
  shiftFlags f n (a.sshiftRight n) (if n ≤ 40 then bitAt a (n - 1) else bitAt a 39)

/-- MUL and MUL.Q (R56). -/
def mulFlags (f : Flags) (a b : Word) (q : Bool) : Word × Flags :=
  let p := sgn a * sgn b
  if q then
    let (r, v) := sat40 (p / 2 ^ 39)
    (r, { flagsZN f r with v := v })
  else
    let r := i40 p
    (r, { flagsZN f r with v := outside40 p })

/-- LIH (R55): no flag changes. -/
def lihWord (a : Word) (imm : BitVec 19) : Word := (a <<< 19) ||| w40 imm.toNat

/-- The product of MAC and MSC added to or taken from an accumulator, cleared first if asked (R57). -/
def macAcc (acc : BitVec 88) (a b : Word) (sub clr : Bool) : BitVec 88 :=
  let acc := if clr then 0 else acc
  let p := BitVec.ofInt 88 (sgn a * sgn b)
  if sub then acc - p else acc + p

/-- ACC's read-out (R58). -/
def accFlags (f : Flags) (acc : BitVec 88) (sh : Nat) (trunc : Bool) : Word × Flags :=
  let x := acc.toInt * 2 ^ sh + (if trunc then 0 else 2 ^ 38)
  let (r, v) := sat40 (x / 2 ^ 39)
  (r, { flagsZN f r with v := v })

/-- TADD.T and TADD.P (R59): time `a` plus `s` seconds and `d` units. Answers both words. -/
def taddFlags (f : Flags) (a : T80) (s d : Int) : Word × Word × Flags :=
  let u : Int := (unitsPerSec : Nat)
  let x := (a.low : Int) + d
  let (x, c) : Int × Int := if u ≤ x then (x - u, 1) else if x < 0 then (x + u, -1) else (x, 0)
  let t := (a.sec : Int) + s + c
  let hi := i40 t
  let lo := i40 x
  (hi, lo, { f with z := decide (hi = 0 ∧ lo = 0), n := false, c := decide (c ≠ 0),
                    v := decide (t < 0) || decide (2 ^ 40 ≤ t) })

/-- TSUB's exact difference (R60): whole seconds, units below one second, and the borrow. -/
def tsubParts (a b : T80) : Int × Int × Bool :=
  let x := (a.low : Int) - b.low
  let neg := decide (x < 0)
  let x := if neg then x + (unitsPerSec : Nat) else x
  ((a.sec : Int) - b.sec - (if neg then 1 else 0), x, neg)

/-- TSUB.T (R60). -/
def tsubTFlags (f : Flags) (a b : T80) : Word × Word × Flags :=
  let (t, x, c) := tsubParts a b
  (i40 t, i40 x, { f with z := decide (t = 0 ∧ x = 0), n := decide (t < 0), c := c, v := outside40 t })

/-- TSUB.P (R60). -/
def tsubPFlags (f : Flags) (a b : T80) : Word × Flags :=
  let (t, x, c) := tsubParts a b
  let d := t * (unitsPerSec : Nat) + x
  let (r, v) := sat40 d
  (r, { f with z := decide (d = 0), n := decide (d < 0), c := c, v := v })

/-- TCMP (R61). -/
def tcmpFlags (f : Flags) (a b : T80) : Flags :=
  let lt := t80Lt a b
  { f with z := decide (a.sec = b.sec ∧ a.low = b.low), c := lt, n := lt, v := false }

/-- TEXT (R62, R7). -/
def textFlags (f : Flags) (stamp : Word) (ref : T80) : Word × Word × Flags :=
  let (r, t, d) := s40Extend stamp.toNat ref
  (T80hi r, T80lo r, { f with n := decide (d < 0), z := decide (d = 0), v := decide (t < 0) || decide (2 ^ 40 ≤ t) })

/-- The conditions of BRC (R65). -/
def condHolds (f : Flags) (cc : Nat) : Bool :=
  if cc = 0 then f.z
  else if cc = 1 then !f.z
  else if cc = 2 then f.n != f.v
  else if cc = 3 then f.n == f.v
  else if cc = 4 then !f.z && (f.n == f.v)
  else if cc = 5 then f.z || (f.n != f.v)
  else if cc = 6 then f.c
  else if cc = 7 then !f.c
  else if cc = 8 then !f.c && !f.z
  else if cc = 9 then f.c || f.z
  else if cc = 10 then f.v
  else if cc = 11 then !f.v
  else if cc = 12 then f.e
  else if cc = 13 then !f.e
  else if cc = 14 then f.l
  else !f.l

end Sys2Proof.Machine
end

