-- ==== Sys2Proof/Machine/Mem.lean ====
section
/-! DEFINITION. The memories of the word address map (R479 to R492): which access errors, what a read returns, what a write
leaves, and the scrubber. The unit register space and the FIFO ports are dispatched elsewhere. -/

namespace Sys2Proof.Machine

/-- The targets of the word address map (R479). -/
inductive Target40 where
  | rom
  | imem (c : Nat)
  | dmem (c : Nat)
  | brush (g : Nat)
  | backup
  | regs
  | fifo
  | vault
  | dram
  | default_
deriving DecidableEq, Repr

/-- The target that a word address reaches (R479, R480). -/
def targetOf (a : Nat) : Target40 :=
  if a < 0x80000 then .rom
  else if 0x100000 ≤ a ∧ a < 0x180000 then
    (if (a / 0x10000) % 2 = 0 then .imem ((a - 0x100000) / 0x20000) else .dmem ((a - 0x100000) / 0x20000))
  else if 0x200000 ≤ a ∧ a < 0x240000 then .brush ((a - 0x200000) / 0x10000)
  else if 0x300000 ≤ a ∧ a < 0x310000 then .backup
  else if 0x400000 ≤ a ∧ a < 0x410000 then .regs
  else if 0x410000 ≤ a ∧ a < 0x500000 then .default_
  else if 0x500000 ≤ a ∧ a < 0x510000 then .fifo
  else if 0x600000 ≤ a ∧ a < 0x601000 then .vault
  else if 0x10000000 ≤ a ∧ a < 0x13000000 then .dram
  else .default_

/-- House reserved memory is Keeper's alone (R104, R111). -/
def houseReserved (a : Nat) : Bool := decide (0xF000 ≤ a % 0x10000)

/-- The error of an access to a cluster's or group's memory (R25, R104, R480). -/
def clusterErr (s : State) (m : Master) (unit a : Nat) (reserved : Bool) : Option Nat :=
  match unitErr s (unit * 0x100) with
  | some k => some k
  | none => if reserved && houseReserved a && !m.keeper then some 1 else none

/-- Whether a word lies in an enabled protected window (R488). -/
def protectedWord (s : State) (a : Nat) : Bool :=
  (List.range 4).any (fun k => s.on (MEM_PROTk_BASE_en k) && decide (s.get (MEM_PROTk_BASE_addr k) ≤ a)
    && decide (a ≤ s.get (MEM_PROTk_LIMIT_addr k)))

/-- Whether a word lies in the DRAM ledger, which only the Sketchbook, Keeper ledger recovery and the twin mirror engine write: any other
write of it is unpredictable (R125, R148); a frame that a DMA stores there is not looked for (DESIGN CHOICE, log 158). -/
def ledgerWord (s : State) (a : Nat) : Bool :=
  decide (targetOf a = .dram) && decide (s.get SKB_LEDGER_BASE_base ≤ a) && decide (a < s.get SKB_LEDGER_BASE_base + 393216)

/-- Whether some of `n` consecutive words lie in the ledger. -/
def ledgerHit (s : State) (a n : Nat) : Bool := (List.range n).any (fun i => ledgerWord s (a + i))

/-- The error that a read of a memory word gets, before the DRAM's own check (R480, R104). -/
def memReadErr (s : State) (m : Master) (a : Nat) : Option Nat :=
  match targetOf a with
  | .rom => none
  | .imem c => clusterErr s m (0x060 + c) a false
  | .dmem c => clusterErr s m (0x060 + c) a true
  | .brush g => clusterErr s m (0x088 + g) a true
  | .backup => if m.keeper then none else some 1
  | .dram =>
    match unitErr s MEM_STATUS with
    | some k => some k
    | none => if s.badBurst (burstOf a) then some 4 else none
  | _ => some 0

/-- The error that a write of a memory word gets (R480, R486, R488, R104). -/
def memWriteErr (s : State) (m : Master) (a : Nat) : Option Nat :=
  match targetOf a with
  | .rom => some 0
  | .dram =>
    match unitErr s MEM_STATUS with
    | some k => some k
    | none =>
      if protectedWord s a && !m.keeper then some 1
      else if s.badBurst (burstOf a) then some 4 else none
  | _ => memReadErr s m a

/-- A burst that an access finds uncorrectable is recorded (R486). -/
def noteBurst (s : State) (m : Master) (a k : Nat) : State :=
  if k = 4 then dramUncorr s (burstOf a) false (some m.id.val) else s

/-- A read of a memory word: the error it gets, or the word. -/
def memRead (s : State) (m : Master) (a : Nat) : (Option Nat × Word) × State :=
  match memReadErr s m a with
  | some k => ((some k, 0), noteBurst s m a k)
  | none => ((none, s.ld a), s)

/-- A write of a memory word: the error it gets, or the word is stored. -/
def memWrite (s : State) (m : Master) (a : Nat) (w : Word) : Option Nat × State :=
  match memWriteErr s m a with
  | some k => (some k, noteBurst s m a k)
  | none => (none, s.st a w)

/-- A transfer of `n` words at `a` replaces every burst it covers whole, an uncorrectable one too (R486). -/
def coverBursts (s : State) (m : Master) (a n : Nat) : State :=
  { s with dramErr := s.dramErr.filter (fun e =>
      let b := 0x10000000 + 12 * e.1
      !(decide (a ≤ b) && decide (b + 12 ≤ a + n) && !(!m.keeper && (List.range 12).any (fun i => protectedWord s (b + i)))
        && decide (unitErr s MEM_STATUS = none))) }

/-- A hardware master stores consecutive words; an error is recorded and that word is not stored (R493). -/
def dmaStore (m : Master) : State → Nat → List Word → State
  | s, _, [] => s
  | s, a, w :: ws =>
    let r := memWrite s m a w
    dmaStore m (match r.1 with | some k => mtxErr r.2 m k a true | none => r.2) (a + 1) ws

/-- A hardware master reads consecutive words; a word that errs is recorded and has no value: a free one stands for it. -/
def dmaLoad (m : Master) : State → Nat → Nat → List Word × State
  | s, _, 0 => ([], s)
  | s, a, n + 1 =>
    let r := memRead s m a
    let (w, s) := match r.1.1 with
      | some k => let f := (mtxErr r.2 m k a false).free; f
      | none => (r.1.2, r.2)
    let (ws, s) := dmaLoad m s (a + 1) n
    (w :: ws, s)

/-- The spacing of scrub steps in 1/1024 ns (R487): a pass of 4,194,304 bursts in period_s seconds. -/
def scrubPeriod (s : State) : Nat := s.get MEM_SCRUB_period_s * unitsPerSec / 4194304

/-- SCRUB_STEP (R487, R486): the scrubber reads the next burst, one period after the last. `inner` errors were corrected inside the die, and the outer
code found none (0), one or two symbols (1), or an uncorrectable burst (2). -/
def execScrubStep (inner : Fin 5) (found : Fin 3) (s : State) : Out :=
  if (unitErr s MEM_STATUS).isSome ∨ !s.on MEM_STATUS_ready ∨ !s.on MEM_SCRUB_en
      ∨ (match s.scrubAt with | some t => !s.elapsed (t80Add t (scrubPeriod s : Nat)) | none => false : Bool) then .next s
  else
    let b := s.get MEM_SCRUB_POS_burst
    let s : State := { s with scrubAt := some s.steady }
    let s := s.putB MEM_STATUS_scrubbing true
    let s := (List.range inner.val).foldl (fun s _ => s.incSat MEM_CNT_INNER_count) s
    let s := if found = 2 ∨ s.badBurst b then dramUncorr (s.setBurst b true) b true none
      else if found = 1 then (s.incSat MEM_CNT_CORR_count).ev MEM_EVENTS_corr
      else s
    let s := s.put MEM_SCRUB_POS_burst (b + 1)
    .next (if b + 1 = 4194304 then s.ev MEM_EVENTS_pass_done else s)

end Sys2Proof.Machine
end

