-- ==== Sys2Proof/Machine/Ledger.lean ====
section
/-! DEFINITION. The writes of the DRAM ledger (R149, R570): what is on chip, the burst that a slot shares with another, a stroke
without a verifying copy, and the writes that a reset strikes. -/

namespace Sys2Proof.Machine

/-- Whether the ledger write of the offer that holds slot `i` has still to complete. -/
def inFlight (s : State) (i : Nat) : Bool := s.skb.offers.any (fun o => decide (o.slot = some i) && !o.wrote)

/-- Whether a verifying copy of a slot's words is on chip (R570). -/
def onChip (s : State) (i : Nat) : Bool := (s.led i).chip && strokeOk (s.led i).stroke && (inNear s i || inFlight s i)

/-- A stroke has no verifying copy (R35): reported lost where the device stands alone, and the device is FATAL. -/
def strokeLost (s : State) (i : Nat) : State :=
  let s := if s.get TW_STATUS_pstate = 3 then s else finishSlot s i 4 0
  raiseSrc s 0 none

/-- The other slot of a burst whose read found it uncorrectable, without a copy on chip (R149). -/
def otherSlotLost (s : State) (j : Nat) : State :=
  let s := s.ev SKB_EVENTS_check_fail
  let x := s.led j
  if x.state = 0 ∨ x.state = 3 then ledgerStore (s.setLed j Slot.free) j else strokeLost s j

/-- The burst of slot `i` as a write of it is made (R149): the words of the other slot come from its on-chip copy, else from a read of
the burst, and a burst found uncorrectable is replaced. The words of a slot whose own write has not begun are not written for it
(log 153). -/
def ledgerBurst (s : State) (i : Nat) : State :=
  let b := burstOf (slotAddr s i)
  let j := if i % 2 = 0 then i + 1 else i - 1
  let good := s.setBurst b false
  if inFlight s j then
    (if s.badBurst b then (dramUncorr good b false none).stN (slotAddr s j) (slotWords Slot.free) else s)
  else if onChip s j then ledgerStore good j
  else if s.badBurst b then otherSlotLost (dramUncorr good b false none) j
  else s

/-- A full-burst write of slot `i` (R149). -/
def ledgerWrite (s : State) (i : Nat) : State := ledgerStore (ledgerBurst s i) i

/-- A ledger write that a warm reset strikes (R149): one whose transfer has begun completes, which on a device that stands alone is the
stroke's commit point. Whether it had begun is a free value (log 153). -/
def resetWrite (s : State) (o : Offer) : State :=
  match o.slot with
  | none => s
  | some i =>
    if o.wrote then s
    else
      let (begun, s) := s.freeBelow 2
      if begun = 1 then ledgerWrite (if o.mirrored then s else noteAccepted s (s.led i).seq) i else s

/-- The seqs of the mirrored strokes whose acknowledgement has not come (R150). -/
def unackedSeqs (s : State) : List Nat :=
  s.skb.offers.filterMap (fun o => if o.mirrored && !o.acked then o.slot.map (fun i => (s.led i).seq) else none)

end Sys2Proof.Machine
end

