-- ==== Sys2Proof/Machine/PalTick.lean ====
section
/-! DEFINITION. The Palette tick: selection, switching and the states of the Palette (R168, R183 to R195), and the effects
that fall due at stated delays after it. -/

namespace Sys2Proof.Machine

/-- Whether a slot is selectable (R182, R183). -/
def selectable (s : State) (n : Nat) : Bool :=
  decide (s.get (PAL_Sn_STATUS_sstate n) = 3) && !s.on (PAL_Sn_CFG_lockout n) && !s.on (PAL_Sn_STATUS_range n)
    && decide (s.get (PAL_Sn_STATUS_eff_rank n) ≠ 15) && (s.on TB_STATUS_time_valid || decide (slotKind s n = 2))

/-- The order of R184: (eff_rank, priority, slot number), lower first. -/
def slotKey (s : State) (n : Nat) : Nat :=
  s.get (PAL_Sn_STATUS_eff_rank n) * 8192 + s.get (PAL_Sn_CFG_priority n) * 32 + n

/-- The best of the candidates, none if there is none. -/
def bestOf (s : State) : List Nat → Option Nat
  | [] => none
  | n :: ns =>
    match bestOf s ns with
    | none => some n
    | some b => if slotKey s n < slotKey s b then some n else some b

/-- PAL_STATE.state changes, with its event (R192). -/
def palState (s : State) (st : Nat) : State :=
  if s.get PAL_STATE_state = st then s
  else
    let s := (s.put PAL_STATE_state st).ev PAL_EVENTS_state_change
    { s with pal := { s.pal with lockFrom := none } }

/-- The servo's input of a slot, in 10^-12/1024 ns (R186). -/
def servoInput (s : State) (n : Nat) : Int := slotPhase s n * fineUnit - (s.slot n).x

/-- The decision of a switch (step 1 of R187), with steps 2 to 4 to follow; the old slot's terms as they stand (R225). -/
def switchTo (s : State) (n reason : Nat) : State :=
  let cur := selSlot s
  let mode := (termsNow s).1
  let fromHold := decide (mode = 2) || decide (mode = 3) || decide (cur = none)
  let xo := match cur with | none => (0 : Int) | some o => (s.slot o).x
  let base := match cur with | none => (0 : Int) | some o => servoInput s o
  let w : Switch :=
    { from_ := cur, to_ := n, t0 := s.now, base := base, phaseS := slotPhase s n, xo := xo, a := none,
      oldRef := (match cur with
        | some o => if fromHold then s.get UND_B_ENTRY_b else refTerm s o xo
        | none => s.get UND_B_ENTRY_b),
      oldEvt := s.glz.evtNew,
      fromHold := fromHold }
  let s := { s with pal := { s.pal with sw := some w } }
  let s := if slotKind s n = 0 then latchEntry { s with und := { s.und with hFrom := s.steady } } else s
  let s := (s.putB PAL_STATE_switching true).putB PAL_STATE_step_hold false
  let s := { s with pal := { s.pal with wide := false, stepUs := none, stepMissed := false } }
  let s := (((s.put PAL_LAST_SW_reason reason).putB PAL_LAST_SW_from_valid cur.isSome).put PAL_LAST_SW_from
    (cur.getD 0)).put PAL_LAST_SW_to n
  let s := (s.putT PAL_LAST_SW_T_HI PAL_LAST_SW_T_LO s.now).inc PAL_SWITCHES_count
  let s := if reason = 2 ∨ reason = 3 then dropWaiting s else s
  ((s.later 1000 .bridge).later 4000 .absorb).later 6000 .slewA

/-- Step 2 of R187: the servo's input is bridged (R203). -/
def switchBridge (s : State) : State :=
  let m := s.get UND_STATUS_mode
  if s.on PAL_STATE_switching ∧ (m = 1 ∨ m = 2) then
    State.put { s with und := { s.und with before := m } } UND_STATUS_mode 3
  else s

/-- Step 3: A from the filtered phases as they stood at t0 (R186). -/
def switchAbsorb (s : State) : State :=
  match s.pal.sw with
  | none => s
  | some w => { s with pal := { s.pal with sw := some { w with a := some (w.phaseS * fineUnit - w.base) } } }

/-- Step 4: X_s is set and TB_SLEW_ADD written, unless a step hold applies (R190), for which House then offers a step of -A in whole µs, or
of the wide offset where the slot's range flag is set (R191). -/
def switchSlew (s : State) : State :=
  match s.pal.sw with
  | none => s
  | some w =>
    match w.a with
    | none => s
    | some a =>
      let n := w.to_
      let s := s.setSlot n { s.slot n with x := a }
      let (la, s) := p40OrFree s (a.tdiv fineUnit)
      let s := s.wr PAL_LAST_ABS la
      if slotKind s n = 0 then s
      else
        let th := s.get TB_STEP_THRESH_thresh
        if (th ≠ 0 ∧ ((th * 1024 : Nat) : Int) * fineUnit ≤ (a.natAbs : Int)) ∨ s.on (PAL_Sn_STATUS_range n) then
          let us := if s.on (PAL_Sn_STATUS_range n) then s.getI PAL_WIDE_OFS_ofs else a.tdiv (fineUnit * 1024 * 1000)
          let s : State := { s with pal := { s.pal with stepUs := some (-us) } }
          (s.putB PAL_STATE_step_hold true).ev PAL_EVENTS_step_wanted
        else slewAdd s ((w.xo - a).tdiv fineUnit)

/-- The selection shown in PAL_STATE and PAL_Sn_STATUS. -/
def markSelected (s : State) (n : Option Nat) : State :=
  let s := (List.range 24).foldl (fun s k => s.putB (PAL_Sn_STATUS_selected k) (decide (n = some k))) s
  match n with
  | none => (s.putB PAL_STATE_sel_valid false).putB PAL_STATE_time_traceable false
  | some k =>
    ((s.put PAL_STATE_sel_slot k).putB PAL_STATE_sel_valid true).putB PAL_STATE_time_traceable (decide (slotKind s k ≠ 0))

/-- The servo takes the new slot (R203, R204). -/
def servoTake (s : State) : State :=
  let m := s.get UND_STATUS_mode
  if m = 3 then narrow (State.put { s with und := { s.und with i := s.und.l } } UND_STATUS_mode s.und.before)
  else if m = 4 then
    let s := s.ev UND_EVENTS_hold_exit
    if s.on UND_CTL_run then servoStart s else s.put UND_STATUS_mode 0
  else s

/-- SWITCH_COMPLETE (step 5 of R187): 250 µs after the decision the servo takes the new slot. The selection and the state that PAL_STATE
shows change here, not at the decision (DESIGN CHOICE, log 162). -/
def execSwitchComplete (s : State) : Out :=
  match s.pal.sw with
  | none => .next s
  | some w =>
    if s.reached (t80Add w.t0 ((nsU 250000 : Nat) : Int)) then
      let s := { s with pal := { s.pal with sw := none, allow := s.pal.allow + 1 } }
      let s := markSelected s (some w.to_)
      let s := (s.putB PAL_STATE_switching false).ev PAL_EVENTS_switch_done
      let st := s.get PAL_STATE_state
      let s := if st = 0 ∨ st = 3 ∨ st = 4 then palState s 1 else s
      let s := servoTake s
      let s := s.wr UND_H (w40 (growthNow s))
      .next (lineageRecord s 1)
    else .next s

/-- The selected slot is lost and no other is taken (R184, R192). -/
def palLose (s : State) (cands : List Nat) : State :=
  match selSlot s with
  | none => s
  | some cur =>
    let drift := decide (s.get (PAL_Sn_STATUS_sstate cur) = 4) && cands.isEmpty
    let s := { s with pal := { s.pal with holdDrift := drift } }
    let s := markSelected s none
    let st := s.get PAL_STATE_state
    if st = 2 ∨ (st = 1 ∧ s.on PAL_STATE_locked_once) then holdEnter (palState s 3)
    else if st = 1 then palState s 0
    else s

/-- The selector (R184), by its pseudocode: with auto = 0 and no slot selected it still selects the best one, though the sentence after it
names a forced slot alone (DESIGN CHOICE, log 161). -/
def palDecide (s : State) : State :=
  let run := s.on PAL_CTL_run
  let cands := if run then (List.range 24).filter (selectable s) else []
  let f := s.get PAL_FORCE_slot
  let forceIn := s.on PAL_FORCE_en && cands.contains f
  let best := if forceIn then some f else bestOf s cands
  let s := if run && s.on PAL_FORCE_en && !forceIn then s.ev PAL_EVENTS_force_refused else s
  let s := s.putB PAL_STATE_reselect_pending false
  match selSlot s, best with
  | none, none => s
  | none, some b => switchTo s b 5
  | some _, none => palLose s cands
  | some cur, some b =>
    if cands.contains cur then
      if forceIn ∧ b ≠ cur then switchTo s b 4
      else if !s.on PAL_CTL_auto then s
      else if s.get (PAL_Sn_STATUS_eff_rank b) < s.get (PAL_Sn_STATUS_eff_rank cur) then switchTo s b 1
      else if s.on PAL_CTL_revertive ∧ slotKey s b < slotKey s cur then switchTo s b 1
      else s
    else if s.on PAL_CTL_auto then
      switchTo s b (if s.get (PAL_Sn_STATUS_sstate cur) = 4 then 3 else if s.on (PAL_Sn_CFG_lockout cur) then 6 else 2)
    else palLose s cands

/-- LOCKED once |e| has stayed in the window for lock_s seconds; LOST once the bound exceeds the limit (R192). -/
def palStates (s : State) : State :=
  let st := s.get PAL_STATE_state
  match selSlot s with
  | some n =>
    if st = 1 ∧ !s.on PAL_STATE_switching then
      let within := decide ((servoInput s n).natAbs ≤ s.get PAL_LOCK_window_ns * 1024 * fineUnit.toNat)
      if within then
        let t := s.pal.lockFrom.getD s.steady
        let s := { s with pal := { s.pal with lockFrom := some t } }
        if s.passed t (s.get PAL_LOCK_lock_s * 1000000000) then (palState s 2).putB PAL_STATE_locked_once true else s
      else { s with pal := { s.pal with lockFrom := none } }
    else s
  | none =>
    if st = 3 ∧ s.get PAL_HOLD_LIMIT_limit < s.get GLZ_B_b then palState s 4 else s

/-- X of the selected slot follows the slew applied since the last tick (R186), PAL_ABS_REM shows it, and the allowances
end once it is zero and the state is LOCKED (R189). -/
def palFollow (s : State) : State :=
  let d := s.tb.slewed
  let s := { s with tb := { s.tb with slewed := 0 } }
  match selSlot s with
  | none => s.wr PAL_ABS_REM 0
  | some n =>
    let s := s.setSlot n { s.slot n with x := (s.slot n).x + d }
    let (w, s) := p40OrFree s ((s.slot n).x.tdiv fineUnit)
    let s := s.wr PAL_ABS_REM w
    if (s.slot n).x = 0 ∧ s.get PAL_STATE_state = 2 then { s with pal := { s.pal with allow := 0 } } else s

/-- The writes held behind a switch take effect (R185). -/
def palRelease (s : State) : State :=
  if s.on PAL_STATE_switching then s
  else
    let ws := s.pal.heldWrites
    ws.foldl (fun s e => plainWrite s e.1 e.2) { s with pal := { s.pal with heldWrites := [] } }

/-- Every slot on a tick (R168 to R181): first the samples of all of them, then limits, cross-check and disagreement.
Answers the slots that brought a sample. -/
def palSlots (s : State) : List Nat × State :=
  let s := (List.range 4).foldl (fun s p =>
    if syncELive s p then let (w, s) := s.free; palSample s (14 + p) (sgn w) else s) (oscSample s)
  let step := fun (acc : List Nat × List Nat × State) (n : Nat) =>
    if acc.2.2.on (PAL_Sn_CFG_enable n) then
      let r := slotIngest acc.2.2 n
      (if r.1 then n :: acc.1 else acc.1, if r.2.1 then n :: acc.2.1 else acc.2.1, r.2.2)
    else acc
  let (fresh, jumped, s) := (List.range 24).foldl step ([], [], s)
  let s := (List.range 24).foldl (fun s n => slotState s n (jumped.contains n)) s
  let s := xcSource s
  let s := (List.range 24).foldl (fun s n => slotXcheck s n (fresh.contains n)) s
  let s := (List.range 24).foldl (fun s n => slotTimer (slotDisagree s n) n) s
  (fresh, s)

/-- Whether the present tick is a Palette tick (R168): the counter has reached a whole millisecond that no Palette tick has
stood for. -/
def palDue (s : State) : Bool := s.tb.counting && decide (s.pal.ticks ≠ t80Units s.now / 1024000000)

/-- The first TOD slot that is QUALIFIED loads the time (R183): the local time with the whole seconds that the slot's feeding
function found (the seed of R422, those of `feedSlot`), less the slot's phase, one tick on. -/
def timeFirstLoad (s : State) : State :=
  if s.on TB_STATUS_time_valid ∨ s.tb.load.isSome ∨ !houseRuns s 0 then s
  else
    match (List.range 24).find? (fun n => decide (slotKind s n = 2) && decide (s.get (PAL_Sn_STATUS_sstate n) = 3)) with
    | none => s
    | some n =>
      let secs : Int := if n = 23 then s.atl.seed.getD (s.slot 23).seed else (s.slot n).seed
      let t := t80Add s.now (secs * (unitsPerSec : Int) - slotPhase s n + 1024)
      houseDo (s.wr TB_LOAD_HI (T80hi t)) (loadLoWrite (T80lo t))

/-- What the Palette, the Underpainting and the Glaze do on a Palette tick (R168, R184, R198, R222): `sensor` is the on-die
temperature reading in units of 0.01 K (R210). -/
def palTick (sensor : BitVec 17) (s : State) : State :=
    let s := { s with pal := { s.pal with ticks := t80Units s.now / 1024000000 } }
    let s := palRelease (palFollow s)
    let (fresh, s) := palSlots s
    let s := timeFirstLoad s
    let s := if s.on PAL_STATE_switching then s else palDecide s
    let s := match selSlot s with
      | none => s
      | some n => s.putB PAL_STATE_time_traceable (decide (slotKind s n ≠ 0))
    let s := palStates s
    let (isNew, e) : Bool × Int := match selSlot s with
      | none => (false, 0)
      | some n => (fresh.contains n, servoInput s n)
    glzTick (undTick s isNew e (sensor.toInt * 10))

/-- An effect that has fallen due. -/
def runTimed (s : State) : Timed → State
  | .bridge => switchBridge s
  | .absorb => switchAbsorb s
  | .slewA => switchSlew s
  | .steer => steerNow s
  | .holdMode => holdMode s
  | .holdL => holdL s

/-- Every effect whose instant the counter has reached is performed, in the order it was started (R30). -/
def runDue (s : State) : State :=
  let due := s.timed.filter (fun e => s.reached e.1)
  let s := { s with timed := s.timed.filter (fun e => !s.reached e.1) }
  due.foldl (fun s e => runTimed s e.2) s

/-- A second begins (R85, R243). -/
def secondTick (s : State) : State := evtSecond (allCoresEvent s 27)

/-- Everything the Palette holds in phase moves with a step of TB by `d` in 1/1024 ns (R190, R191). -/
def palStep (s : State) (d : Int) : State :=
  let s := (List.range 24).foldl (fun s n =>
    let p := s.slot n
    let hist := if n = 8 ∨ s.on PAL_XC_SRC_und then p.hist.map (fun e => (e.1, e.2 + d)) else p.hist
    let p := { p with x := p.x + d * fineUnit, hist := hist, pend := p.pend.map (fun x => x + d) }
    if s.on (PAL_Sn_STATUS_range n) then s.setSlot n { p with restart := true }
    else
      let (w, s) := p40OrFree s (slotPhase s n + d)
      (s.setSlot n p).wr (PAL_Sn_PHASE n) w) s
  match s.pal.sw with
  | none => s
  | some w =>
    { s with pal := { s.pal with sw := some { w with xo := w.xo + d * fineUnit, phaseS := w.phaseS + d,
                                                     a := w.a.map (fun a => a + d * fineUnit) } } }

/-- step_done has come (R190, R191): a step hold ends, with the rest of X_s slewed unless the step was a wide one. -/
def palStepDone (s : State) : State :=
  if !s.on PAL_STATE_step_hold then s
  else
    let s := s.putB PAL_STATE_step_hold false
    if s.pal.wide then { s with pal := { s.pal with wide := false } }
    else match selSlot s with
      | none => s
      | some n => slewAdd s (-((s.slot n).x.tdiv fineUnit))

end Sys2Proof.Machine
end

