-- ==== Sys2Proof/Machine/Var.lean ====
section
/-! DEFINITION. The Varnish PLLs and the outputs (R244 to R270). -/

namespace Sys2Proof.Machine

/-! ## The ratio -/

/-- The divider d that a ref_div field selects (R244). -/
def refDiv (x : Nat) : Nat := if x = 0 then 4 else if x = 1 then 8 else 16

/-- f_vco in Hz as numerator and denominator (R244). -/
def vcoHz (v : VarSt) : Nat × Nat := (1000000000 * (v.nInt * v.nDen + v.nNum), v.nDen * v.d)

/-- Whether the ratio in the registers is one R245 allows. -/
def ratioOk (s : State) (n : Nat) : Bool :=
  let den := s.get (VARn_N_DEN_n_den n)
  let num := 1000000000 * (s.get (VARn_N_INT_n_int n) * den + s.get (VARn_N_NUM_n_num n))
  let d := den * refDiv (s.get (VARn_CTL_ref_div n))
  decide (1 ≤ den) && decide (s.get (VARn_N_NUM_n_num n) < den) && decide (6000000000 * d ≤ num)
    && decide (num ≤ 8000000000 * d)

/-- The ratio in the registers takes effect (R258). -/
def applyRatio (s : State) (n : Nat) : State :=
  s.setVar n { s.varSt n with nInt := s.get (VARn_N_INT_n_int n), nNum := s.get (VARn_N_NUM_n_num n),
                              nDen := s.get (VARn_N_DEN_n_den n), d := refDiv (s.get (VARn_CTL_ref_div n)) }

/-! ## Clocks -/

/-- The state of a PLL: 0 OFF, 1 SEARCH, 2 HOP, 3 ACQUIRE, 4 LOCKED, 5 GLIDE, 6 LOSS, 7 FAILED. -/
def varState (s : State) (n : Nat) : Nat := s.get (VARn_STATUS_state n)

/-- Whether a PLL is LOCKED or GLIDE. -/
def varLocked (s : State) (n : Nat) : Bool := decide (varState s n = 4) || decide (varState s n = 5)

/-- Whether an output is alignable (R247): f_vco and f_out are whole numbers of hertz. -/
def alignable (s : State) (k : Nat) : Bool :=
  let (num, den) := vcoHz (s.varSt (outVar k))
  decide (den ≠ 0) && decide (num % den = 0) && decide ((num / den) % max 1 (s.get (OUTk_DIV_div k)) = 0)

/-- ps of output phase in cycles of the VCO. -/
def psCycles (v : VarSt) (ps : Int) : Rat := (ps : Rat) * ((vcoHz v).1 : Rat) / (((vcoHz v).2 : Rat) * 1000000000000)

/-- 1/1024 ns of the time scale in cycles of the VCO. -/
def unitCycles (v : VarSt) (x : Int) : Rat := (x : Rat) * ((vcoHz v).1 : Rat) / (((vcoHz v).2 * unitsPerSec : Nat) : Rat)

/-- θ of a PLL whose outputs stand on their grid (R247): whole cycles of every alignable output at the whole second plus VARn_PHASE, of which a part
may still be to be applied (R261). -/
def thetaGrid (s : State) (n : Nat) : Rat :=
  let v := s.varSt n
  unitCycles v ((s.now.low : Nat) : Int) - psCycles v (s.getI (VARn_PHASE_phase n) - s.getI (VARn_STEP_REM_rem n))

/-- Where an output's divider stands for a value of θ, in VCO cycles since its own origin (R246, R247): trim delays every edge. -/
def outCycles (s : State) (k : Nat) (theta : Rat) : Rat :=
  theta - (s.out k).base - unitCycles (s.varSt (outVar k)) ((s.get (OUTk_CFG_trim k) : Nat) : Int)

/-- The high part of an output's period in VCO cycles (R246). -/
def outHigh (div : Nat) : Rat := if div % 2 = 0 then ((div / 2 : Nat) : Rat) else (((div + 1) / 2 : Nat) : Rat)

/-- Whether an output's clock is high for a value of θ (R246). -/
def clockHigh (s : State) (k : Nat) (theta : Rat) : Bool :=
  let div := max 1 (s.get (OUTk_DIV_div k))
  let x := outCycles s k theta
  decide (x - (div : Rat) * ((x / (div : Rat)).floor : Rat) < outHigh div)

/-- Whether a rising edge of an output's clock falls in this tick. -/
def clockRises (s : State) (k : Nat) : Bool :=
  let v := s.varSt (outVar k)
  let div : Rat := (max 1 (s.get (OUTk_DIV_div k)) : Nat)
  decide ((outCycles s k v.was / div).floor < (outCycles s k v.theta / div).floor)

/-- Whether a falling edge of an output's clock falls in this tick. -/
def clockFalls (s : State) (k : Nat) : Bool :=
  let v := s.varSt (outVar k)
  let d := max 1 (s.get (OUTk_DIV_div k))
  let div : Rat := (d : Nat)
  decide (((outCycles s k v.was - outHigh d) / div).floor < ((outCycles s k v.theta - outHigh d) / div).floor)

/-- Whether this unit may drive its outputs (R433): a unit of a pair only while it owns the pins. -/
def mayDrive (s : State) : Bool := !s.on TW_CFG_en || s.on TW_STATUS_own

/-! ## Band memory -/

/-- A band memory entry hits (R252): valid, key within 500 ppm, temperature within 40 K. -/
def bmHits (s : State) (n j : Nat) : Bool :=
  let (num, den) := vcoHz (s.varSt n)
  let f : Int := (num : Nat)
  let key : Int := ((s.get (VARn_BM_key n j) * 1000 * den : Nat) : Int)
  s.on (VARn_BM_valid n j) && decide ((key - f).natAbs * 1000000 ≤ 500 * num)
    && decide ((s.getI (VARn_BM_temp n j) * 1000 - s.und.sensor).natAbs ≤ 40000)

/-- How far an entry's key lies from the target. -/
def bmDist (s : State) (n j : Nat) : Nat :=
  let (num, den) := vcoHz (s.varSt n)
  (((s.get (VARn_BM_key n j) * 1000 * den : Nat) : Int) - (num : Nat)).natAbs

/-- The entry a lookup takes (R252): of those that hit, the one whose key is closest. -/
def bmLookup (s : State) (n : Nat) : Option Nat :=
  (List.range 16).foldl (fun (b : Option Nat) j =>
    if !bmHits s n j then b
    else match b with
      | none => some j
      | some i => if bmDist s n j < bmDist s n i then some j else b) none

/-- A PLL enters HOP or SEARCH (R249, R251), a hop with the band memory entry that its band comes from. -/
def varEnter (s : State) (n st : Nat) (search : Bool) (used : Option Nat) : State :=
  let s := gateCluster (s.put (VARn_STATUS_state n) st) n
  let s := match used with | some j => s.put (VARn_STATUS_bm_entry n) j | none => s
  s.setVar n { s.varSt n with entered := s.steady, bySearch := search, used := used }

/-- A PLL enters ACQUIRE (R249). -/
def varAcquire (s : State) (n : Nat) : State :=
  (s.put (VARn_STATUS_state n) 3).setVar n { s.varSt n with acqAt := s.steady }

/-- A start by band memory lookup (R249, R252). -/
def varLookup (s : State) (n : Nat) : State :=
  let s := s.setVar n { s.varSt n with searches := 0 }
  match (if s.on (VARn_CTL_bm_en n) then bmLookup s n else none) with
  | some j =>
    let s := s.putB (VARn_STATUS_bm_hit n) true
    varEnter (s.put (VARn_STATUS_band n) (s.get (VARn_BM_band n j))) n 2 false (some j)
  | none => varEnter (s.putB (VARn_STATUS_bm_hit n) false) n 1 true none

/-- An entry becomes the most recently used one. -/
def bmTouch (s : State) (n j : Nat) : State :=
  s.setVar n { s.varSt n with order := (s.varSt n).order.filter (fun i => decide (i ≠ j)) ++ [j] }

/-- The entry a search's result is stored in (R252): an invalid one, else the least recently used one. -/
def bmVictim (s : State) (n : Nat) : Nat :=
  match (List.range 16).find? (fun j => !s.on (VARn_BM_valid n j)) with
  | some j => j
  | none => ((s.varSt n).order.head?).getD 0

/-- Die temperature in °C as an entry stores it. A fraction of a degree is dropped either way (log 1). -/
def dieCelsius (s : State) : Int × State := freeQ s s.und.sensor 1000

/-- The band memory after a lock (R252). -/
def bmUpdate (s : State) (n : Nat) : State :=
  if !s.on (VARn_CTL_bm_en n) then s
  else
    let (t, s) := dieCelsius s
    if (s.varSt n).bySearch then
      let j := bmVictim s n
      let (num, den) := vcoHz (s.varSt n)
      let (key, s) := freeQ s (num : Nat) (1000 * max 1 den)
      let s := (((s.putB (VARn_BM_valid n j) true).put (VARn_BM_band n j) (s.get (VARn_STATUS_band n))).putI
        (VARn_BM_temp n j) t).putI (VARn_BM_key n j) key
      let s := bmTouch s n j
      s.setVar n { s.varSt n with used := some j }
    else match (s.varSt n).used with
      | some j => if s.on (VARn_BM_valid n j) then bmTouch (s.putI (VARn_BM_temp n j) t) n j else s
      | none => s

/-! ## PLL commands -/

/-- The effect of a VARn_CTL write (R249): setting en applies the ratio and starts a hop or a search; clearing it puts the
PLL in OFF. A setting R245 rules out is unpredictable (R125). -/
def varCtlWrite (n : Nat) (w : Word) (s : State) : Out :=
  let was := s.on (VARn_CTL_en n)
  let s := plainWrite s (VARn_CTL n) w
  if !was && bitAt w 0 then
    if ratioOk s n then .next (varLookup (applyRatio (s.putB (VARn_STATUS_input_ok n) true) n) n)
    else .fault .unpredictable
  else if was && !bitAt w 0 then .next (gateCluster (s.put (VARn_STATUS_state n) 0) n)
  else .next s

/-- PLL_ENABLE (R249): a write of VARn_CTL that sets en. -/
def execPllEnable (m : Master) (n : Fin 4) (w : Word) (s : State) : Out :=
  writeReg m (VARn_CTL n) (w ||| 1) (varCtlWrite n (w ||| 1)) s

/-- PLL_DISABLE (R249): a write of VARn_CTL that clears en. -/
def execPllDisable (m : Master) (n : Fin 4) (w : Word) (s : State) : Out :=
  writeReg m (VARn_CTL n) (putField w 0 0 0) (varCtlWrite n (putField w 0 0 0)) s

/-- VARn_CMD op 1 (R258): the ratio in the registers, with the outputs gated; a glide is dropped. -/
def varRelock (n : Nat) (s : State) : Out :=
  if !s.on (VARn_CTL_en n) then .next s
  else if !ratioOk s n then .fault .unpredictable
  else
    let s := applyRatio s n
    let s := s.setVar n { s.varSt n with g := 0, gTarget := 0, off := 0, realign := false }
    .next (varLookup (s.put (VARn_GLIDE_NOW_g n) 0) n)

/-- VARn_CMD op 2 (R259): refused unless LOCKED or GLIDE with a target within ±200 ppm. -/
def varGlide (n : Nat) (s : State) : Out :=
  let t := s.getI (VARn_GLIDE_target n)
  if !varLocked s n ∨ 200000000 < t.natAbs then .next (s.ev (VARn_EVENTS_cmd_refused n))
  else
    let s := s.setVar n { s.varSt n with gTarget := t }
    .next ((clusterOuts n).foldl (fun s k => setAligned s k false) (s.put (VARn_STATUS_state n) 5))

/-- VARn_CMD op 3 (R252). -/
def varClearBm (n : Nat) (s : State) : Out :=
  let s := s.setVar n { s.varSt n with order := [], used := none }
  .next ((List.range 16).foldl (fun s j => s.wr (VARn_BM n j) 0) s)

/-- The effect of a VARn_CMD write (R269). -/
def varCmdWrite (n : Nat) (w : Word) (s : State) : Out :=
  let op := fieldOf w 1 0
  if op = 1 then varRelock n s else if op = 2 then varGlide n s else if op = 3 then varClearBm n s else .next s

/-- RELOCK (R258). -/
def execRelock (m : Master) (n : Fin 4) (s : State) : Out := writeReg m (VARn_CMD n) 1 (varRelock n) s

/-- GLIDE (R259). -/
def execGlide (m : Master) (n : Fin 4) (s : State) : Out := writeReg m (VARn_CMD n) 2 (varGlide n) s

/-- CLEAR_BM (R252). -/
def execClearBm (m : Master) (n : Fin 4) (s : State) : Out := writeReg m (VARn_CMD n) 3 (varClearBm n) s

/-! ## PLL events -/

/-- BAND_FOUND (R249): a full search finds a band. -/
def execBandFound (n : Fin 4) (band : BitVec 6) (s : State) : Out :=
  if varState s n = 1 then .next (varAcquire (s.put (VARn_STATUS_band n) band.toNat) n) else .next s

/-- HOP_SETTLED (R251): 60 µs after the hop began. -/
def execHopSettled (n : Fin 4) (s : State) : Out :=
  if varState s n = 2 ∧ s.passed (s.varSt n).entered 60000 then .next (varAcquire s n) else .next s

/-- LOCK_DECLARED (R253): the phase error has stayed within lock_win for lock_cnt detector cycles of d ns, which cannot have passed sooner after
ACQUIRE was entered; `err` is the last one in ps. The outputs come to stand on their grid (R247, R262) unless a glide stands. -/
def execLockDeclared (n : Fin 4) (err : BitVec 20) (s : State) : Out :=
  let v := s.varSt n
  if varState s n = 3 ∧ err.toInt.natAbs ≤ s.get (VARn_LOCK_lock_win n) ∧ s.passed v.acqAt (s.get (VARn_LOCK_lock_cnt n) * v.d) then
    let s := s.put (VARn_ERR_err n) err.toNat
    let s := bmUpdate ((s.put (VARn_STATUS_state n) 4).ev (VARn_EVENTS_lock n)) n
    let s := s.putB (VARn_STATUS_gated n) false
    let v := s.varSt n
    let v := if v.g = 0 then { v with theta := thetaGrid s n, was := thetaGrid s n, off := 0, realign := false } else { v with off := 0 }
    .next (s.setVar n { v with ungateAt := s.afterNs 1000, lockedAt := s.steady, steps := s.tb.steps })
  else .next s

/-- LOCK_LOST (R254): the error exceeds unlock_win for unlock_cnt cycles, which cannot have passed sooner after lock was declared; the PLL hops back to
its band at the present g. -/
def execLockLost (n : Fin 4) (err : BitVec 20) (s : State) : Out :=
  let v := s.varSt n
  if varLocked s n ∧ s.get (VARn_UNLOCK_unlock_win n) < err.toInt.natAbs ∧ s.passed v.lockedAt (s.get (VARn_UNLOCK_unlock_cnt n) * v.d) then
    let s := (s.put (VARn_ERR_err n) err.toNat).ev (VARn_EVENTS_unlock n)
    let s := s.setVar n { v with gTarget := v.g, realign := false }
    .next (varEnter s n 2 false v.used)
  else .next s

/-- ACQUIRE_TIMEOUT (R249): no lock 200 µs after a HOP or 8 ms after a SEARCH. -/
def execAcquireTimeout (n : Fin 4) (s : State) : Out :=
  let v := s.varSt n
  if varState s n ≠ 3 then .next s
  else if !v.bySearch then
    if s.passed v.entered 200000 then
      let s := match v.used with | some j => s.putB (VARn_BM_valid n j) false | none => s
      .next (varEnter (s.ev (VARn_EVENTS_bm_miss n)) n 1 true none)
    else .next s
  else if s.passed v.entered 8000000 then
    if v.searches = 0 then .next (varEnter (s.setVar n { v with searches := 1 }) n 1 true none)
    else .next (raiseSrc (gateCluster (s.put (VARn_STATUS_state n) 7) n) (58 + n) none)
  else .next s

/-- INPUT_LOSS (R249): the divided timebase clock is absent or off by more than 1,000 ppm. -/
def execInputLoss (n : Fin 4) (s : State) : Out :=
  let st := varState s n
  let s := s.putB (VARn_STATUS_input_ok n) false
  let s := s.setVar n { s.varSt n with lossAt := s.steady }
  if st = 0 ∨ st = 7 ∨ st = 6 then .next s
  else .next (gateCluster ((s.put (VARn_STATUS_state n) 6).ev (VARn_EVENTS_input_lost n)) n)

/-- INPUT_GOOD (R249): the input has been good for 10 µs, which cannot have passed sooner after it was found bad. -/
def execInputGood (n : Fin 4) (s : State) : Out :=
  let v := s.varSt n
  if s.passed v.lossAt 10000 then
    let s := s.putB (VARn_STATUS_input_ok n) true
    if varState s n = 6 then .next (varEnter s n 2 false v.used) else .next s
  else .next s

/-- The common period, in VCO cycles, of the alignable clocks of a cluster. -/
def gridCycles (s : State) (n : Nat) : Nat :=
  (clusterOuts n).foldl (fun l k => if s.get (OUTk_CFG_mode k) = 1 ∧ alignable s k then Nat.lcm l (max 1 (s.get (OUTk_DIV_div k))) else l) 1

/-- How far θ stands from the nearest place of the grid, for one that stands `off` cycles from where it was (R260; log 169). -/
def offGrid (off : Rat) (l : Nat) : Rat := off - (l : Rat) * ((off / (l : Rat) + 1 / 2).floor : Rat)

/-- GLIDE_TARGET_REACHED (R259, R260): back to LOCKED; at g = 0 the phase begins to return to the grid. -/
def execGlideTargetReached (n : Fin 4) (s : State) : Out :=
  let v := s.varSt n
  if varState s n = 5 ∧ v.g = v.gTarget then
    let s := (s.put (VARn_STATUS_state n) 4).ev (VARn_EVENTS_glide_done n)
    .next (s.setVar n (if v.g = 0 then { v with realign := true, off := offGrid v.off (gridCycles s n), alignAt := s.afterNs 1000 } else v))
  else .next s

/-- Whether an output is to show aligned (R247, R260). -/
def outAligned (s : State) (k : Nat) : Bool :=
  let v := s.varSt (outVar k)
  alignable s k && decide (v.g = 0) && !v.realign && varLocked s (outVar k)

/-- ALIGN_RESTORED (R260): the output phase lies within lock_win of the grid again. -/
def execAlignRestored (n : Fin 4) (s : State) : Out :=
  let v := s.varSt n
  let win := psCycles v ((s.get (VARn_LOCK_lock_win n) : Nat) : Int)
  if v.realign ∧ varLocked s n ∧ v.off ≤ win ∧ -win ≤ v.off then
    let s := s.setVar n { v with realign := false }
    .next ((clusterOuts n).foldl (fun s k =>
      if s.get (OUTk_CFG_mode k) = 1 ∧ !s.on (OUTk_STATUS_gated k) then setAligned s k (outAligned s k) else s) s)
  else .next s

/-- Output `k` ungates on the tick of its first rising edge at least 1 µs after lock (R256): one of the grid, or for an output without a grid
one at a full VCO cycle, from which its divider counts. -/
def outUngate (s : State) (k : Nat) : State :=
  let n := outVar k
  if s.get (OUTk_CFG_mode k) = 1 ∧ s.on (OUTk_STATUS_gated k) ∧ varLocked s n ∧ s.reached (s.varSt n).ungateAt
      ∧ !s.on (OUTk_STATUS_safe_forced k) then
    let grid := outAligned s k
    let s := s.setOut k { s.out k with base := if grid then 0 else
      ((s.varSt n).theta.floor : Rat) - unitCycles (s.varSt n) ((s.get (OUTk_CFG_trim k) : Nat) : Int) }
    if !grid || clockRises s k then
      setAligned ((s.putB (OUTk_STATUS_gated k) false).setOut k { s.out k with run := true, stop := false }) k grid
    else s
  else s

/-- OUTPUT_UNGATE (R256): the first rising edge at least 1 µs after lock. The tick on which it falls does the same. -/
def execOutputUngate (k : Fin 20) (s : State) : Out := .next (outUngate s k)

/-- An output takes its safe state for a FATAL fault (R509): a pulse-mode output on the tick after the request of t0 + 4 ns, a clock at its next
falling edge, and at t0 + 150 ns if it is still high then. -/
def outSafeTick (s : State) (k : Nat) : State :=
  match (s.out k).safeAt with
  | none => s
  | some t =>
    let mode := s.get (OUTk_CFG_mode k)
    let low := !(s.out k).run || clockFalls s k
    if mode = 0 then s.setOut k { s.out k with safeAt := none }
    else if (if mode = 2 then s.passed t 5 else s.passed t 150 || (s.passed t 4 && low)) then
      outSafe (s.setOut k OutSt.reset) k
    else s

/-- A give-up releases an output at its clock's next falling edge, or at 50 ns if it is still high then (R448). -/
def outGiveTick (s : State) (k : Nat) : State :=
  match (s.out k).giveAt with
  | none => s
  | some t => if !s.level k || clockFalls s k || s.passed t 50 then outRelease (s.setOut k { s.out k with giveAt := none }) k else s

/-- The clock's level on this tick, and the stop of a gated clock at its falling edge (R246, R255, R264). -/
def outClock (s : State) (k : Nat) : State :=
  let o := s.out k
  if !o.run then s
  else if o.stop && clockFalls s k then
    let s := (s.setLevel k false).setOut k { o with run := false, stop := false, leave := false }
    if o.leave then outRelease s k else s
  else s.setLevel k (clockHigh s k (s.varSt (outVar k)).theta != s.on (OUTk_CFG_invert k))

/-- One timebase tick of an output (R246, R255, R256, R264): its driver, its clock's level, and the stop of a gated clock at its falling edge. -/
def outTick (s : State) (k : Nat) : State :=
  let s := match (s.out k).drive with
    | some b => (s.putB (OUTk_STATUS_driving k) b).setOut k { s.out k with drive := none }
    | none => s
  let s := outSafeTick s k
  let s := outGiveTick (outClock (outUngate s k) k) k
  if s.level k then s.setOut k { s.out k with highAt := some s.now } else s

/-- The ownership line rises on the tick after the last driver is off (R448): t_g. -/
def ownTick (s : State) : State :=
  if s.tw.releasing && (List.range 20).all (fun k => (s.out k).giveAt.isNone) then
    ({ s with tw := { s.tw with releasing := false, gapFrom := s.steady } } : State).putB TW_STATUS_own false
  else s

/-! ## Phase steps -/

/-- step_done (R261): the emitter terms may fall again (R262). -/
def stepDone (s : State) (n : Nat) : State :=
  let s := s.setVar n { s.varSt n with stepOpen := false, raised := 0 }
  houseFollow ((s.putB (VARn_STATUS_stepping n) false).ev (VARn_EVENTS_step_done n)) (clusterOuts n)

/-- A phase step of `d` ps reaches VARn_PHASE and, as far as that does not saturate, the outputs (R261). -/
def phaseStep (s : State) (n : Nat) (d : Int) : State :=
  let old := s.getI (VARn_PHASE_phase n)
  let (w, sat) := sat40 (old + d)
  let d := sgn w - old
  let s := s.wr (VARn_PHASE n) w
  let s := if sat then s.ev (VARn_EVENTS_step_sat n) else s
  let v := s.varSt n
  if varLocked s n then
    let was := s.getI (VARn_STEP_REM_rem n)
    let rem := (sat40 (was + d)).1
    let s := s.wr (VARn_STEP_REM n) rem
    let s := s.setVar n { v with stepAt := if was = 0 then s.afterNs 1000 else v.stepAt, stepOpen := true, raised := v.raised + d.natAbs }
    let s := s.putB (VARn_STATUS_stepping n) (decide (rem ≠ 0))
    if rem = 0 then stepDone s n else s
  else stepDone (s.setVar n { v with theta := v.theta - psCycles v d }) n

/-- PHASE_STEP_DONE (R261): nothing of the step remains. -/
def execPhaseStepDone (n : Fin 4) (s : State) : Out :=
  if (s.varSt n).stepOpen ∧ s.rd (VARn_STEP_REM n) = 0 then .next (stepDone s n) else .next s

/-- Whether the VCO of a PLL runs: while it is enabled, and until its outputs have stopped (R255). -/
def varRuns (s : State) (n : Nat) : Bool := s.on (VARn_CTL_en n) || (clusterOuts n).any (fun k => (s.out k).run)

/-- The part of a return to the grid that falls due on a tick (R260): one part of pstep_rate ps each µs. -/
def varReturn (s : State) (n : Nat) (v : VarSt) : VarSt :=
  if v.off ≠ 0 ∧ v.g = 0 ∧ varState s n = 4 ∧ s.reached v.alignAt then
    let rate := psCycles v ((s.get (VARn_PSTEP_pstep_rate n) : Nat) : Int)
    let mv := if 0 < v.off then min rate v.off else max (-rate) v.off
    { v with theta := v.theta - mv, off := v.off - mv, alignAt := t80Add v.alignAt ((nsU 1000 : Nat) : Int) }
  else v

/-- One timebase tick of a PLL (R244, R259, R261): θ follows the emitted increment, a glide moves g by 10^-12 a tick, which
is 1 ppm/ms, and a phase step goes on at pstep_rate. A later output phase means that θ lags. A step of TB moves θ with the second that the
outputs stand on (DESIGN CHOICE, log 169). -/
def varTick (s : State) (n : Nat) : State :=
  if !varRuns s n then s
  else
    let v := s.varSt n
    let g := if varState s n ≠ 5 then v.g else if v.g < v.gTarget then v.g + 1 else if v.gTarget < v.g then v.g - 1 else v.g
    let base : Rat := ((v.nInt * v.nDen + v.nNum : Nat) : Rat) * (s.tb.emit : Rat) / (((v.nDen * v.d : Nat) : Rat) * (2 ^ 48 : Nat))
    let extra : Rat := base * (g : Rat) / 1000000000000
    let start := v.theta + unitCycles v (s.tb.steps - v.steps)
    let v := varReturn s n { v with g := g, was := start, theta := start + base + extra, off := v.off + extra, steps := s.tb.steps }
    let s := if s.on (VARn_CTL_en n) then s.putI (VARn_GLIDE_NOW_g n) g else s
    let rem := s.getI (VARn_STEP_REM_rem n)
    if rem ≠ 0 ∧ s.reached v.stepAt then
      let rate : Int := (s.get (VARn_PSTEP_pstep_rate n) : Nat)
      let mv := if 0 < rem then min rate rem else max (-rate) rem
      let s := s.setVar n { v with theta := v.theta - psCycles v mv, stepAt := t80Add v.stepAt ((nsU 1000 : Nat) : Int) }
      (s.wr (VARn_STEP_REM n) (i40 (rem - mv))).putB (VARn_STATUS_stepping n) (decide (rem ≠ mv))
    else s.setVar n v

/-- The effect of a VARn_PHASE write (R269): only while en is 0. -/
def varPhaseWrite (n : Nat) (w : Word) (s : State) : Out :=
  if s.on (VARn_CTL_en n) then .next (s.ev (VARn_EVENTS_cfg_ignored n)) else .next (s.wr (VARn_PHASE n) w)

/-- VAR_PHASE_WRITE (R269). -/
def execVarPhaseWrite (m : Master) (n : Fin 4) (w : Word) (s : State) : Out :=
  writeReg m (VARn_PHASE n) w (varPhaseWrite n w) s

/-! ## Outputs -/

/-- Whether R265 gives output `k` the format and level of a configuration word. -/
def outFormatOk (k : Nat) (w : Word) : Bool :=
  let f := fieldOf w 19 17
  let l := fieldOf w 16 15
  if k < 16 then
    (decide (f = 0 ∨ f = 2) && decide (l ≤ 1)) || (decide (f = 1 ∨ f = 3 ∨ f = 4) && decide (l = 0))
  else decide (f = 5) && decide (l ≤ 2)

/-- Output `k` may drive in mode 1 or 2: in the FATAL state it takes its safe state at once (R267, R28). -/
def outDrive (s : State) (k : Nat) : Bool := mayDrive s && (!s.fix.fatal || decide (s.get (OUTk_CFG_safe k) = 0))

/-- The mode of an output changes (R264): a driver follows on the next tick, and a clock that runs goes on to its next falling edge before it
leaves the pin. -/
def outMode (s : State) (k mode : Nat) : State :=
  let old := s.get (OUTk_CFG_mode k)
  let s := s.put (OUTk_CFG_mode k) mode
  let o := s.out k
  if old = mode then s
  else
    let s := if s.fix.fatal ∧ mode ≠ 0 then s.putB (OUTk_STATUS_safe_forced k) true else s
    if mode = 1 then
      ((s.putB (OUTk_STATUS_gated k) true).putB (OUTk_STATUS_driving k) (outDrive s k)).setOut k { o with leave := false, drive := none }
    else if mode = 2 then (s.setLevel k false).setOut k { OutSt.reset with fine := o.fine, drive := some (outDrive s k) }
    else
      let s := (setAligned s k false).putB (OUTk_STATUS_gated k) false
      if old = 1 ∧ o.run then s.setOut k { o with stop := true, leave := true }
      else (s.setLevel k false).setOut k { OutSt.reset with fine := o.fine, drive := some false }

/-- The effect of an OUTk_CFG write (R264). -/
def outCfgWrite (k : Nat) (w : Word) (s : State) : Out :=
  let old := s.rd (OUTk_CFG k)
  let mo := fieldOf old 13 12
  let mn := fieldOf w 13 12
  let rest := fun (x : Word) => putField x 13 12 0
  if !outFormatOk k w then .fault .reservedValue
  else if (mo = 1 ∧ mn = 2) ∨ (mo = 2 ∧ mn = 1) then .next (s.ev (OUTk_EVENTS_cfg_ignored k))
  else if mo = 0 then .next (houseFollow (outMode (s.wr (OUTk_CFG k) (putField w 13 12 0)) k mn) [k])
  else
    let s := if rest old ≠ rest w then s.ev (OUTk_EVENTS_cfg_ignored k) else s
    .next (houseFollow (outMode s k mn) [k])

/-- OUT_CFG_WRITE (R264). -/
def execOutCfgWrite (m : Master) (k : Fin 20) (w : Word) (s : State) : Out :=
  writeReg m (OUTk_CFG k) w (outCfgWrite k w) s

/-- The effect of an OUTk_DIV write (R264). -/
def outDivWrite (k : Nat) (w : Word) (s : State) : Out :=
  if s.get (OUTk_CFG_mode k) = 0 then .next (s.wr (OUTk_DIV k) w)
  else if s.rd (OUTk_DIV k) = w then .next s
  else .next (s.ev (OUTk_EVENTS_cfg_ignored k))

/-- OUT_DIV_WRITE (R264). -/
def execOutDivWrite (m : Master) (k : Fin 20) (w : Word) (s : State) : Out :=
  writeReg m (OUTk_DIV k) w (outDivWrite k w) s

end Sys2Proof.Machine
end

