-- ==== Sys2Proof/Machine/Skb.lean ====
section
/-! DEFINITION. The Sketchbook ledger: offers and their answers, ledger writes and read-backs, hand-off, recovery, and the
commands that the timebase and the Sketchbook share on every tick (R140 to R160, R568 to R571). -/

namespace Sys2Proof.Machine

/-! ## Offers -/

/-- Whether an action word has a class and fields that R141 does not reserve. -/
def actionLegal (a : Word) : Bool :=
  let c := fieldOf a 39 36
  let pin := fieldOf a 35 30
  let unit : Nat := ([1, 1000, 1000000, 0] : List Nat).getD (fieldOf a 27 26) 0
  if c = 1 then
    (decide (pin ≤ 19) || decide (32 ≤ pin)) && decide (fieldOf a 27 26 ≠ 3)
      && (if fieldOf a 29 28 ≤ 1 then decide (fieldOf a 25 0 = 0) else decide (4 ≤ fieldOf a 25 0 * unit))
  else if c = 2 then decide (fieldOf a 33 30 = 0) && decide (fieldOf a 29 0 ≠ 0)
  else if c = 3 then decide (fieldOf a 27 20 ≤ 0xEF)
  else if c = 4 then decide (fieldOf a 29 24 = 0)
  else if c = 5 then true
  else if c = 6 then decide (fieldOf a 35 0 = 0)
  else if c = 7 then decide (fieldOf a 35 16 = 0)
  else false

/-- The width of a pulse stroke in 1/1024 ns (R141). -/
def pulseWidth (k : Stroke) : Nat :=
  nsU (fieldOf k.act 25 0 * ([1, 1000, 1000000] : List Nat).getD (fieldOf k.act 27 26) 1)

/-- Whether a PIN stroke is a pulse. -/
def isPulse (k : Stroke) : Bool := decide (2 ≤ fieldOf k.act 29 28)

/-- The ledger entry an offer matches under R89. -/
def matchSlot (s : State) (k : Stroke) : Option Nat :=
  (s.skb.slots.find? (fun e => decide (e.2.state ≠ 0) && decide (e.2.stroke.hi = k.hi) && decide (e.2.stroke.lo = k.lo)
    && decide (e.2.stroke.act = k.act) && decide (e.2.stroke.tag = k.tag))).map (fun e => e.1)

/-- The lowest number that a list of rising keys leaves out. -/
def lowestGap : Nat → List Nat → Nat
  | i, [] => i
  | i, k :: ks => if k = i then lowestGap (i + 1) ks else i

/-- The DONE slot accepted first (R151). -/
def oldestDone (s : State) : Option Nat :=
  (s.skb.slots.foldl (fun (b : Option (Nat × Nat)) e =>
    if e.2.state ≠ 3 then b
    else match b with
      | none => some (e.2.seq, e.1)
      | some x => if seqBefore e.2.seq x.1 then some (e.2.seq, e.1) else b) none).map (fun x => x.2)

/-- The slot an acceptance takes (R151): a FREE one, else the earliest-accepted DONE one. -/
def slotToTake (s : State) : Option Nat :=
  let i := lowestGap 0 (s.skb.slots.map (fun e => e.1))
  if i < 65536 then some i else oldestDone s

/-- Whether some half-open interval of length `d` that holds `t` would hold more than `max` of the times with `t` added
(R147). An interval that holds the most begins at one of the times. -/
def crowded (ts : List Nat) (t d max : Nat) : Bool :=
  (t :: ts).any (fun a => decide (a ≤ t) && decide (t < a + d)
    && decide (max < ((t :: ts).filter (fun x => decide (a ≤ x) && decide (x < a + d))).length))

/-- The times of the pending strokes that a test picks. -/
def pendingTimes (s : State) (p : Stroke → Bool) : List Nat :=
  (s.skb.slots.filter (fun e => slotPending e.2 && p e.2.stroke)).map (fun e => t80Units (strokeAt e.2.stroke))

/-- Whether an acceptance would break a limit of R147. -/
def limitsBroken (s : State) (k : Stroke) : Bool :=
  let t := t80Units (strokeAt k)
  crowded (pendingTimes s (fun _ => true)) t (nsU 20000) 1024
    || (decide (strokeClass k = 1)
        && crowded (pendingTimes s (fun x => decide (strokeClass x = 1) && decide (strokePin x = strokePin k))) t (nsU 320) 8)
    || (decide (strokeClass k = 4)
        && crowded (pendingTimes s (fun x => decide (strokeClass x = 4)
            && decide (fieldOf x.act 34 33 = fieldOf k.act 34 33))) t (nsU 10000) 64)

/-- Whether the executors still wait for t_resume (R159). -/
def beforeResume (s : State) : Bool := decide (s.skb.waits = 2)

/-- The refusal that an offer's lead time calls for (R145, R159): 2 PAST, 4 SOON. -/
def leadRefusal (s : State) (k : Stroke) : Option Nat :=
  if !strictClass k then none
  else
    let t := strokeAt k
    let lead := nsU (minLead s (strokeClass k))
    if t80Lt t s.now then some 2
    else if t80Lt t (t80Add s.now (lead : Nat)) then some 4
    else if beforeResume s ∧ t80Lt t (t80Add (s.getT SKB_T_RESUME_HI SKB_T_RESUME_LO) (lead : Nat)) then some 4
    else none

/-- The offerer code of an offer (R148). -/
def offererOf (o : Offer) : Nat := match o.core with | some k => coreOfferer k | none => 0x80

/-- The payload of a STROKE frame (R435): the stroke as offered with its seq, privilege and offerer. -/
def strokePayload (x : Slot) : List Word :=
  strokeWords x.stroke ++ [w40 (b2n x.keeper * 2 ^ 32 + x.seq), w40 x.offerer]

/-- The seq of the next offer (R148): one more than the last one given, be it accepted, still in progress, or not yet resolved
against the twin (R150). -/
def nextSeq (s : State) : Nat :=
  let flying := s.skb.offers.filterMap (fun o => o.slot.map (fun i => (s.led i).seq))
  ((flying ++ s.skb.unresolved).foldl seqLater (s.get SKB_SEQ_seq) + 1) % 2 ^ 32

/-- An offer takes slot `i` (R149, R568): entry on chip, ledger write started, mirror frame sent where paired. A stroke that falls due
before t_resume executes there (R159). -/
def takeOffer (s : State) (o : Offer) (i : Nat) : State :=
  let early := beforeResume s && t80Lt (strokeAt o.stroke) (s.getT SKB_T_RESUME_HI SKB_T_RESUME_LO)
  let x : Slot := { Slot.free with state := 1, keeper := o.keeper, seq := nextSeq s, offerer := offererOf o, chip := true,
                                   resume := early, stroke := o.stroke }
  let mir := s.on SKB_CTL_mirror_en && twActive s
  let o := { o with slot := some i, old := s.led i, mirrored := mir, late := t80Lt (strokeAt o.stroke) s.now, at_ := s.steady }
  let s := s.setLed i x
  let s : State := { s with skb := { s.skb with offers := s.skb.offers ++ [o] } }
  let s := if strokeClass o.stroke = 2 then houseFollow s (clusterOuts (fieldOf o.stroke.act 35 34)) else s
  if mir then twSend s 2 (strokePayload x)
  else if s.get TW_STATUS_pstate = 2 ∧ twActive s then twSend s 6 (slotWords x)
  else s

/-- An offer is answered by the first step of R568 that applies, or waits. -/
def tryOffer (s : State) (o : Offer) : State :=
  let wait := { s with skb := { s.skb with offers := s.skb.offers ++ [{ o with slot := none }] } }
  if s.on SKB_STATUS_recovering then wait
  else match matchSlot s o.stroke with
    | some i => if (s.led i).commit then answerOffer s o 1 (s.led i).seq false else wait
    | none =>
      if !s.on SKB_CTL_accept_en ∨ !s.on TB_STATUS_time_valid then answerOffer s o 3 0 false
      else match leadRefusal s o.stroke with
        | some c => answerOffer s o c 0 false
        | none =>
          match slotToTake s with
          | none => answerOffer s o 3 0 false
          | some i => if limitsBroken s o.stroke then answerOffer s o 3 0 false else takeOffer s o i

/-- A new offer of a core or of the mailbox, whose answer `asker` waits for. -/
def newOffer (core : Option Nat) (asker : Asker) (keeper : Bool) (hi lo act : Word) (tag : Nat) : Offer :=
  { core := core, asker := asker, stroke := mkStroke hi lo act tag, keeper := keeper, slot := none, old := Slot.free, wrote := false,
    mirrored := false, acked := false, late := false, fromTwin := false, at_ := ⟨0, 0⟩ }

/-- Offers that wait on another offer or on recovery are taken up again, in their order (R568). -/
def settleWaiters (s : State) : State :=
  let ws := s.skb.offers.filter (fun o => o.slot.isNone)
  let s := { s with skb := { s.skb with offers := s.skb.offers.filter (fun o => o.slot.isSome) } }
  ws.foldl tryOffer s

/-! ## Ledger writes -/

/-- An offer whose own write has completed and whose twin, if mirrored, has acknowledged reaches its commit point; a
mirrored stroke received is acknowledged (R36). -/
def offerProgress (s : State) (o : Offer) : State :=
  if o.fromTwin then
    match o.slot with
    | none => s
    | some i =>
      let s := noteAccepted (s.setLed i { s.led i with commit := true }) (s.led i).seq
      twSend s 3 [w40 (s.led i).seq]
  else if o.mirrored && !o.acked then { s with skb := { s.skb with offers := s.skb.offers ++ [o] } }
  else settleWaiters (commitOffer s o)

/-- LEDGER_WRITE_COMPLETE (R149, R36): the write of the burst that holds slot `i` completes. -/
def execLedgerWriteComplete (i : Fin 65536) (s : State) : Out :=
  match s.skb.offers.find? (fun o => decide (o.slot = some i.val) && !o.wrote) with
  | none => .next s
  | some o =>
    let s := { s with skb := { s.skb with offers := s.skb.offers.filter (fun p => !decide (p = o)) } }
    let s := ledgerWrite s i
    let s := s.setLed i { s.led i with chip := inNear s i }
    .next (offerProgress s { o with wrote := true })

/-- LEDGER_READBACK (R35): the stroke words of slot `i` are read back from DRAM. A read that fails, does not verify, or
differs from an on-chip copy counts; the on-chip copy is used and rewritten, and without one the stroke is lost. -/
def execLedgerReadback (i : Fin 65536) (s : State) : Out :=
  if !slotPending (s.led i) then .next s
  else
    let a := slotAddr s i
    let ws := s.ldN a 4
    let x := s.led i
    let k : Stroke := { hi := ws.getD 0 0, lo := ws.getD 1 0, act := ws.getD 2 0, tag := fieldOf (ws.getD 3 0) 39 32,
                        chk := fieldOf (ws.getD 3 0) 31 0 }
    let good := !s.badBurst (burstOf a) && strokeOk k && (!onChip s i || decide (k = x.stroke))
    if good then .next (s.setLed i { x with stroke := k, chip := true })
    else
      let s := if s.badBurst (burstOf a) then dramUncorr s (burstOf a) false none else s
      let s := s.ev SKB_EVENTS_check_fail
      .next (if onChip s i then ledgerWrite s i else strokeLost s i)

/-! ## Execution, as every executor shares it -/

/-- The classes a standby executes itself (R445). -/
def shadowStroke (k : Stroke) : Bool :=
  let c := strokeClass k
  decide (c = 1) || decide (c = 2) || (decide (c = 7) && decide (fieldOf k.act 15 0 = 0xFFFF))
    || (decide (c = 3) && decide (fieldOf k.act 35 28 ≤ 0x4F))

/-- Whether an incoming unit still waits for GIVE (R450). -/
def giveWait (s : State) : Bool := s.tw.driveAt.isSome && s.tw.give.isNone && !s.on TW_STATUS_give_missing

/-- Whether this unit's executors perform a stroke now (R157, R445, R450). -/
def executes (s : State) (k : Stroke) : Bool :=
  s.skb.armed && !s.fix.fatal && (shadowStroke k || (!twStandby s && !giveWait s))

/-- Whether slot `i` holds a stroke of class `c` that its executor may perform now: handed over, committed, its T80
reached (on the tick of a step, before it or by it), and no accepted stroke before it in (T80, seq) order still to be performed, handed
over or not, but for PUSH strokes that wait for their FIFO and launches that wait for their line (R37, R135, R152, R156, R157). -/
def strokeDue (s : State) (i c : Nat) : Bool :=
  let x := s.led i
  decide (x.state = 2) && x.commit && !x.leadDone && decide (strokeClass x.stroke = c) && executes s x.stroke
    && (s.reached (strokeAt x.stroke) || s.onTick (strokeAt x.stroke)) && !s.skb.pushWait.contains i
    && !s.skb.slots.any (fun e => slotPending e.2 && e.2.commit && !e.2.leadDone && strokeBefore e.2 x
        && executes s e.2.stroke && !s.skb.pushWait.contains e.1
        && (decide (strokeClass e.2.stroke ≠ 1) || s.onTick (strokeAt e.2.stroke)))

/-- The executor verifies the check word immediately before execution (R34): a stroke that fails is not executed. -/
def verified (s : State) (i : Nat) (f : State → Out) : Out :=
  if strokeOk (s.led i).stroke then f s else .next (strokeLost s i)

/-- A stroke completes on time or LATE (R160). -/
def completeNow (s : State) (i : Nat) : State :=
  let (r, l) := lateReport s (s.led i)
  complete s i r l

/-- STROKE_HANDOFF (R152): a stroke of the near set goes to its executor 10 µs before its time, or at once if later. -/
def execStrokeHandoff (i : Fin 65536) (s : State) : Out :=
  let x := s.led i
  if x.state = 1 ∧ x.commit ∧ x.chip ∧ inNear s i ∧ t80Le (strokeAt x.stroke) (s.afterNs 10000) then
    verified s i (fun s => .next (s.setLed i { x with state := 2 }))
  else .next s

/-! ## Pins -/

/-- Whether a PIN stroke shows at its pin (R155). -/
def pinVisible (s : State) (p : Nat) : Bool :=
  if p < 20 then decide (s.get (OUTk_CFG_mode p) = 2) && s.on (OUTk_STATUS_driving p) && !s.on (OUTk_STATUS_safe_forced p)
  else gpioDriven s (p - 32)

/-- Whether a PIN stroke moves the level its pin's comparator holds: an output in pulse mode moves it whether or not its
driver is on (R445). -/
def pinMoves (s : State) (p : Nat) : Bool :=
  if p < 20 then decide (s.get (OUTk_CFG_mode p) = 2) && !s.on (OUTk_STATUS_safe_forced p) else true

/-- A pin's level is set on this tick by an edge of instant `t`, which the fine delay places within it (R263). Between edges less than 4 ns apart, where R154 calls the waveform unpredictable, the level held is
that of the last edge, and each edge counts (DESIGN CHOICE, log 155). OUTk_EDGES counts a tick on which the level at the pin changes once, and nothing
where strokes combine to leave it (R153, R270). -/
def pinLevel (s : State) (p : Nat) (t : T80) (b : Bool) : State :=
  if !pinMoves s p then s
  else
    let cur := s.level p
    let kept := tabGet (fun _ => 0) s.skb.tickPins p
    let base := if kept = 0 then cur else decide (kept = 2)
    let s := { s with skb := { s.skb with tickPins := tabSet (fun _ => 0) s.skb.tickPins p (if base then 2 else 1) } }
    let s := s.setLevel p b
    let s := if p < 20 then s.setOut p { s.out p with fine := t.low % 1024 + s.get (OUTk_CFG_trim p) } else s
    if p < 20 ∧ pinVisible s p then
      if cur = base ∧ b ≠ base then s.inc (OUTk_EDGES_count p)
      else if cur ≠ base ∧ b = base then s.put (OUTk_EDGES_count p) (s.get (OUTk_EDGES_count p) + 2 ^ 40 - 1)
      else s
    else s

/-- A PIN stroke without visible effect is counted (R155). -/
def pinMask (s : State) (p : Nat) : State :=
  if pinVisible s p then s else (s.inc SKB_CNT_PINMASK_count).ev SKB_EVENTS_pin_masked

/-- Whether one edge comes before another on a pin (R153, R154, R157): in time, then in acceptance order, a trailing edge in the
place of its own pulse stroke. -/
def edgeBefore (t : T80) (seq : Nat) (t' : T80) (seq' : Nat) : Bool :=
  t80Lt t t' || (decide (t80Units t = t80Units t') && seqBefore seq seq')

/-- Whether another edge of this tick has still to act on pin `p` before one at `t` of the stroke `seq` (R154). -/
def edgeAhead (s : State) (p : Nat) (t : T80) (seq : Nat) : Bool :=
  s.skb.trails.any (fun r => decide (r.pin = p) && s.reached r.at_ && edgeBefore r.at_ r.seq t seq)
    || s.skb.slots.any (fun e => decide (e.2.state = 2) && e.2.commit && !e.2.leadDone && decide (strokeClass e.2.stroke = 1)
        && decide (strokePin e.2.stroke = p) && executes s e.2.stroke && s.onTick (strokeAt e.2.stroke)
        && edgeBefore (strokeAt e.2.stroke) e.2.seq t seq)

/-- PIN_STROKE_EXECUTE (R152, R154): an edge, or the leading edge of a pulse, on its tick and never later (R38). -/
def execPinStrokeExecute (i : Fin 65536) (s : State) : Out :=
  let x := s.led i
  if strokeDue s i 1 ∧ s.onTick (strokeAt x.stroke) ∧ !edgeAhead s (strokePin x.stroke) (strokeAt x.stroke) x.seq then
    verified s i (fun s =>
      let p := strokePin x.stroke
      let up := decide (fieldOf x.stroke.act 28 28 = 0)
      let s := pinMask (pinLevel s p (strokeAt x.stroke) up) p
      if isPulse x.stroke then
        let tr : Trail := { slot := i, seq := x.seq, pin := p, at_ := t80Add (strokeAt x.stroke) (pulseWidth x.stroke : Nat),
                            level := !up }
        let s := journalAdd { s with skb := { s.skb with trails := s.skb.trails ++ [tr] } } x.seq 0 0
        let s := s.setLed i { x with leadDone := true }
        .next (if twActive s && twSync s then twSend s 4 [w40 x.seq, w40 0] else s)
      else .next (complete s i 0 0))
  else .next s

/-- PULSE_TRAILING_EDGE (R154): W after the leading edge, whatever else acts on the pin, in the place of its own pulse stroke among
the edges of the tick; the slot becomes DONE. -/
def execPulseTrailingEdge (i : Fin 65536) (s : State) : Out :=
  match s.skb.trails.find? (fun t => decide (t.slot = i.val)) with
  | none => .next s
  | some t =>
    if s.reached t.at_ ∧ !edgeAhead s t.pin t.at_ t.seq then
      let s := { s with skb := { s.skb with trails := s.skb.trails.filter (fun u => !decide (u = t)) } }
      let s := pinLevel s t.pin t.at_ t.level
      .next (s.setLed i { s.led i with state := 3 })
    else .next s

/-! ## FIFO port -/

/-- The FIFO a PUSH stroke names. -/
def pushFifo (k : Stroke) : Nat := fieldOf k.act 35 28

/-- The FIFO port as the owner of an open packet; R490 gives it no master ID, so the one that a length word carries for it
is a free value (log 1). -/
def strokeMaster : Nat := 25

/-- A PUSH stroke's word enters its FIFO; framing that does not fit is unpredictable (R125). -/
def pushNow (s : State) (i : Nat) : Out :=
  let k := (s.led i).stroke
  let n := pushFifo k
  let fr := fieldOf k.act 27 26
  if fifoFramed (s.fifo n) fr then
    let (m, s) := if fr = 2 ∨ fr = 3 then s.freeBelow 256 else (strokeMaster, s)
    .next (completeNow (s.setFifo n (fifoPut (s.fifo n) m fr (w40 (fieldOf k.act 25 0)))) i)
  else .fault .unpredictable

/-- Whether slot `j` holds a PUSH stroke to FIFO `n`. -/
def pushesTo (s : State) (n j : Nat) : Bool :=
  decide (strokeClass (s.led j).stroke = 5) && decide (pushFifo (s.led j).stroke = n)

/-- PUSH_STROKE_EXECUTE (R152): the word enters its FIFO, or waits behind the strokes that wait for it; a disabled FIFO
gives TARGET_ERROR. -/
def execPushStrokeExecute (i : Fin 65536) (s : State) : Out :=
  if strokeDue s i 5 then
    verified s i (fun s =>
      let n := pushFifo (s.led i).stroke
      if (unitErr s FIFO_IDX).isSome ∨ !(s.fifo n).en then .next (completeAs s i 5)
      else if s.skb.pushWait.any (pushesTo s n)
          ∨ !fifoTakes s n strokeMaster (fieldOf (s.led i).stroke.act 27 26) then
        let s := s.setLed i { s.led i with resume := false }
        .next { s with skb := { s.skb with pushWait := s.skb.pushWait ++ [i.val] } }
      else pushNow s i)
  else .next s

/-- PUSH_STROKE_DEFERRED (R152): the stroke at the head of its FIFO's queue takes effect once the FIFO accepts it. -/
def execPushStrokeDeferred (i : Fin 65536) (s : State) : Out :=
  let n := pushFifo (s.led i).stroke
  if s.skb.pushWait.find? (pushesTo s n) = some i.val ∧ s.skb.armed ∧ !s.fix.fatal then
    let out := { s with skb := { s.skb with pushWait := s.skb.pushWait.filter (fun j => decide (j ≠ i.val)) } }
    if (unitErr s FIFO_IDX).isSome ∨ !(s.fifo n).en then .next (completeAs out i 5)
    else if fifoTakes s n strokeMaster (fieldOf (s.led i).stroke.act 27 26) then verified out i (fun out => pushNow out i)
    else .next s
  else .next s

/-- PHASE_STROKE_EXECUTE (R261): the step is added to VARn_PHASE on the tick. A PLL that its wrapper or its domain keeps
from answering gives TARGET_ERROR (R160). -/
def execPhaseStrokeExecute (i : Fin 65536) (s : State) : Out :=
  let k := (s.led i).stroke
  let n := fieldOf k.act 35 34
  if strokeDue s i 2 then
    verified s i (fun s =>
      if (unitErr s (VARn_CTL n)).isSome then .next (completeAs s i 5)
      else .next (phaseStep (completeNow s i) n (signedOf 30 (fieldOf k.act 29 0))))
  else .next s

/-! ## Steps and leaps -/

/-- The number of ns that a step stroke's amount stands for, and its range (R134): which is 0 TB_STEP_US, 1 TB_STEP_S. -/
def stepNs (which : Nat) (amount : Int) : Int := amount * (if which = 0 then 1000 else 1000000000)

/-- The first condition of R134 that fails, as the result TB_STEP_LAST shows; 0 when none does. -/
def stepResult (s : State) (which : Nat) (amount : Int) : Nat :=
  let th := s.get TB_STEP_THRESH_thresh
  let ns := stepNs which amount
  let now : Int := (t80Units s.now : Nat)
  let post := now + ns * 1024
  if th = 0 ∨ ns.natAbs < th then 1
  else if (which = 0 ∧ (amount < -500000 ∨ 500000 < amount)) ∨ post < 0 ∨ ((2 ^ 40 * unitsPerSec : Nat) : Int) ≤ post then 3
  else if 0 < ns ∧ s.skb.slots.any (fun e => slotPending e.2 && e.2.commit && !e.2.leadDone
      && decide (strokeClass e.2.stroke = 1) && t80Lt s.now (strokeAt e.2.stroke)
      && decide ((t80Units (strokeAt e.2.stroke) : Int) ≤ post)) then 2
  else 0

/-- A WAIT whose instant a step from `old` to `new` carries the counter past is marked, and one that it carries the counter to is not; a
backward step unmarks it (R81, R83). -/
def waitStep (old new : T80) (c : Core) : Core :=
  match c.waiting with
  | .wait t past =>
    if t80Lt new t then { c with waiting := .wait t false }
    else { c with waiting := .wait t (past || (t80Lt old t && t80Lt t new)) }
  | _ => c

/-- TB performs a step of `ns` on this tick (R134 to R136): the counter, everything that holds its phase, and step_done. -/
def tbStep (s : State) (ns : Int) : State :=
  let units : Int := (t80Units s.now : Nat)
  let post := t80OfUnits (units + ns * 1024).toNat
  let phi := s.tb.phi % 2 ^ 48
  let s := { s with tb := { s.tb with sec := post.sec, ns := post.low / 1024, phi := phi,
                                      pre := some (s.tb.pre.getD s.now), steps := s.tb.steps + ns * 1024 },
                          cores := s.cores.map (fun e => (e.1, waitStep s.now post e.2)) }
  let s := palStep s (ns * 1024)
  let s := if ns < 0 then { s with pal := { s.pal with ticks := t80Units s.now / 1024000000 } } else s
  palStepDone (s.ev TB_EVENTS_step_done)

/-- TIME_STEP (R134, R569): the stroke in slot `i` writes TB_STEP_US or TB_STEP_S. -/
def execTimeStep (i : Fin 65536) (s : State) : Out :=
  let k := (s.led i).stroke
  let which := if fieldOf k.act 27 20 = 7 then 0 else 1
  if strokeDue s i 3 ∧ fieldOf k.act 35 28 = 4 ∧ (fieldOf k.act 27 20 = 7 ∨ fieldOf k.act 27 20 = 8) then
    verified s i (fun s =>
      let amount := signedOf 20 (fieldOf k.act 19 0)
      let r := stepResult s which amount
      let s := completeNow s i
      let s := s.putT TB_STEP_T_HI TB_STEP_T_LO s.now
      let s := ((s.put TB_STEP_LAST_kind (which + 1)).put TB_STEP_LAST_result r).put TB_STEP_LAST_amount (fieldOf k.act 19 0)
      .next (if r = 0 then tbStep s (stepNs which amount)
        else
          let s : State := { s with pal := { s.pal with stepMissed := s.pal.stepMissed || s.on PAL_STATE_step_hold } }
          if r = 2 then s.ev TB_EVENTS_step_blocked else s.ev TB_EVENTS_step_refused))
  else .next s

/-- What a stroke write of 1 to TB_LEAP_EXEC does (R137). Both announcements together are a reserved combination. -/
def leapNow (s : State) (t : T80) : Out :=
  let at_ : State := { s with tb := { s.tb with leapAt := some (t, s.get TB_UTC_OFS_ofs) } }
  if s.on TB_LEAP_leap61 ∧ s.on TB_LEAP_leap59 then .fault .unpredictable
  else if s.on TB_LEAP_leap61 then
    let s := at_.put TB_UTC_OFS_ofs (s.get TB_UTC_OFS_ofs + 1)
    let s := (s.putB TB_LEAP_leap61 false).putB TB_STATUS_in_leap true
    .next { s with tb := { s.tb with leapEnd := secsAfter t 1 } }
  else if s.on TB_LEAP_leap59 then
    let s := at_.put TB_UTC_OFS_ofs (s.get TB_UTC_OFS_ofs + 0xFFFF)
    .next (s.putB TB_LEAP_leap59 false)
  else .next s

/-- LEAP_EXEC (R137): the stroke in slot `i` writes TB_LEAP_EXEC. -/
def execLeapExec (i : Fin 65536) (s : State) : Out :=
  let k := (s.led i).stroke
  if strokeDue s i 3 ∧ fieldOf k.act 35 28 = 4 ∧ fieldOf k.act 27 20 = 0x10 then
    verified s i (fun s =>
      let v := fieldOf k.act 19 0
      if v = 1 then leapNow (completeNow s i) (strokeAt k)
      else if v = 0 then .next (completeNow s i)
      else .fault .unpredictable)
  else .next s

/-! ## Status, recovery and re-arming -/

/-- STATUS_WRITEBACK (R158): the status words of slot `i` are written to the DRAM ledger, once its own write has completed. -/
def execStatusWriteback (i : Fin 65536) (s : State) : Out :=
  if inFlight s i then .next s
  else
    let s := ledgerBurst s i
    let s := if onChip s i then s.stN (slotAddr s i) (strokeWords (s.led i).stroke) else s
    .next (s.stN (slotAddr s i + 4) ((slotWords (s.led i)).drop 4))

/-- The slots that the DRAM ledger holds something in. -/
def ledgerSlots (s : State) : List Nat :=
  let base := s.get SKB_LEDGER_BASE_base
  let hits := (s.mem.filter (fun e => decide (base ≤ e.1) && decide (e.1 < base + 393216))).map (fun e => (e.1 - base) / 6)
  let bad := (s.dramErr.filter (fun e => decide (base ≤ 0x10000000 + 12 * e.1)
      && decide (0x10000000 + 12 * e.1 < base + 393216))).flatMap (fun e =>
        let i := (0x10000000 + 12 * e.1 - base) / 6
        [i, i + 1])
  (hits ++ bad).dedup

/-- The slot that recovery reads from DRAM (R570): one whose burst gives an error, or which does not verify where it must,
becomes REPORTED with CHECK_LOST and keeps its words as read, 0 where the read returned an error. -/
def recoverSlot (s : State) (i : Nat) : Slot :=
  if s.badBurst (burstOf (slotAddr s i)) then { slotOfWords [] with state := 4, report := 4 }
  else
    let x := slotOfWords (s.ldN (slotAddr s i) 6)
    if slotPending x ∧ !strokeOk x.stroke then { x with state := 4, report := 4 } else x

/-- Whether recovery finds a slot's check lost (R570). -/
def checkLost (s : State) (i : Nat) : Bool :=
  let x := slotOfWords (s.ldN (slotAddr s i) 6)
  s.badBurst (burstOf (slotAddr s i)) || (slotPending x && !strokeOk x.stroke)

/-- Whether a stroke had taken effect before the reset: in the journal, or its leading edge done (R159). -/
def wasExecuted (s : State) (x : Slot) : Bool := x.leadDone || s.skb.journal.any (fun j => decide (j.1 = x.seq))

/-- Whether a pulse was cut by the reset (R159): its trailing edge fell at or after t_reset and no later stroke on its pin
took effect before it. -/
def truncated (s : State) (x : Slot) : Bool :=
  let t := s.getT TB_RESET_T_HI TB_RESET_T_LO
  decide (strokeClass x.stroke = 1) && isPulse x.stroke
    && t80Le t (t80Add (strokeAt x.stroke) (pulseWidth x.stroke : Nat))
    && !s.skb.slots.any (fun e => decide (strokeClass e.2.stroke = 1) && decide (strokePin e.2.stroke = strokePin x.stroke)
        && strokeBefore x e.2 && t80Lt (strokeAt e.2.stroke) t
        && (decide (e.2.state = 3) || (slotPending e.2 && wasExecuted s e.2)))

/-- One slot of the recovery (R159). A mirrored stroke whose acknowledgement never came is no accepted one until the twin's ledger has
shown that it holds it (R39, R150). -/
def resolveSlot (before : State) (s : State) (i : Nat) (resume : T80) : State :=
  let x := s.led i
  if s.skb.unresolved.contains x.seq then s.setLed i { x with state := 1, chip := true, commit := false }
  else if wasExecuted before x then
    let j := before.skb.journal.find? (fun e => decide (e.1 = x.seq))
    let (r, l) := match j with | some e => (e.2.1, e.2.2) | none => (0, 0)
    if r ≠ 0 then finishSlot s i r l
    else if truncated before x then finishSlot s i 3 0
    else s.setLed i { x with state := 3, report := 0, late := l }
  else if t80Lt (strokeAt x.stroke) resume ∧ strokeClass x.stroke = 1 then finishSlot s i 2 0
  else s.setLed i { x with state := 1, chip := true, resume := t80Lt (strokeAt x.stroke) resume }

/-- Insertion of a slot number in (T80, seq) order. -/
def insertSlot (s : State) (i : Nat) : List Nat → List Nat
  | [] => [i]
  | j :: js => if strokeBefore (s.led i) (s.led j) then i :: j :: js else j :: insertSlot s i js

/-- Keeper's ledger recovery (R159, R570): it rebuilds the state table from DRAM, resolves every pending slot, fixes
t_resume and opens the ledger. After a cold reset the ledger is empty. -/
def ledgerRecover (s : State) : State :=
  if !s.on SKB_STATUS_recovering then s
  else
    let resume := s.afterNs 10000
    let ids := if s.skb.cold then [] else ledgerSlots s
    let s := { s with skb := { s.skb with slots := [], trails := [], pushWait := [] } }
    let s := ids.foldl (fun s i => s.setLed i (recoverSlot s i)) s
    let bad := (s.dramErr.filter (fun e => ids.any (fun i => decide (burstOf (slotAddr s i) = e.1)))).map (fun e => e.1)
    let s := bad.foldl (fun s b => dramUncorr s b false none) s
    let lost := ids.filter (checkLost s)
    let s := lost.foldl (fun s i => noticeOfferer ((s.ev SKB_EVENTS_check_fail).ev SKB_EVENTS_report) (s.led i).offerer) s
    let order := ids.foldl (fun acc i => if slotPending (s.led i) then insertSlot s i acc else acc) []
    let before := s
    let s := order.foldl (fun s i => resolveSlot before s i resume) s
    let s := s.putT SKB_T_RESUME_HI SKB_T_RESUME_LO resume
    let s := s.putB SKB_STATUS_recovering false
    let s := if twStandby s then s else s.putB SKB_CTL_accept_en true
    settleWaiters { s with skb := { s.skb with cold := false, waits := 2 } }

/-- EXECUTORS_REARM (R159): at t_resume the executors are armed again. -/
def execExecutorsRearm (s : State) : Out :=
  if s.skb.waits = 2 ∧ !s.fix.fatal ∧ !s.lcy.stopped ∧ s.reached (s.getT SKB_T_RESUME_HI SKB_T_RESUME_LO) then
    .next { s with skb := { s.skb with armed := true, waits := 0 } }
  else .next s

/-- READ_LAPSE_LOG's choice (R160): the REPORTED slots in seq order, at most sixteen from index `start` on. The index counts the
REPORTED slots, and one beyond the last of them gives no entry (DESIGN CHOICE, log 154). -/
def lapseSlots (s : State) (start : Nat) : List Nat :=
  let reps := (s.skb.slots.filter (fun e => decide (e.2.state = 4))).map (fun e => e.1)
  let ins := fun (acc : List Nat) (i : Nat) =>
    (acc.filter (fun j => !seqBefore (s.led i).seq (s.led j).seq)) ++ [i]
      ++ (acc.filter (fun j => seqBefore (s.led i).seq (s.led j).seq))
  ((reps.foldl ins []).drop start).take 16

end Sys2Proof.Machine
end

