-- ==== Sys2Proof/Machine/Lp.lean ====
section
/-! DEFINITION. Line ports and the sitter unit: classes, stamps, departure, links (R321 to R333, R349 to R357). -/

namespace Sys2Proof.Machine

/-- A line port. -/
def State.port (s : State) (p : Nat) : LpSt := tabGet (fun _ => LpSt.reset) s.lp p

/-- The state with a line port replaced. -/
def State.setPort (s : State) (p : Nat) (x : LpSt) : State := { s with lp := tabSet (fun _ => LpSt.reset) s.lp p x }

/-- The master that group `g`'s port is (R490). -/
def groupMaster (g : Nat) (keeper : Bool) : Master := { id := ⟨(16 + g) % 25, Nat.mod_lt _ (by decide)⟩, keeper := keeper }

/-- The base of a group's memory (R479). -/
def groupBase (g : Nat) : Nat := 0x200000 + g * 0x10000

/-! ## Classes -/

/-- What the parser finds in a received frame (R329): class, l4, ipv6, vlan, and the sitter's address where it has one. -/
structure Parsed where
  cls : Nat
  l4 : Nat
  ipv6 : Bool
  vlan : Bool
  sitter : Option (Bool × Nat)

/-- The ones'-complement sum of octets paired in network order (R100). -/
def onesSum : List Nat → Nat → Nat
  | [], acc => acc
  | [a], acc => let x := acc + a % 256 * 256; x % 65536 + x / 65536
  | a :: b :: t, acc => let x := acc + a % 256 * 256 + b % 256; onesSum t (x % 65536 + x / 65536)

/-- The class of a UDP payload that starts at `l4` and is `n` octets long, to port `dport`; and whether it is NTP from a
sitter. -/
def udpClass (bs : List Nat) (dport l4 n : Nat) : Nat :=
  let b0 := bs.getD l4 0
  let mt := b0 % 16
  let ver := b0 / 8 % 8
  if dport = 319 then (if mt ≤ 3 then 0 else 6)
  else if dport = 320 then (if 8 ≤ mt ∧ mt ≤ 13 then 1 else 6)
  else if dport = 123 then
    if b0 % 8 ≠ 3 ∨ (ver ≠ 3 ∧ ver ≠ 4) then 7
    else if n = 48 then 2
    else if n = 68 then 4
    else if ver = 4 ∧ 52 ≤ n ∧ beNum (octets bs (l4 + 48) 2) = 0x0104 then 3
    else 6
  else 6

/-- The parser (R329). MAC control frames have no class (R321). -/
def parseFrame (bs : List Nat) : Option Parsed :=
  let et0 := beNum (octets bs 12 2)
  let tagged := decide (et0 = 0x8100)
  let et := if tagged then beNum (octets bs 16 2) else et0
  let l3 := if tagged then 18 else 14
  let r : Parsed := { cls := 6, l4 := 0, ipv6 := false, vlan := tagged, sitter := none }
  if et = 0x8808 then none
  else if et = 0x88F7 then
    let mt := bs.getD l3 0 % 16
    some { r with cls := if mt ≤ 3 then 0 else if 8 ≤ mt ∧ mt ≤ 13 then 1 else 6, l4 := l3 }
  else if et = 0x8809 ∧ bs.getD l3 0 = 0x0A then some { r with cls := 5 }
  else if et = 0x0800 then
    if onesSum (octets bs l3 (bs.getD l3 0 % 16 * 4)) 0 ≠ 0xFFFF then some { r with cls := 7 }
    else if bs.getD l3 0 ≠ 0x45 ∨ bs.getD (l3 + 9) 0 ≠ 17 then some r
    else
      let c := udpClass bs (beNum (octets bs (l3 + 22) 2)) (l3 + 28) (beNum (octets bs (l3 + 24) 2) - 8)
      some { r with cls := c, l4 := l3 + 28, sitter := some (false, beNum (octets bs (l3 + 12) 4)) }
  else if et = 0x86DD then
    let r : Parsed := { r with ipv6 := true }
    if bs.getD (l3 + 6) 0 ≠ 17 then some r
    else
      let c := udpClass bs (beNum (octets bs (l3 + 42) 2)) (l3 + 48) (beNum (octets bs (l3 + 44) 2) - 8)
      some { r with cls := c, l4 := l3 + 48, sitter := some (true, beNum (octets bs (l3 + 8) 8)) }
  else some r

/-- Whether a frame is addressed to port `p` (R329, R567): to a group address, or to the port's own address. -/
def addressed (s : State) (p : Nat) (bs : List Nat) : Bool :=
  let own := fieldOf (optWord s (26 + 2 * p)) 15 0 * 2 ^ 32 + fieldOf (optWord s (27 + 2 * p)) 31 0
  decide (bs.getD 0 0 % 2 = 1) || (decide (own ≠ 0) && decide (beNum (octets bs 0 6) = own))

/-! ## The sitter table -/

/-- The words of a bucket, and the group that holds it in its cache. -/
def stzAddr (s : State) (n : Nat) : Nat := s.get STZ_BASE_base + 12 * n

/-- A bucket is written back to its burst (R353). -/
def stzWriteBack (s : State) (n : Nat) : State :=
  match s.stz.cache.find? (fun e => decide (e.1 = n)) with
  | none => s
  | some (_, b) =>
    if b.dirtyAt.isNone then s
    else
      let s := (s.setBurst (burstOf (stzAddr s n)) false).stN (stzAddr s n) b.words
      { s with stz := { s.stz with cache := tabIns (tabDel s.stz.cache n) n { b with dirtyAt := none } } }

/-- Group `g` comes to hold bucket `n` (R353): a hit in its own cache, a takeover from the holder, which writes it back
first, or a read of DRAM. A full cache of 2,048 buckets gives one up; the spec does not say which (log 1). -/
def stzHold (s : State) (g n : Nat) : State :=
  let put := fun (s : State) (ws : List Word) =>
    { s with stz := { s.stz with cache := tabIns (tabDel s.stz.cache n) n { group := g, dirtyAt := none, words := ws } } }
  match s.stz.cache.find? (fun e => decide (e.1 = n)) with
  | some (_, b) =>
    if b.group = g then s.inc (BRGg_SC_HITS_count g)
    else put ((stzWriteBack s n).inc (BRGg_SC_TAKEOVERS_count g)) b.words
  | none =>
    let s := s.inc (BRGg_SC_MISSES_count g)
    let mine := (s.stz.cache.filter (fun e => decide (e.2.group = g))).map (fun e => e.1)
    let s := if mine.length < 2048 then s
      else
        let (k, s) := s.freeBelow mine.length
        let v := mine.getD k 0
        let s := stzWriteBack s v
        { s with stz := { s.stz with cache := tabDel s.stz.cache v } }
    put s (s.ldN (stzAddr s n) 12)

/-- The twelve words of a bucket, of its cache where one holds it. -/
def stzWords (s : State) (n : Nat) : List Word :=
  match s.stz.cache.find? (fun e => decide (e.1 = n)) with
  | some (_, b) => (List.range 12).map (fun x => b.words.getD x 0)
  | none => s.ldN (stzAddr s n) 12

/-- Entry `i` of a cached bucket is replaced. -/
def stzPut (s : State) (n i : Nat) (e : List Word) : State :=
  match s.stz.cache.find? (fun x => decide (x.1 = n)) with
  | none => s.stN (stzAddr s n + 3 * i) e
  | some (_, b) =>
    let b : Bucket := { b with
      words := (stzWords s n).take (3 * i) ++ e ++ (stzWords s n).drop (3 * i + 3),
      dirtyAt := match b.dirtyAt with | some t => some t | none => some s.now }
    { s with stz := { s.stz with cache := tabIns (tabDel s.stz.cache n) n b } }

/-- The age order of an entry: last_s and last_ms as a number of ms. -/
def entryAge (ws : List Word) (i : Nat) : Nat :=
  fieldOf (ws.getD (3 * i + 1) 0) 39 16 * 1000 + fieldOf (ws.getD (3 * i + 1) 0) 15 6

/-- The position a new sitter takes (R351): an invalid entry, else the one with the oldest last request. -/
def stzVictim (ws : List Word) : Nat :=
  match (List.range 4).find? (fun i => !bitAt (ws.getD (3 * i) 0) 39) with
  | some i => i
  | none => (List.range 4).foldl (fun b i => if entryAge ws i < entryAge ws b then i else b) 0

/-- The seconds from a kept last_s to now, extended against now. -/
def sinceSec (now last : Nat) : Int :=
  let d : Nat := (now + 2 ^ 24 - last) % 2 ^ 24
  if d < 2 ^ 23 then (d : Int) else (d : Int) - 2 ^ 24

/-- A sitter's request is looked up and the entry updated (R351): the verdict, the entry index, the epoch, the state. -/
def sitterLook (s : State) (g : Nat) (v6 : Bool) (addr : Nat) : (Nat × Nat × Nat) × State :=
  if !s.on STZ_CTL_en ∨ s.on STZ_STATUS_clearing ∨ (unitErr s STZ_CTL).isSome ∨ (unitErr s MEM_STATUS).isSome then ((3, 0, 0), s)
  else
    let h := (Config.sitterHash s.stz.keySerial (b2n v6 * 2 ^ 64 + addr)).toNat
    let n := h % 2 ^ 20
    let tag := h / 2 ^ 20 % 2 ^ 24
    let held := s.stz.cache.any (fun e => decide (e.1 = n))
    if !held ∧ s.badBurst (burstOf (stzAddr s n)) then
      let s := dramUncorr s (burstOf (stzAddr s n)) false none
      let (v, s) := s.freeBelow 4
      ((v, n * 4, 0), s)
    else
      let s := stzHold (s.inc STZ_CNT_LOOKUPS_count) g n
      let ws := stzWords s n
      let hit := (List.range 4).find? (fun i => bitAt (ws.getD (3 * i) 0) 39 && decide (fieldOf (ws.getD (3 * i) 0) 37 14 = tag))
      let i := match hit with | some i => i | none => stzVictim ws
      let s := match hit with
        | some _ => s
        | none =>
          let s := s.inc STZ_CNT_INSERTS_count
          if bitAt (ws.getD (3 * i) 0) 39 then s.inc STZ_CNT_EVICTIONS_count else s
      let e0 := ws.getD (3 * i) 0
      let e1 := ws.getD (3 * i + 1) 0
      let e2 := ws.getD (3 * i + 2) 0
      let nowS : Nat := s.now.sec
      let nowMs : Nat := s.now.low / 1024000000
      let burst := s.get STZ_BURST_burst
      let ds : Int := sinceSec nowS (fieldOf e1 39 16)
      let kodS := s.get STZ_KOD_kod_s
      let (newWin, s) : Bool × State := if kodS = 0 then
          let (b, s) := s.freeBelow 2
          (decide (b = 1), s)
        else (decide ((nowS : Int) / (kodS : Int) ≠ ((nowS : Int) - ds) / (kodS : Int)), s)
      let ms : Int := ds * 1000 + (nowMs : Int) - (fieldOf e1 15 6 : Int)
      let (grown, s) := freeQ s ((s.get STZ_RATE_rate : Int) * (if ms < 0 then 0 else ms)) 1000
      let known := hit.isSome
      let tokens := if known then min burst (fieldOf e0 13 0 + grown.toNat) else burst
      let kod := known && !newWin && bitAt e1 1
      let pass := decide (256 ≤ tokens)
      let rateKiss := !pass && decide (s.get STZ_CTL_over = 1) && !kod
      let verdict := if pass then 0 else if rateKiss then 1 else 2
      let limited := if known then fieldOf e2 23 12 else 0
      let limited := if pass then limited else min 4095 (limited + 1)
      let s := if pass then s else s.inc STZ_CNT_OVER_count
      let s := if rateKiss then s.inc STZ_CNT_KOD_count else s
      let epoch := if known then fieldOf e1 5 2 else 0
      let w0 := w40 (2 ^ 39 + b2n v6 * 2 ^ 38 + tag * 2 ^ 14 + (if pass then tokens - 256 else tokens))
      let w1 := w40 (nowS % 2 ^ 24 * 2 ^ 16 + nowMs * 2 ^ 6 + epoch * 4 + b2n (kod || rateKiss) * 2)
      let w2 := w40 (((if known then fieldOf e2 39 24 else 0) + 1) % 65536 * 2 ^ 24 + limited * 2 ^ 12
        + (if known then fieldOf e2 11 0 else 0))
      ((verdict, n * 4 + i, epoch), stzPut s n i [w0, w1, w2])

/-- STZ_CMD_WORD (R352): STZ takes one word from its command FIFO and applies it to the entry it names. -/
def execStzCmdWord (s : State) : Out :=
  let f := s.get STZ_CMD_FIFO_fifo
  if !s.on STZ_CTL_en ∨ (unitErr s STZ_CTL).isSome ∨ (unitErr s FIFO_IDX).isSome then .next s
  else
    let (w, q) := fifoPop (s.fifo f)
    match w with
    | none => .next s
    | some w =>
      let s := s.setFifo f q
      let op := fieldOf w 39 38
      let n := fieldOf w 37 18
      let i := fieldOf w 17 16
      let ws := stzWords s n
      let e := ws.drop (3 * i) |>.take 3
      if op = 1 then
        .next (stzPut s n i [e.getD 0 0, e.getD 1 0, putField (e.getD 2 0) 11 0 (min 4095 (fieldOf (e.getD 2 0) 11 0 + 1))])
      else if op = 2 then .next (stzPut s n i [e.getD 0 0, putField (e.getD 1 0) 5 2 (fieldOf w 15 12), e.getD 2 0])
      else .fault .reservedValue

/-- SITTER_CACHE_TAKEOVER (R353): group `g` needs bucket `n` while another group holds it. -/
def execSitterCacheTakeover (g : Fin 4) (n : BitVec 20) (s : State) : Out :=
  .next (if s.stz.cache.any (fun e => decide (e.1 = n.toNat) && decide (e.2.group ≠ g.val)) then stzHold s g n.toNat else s)

/-- SITTER_WRITEBACK (R353): a dirty bucket is written back within 10 ms of its first change. -/
def execSitterWriteback (n : BitVec 20) (s : State) : Out :=
  .next (if (unitErr s MEM_STATUS).isSome then s else stzWriteBack s n.toNat)

/-- The table begins to be cleared (R353): nothing is cached, and every request is untracked. -/
def stzClear (s : State) : State :=
  let s : State := { s with stz := { s.stz with cache := [], cleared := false } }
  (s.putB STZ_STATUS_clearing true).putB STZ_STATUS_ready false

/-- What STZ_CMD op 1 does (R357): the hash key is drawn anew and the table cleared. -/
def stzReseed (s : State) : Out := .next (stzClear { s with stz := { s.stz with keySerial := s.stz.keySerial + 1 } })

/-- What STZ_CMD op 2 does (R357): every cache is written back. -/
def stzWriteAll (s : State) : Out :=
  let save := fun (s : State) (e : Nat × Bucket) =>
    if e.2.dirtyAt.isNone then s else (s.setBurst (burstOf (stzAddr s e.1)) false).stN (stzAddr s e.1) e.2.words
  let s := s.stz.cache.foldl save s
  .next { s with stz := { s.stz with cache := s.stz.cache.map (fun e => (e.1, { e.2 with dirtyAt := none })) } }

/-- RESEED_AND_CLEAR. -/
def execReseedAndClear (m : Master) (s : State) : Out := writeReg m STZ_CMD 1 stzReseed s

/-- WRITE_BACK_CACHES. -/
def execWriteBackCaches (m : Master) (s : State) : Out := writeReg m STZ_CMD 2 stzWriteAll s

/-- The effect of a STZ_CMD write. -/
def stzCmdWrite (w : Word) (s : State) : Out :=
  match fieldOf w 1 0 with | 1 => stzReseed s | 2 => stzWriteAll s | _ => .next s

/-- The effect of a STZ_CTL write (R353, R357): en set clears the table when it has not been cleared since the last cold
reset; a table already cleared is ready at once. -/
def stzCtlWrite (w : Word) (s : State) : Out :=
  let was := s.on STZ_CTL_en
  let s := plainWrite s STZ_CTL w
  .next (if s.on STZ_CTL_en ∧ !was then (if s.stz.cleared then s.putB STZ_STATUS_ready true else stzClear s)
    else if !s.on STZ_CTL_en then s.putB STZ_STATUS_ready false else s)

/-- STZ_TABLE_CLEAR_DONE (R353): every entry is invalid, and verdict 3 is no longer given. -/
def execStzTableClearDone (s : State) : Out :=
  if !s.on STZ_STATUS_clearing then .next s
  else
    let base := s.get STZ_BASE_base
    let outside := fun (a : Nat) => decide (a < base) || decide (base + 12582912 ≤ a)
    let s : State := { s with
      mem := tabFilter (fun a _ => outside a) s.mem,
      dramErr := tabFilter (fun b _ => outside (0x10000000 + 12 * b)) s.dramErr,
      stz := { s.stz with cleared := true } }
    .next ((s.putB STZ_STATUS_clearing false).putB STZ_STATUS_ready (s.on STZ_CTL_en))

/-! ## Reception -/

/-- The age limit of a stamp in 1/1024 ns (R326). -/
def rxAge (s : State) (p : Nat) : Nat := s.get (LPp_RX_AGE_age_ms p) * 1024000000

/-- An instant without the steps of the time scale. -/
def steadyOf (s : State) (t : T80) : T80 := t80OfUnits ((t80Units t : Int) - s.tb.steps).toNat

/-- Whether a stamp taken at `t`, an instant without steps, is more than rx_age old (R326). -/
def stampAged (s : State) (p : Nat) (t : T80) : Bool := decide (rxAge s p < t80Units s.steady - t80Units t)

/-- The ring FIFO of a class (R356). -/
def ringFifo (s : State) (g cls : Nat) : Nat :=
  if cls = 5 then s.get (BRGg_RX_FIFO1_class5 g)
  else fieldOf (s.rd (BRGg_RX_FIFO0 g)) (8 * cls + 7) (8 * cls)

/-- A receive descriptor at the head of a ring that is older than rx_age (R326). -/
def ringAged (s : State) (p n : Nat) : Bool :=
  match (s.fifo n).closed with
  | (_ :: w0 :: _) :: _ =>
    !(s.fifo n).begun
      && (match ((s.port p).given.find? (fun e => decide (e.1 = fieldOf w0 31 0))) with
          | some (_, t) => stampAged s p t
          | none => false)
  | _ => false

/-- Aged descriptors at the head of ring `n` of group `p` are discarded and counted (R326). -/
def ringClean (p n : Nat) : Nat → State → State
  | 0, s => s
  | k + 1, s =>
    if ringAged s p n then
      let s := s.setFifo n { s.fifo n with closed := (s.fifo n).closed.tail }
      ringClean p n k ((s.inc (LPp_CNT_RX_AGED_count p)).ev (LPp_EVENTS_rx_aged p))
    else s

/-- Before a pop of FIFO `n`: a ring of a group delivers no aged descriptor (R326). -/
def ringFresh (s : State) (n : Nat) : State :=
  (List.range 4).foldl (fun s g =>
    if (List.range 6).any (fun c => decide (ringFifo s g c = n)) && s.on (BRGg_CTL_rx_en g) then
      ringClean g n (s.fifo n).closed.length s
    else s) s

/-! ## Departure -/

/-- The block period of a port's mode in 1/1024 ns, rounded to a whole unit above (R332), and its bit time in 1/102,400 ns. -/
def blockPeriod (s : State) (p : Nat) : Nat := ([656, 2622, 6554] : List Nat).getD (s.get (LPp_CFG_mode p)) 656
def octetTime (s : State) (p : Nat) : Nat := ([8192, 32768, 81920] : List Nat).getD (s.get (LPp_CFG_mode p)) 8192

/-- The line time of a frame of `n` octets in 1/1024 ns, with FCS, gap and the next preamble. -/
def lineTime (s : State) (p n : Nat) : Nat := ((max 60 n + 24) * octetTime s p + 99) / 100

/-- A frame with nothing armed and nothing asked for: the address of its descriptor, its queue and its octets. -/
def txFrame (desc queue : Nat) (bs : List Nat) : TxFrame :=
  { desc := desc, queue := queue, stampId := none, bytes := bs, ctl := 0, arm := 0, time := 0, sync := false, after := none, lineage := none }

/-- The four words of a transmit descriptor, and the state after the port has read them. -/
def txWords (s : State) (p : Nat) (f : TxFrame) : List Word × State :=
  if f.bytes.isEmpty then dmaLoad (groupMaster p true) s f.desc 4 else ([0, w40 (f.bytes.length + f.ctl), f.arm, f.time], s)

/-- Whether a descriptor asks for a held start (R332). -/
def txHeld (ws : List Word) : Bool := bitAt (ws.getD 1 0) 16

/-- The ones'-complement adjustment of a checksum at `at_` of a frame whose octets change from `old` to `new` (R331). -/
def fixChecksum (old new : List Nat) (at_ : Nat) : List Nat :=
  let c := beNum (octets old at_ 2)
  if c = 0 then new
  else
    let sumOf := fun (bs : List Nat) => onesSum (if at_ % 2 = 1 then 0 :: bs else bs) 0
    let d := (65535 - c) % 65535 + (65535 - sumOf old % 65535) + sumOf new % 65535
    let x := 65535 - d % 65535
    overwrite new at_ (beBytes 2 (if x = 0 then 0xFFFF else x))

/-- TAI - UTC at an instant up to now: before the last leap stroke what TB_UTC_OFS held then (R137, R138). -/
def utcOffsetAt (s : State) (t : T80) : Int :=
  signedOf 16 (match s.tb.leapAt with
    | some (u, old) => if t80Lt t u then old else s.get TB_UTC_OFS_ofs
    | none => s.get TB_UTC_OFS_ofs)

/-- NTP seconds of an instant (R138, R139). -/
def ntpSeconds (s : State) (t : T80) : Nat := (((t.sec : Int) - utcOffsetAt s t + 2208988800) % 2 ^ 32).toNat

/-- An NTP timestamp, rounded down (R138, R331). -/
def ntpStamp (s : State) (t : T80) : List Nat := beBytes 4 (ntpSeconds s t) ++ beBytes 4 (t.low * 2 ^ 32 / unitsPerSec)

/-- A correctionField of 2^-16 ns is advanced by a number of 1/1024 ns. -/
def addCorrection (bs : List Nat) (at_ : Nat) (d : Int) : List Nat :=
  overwrite bs at_ (beBytes 8 (((beNum (octets bs at_ 8) : Int) + 64 * d) % 2 ^ 64).toNat)

/-- One-step insertion at departure (R331): the time field for a timestamp point at `t`. -/
def insertTime (s : State) (ws : List Word) (t : T80) (bs : List Nat) : List Nat :=
  let w2 := ws.getD 2 0
  if !bitAt w2 39 then bs
  else
    let f := fieldOf w2 36 26
    let fmt := fieldOf w2 38 37
    let new :=
      if fmt = 0 then
        let b := overwrite bs f (beBytes 6 (t.sec % 2 ^ 48) ++ beBytes 4 (t.low / 1024))
        addCorrection b (f - 26) (t.low % 1024 : Nat)
      else if fmt = 1 then
        overwrite bs f (ntpStamp s t)
      else addCorrection bs f (t80Diff t (s40Extend (ws.getD 3 0).toNat t).1)
    let c := fieldOf w2 25 10
    if c = 0xFFFF then new else fixChecksum bs new c

/-- txdone words enter their FIFO while it has room (R328, R499). -/
def doneFlush (p : Nat) : List Word → State → State
  | [], s => s.setPort p { s.port p with done := [] }
  | w :: ws, s =>
    let n := s.get (BRGg_AUX_FIFO_txdone p)
    match fifoPacket s n (16 + p) [w] with
    | some t => doneFlush p ws t
    | none => if (s.fifo n).en then s.setPort p { s.port p with done := w :: ws } else doneFlush p ws s

/-- The port has finished with a descriptor (R328). -/
def txDone (s : State) (p desc res : Nat) : State :=
  doneFlush p ((s.port p).done ++ [w40 (res * 2 ^ 37 + desc % 2 ^ 32)]) s

/-- A transmit stamp enters the stamp queue, or is dropped (R325). -/
def tsqAdd (s : State) (p id : Nat) (t : T80) : State :=
  let x := s.port p
  if x.tsq.length < 64 then
    let s := s.setPort p { x with tsq := x.tsq ++ [(id, w40 (s40Of t), steadyOf s t)] }
    s.put (LPp_STATUS_tsq_level p) (x.tsq.length + 1)
  else (s.inc (LPp_CNT_TSQ_DROP_count p)).ev (LPp_EVENTS_tsq_drop p)

/-- An instant without the steps of the time scale, as the line sees it. -/
def lineNow (s : State) (t : T80) : Int := (t80Units t : Int) - s.tb.steps

/-- Whether an earlier frame is still on the line of a sub-port at `t` (R156, R330). -/
def lineBusy (s : State) (p sub : Nat) (t : T80) : Bool := decide (lineNow s t < tabGet (fun _ => 0) (s.port p).busy sub)

/-- A frame leaves (R331): its octets are read at departure, the time is inserted, what left is kept, and its line is taken for its length. -/
def txSend (s : State) (p : Nat) (f : TxFrame) (ws : List Word) (t : T80) : State :=
  let len := fieldOf (ws.getD 1 0) 13 0
  let (bs, s) := if f.bytes.isEmpty then
      let (words, s) := dmaLoad (groupMaster p true) s (fieldOf (ws.getD 0 0) 31 0) (len / 5 + 1)
      ((words.flatMap bytesOf).take len, s)
    else (f.bytes, s)
  let (sh, s) := stampShift s 0
  let t := t80Add t sh
  let bs := insertTime s ws t bs
  let bs := match f.lineage with | none => bs | some i => overwrite bs i (beBytes 5 (lineageAt s t).toNat)
  let bs := bs ++ List.replicate (60 - bs.length) 0
  let sub := fieldOf (ws.getD 1 0) 15 14
  let x := s.port p
  let s := s.setPort p { x with last := some (sub, bs), busy := tabSet (fun _ => 0) x.busy sub (lineNow s t + (lineTime s p bs.length : Nat)) }
  let s := s.inc (LPp_CNT_TX_count p)
  let s := if f.sync then { s with ptp := { s.ptp with lastSync := tabSet (fun _ => ⟨0, 0⟩) s.ptp.lastSync p t } } else s
  match f.stampId with | some id => tsqAdd s p id t | none => s

/-- The sub-port of a frame (R327). -/
def txSub (s : State) (p : Nat) (f : TxFrame) : Nat := fieldOf ((txWords s p f).1.getD 1 0) 15 14

/-- The frames at the head of the eight queues of each sub-port, strict priority first; the host's frames feed queue 7 (R330, R329). -/
def txHeads (s : State) (p : Nat) : List TxFrame :=
  (List.range 8).flatMap (fun q => (List.range 4).filterMap (fun u =>
    (s.port p).txq.find? (fun f => decide (f.queue = q) && decide (txSub s p f = u))))

/-- Whether slot `i` holds a LAUNCH on port `p` that its executor has taken or is to take, and the sub-port of its frame. -/
def launchOn (s : State) (p : Nat) (x : Slot) : Option Nat :=
  if x.state = 2 ∧ strokeClass x.stroke = 4 ∧ fieldOf x.stroke.act 34 33 = p then
    some (txSub s p (txFrame (groupBase p + fieldOf x.stroke.act 15 0) 0 []))
  else none

/-- The T80 of every timed frame ahead on a sub-port: held heads of the queues, and dispatched LAUNCH strokes, those that wait for the line among
them (R156, R330). -/
def timedStarts (s : State) (p sub : Nat) (t : T80) : List T80 :=
  ((txHeads s p).filterMap (fun f =>
      let ws := (txWords s p f).1
      let u := (s40Extend (ws.getD 3 0).toNat t).1
      if txHeld ws ∧ txSub s p f = sub ∧ t80Le t u then some u else none))
    ++ (s.skb.slots.filter (fun e => decide (launchOn s p e.2 = some sub))).map (fun e => strokeAt e.2.stroke)

/-- The frame of the port that departs next: `none` while nothing may start, and otherwise the frame, its words and
whether it goes (0) or ends with result 1. A held head goes within one block period of its time, and is missed after. -/
def txChoose (s : State) (p : Nat) (t : T80) : Option (TxFrame × Nat) :=
  let heads := (txHeads s p).map (fun f => (f, (txWords s p f).1))
  let due := fun (ws : List Word) => t80Diff t (s40Extend (ws.getD 3 0).toNat t).1
  let free := fun (h : TxFrame × List Word) => !lineBusy s p (txSub s p h.1) t
  let missed := fun (ws : List Word) => decide ((blockPeriod s p : Int) ≤ due ws)
  match heads.find? (fun h => txHeld h.2 && decide (0 ≤ due h.2) && (missed h.2 || free h)) with
  | some (f, ws) => some (f, b2n (missed ws))
  | none =>
    (heads.find? (fun h => !txHeld h.2 && free h &&
      (let stop := t80Add t (lineTime s p (fieldOf (h.2.getD 1 0) 13 0) : Nat)
       !(timedStarts s p (txSub s p h.1) t).any (fun u => t80Lt u stop)))).map (fun h => (h.1, 0))

/-- A host's transmit descriptor is taken from the host-tx FIFO when queue 7 is empty (R329): its words and its frame. -/
def hostFrame (s : State) (p : Nat) : State :=
  let n := s.get (BRGg_AUX_FIFO_host_tx p)
  if (s.port p).txq.any (fun f => decide (f.queue = 7)) ∨ !(s.fifo n).en then s
  else
    let all := (s.fifo n).closed.flatten
    let skip := if (s.fifo n).packet then 1 else 0
    if all.length < 4 + skip then s
    else
      let ws := (all.drop skip).take 4
      let rest := if (s.fifo n).packet then (s.fifo n).closed.tail else (s.fifo n).closed.drop 4
      let s := s.setFifo n { s.fifo n with closed := rest, begun := false }
      let (words, s) := dmaLoad (groupMaster p true) s (fieldOf (ws.getD 0 0) 31 0) (fieldOf (ws.getD 1 0) 13 0 / 5 + 1)
      let x := s.port p
      let f := txFrame 0 7 ((words.flatMap bytesOf).take (fieldOf (ws.getD 1 0) 13 0))
      s.setPort p { x with txq := x.txq ++ [f] }

/-- Whether a descriptor combines what R327 reserves. -/
def txReserved (ws : List Word) : Bool :=
  let w2 := ws.getD 2 0
  bitAt w2 39 && (decide (fieldOf w2 38 37 = 3) || (txHeld ws && decide (fieldOf w2 38 37 = 2)))

/-- Whether slot `i` holds a LAUNCH that waits for its line and may go on (R156). -/
def launchWaits (s : State) (i : Nat) : Bool :=
  s.skb.pushWait.contains i && decide ((s.led i).state = 2) && decide (strokeClass (s.led i).stroke = 4) && executes s (s.led i).stroke

/-- LAUNCH_STROKE_EXECUTE (R156, R328): the timed frame of slot `i` starts on a block boundary `off` 1/1024 ns from now; while an earlier
frame is on its line it waits, and goes as soon as a further LAUNCH_STROKE_EXECUTE finds the line free (log 175). A
generation that no longer matches, or a copy taken over from the twin (R450), gives NO_FRAME; a group or port that does not
answer gives TARGET_ERROR. -/
def execLaunchStrokeExecute (i : Fin 65536) (off : BitVec 14) (s : State) : Out :=
  if !strokeDue s i 4 ∧ !launchWaits s i then .next s
  else
    verified s i (fun s =>
      let x := s.led i
      let k := x.stroke
      let p := fieldOf k.act 34 33
      let desc := groupBase p + fieldOf k.act 15 0
      let wait := s.skb.pushWait.filter (fun j => decide (j ≠ i.val))
      let go : State := { s with skb := { s.skb with pushWait := wait } }
      if (unitErr s (BRGg_CTL p)).isSome ∨ (unitErr s (LPp_CFG p)).isSome then .next (completeAs go i 5)
      else if fieldOf k.act 23 16 ≠ s.get (BRGg_GEN_gen p) ∨ x.twin then .next (txDone (completeAs go i 6) p desc 4)
      else
        let f := txFrame desc (fieldOf k.act 32 30) []
        let (ws, go) := txWords go p f
        let ws := [ws.getD 0 0, putField (ws.getD 1 0) 17 16 0, ws.getD 2 0, ws.getD 3 0]
        let sub := fieldOf (ws.getD 1 0) 15 14
        let t := t80Add s.now ((off.toNat : Int) + s.getI (LPp_TX_OFS_val p))
        let late := t80Diff t (strokeAt k)
        let (r, l) : Nat × Nat := if late < (blockPeriod s p : Int) then (0, 0) else (1, min 0xFFFFFFFF ((late.toNat + 1023) / 1024))
        if txReserved ws then .fault .unpredictable
        else if !s.on (LPp_CFG_en p) ∨ !(s.get (LPp_STATUS_link p)).testBit sub then
          .next (txDone (complete go i r l) p desc 3)
        else if lineBusy s p sub t then .next { s with skb := { s.skb with pushWait := wait ++ [i.val] } }
        else .next (txDone (txSend (complete go i r l) p f ws t) p desc 0))

/-- A read of LPp_TSQ_ID pops the transmit-stamp queue, whose aged entries are discarded first (R325, R326, R355). -/
def tsqPop (p : Nat) (s : State) : State :=
  let old := fun (e : Nat × Word × T80) => stampAged s p e.2.2
  let x := s.port p
  let aged := x.tsq.takeWhile old
  let s := aged.foldl (fun s _ => (s.inc (LPp_CNT_TSQ_AGED_count p)).ev (LPp_EVENTS_tsq_aged p)) s
  let q := x.tsq.dropWhile old
  let s := (s.setPort p { x with tsq := q.tail }).put (LPp_STATUS_tsq_level p) q.tail.length
  match q.head? with
  | none => s.wr (LPp_TSQ_ID p) 0
  | some (id, w, _) => (s.wr (LPp_TSQ_ID p) (w40 (2 ^ 39 + id))).wr (LPp_TSQ_STAMP p) w

/-- TSQ_POP (R355). -/
def execTsqPop (m : Master) (p : Fin 4) (s : State) : Out := readReg m (LPp_TSQ_ID p) (tsqPop p) s

/-! ## Link and configuration -/

/-- The SyncE slot of a port follows the lock of its lane (R174). -/
def syncEFault (s : State) (p : Nat) : State := s.setSlot (14 + p) { s.slot (14 + p) with portFault := !syncELive s p }

/-- LP_ALIGN_LOCK (R323): sub-port `sub` of port `p` reaches lock with its link up; the lane skews are measured. In mode 0
the four lanes lock together. -/
def execLpAlignLock (p : Fin 4) (sub : Fin 4) (skew : BitVec 20) (s : State) : Out :=
  if (unitErr s (LPp_CFG p)).isSome ∨ !s.on (LPp_CFG_en p) ∨ !(s.get (LPp_CFG_sub_en p)).testBit sub then .next s
  else
    let m0 := decide (s.get (LPp_CFG_mode p) = 0)
    let lanes := if m0 then [0, 1, 2, 3] else [sub.val]
    let s := lanes.foldl (fun s l => s.put (LPp_SKEW_skew p l) skew.toNat) s
    let s := s.put (LPp_STATUS_rx_lock p) (Nat.lor (s.get (LPp_STATUS_rx_lock p)) (if m0 then 15 else 2 ^ sub.val))
    let was := (s.get (LPp_STATUS_link p)).testBit sub
    let s := s.put (LPp_STATUS_link p) (Nat.lor (s.get (LPp_STATUS_link p)) (2 ^ sub.val))
    let s := if was then s else s.ev (LPp_EVENTS_link_change p)
    .next (syncEFault (s.putB (LPp_STATUS_cal_valid p) true) p)

/-- Links are lost: the sub-ports of `mask` lose lock and link. -/
def lpLose (s : State) (p mask : Nat) : State :=
  let link := s.get (LPp_STATUS_link p)
  let gone := Nat.land link mask
  let lanes := if s.get (LPp_CFG_mode p) = 0 then 15 else mask
  let lock := s.get (LPp_STATUS_rx_lock p)
  let s := s.put (LPp_STATUS_rx_lock p) (lock - Nat.land lock lanes)
  let s := s.put (LPp_STATUS_link p) (link - gone)
  let s := if gone = 0 then s else s.ev (LPp_EVENTS_link_change p)
  syncEFault (s.putB (LPp_STATUS_cal_valid p) false) p

/-- LP_LINK_LOSS (R174, R323). -/
def execLpLinkLoss (p : Fin 4) (sub : Fin 4) (s : State) : Out :=
  .next (if (unitErr s (LPp_CFG p)).isSome ∨ !s.on (LPp_CFG_en p) then s else lpLose s p (2 ^ sub.val))

/-- Whether a value of LPp_CFG is one that R321 does not reserve. -/
def lpCfgOk (w : Word) : Bool :=
  let mode := fieldOf w 3 2
  let fec := fieldOf w 9 8
  (decide (mode = 0) && decide (fec = 2) && decide (fieldOf w 7 5 = 0)) || (decide (mode = 1) && decide (fec ≤ 2))
    || (decide (mode = 2) && decide (fec ≤ 1))

/-- The effect of a write of LPp_CFG, LPp_TX_OFS, LPp_RX_OFS or LPp_RX_AGE (R355): ignored while en is 1, but for clearing
en. R321's reserved combinations have no effect stated where en is set. -/
def lpCfgWrite (p a : Nat) (w : Word) (s : State) : Out :=
  if a = LPp_CFG p then
    if s.on (LPp_CFG_en p) then
      if !bitAt w 0 ∧ putField w 0 0 1 = s.rd a then .next (lpLose (s.wr a w) p 15)
      else .next (s.ev (LPp_EVENTS_cfg_ignored p))
    else if bitAt w 0 ∧ !lpCfgOk w then .fault .reservedValue
    else .next (s.wr a w)
  else if s.on (LPp_CFG_en p) then .next (s.ev (LPp_EVENTS_cfg_ignored p))
  else .next (plainWrite s a w)

/-- LP_CFG_WRITE (R355): `i` picks LPp_CFG, LPp_TX_OFS, LPp_RX_OFS or LPp_RX_AGE. -/
def execLpCfgWrite (m : Master) (p : Fin 4) (i : Fin 4) (w : Word) (s : State) : Out :=
  let a := ([LPp_CFG p, LPp_TX_OFS p, LPp_RX_OFS p, LPp_RX_AGE p] : List Nat).getD i.val (LPp_CFG p)
  writeReg m a w (lpCfgWrite p a w) s

end Sys2Proof.Machine
end

