-- ==== Sys2Proof/Machine/Tly.lean ====
section
/-! DEFINITION. The Tally reader: sweeps, records and slot counters (R534 to R542). -/

namespace Sys2Proof.Machine

/-- A slot counter as the model counts it: retired slots (1), those wasted after a taken branch (2), those of a wait that is back-starved
(4) or asleep (5), loads (6) and traps (7) of a position. -/
def slotCount (s : State) (p e : Nat) : Word := tabGet (fun _ => (0 : Word)) s.tly.slots (p * 8 + e)

/-- A slot counter adds `n` (R535). -/
def slotAdd (s : State) (p e n : Nat) : State :=
  { s with tly := { s.tly with slots := tabSet (fun _ => (0 : Word)) s.tly.slots (p * 8 + e) (slotCount s p e + w40 n) } }

/-- A slot counter adds one (R535). -/
def slotInc (s : State) (p e : Nat) : State := slotAdd s p e 1

/-- The eight entries of a position taken together (R535, R537); entry 0 is the sum of entries 1 to 5. The slots squashed after a taken
branch and those of a waiting instruction are counted (R76, R86). The spec gives no figure for the cycles of a trap entry, of a stall
on data and of a fetch: these are free (log 49). -/
def slotGroup8 (s : State) (p : Nat) : List Word × State :=
  if 48 ≤ p then (List.replicate 8 0, s)
  else
    let n := slotCount s p
    let (entry, s) := if n 7 = 0 then (0, s) else s.free
    let (front, s) := s.free
    let (stall, s) := s.free
    let wasted := n 2 + entry
    let back := n 4 + stall
    ([n 1 + wasted + front + back + n 5, n 1, wasted, front, back, n 5, n 6, n 7], s)

/-- The class of the slots of a core that waits (R86, R534): 5 asleep, 4 back-starved, none where it does not wait. -/
def waitClass (c : Core) : Option Nat :=
  match c.waiting with
  | .none => none
  | .wait _ _ => some 5
  | .wev _ _ _ => some 5
  | .sched _ => some 5
  | .schedDone _ _ _ => some 5
  | _ => some 4

/-- The slots of one tick of the cores that wait (R534): one of an Easel core, and of a Brush engine, whose cycle is 0.833 ns, one or two,
which of these free (R76; log 49). -/
def waitSlots (s : State) : State :=
  s.cores.foldl (fun s e => match waitClass e.2 with
    | none => s
    | some x =>
      if e.2.halted ∨ e.2.fenced then s
      else if e.1 < 16 then slotAdd s e.1 x 1
      else
        let (n, s) := s.freeBelow 2
        slotAdd s e.1 x (1 + n)) s

/-- The four counters of a unit (R536): zero for an absent unit or one whose domain is off. -/
def unitGroup4 (s : State) (u : Nat) : List Word :=
  match unitDomain u with
  | none => [0, 0, 0, 0]
  | some d => if domainOn s d then [0, 1, 2, 3].map (fun j => s.rd (UNIT_TALLY u j)) else [0, 0, 0, 0]

/-- The values of the group that begins at slot `i`. -/
def sweepGroup (s : State) (i : Nat) : List Word × State :=
  if i < 1024 then (unitGroup4 s (i / 4), s) else slotGroup8 s ((i - 1024) / 8)

/-- A word of a bank's record replaced. -/
def bankSet (s : State) (bank i : Nat) (w : Word) : State :=
  if bank = 0 then { s with tly := { s.tly with bank0 := s.tly.bank0.set i w } }
  else { s with tly := { s.tly with bank1 := s.tly.bank1.set i w } }

/-- The serial of the sweep that runs or comes next, and its bank (R539). -/
def sweepSerial (s : State) : Nat := (s.get TLY_STATUS_serial + 1) % 2 ^ 32

/-- Slot `i` of the sweep is read (R536, R537). -/
def sweepSlot (s : State) (i : Nat) : State :=
  let first := decide (i < 1024 ∧ i % 4 = 0) || decide (1024 ≤ i ∧ (i - 1024) % 8 = 0)
  let (ws, s) := if first then sweepGroup s i else (s.tly.group, s)
  let bank := sweepSerial s % 2
  let s := bankSet s bank (12 + i) (ws.getD 0 0)
  let s := { s with tly := { s.tly with group := ws.drop 1, next := i + 1 } }
  if i = 1535 then bankSet s bank 4 (w40 (s.get PWR_STATE_on)) else s

/-- The slots that have fallen due are read (R536): slot i at t_start + 20 ns × i. -/
def sweepRead : Nat → State → State
  | 0, s => s
  | n + 1, s =>
    if s.on TLY_STATUS_busy ∧ s.tly.next < 1536 ∧ s.elapsed (t80Add s.tly.start (nsU (20 * s.tly.next) : Nat)) then
      sweepRead n (sweepSlot s s.tly.next)
    else s

/-- A sweep starts, or is skipped (R539). -/
def sweepBegin (s : State) : State :=
  if s.on TLY_STATUS_busy ∨ s.on TLY_CTL_hold then s.ev TLY_EVENTS_skipped
  else
    let n := sweepSerial s
    let rec_ : List Word := [w40 n, T80hi s.now, T80lo s.now, w40 (s.get PWR_STATE_on)] ++ List.replicate 1544 0
    let t : TlySt := { s.tly with start := s.steady, next := 0, group := [] }
    let t : TlySt := if n % 2 = 0 then { t with bank0 := rec_ } else { t with bank1 := rec_ }
    sweepRead 1 ({ s with tly := t }.putB TLY_STATUS_busy true)

/-- The next whole multiple of period_us after now. -/
def nextSweep (s : State) : T80 :=
  let per := max 1 (s.get TLY_PERIOD_period_us) * 1024000
  t80OfUnits ((t80Units s.now / per + 1) * per)

/-- The effect of a TLY_CTL write (R542). -/
def tlyCtlWrite (w : Word) (s : State) : Out :=
  let was := s.on TLY_CTL_en
  let s := plainWrite s TLY_CTL w
  let s := if !was ∧ bitAt w 0 then { s with tly := { s.tly with nextAt := nextSweep s } } else s
  .next (if bitAt w 2 then sweepBegin s else s)

/-- TALLY_START (R539): a write of TLY_CTL with start. -/
def execTallyStart (m : Master) (hold en : Bool) (s : State) : Out :=
  let w := w40 (4 + 2 * b2n hold + b2n en)
  writeReg m TLY_CTL w (tlyCtlWrite w) s

/-- TALLY_SWEEP_START (R539): a whole multiple of period_us has come. -/
def execTallySweepStart (s : State) : Out :=
  if s.on TLY_CTL_en ∧ (unitErr s TLY_CTL).isNone ∧ s.reached s.tly.nextAt then
    let n := nextSweep s
    .next (sweepBegin { s with tly := { s.tly with nextAt := n } })
  else .next s

/-- TALLY_SWEEP_DONE (R539, R540): every slot has been read; the record gets its CRC and becomes readable. -/
def execTallySweepDone (s : State) : Out :=
  let s := sweepRead 1536 s
  if s.on TLY_STATUS_busy ∧ 1536 ≤ s.tly.next then
    let n := sweepSerial s
    let ws := if n % 2 = 0 then s.tly.bank0 else s.tly.bank1
    let crc := crc32c ((ws.take 5 ++ ws.drop 12).flatMap bytesOf)
    let s := bankSet s (n % 2) 5 (w40 crc)
    let s := ((s.putB TLY_STATUS_busy false).put TLY_STATUS_serial n).put TLY_STATUS_bank (n % 2)
    .next (s.ev TLY_EVENTS_sweep_done)
  else .next s

/-- The record word that TLY_BUF_IDX selects. -/
def tlyWord (s : State) : Word :=
  (if s.on TLY_BUF_IDX_bank then s.tly.bank1 else s.tly.bank0).getD (s.get TLY_BUF_IDX_word) 0

/-- A read of TLY_BUF_DATA advances the index (R542). -/
def tlyBufRead (s : State) : State := s.inc TLY_BUF_IDX_word

/-- TLY_BUF_READ (R542). -/
def execTlyBufRead (m : Master) (s : State) : Out := readReg m TLY_BUF_DATA tlyBufRead s

/-- A read of TLY_SLOT_DATA (R535, R542): the selected counter live. -/
def tlySlotRead (s : State) : Word × State :=
  let (ws, s) := slotGroup8 s (s.get TLY_SLOT_IDX_position)
  (ws.getD (s.get TLY_SLOT_IDX_entry) 0, s)

/-- The Tally's part of a timebase tick: due slots, and the counters that count ticks and cycles (R532). How many cycles of a
unit's fast clock fall on one tick is not stated beyond its rate: at most two, free (log 1). -/
def tallyTick (s : State) : State :=
  let s := sweepRead 4 (waitSlots s)
  let sels := (s.regs.filter (fun e => decide (e.1 % 256 = 0xF8))).map Prod.fst
  sels.foldl (fun s a =>
    let u := a / 256
    let s := tally s u 0x01
    if s.on (UNIT_STATUS_clk_on u) then
      let (n, s) := s.freeBelow 3
      (List.range n).foldl (fun s _ => tally s u 0x02) s
    else s) s

end Sys2Proof.Machine
end

