-- ==== Sys2Proof/Machine/Cpu.lean ====
section
/-! DEFINITION. The cores as the system sees them: starting and halting, the events of WEV, taking a trap and returning from
one, and the conditions under which an instruction issues (R75, R81 to R86, R105 to R110). -/

namespace Sys2Proof.Machine

/-! ## Control -/

/-- Registers of a core's control block (R110, R356). -/
def coreCtl (k : Nat) : Fld := { addr := coreBlock k, hi := 0, lo := 0 }

/-- The core is not halted, fenced, in reset or without power. -/
def coreAlive (s : State) (k : Nat) : Bool :=
  !(s.core k).halted && !(s.core k).fenced && (unitErr s (coreBlock k)).isNone

/-- Whether a wait is a sleep (R86, R110). -/
def CoreWait.asleep : CoreWait → Bool
  | .wait _ _ => true
  | .wev _ _ _ => true
  | .sched _ => true
  | .schedDone _ _ _ => true
  | _ => false

/-- Whether a wait is WAIT or WEV, which a trap ends (R105). -/
def CoreWait.dozing : CoreWait → Bool
  | .wait _ _ => true
  | .wev _ _ _ => true
  | _ => false

/-- ECk_CTL as it reads (R110). -/
def coreCtlWord (s : State) (k : Nat) : Word :=
  let c := s.core k
  w40 (b2n c.waiting.asleep * 16 + b2n c.keeper * 8 + b2n c.inTrap * 4 + b2n c.halted * 2 + s.get (coreCtl k))

/-- A core halts; run reads 0 with it, and no answer of an offer that it has made reaches it any more (R88, R110). -/
def haltCore (s : State) (k : Nat) : State :=
  let c := { s.core k with halted := true, waiting := .none, loads := [], stErr := [], stBack := [], held := .none }
  ((coreMuted s k).setCore k c).put (coreCtl k) 0

/-- A halted core starts at ECk_ENTRY (R110, R115), outside any trap. -/
def startCore (s : State) (k : Nat) (keeper : Bool) : State :=
  let c := s.core k
  let s := s.setCore k { c with pc := (s.rd (coreBlock k + 1)).toNat % 2 ^ 32, halted := false, keeper := keeper,
                                inTrap := false, waiting := .none, loads := [], stErr := [], stBack := [],
                                held := .none }
  s.put (coreCtl k) 1

/-! ## Events -/

/-- The interrupt line of a unit: an event of its _EVENTS register that its _EVENTS_EN selects; STB's half-range counters and
FIX's unmasked reports too (R427, R513, R514). -/
def unitLine (s : State) (u : Nat) : Bool :=
  if u = 0x0F0 then
    (List.range 7).any (fun j =>
      decide (s.rd (FIX_STATUS j) &&& ~~~(s.rd (FIX_MASK j)) &&& (if j = 0 then 0xFFFFFFF000#40 else 0xFFFFFFFFFF#40) ≠ 0))
  else
    let own := match eventsOff u with
      | none => false
      | some o => if u = 0x006 then false else decide (Nat.land (s.rd (u * 256 + o)).toNat (s.rd (u * 256 + o + 1)).toNat ≠ 0)
    own || (decide (u = 0x0D9) && decide (Nat.land (s.rd STB_HALF).toNat (s.rd STB_HALF_EN).toNat ≠ 0))

/-- The level event [j] of a core that its EVSEL registers select (R85, R110). -/
def fifoEvent (s : State) (k j : Nat) : Bool :=
  let x := bitsOf (s.rd (coreBlock k + 6 + j / 4)).toNat (10 * (j % 4) + 9) (10 * (j % 4))
  x.testBit 9 && (if x.testBit 8 then fifoNotFull s (x % 256) else fifoNotEmpty (s.fifo (x % 256)))

/-- The unit line [16 + j] of a core (R85, R110, R356). -/
def lineEvent (s : State) (k j : Nat) : Bool :=
  let x := bitsOf (s.rd (coreBlock k + 0x0A + j / 4)).toNat (10 * (j % 4) + 9) (10 * (j % 4))
  let g := (k - 16) / 8
  x.testBit 9 &&
    (if k < 16 then unitLine s (x % 256)
     else if j ≤ 5 then fifoNotEmpty (s.fifo (ringFifo s g j))
     else if j = 6 then decide (s.get (LPp_STATUS_tsq_level g) ≠ 0)
     else fifoNotEmpty (s.fifo (s.get (BRGg_AUX_FIFO_txdone g))))

/-- The event bits now pending at a core (R85). -/
def corePending (s : State) (k : Nat) : Nat :=
  let bits := fun (base n : Nat) (p : Nat → Bool) => (List.range n).foldl (fun acc j => acc + (if p j then 2 ^ (base + j) else 0)) 0
  Nat.lor (s.core k).evts (bits 0 16 (fifoEvent s k) + bits 16 8 (lineEvent s k))

/-- What a WEV does now (R84): the core with its result when a selected event is pending, or when its deadline has passed;
none when it sleeps on. -/
def wevTry (s : State) (k : Nat) (c : Core) (rd : Nat) (mask : Word) (d : Option T80) : Option Core :=
  let p := Nat.land (corePending s k) mask.toNat
  if p ≠ 0 then
    some { c.setG rd (w40 p) with evts := c.evts - Nat.land c.evts p, flags := { c.flags with z := false, l := false } }
  else match d with
    | some t => if s.reached t then some { c.setG rd 0 with flags := { c.flags with z := true, l := true } } else none
    | none => none

/-- A WAIT or WEV that issues again after a trap (R83, R105): against the same instant, with the same operands. -/
def rewait (s : State) (k : Nat) (w : CoreWait) : State :=
  let c := s.core k
  let next := fun (c : Core) => s.setCore k { c with pc := (c.pc + 1) % 2 ^ 32 }
  match w with
  | .wait t _ =>
    if s.reached t then next { c with flags := { c.flags with l := true } } else s.setCore k { c with waiting := .wait t false }
  | .wev rd mask d =>
    (match wevTry s k c rd mask d with | some c => next c | none => s.setCore k { c with waiting := w })
  | _ => s

/-! ## Traps -/

/-- The flags as EC_TINFO holds them (R110). -/
def flagBits (f : Flags) : Nat := b2n f.z + 2 * b2n f.n + 4 * b2n f.c + 8 * b2n f.v + 16 * b2n f.e + 32 * b2n f.l

/-- The flags that such bits hold. -/
def flagsOf (n : Nat) : Flags :=
  { z := n.testBit 0, n := n.testBit 1, c := n.testBit 2, v := n.testBit 3, e := n.testBit 4, l := n.testBit 5 }

/-- The trap words and frame of a Brush engine in its group's House reserved memory (R105, R111; log 60). -/
def trapWords (k : Nat) : Nat := groupBase ((k - 16) / 8) + 0xF000 + 16 * ((k - 16) % 8)

/-- Where the dispatcher saves g1 and g2 (R105, R111): the first two words of an Easel core's trap frame; on a Brush engine the two after
the three trap words (log 60). -/
def trapFrame (k : Nat) : Nat := if k < 16 then 0x110000 + k / 4 * 0x20000 + 0xF000 + 16 * (k % 4) else trapWords k + 3

/-- Trap entry as the hardware does it (R105, R535): PC, flags, privilege, cause and detail are saved, in_trap is set, and
the core enters Keeper; the dispatcher saves g1 and g2. -/
def trapEnter (s : State) (k cause code addr savedPc : Nat) : State :=
  let c := s.core k
  let info := w40 (code % 2 ^ 19 * 2 ^ 15 + b2n c.keeper * 2 ^ 14 + flagBits c.flags * 2 ^ 8 + cause)
  let pc := w40 (savedPc % 2 ^ 32)
  let at_ := w40 (addr % 2 ^ 32)
  let s := ((s.wr (coreBlock k + 3) pc).wr (coreBlock k + 4) info).wr (coreBlock k + 5) at_
  let s := if k < 16 then s else s.stN (trapWords k) [pc, info, at_]
  let s := s.stN (trapFrame k) [c.g 1, c.g 2]
  slotInc (s.setCore k { c with inTrap := true, keeper := true, waiting := .none, held := c.waiting }) k 7

/-- The dispatcher forwards a trap to the image handler (R106); with no handler the core is halted. -/
def trapForward (s : State) (k : Nat) : State :=
  let v := (s.rd (coreBlock k + 2)).toNat
  if v = 0 then mbxNotice (raiseSrc (haltCore s k) (haltSource k) none)
  else
    let c := (s.core k).setG 1 (s.rd (coreBlock k + 4))
    let c := c.setG 2 (s.rd (coreBlock k + 5))
    s.setCore k { c with pc := v, keeper := false }

/-- A trap while in_trap is set (R107): the core halts, the double-trap source is raised, and the host has notice of the halted core
(R124). -/
def trapDouble (s : State) (k : Nat) : State := mbxNotice (raiseSrc (haltCore (slotInc s k 7) k) (doubleTrapSource k) none)

/-- Taking a trap (R105 to R107), forwarded to the image handler. A detail or an address that the spec states for no such
cause is free (log 1, log 61). -/
def takeTrap (s : State) (k cause : Nat) (code addr : Option Nat) (savedPc : Nat) : State :=
  if (s.core k).inTrap then trapDouble s k
  else
    let (code, s) := match code with | some x => (x, s) | none => s.freeBelow (2 ^ 19)
    let (addr, s) := match addr with | some x => (x, s) | none => s.freeBelow (2 ^ 32)
    trapForward (trapEnter s k cause code addr savedPc) k

/-- Return from a trap (R108): g1 and g2 from the trap frame, the flags and the privilege are restored, in_trap clears, and the core goes on at
EC_TPC plus `skip`; a WAIT or WEV that the trap had ended issues again. -/
def trapReturn (s : State) (k skip : Nat) : State :=
  let c := s.core k
  let info := s.rd (coreBlock k + 4)
  let held := c.held
  let c := (c.setG 1 (s.ld (trapFrame k))).setG 2 (s.ld (trapFrame k + 1))
  let s := s.setCore k { c with flags := flagsOf (fieldOf info 13 8), keeper := bitAt info 14, inTrap := false, held := .none,
                                pc := ((s.rd (coreBlock k + 3)).toNat + skip) % 2 ^ 32 }
  if skip = 0 then rewait s k held else s

/-- An instruction boundary (R105, R110): a core whose run is 0 halts, in sleep too; the error response to a posted store
that has reached the core is trapped, in WAIT and WEV too. Both wait until every outstanding load has returned (R75). -/
def coreBoundary (s : State) (k : Nat) : State :=
  let c := s.core k
  let free := decide (c.waiting = .none)
  if c.halted ∨ !c.loads.isEmpty then s
  else if !s.on (coreCtl k) then (if free || c.waiting.asleep then haltCore s k else s)
  else match c.stBack with
    | [] => s
    | (a, kind) :: rest =>
      if free || c.waiting.dozing then
        takeTrap (s.setCore k { c with stBack := rest }) k 6 kind (some a) c.pc
      else s

/-- The effect of a write of ECk_CTL (R110). -/
def coreRunWrite (k : Nat) (w : Word) (s : State) : Out :=
  if bitAt w 0 then .next (if (s.core k).halted then startCore s k false else s.put (coreCtl k) 1)
  else .next (coreBoundary (s.put (coreCtl k) 0) k)

/-- The effect of a write of ECk_SEV (R110). -/
def coreSevWrite (k : Nat) (w : Word) (s : State) : Out := .next (if bitAt w 0 then coreEvent s k 26 else s)

/-! ## Issue -/

/-- Whether a core may fetch from `pc` (R73). -/
def fetchOk (k pc : Nat) : Bool :=
  let base := if k < 16 then 0x100000 + k / 4 * 0x20000 else groupBase ((k - 16) / 8)
  decide (pc < 0x80000) || (decide (base ≤ pc) && decide (pc < base + 0x10000))

/-- Whether an outstanding load writes register `r` (R75). -/
def loadWrites (l : Load) (r : Nat) : Bool := decide (r ≠ 0) && (decide (r = l.rd) || (l.pair && decide (r = l.rd + 1)))

/-- Whether an instruction that uses the registers `rs` stalls behind the outstanding loads (R75): it uses a register that
one has not written yet, sixteen have issued behind the oldest, or it waits for them all. -/
def loadStall (c : Core) (rs : List Nat) (drain : Bool) : Bool :=
  c.loads.any (fun l => rs.any (loadWrites l))
    || (match c.loads with | [] => false | l :: _ => decide (16 ≤ l.after) || drain)

/-- An instruction issues (R75, R86, R105): the core runs and waits for nothing, its PC may be fetched from, and nothing
stalls it. A core that does none of this now leaves everything unchanged (log 62). An error response to a posted store that stands at
this instruction boundary is trapped in its place, once no load is outstanding. -/
def issue (k : CoreId) (rs : List Nat) (drain : Bool) (f : Core → State → Out) (s : State) : Out :=
  let c := s.core k
  if !coreAlive s k ∨ !s.on (coreCtl k) ∨ c.waiting ≠ .none then .next s
  else if !c.stBack.isEmpty then .next (coreBoundary s k)
  else if loadStall c rs (drain || !fetchOk k c.pc) then .next s
  else if !fetchOk k c.pc then .next (takeTrap s k 4 none none c.pc)
  else f c s

/-- An instruction has issued and the core goes on at `pc`: `c` is the core after it. -/
def retireAt (s : State) (k : CoreId) (c : Core) (pc : Nat) : State :=
  slotInc (s.setCore k { c with pc := pc % 2 ^ 32, loads := c.loads.map (fun l => { l with after := l.after + 1 }) }) k 1

/-- The core goes on with the next word. -/
def retire (s : State) (k : CoreId) (c : Core) : State := retireAt s k c (c.pc + 1)

/-- An instruction that writes one register and the flags. -/
def retireReg (s : State) (k : CoreId) (c : Core) (rd : GReg) (r : Word × Flags) : State :=
  retire s k { c.setG rd r.1 with flags := r.2 }

/-- An instruction that waits has issued: the core stands at it until it completes. -/
def retireWait (s : State) (k : CoreId) (c : Core) (w : CoreWait) : State := slotInc (s.setCore k { c with waiting := w }) k 1

/-- A waiting instruction completes: `c` is the core with its results, and the next boundary is reached. -/
def finishWait (s : State) (k : CoreId) (c : Core) : State :=
  coreBoundary (s.setCore k { c with waiting := .none, pc := (c.pc + 1) % 2 ^ 32 }) k

end Sys2Proof.Machine
end

