-- ==== Sys2Proof/Machine/Fix.lean ====
section
/-! DEFINITION. Fault sources raised by detection and by force, event counts, and the JTAG port (R506 to R517, R523, R524). -/

namespace Sys2Proof.Machine

/-- FAULT_DETECTED (R506, R508): a NOTE or DEGRADE source that hardware detects; `unit` is the unit that a unit fault or a bad
unit clock names. -/
def execFaultDetected (n : Fin 224) (unit : BitVec 12) (s : State) : Out :=
  let u := unit.toNat
  let known := (unitDomain u).isSome && (decide (n.val = 25) || decide (unitFaultSource u = n.val))
  if srcClass s n = 3 ∨ srcClass s n = 2 then .next s
  else if 16 ≤ n.val ∧ n.val ≤ 25 then .next (if known then raiseSrc s n (some u) else s)
  else .next (raiseSrc s n none)

/-- FATAL_ENTRY (R509): a FATAL source is detected. -/
def execFatalEntry (n : Fin 12) (s : State) : Out := .next (raiseSrc s n none)

/-- Whether a force write is accepted (R517), from a master that may force. -/
def forceAllowed (s : State) : Bool :=
  decide (s.get LCY_STATE_state ≠ 2) || decide (s.get MBX_STATUS_state = 2) || decide (s.get MBX_STATUS_state = 3)

/-- A force write: ignored from a master that may not force, refused with its event, or performed (R517). -/
def forceWrite (m : Master) (f : State → State) (s : State) : Out :=
  if m.id.val ≠ 20 ∧ !m.keeper then .next s
  else if forceAllowed s then .next (f s)
  else .next (s.ev FIX_EVENTS_force_refused)

/-- A source forced by number (R516): sources 16 to 25 report and do no more. -/
def forceSource (n : Nat) (s : State) : State :=
  if srcClass s n = 3 then s
  else if 16 ≤ n ∧ n ≤ 25 then reportSrc s n
  else raiseSrc s n none

/-- The effect of a FIX_FORCE write. -/
def fixForceWrite (m : Master) (w : Word) (s : State) : Out := forceWrite m (forceSource (fieldOf w 7 0)) s

/-- FIX_FORCE_WRITE (R516, R517). -/
def execFixForceWrite (m : Master) (w : Word) (s : State) : Out := writeReg m FIX_FORCE w (fixForceWrite m w) s

/-- The effect of a FIX_RAISE write (R512). -/
def fixRaiseWrite (w : Word) (s : State) : Out :=
  let n := fieldOf w 7 0
  .next (if 224 ≤ n then raiseSrc s n none else s)

/-- FIX_RAISE_WRITE (R512). -/
def execFixRaiseWrite (m : Master) (w : Word) (s : State) : Out := writeReg m FIX_RAISE w (fixRaiseWrite w) s

/-- The effect of a write of a unit's UNIT_FAULT_FORCE (R516, R528). -/
def unitForceWrite (m : Master) (u : Nat) (w : Word) (s : State) : Out :=
  if bitAt w 0 then forceWrite m (fun s => raiseSrc s (unitFaultSource u) (some u)) s else .next s

/-- UNIT_FAULT_FORCE_WRITE (R516). -/
def execUnitFaultForceWrite (m : Master) (unit : BitVec 12) (w : Word) (s : State) : Out :=
  writeReg m (UNIT_FAULT_FORCE unit.toNat) w (unitForceWrite m unit.toNat w) s

/-- FIX_SRC for the source at FIX_IDX (R527). -/
def fixSrcWord (s : State) : Word :=
  let n := s.get FIX_IDX_source
  w40 (tabGet (fun _ => 0) s.fix.srcUnit n * 2 ^ 10 + srcClass s n)

/-- The event count that a unit's UNIT_EVC_SEL selects (R515, R528). -/
def evcWord (s : State) (u : Nat) : Word :=
  w40 (s.evCount (u * 256 + s.get (UNIT_EVC_SEL_offset u)) (s.get (UNIT_EVC_SEL_bit u)))

/-- A read of UNIT_EVC clears the selected count. -/
def evcRead (u : Nat) (s : State) : State :=
  { s with evc := tabSet (fun _ => 0) s.evc (evKey (u * 256 + s.get (UNIT_EVC_SEL_offset u)) (s.get (UNIT_EVC_SEL_bit u))) 0 }

/-- EVENT_COUNT_READ (R515). -/
def execEventCountRead (m : Master) (unit : BitVec 12) (s : State) : Out :=
  readReg m (UNIT_EVC unit.toNat) (evcRead unit.toNat) s

/-! ## JTAG -/

/-- The JTAG instructions of R523: 0 BYPASS, 1 IDCODE, 2 SAMPLE/PRELOAD, 3 EXTEST, 4 CLAMP, 5 HIGHZ, 6 EXTEST_PULSE,
7 EXTEST_TRAIN. The last five drive pins (log 48). -/
def jtagOpen (s : State) (i : Nat) : Bool :=
  decide (i ≤ 2) || decide (s.get LCY_STATE_state ≠ 2) || s.on LCY_JTAG_ext_en

/-- The outputs follow the boundary-scan cells, whose contents the spec gives no register: their levels are free (log 1). -/
def scanPins (s : State) : State :=
  (List.range 20).foldl (fun s k => let (w, s) := s.free; s.setLevel k (bitAt w 0)) s

/-- JTAG_INSTRUCTION_LOAD (R523, R524): a pin-driving instruction makes a paired active unit give up, stops the executors
until the next reset, and takes the outputs; a closed instruction selects the bypass register. -/
def execJtagInstructionLoad (i : Fin 8) (s : State) : Out :=
  if jtagOpen s i ∧ 3 ≤ i.val then
    let s := stopExecutors (giveUp s)
    let s := { s with lcy := { s.lcy with jtagDrive := true, stopped := true } }
    .next (scanPins (s.ev LCY_EVENTS_jtag_drive))
  else .next { s with lcy := { s.lcy with jtagDrive := false } }

end Sys2Proof.Machine
end

