-- ==== Sys2Proof/Machine/Stb.lean ====
section
/-! DEFINITION. The Studio bus (R424 to R431). -/

namespace Sys2Proof.Machine

/-- Studio bus counter `i` adds `n` (R429): bit 31 going from 0 to 1 sets the counter's bit of STB_HALF. -/
def stbCount (s : State) (i n : Nat) : State :=
  let a := 0x0D910 + i
  let old := (s.rd a).toNat
  let new := (old + n) % 2 ^ 32
  let s := s.wr a (w40 new)
  if old < 2 ^ 31 ∧ 2 ^ 31 ≤ new then s.event STB_HALF i else s

/-- The octets of a frame from the destination to the FCS for a payload of `n` (R424). -/
def stbOctets (n : Nat) : Nat := max 64 (n + 9)

/-- The transmit FIFO of a queue (R426). -/
def stbQueue (s : State) (q : Nat) : Nat :=
  ([s.get STB_FIFO_tx0, s.get STB_FIFO_tx1, s.get STB_FIFO_tx2, s.get STB_FIFO_tx3] : List Nat).getD q 0

/-- The first queue with a packet (R426), the packet and the state with it taken. -/
def stbNext (s : State) : Option (Nat × List Word × State) :=
  [0, 1, 2, 3].findSome? (fun q => (takePacket s (stbQueue s q)).map (fun r => (q, r.1, r.2)))

/-- STB_STATUS follows the transmitter. -/
def stbRefresh (s : State) : State :=
  (s.putB STB_STATUS_tx_busy s.stb.cur.isSome).putB STB_STATUS_backoff s.stb.backoff.isSome

/-- The bus is held for `ns` more nanoseconds and the interframe gap of 96 bit times (R424). -/
def stbHold (s : State) (ns : Nat) : State :=
  { s with stb := { s.stb with gapTo := t80Add s.steady (nsU (ns + 960) : Nat) } }

/-- One attempt at the frame held (R425): `outcome` 0 it is sent, 1 a collision in the first slot time, 2 a later one. -/
def stbAttempt (s : State) (ws : List Word) (q outcome : Nat) : State :=
  let n := s.stb.attempts + 1
  if outcome = 0 then
    let oct := stbOctets (fieldOf (ws.getD 0 0) 10 0)
    let s := stbHold { s with stb := { s.stb with cur := none, attempts := 0, backoff := none, last := ws } } ((8 + oct) * 80)
    stbRefresh (stbCount (stbCount s 0 1) 2 oct)
  else
    let s := stbHold (stbCount s 19 1) 320
    let s := if outcome = 2 then stbCount s 20 1 else s
    if 16 ≤ n then
      let s := { s with stb := { s.stb with cur := none, attempts := 0, backoff := none } }
      stbRefresh ((stbCount s 21 1).ev STB_EVENTS_excess)
    else
      let (r, s) := s.freeBelow (2 ^ min n 10)
      stbRefresh { s with stb := { s.stb with cur := some (q, ws), attempts := n, backoff := some (t80Add s.steady (nsU (r * 5120) : Nat)) } }

/-- Whether the transmitter may send. -/
def stbMay (s : State) : Bool := s.on STB_CFG_en && s.on STB_CFG_tx_en && (unitErr s STB_CFG).isNone

/-- STB_FRAME_TRANSMIT (R425, R426): the free transmitter takes the highest-priority frame; `deferred` whether it had to wait
for another's frame first. It sends only after the gap. -/
def execStbFrameTransmit (outcome : Fin 3) (deferred : Bool) (s : State) : Out :=
  if !stbMay s ∨ s.stb.cur.isSome ∨ !s.elapsed s.stb.gapTo then .next s
  else match stbNext s with
    | none => .next s
    | some (q, ws, s) =>
      let w0 := ws.getD 0 0
      if 128 ≤ fieldOf w0 23 16 ∨ 1500 < fieldOf w0 10 0 ∨ fieldOf w0 31 24 ≠ 0 ∨ fieldOf w0 15 11 ≠ 0 then .fault .unpredictable
      else .next (stbAttempt (if deferred then stbCount s 22 1 else s) ws q outcome)

/-- STB_BACKOFF_EXPIRY (R425). -/
def execStbBackoffExpiry (outcome : Fin 3) (deferred : Bool) (s : State) : Out :=
  match s.stb.cur, s.stb.backoff with
  | some (q, ws), some t =>
    if !stbMay s ∨ !s.elapsed t ∨ !s.elapsed s.stb.gapTo then .next s
    else .next (stbAttempt (if deferred then stbCount s 22 1 else s) ws q outcome)
  | _, _ => .next s

/-- The counter of a received length (R431). -/
def stbLength (n : Nat) : Nat :=
  if n ≤ 64 then 4 else if n ≤ 127 then 5 else if n ≤ 255 then 6 else if n ≤ 511 then 7 else if n ≤ 1023 then 8 else 9

/-- The House Studio bus function stamps a delivered frame by reading the local time in its handler, within 1 us of its last bit (R427): the
delay is free. -/
def stbStamp (s : State) (src : Nat) : State :=
  if !houseRuns s 9 then s
  else
    let (d, s) := s.freeBelow (nsU 1000 + 1)
    { s with stb := { s.stb with stamps := (src, t80Add s.now (d : Int)) :: s.stb.stamps.filter (fun e => decide (e.1 ≠ src)) } }

/-- STB_FRAME_RECEIVE (R426 to R428): a frame on the bus, its header and payload, what is wrong with it (0 nothing, 1 FCS,
2 a runt, 3 too long, 4 a Manchester code error), and whether this device sent it. -/
def execStbFrameReceive (dst src kind : BitVec 8) (payload : List (BitVec 8)) (err : Fin 5) (own : Bool) (s : State) : Out :=
  if !s.on STB_CFG_en ∨ (unitErr s STB_CFG).isSome ∨ own then .next s
  else if err.val ≠ 0 then .next (stbCount (stbHold s 0) (13 + err.val) 1)
  else if 1500 < payload.length then .next (stbCount (stbHold s 0) 16 1)
  else
    let bs := payload.map BitVec.toNat
    let n := stbOctets bs.length
    let s := stbHold s 0
    let node := s.get STB_CFG_node
    let s := stbCount (stbCount (stbCount s 1 1) 3 n) (stbLength n) 1
    let s := if dst = 0xFF#8 then stbCount s 10 1 else s
    let s := stbCount s (if kind = 0#8 then 11 else if kind = 1#8 then 12 else 13) 1
    let s := if src.toNat = node then
        stbRefresh (stbCount ((s.putB STB_CFG_tx_en false).ev STB_EVENTS_dup_node) 23 1) else s
    if dst ≠ 0xFF#8 ∧ dst.toNat ≠ node then .next s
    else
      let fifo := if kind = 0#8 then s.get STB_RX_FIFO_rx_atel
        else if kind = 1#8 then s.get STB_RX_FIFO_rx_twin else s.get STB_RX_FIFO_rx_other
      let w0 := w40 (dst.toNat * 2 ^ 32 + src.toNat * 2 ^ 24 + kind.toNat * 2 ^ 16 + bs.length)
      match pushPacket s fifo (w0 :: frameWords bs) with
      | some s => .next ((stbStamp s src.toNat).ev STB_EVENTS_rx_frame)
      | none => .next ((stbCount s 18 1).ev STB_EVENTS_rx_ovf)

/-- The effect of an STB_CFG write (R431): node keeps its value while en is 1. -/
def stbCfgWrite (w : Word) (s : State) : Out :=
  .next (plainWrite s STB_CFG (if s.on STB_CFG_en then putField w 6 2 (s.get STB_CFG_node) else w))

end Sys2Proof.Machine
end

