-- ==== Sys2Proof/Machine/Power.lean ====
section
/-! DEFINITION. The local reset by software, power domains, unit clocks, the clock monitors, and the device resets with
what each of them reaches (R22, R457 to R478). -/

namespace Sys2Proof.Machine

/-! ## Leaving reset -/

/-- A unit leaves local reset, unless its wrapper fences it or its clock is not good (R31, R508); its copy of the counter is loaded
(R32). -/
def releaseUnit (s : State) (u : Nat) : State :=
  if s.on (UNIT_STATUS_fenced u) ∨ s.rst.clockBad.contains u then s
  else { s with tb := { s.tb with copies := tabDel s.tb.copies u } }.putB (UNIT_STATUS_in_reset u) false

/-- A mirrored item waiting on the twin (R442), none where none came. -/
def mirrored (s : State) (a : Nat) : Option Word := (s.tw.mirror.find? (fun e => decide (e.1 = a))).map Prod.snd

/-- The vault when KEY comes up (R382, R470, R446): it reads the tamper latch, with which it starts with empty roots; a
standby takes the NTS epoch and period and the handle epochs that its twin mirrored while KEY slept. -/
def keyRelease (s : State) : State :=
  let latched := s.on TMP_STATUS_latched
  let k := s.kv.reload
  let k := if latched then { k with pair := none, opRoot := none, defs := [], slots := [] } else k
  let epochOf := fun (h e : Nat) => match mirrored s (0x10000 + h) with | some w => fieldOf w 31 0 | none => e
  let k : KvSt := { k with
    defs := k.defs.map (fun d => (d.1, { d.2 with epoch := epochOf d.1 d.2.epoch })),
    pairEpoch := epochOf 2 k.pairEpoch, opEpoch := epochOf 3 k.opEpoch }
  let s := { s with kv := k }
  let s := match mirrored s KV_NTS_EPOCH with | some w => s.wr KV_NTS_EPOCH w | none => s
  let s := match mirrored s KV_NTS_PERIOD with | some w => s.wr KV_NTS_PERIOD w | none => s
  let s := s.putB KV_STATUS_tampered latched
  let s := s.putB KV_STATUS_drbg_ok true
  let s := kvRefresh (s.putB KV_STATUS_ready (!latched && s.on KV_CTL_en))
  if latched then mbxQueue s 1 else s

/-- A unit leaves reset (R31); the vault starts with it (R382). -/
def unitUp (s : State) (u : Nat) : State :=
  let t := releaseUnit s u
  if u = 0x0C0 ∧ s.on (UNIT_STATUS_in_reset u) ∧ !t.on (UNIT_STATUS_in_reset u) then keyRelease t else t

/-- The units of a domain are released (R31). -/
def releaseDomain (s : State) (d : Nat) : State := (domainUnits d).foldl unitUp s

/-- A bit of a mask register set or cleared. -/
def setMask (m d : Nat) (b : Bool) : Nat := if b then Nat.lor m (2 ^ d) else m - Nat.land m (2 ^ d)

/-- PWR_STATE.on of a domain. -/
def setDomainOn (s : State) (d : Nat) (b : Bool) : State := s.put PWR_STATE_on (setMask (s.get PWR_STATE_on) d b)

/-- PWR_STATE.busy of a domain. -/
def setDomainBusy (s : State) (d : Nat) (b : Bool) : State := s.put PWR_STATE_busy (setMask (s.get PWR_STATE_busy) d b)

/-! ## Local reset (R467) -/

/-- Whether RST_LOCAL is refused for one unit (R467, R508). -/
def localRefused (s : State) (m : Master) (u : Nat) : Bool :=
  (match unitRegion u with | 0 => true | _ => false)
    || decide (u = 0x064) || decide (u = 0x0E0) || decide (u = 0x0E1) || decide (u = 0x0E2)
    || (!m.keeper && keeperUnit u)
    || (s.on (UNIT_STATUS_fenced u) && (tabGet (fun _ => []) s.fix.fenceBy u).any (fun n => srcStatus s n))

/-- The outcome of a local reset request in RST_LOCAL_ST. -/
def localResult (s : State) (u result : Nat) (busy : Bool) : State :=
  ((s.put RST_LOCAL_ST_unit u).put RST_LOCAL_ST_result result).putB RST_LOCAL_ST_busy busy

/-- One unit enters its local reset; the fence on it, whose sources are all clear, ends (R508). Resetting TW ends
pairing. -/
def localEnter (s : State) (u : Nat) : State :=
  let s := if u = 0x0DA then leaveSync s else s
  let s := unitLocalReset s u
  let s := (s.putB (UNIT_STATUS_fenced u) false).putB (UNIT_STATUS_in_reset u) true
  let s := { s with fix := { s.fix with fenceBy := tabSet (fun _ => []) s.fix.fenceBy u [] } }
  { s with rst := { s.rst with localUnits := (u, s.steady) :: s.rst.localUnits } }

/-- The effect of a write to RST_LOCAL (R467). -/
def rstLocalWrite (m : Master) (w : Word) (s : State) : Out :=
  let u := fieldOf w 11 0
  let us := if bitAt w 12 then clusterUnits u else [u]
  match unitDomain u with
  | none => .next (localResult s u 3 false)
  | some d =>
    if us.any (localRefused s m) then .next (localResult s u 1 (s.on RST_LOCAL_ST_busy))
    else if !domainOn s d then .next (localResult s u 2 (s.on RST_LOCAL_ST_busy))
    else .next (localResult (us.foldl localEnter s) u 0 true)

/-- LOCAL_RESET (R467): a write of RST_LOCAL. -/
def execLocalReset (m : Master) (unit : BitVec 12) (cluster : Bool) (s : State) : Out :=
  let w := w40 (b2n cluster * 4096 + unit.toNat)
  writeReg m RST_LOCAL w (rstLocalWrite m w) s

/-- LOCAL_RESET_RELEASE (R467): the reset of each unit held for 100 ns is released, its clock being good. -/
def execLocalResetRelease (s : State) : Out :=
  let due := fun (e : Nat × T80) => s.elapsed (t80Add e.2 (nsU 100 : Nat))
  let left := s.rst.localUnits.filter (fun e => !due e)
  let t := ((s.rst.localUnits.filter due).map Prod.fst).foldl unitUp s
  .next ({ t with rst := { t.rst with localUnits := left } }.putB RST_LOCAL_ST_busy (!left.isEmpty))

/-! ## Power domains (R468 to R470) -/

/-- The domains that a domain needs (R468). -/
def domainNeeds (d : Nat) : List Nat :=
  if d = 3 then [2] else if d = 4 then [5] else if d = 6 then [5, 11, 9] else if d = 7 then [6]
  else if d = 8 then [5] else if d = 9 then [2] else if d = 10 then [2] else []

/-- The domains that software may switch. -/
def switched : List Nat := [3, 4, 6, 7, 8, 9, 10]

/-- The mask of the domains always requested (R476). -/
abbrev fixedDomains : Nat := 0xC27 - 0x400

/-- The request with every switched domain that a newly requested one needs (R469). -/
def closeRequest (old w : Nat) : Nat :=
  let fresh := fun (d : Nat) => w.testBit d && !old.testBit d
  let add := if fresh 7 ∨ fresh 6 then setMask (setMask 0 9 true) 6 true else 0
  Nat.lor w (if fresh 7 then add else if fresh 6 then setMask 0 9 true else 0)

/-- A PWR_REQ request (R469): nothing where a change must be refused; else the new request. The need of a domain that the
same write turns off no longer counts, but PKA stays while PKB is on (R19). -/
def powerRequest (s : State) (w : Nat) : Option State :=
  let old := s.get PWR_REQ_on
  let new := Nat.lor (closeRequest old (Nat.land w 0xFFF)) fixedDomains
  let off := fun (d : Nat) => old.testBit d && !new.testBit d
  let broken := switched.any (fun d => new.testBit d && (domainNeeds d).any off)
  let pkaFirst := off 6 && (old.testBit 7 || (s.get PWR_STATE_on).testBit 7)
  if broken || pkaFirst || (off 10 && s.on TW_CFG_en) then none
  else
    let s := s.put PWR_REQ_on new
    some (switched.foldl (fun s d =>
      if new.testBit d ≠ (s.get PWR_STATE_on).testBit d then setDomainBusy s d true else setDomainBusy s d false) s)

/-- The effect of a write to PWR_REQ. -/
def pwrReqWrite (w : Word) (s : State) : Out :=
  match powerRequest s w.toNat with
  | none => .next (s.ev PWR_EVENTS_refused)
  | some s => .next s

/-- DOMAIN_REQUEST (R469): a write of PWR_REQ. -/
def execDomainRequest (m : Master) (w : Word) (s : State) : Out := writeReg m PWR_REQ w (pwrReqWrite w) s

/-- House requests domains, those it has already included (R446, R451, R462). -/
def houseRequest (s : State) (mask : Nat) : State :=
  match powerRequest s (Nat.lor (s.get PWR_REQ_on) mask) with
  | none => s
  | some s => s

/-- A domain goes off (R469, R470): its units lose everything, the vault's roots and update state staying in BK (R381). A
source still set keeps the fence of a unit it named (R508). -/
def domainOff (s : State) (d : Nat) : State :=
  let us := domainUnits d
  let s := if d = 10 then leaveSync s else s
  let keep := us.filter (fun u => s.on (UNIT_STATUS_fenced u)
    && (tabGet (fun _ => []) s.fix.fenceBy u).any (fun n => srcStatus s n))
  let s := us.foldl (fun s u => unitInner (endTransfers s u 3) u) s
  let s := regsBack s (if d = 8 then 1 else 2) (fun a => decide (unitDomain (a / 256) = some d))
  let s := keep.foldl (fun s u => s.putB (UNIT_STATUS_fenced u) true) s
  let s := (us.filter (fun u => !keep.contains u)).foldl (fun s u =>
    { s with fix := { s.fix with fenceBy := tabSet (fun _ => []) s.fix.fenceBy u [] } }) s
  if d = 3 then
    let s := (List.range 8).foldl (fun s n => s.setRefin n RefIn.reset) s
    let s := (List.range 8).foldl (fun s n => s.putB (REFINn_STATUS_active n) false) s
    (List.range 9).foldl (fun s n => s.setSlot n { s.slot n with lastAt := none, pend := [] }) s
  else s

/-- SET_DOMAIN waits until PWR_STATE shows the change (R123, R469). -/
def setDomainDone (s : State) : State :=
  if s.on MBX_STATUS_busy ∧ mbxCode s = 0x0C ∧ s.get PWR_STATE_busy = 0 ∧ s.mbx.started then
    mbxFinish s 0 []
  else s

/-- DOMAIN_CHANGE_DONE (R469): the domain's change completes, on power-up only once every domain it needs is on, on power-down only once
no domain that needs it is (R19). -/
def execDomainChangeDone (d : Fin 12) (s : State) : Out :=
  if !(s.get PWR_STATE_busy).testBit d then .next s
  else if (s.get PWR_REQ_on).testBit d then
    if (domainNeeds d).all (fun x => (s.get PWR_STATE_on).testBit x) then
      let s := setDomainBusy (setDomainOn s d true) d false
      let s := if 7 ≤ s.rst.step then releaseDomain s d else s
      .next (setDomainDone (s.ev PWR_EVENTS_done))
    else .next s
  else if switched.any (fun x => (domainNeeds x).contains d && (s.get PWR_STATE_on).testBit x) then .next s
  else
    let s := domainOff s d
    let s := setDomainBusy (setDomainOn s d false) d false
    .next (setDomainDone (s.ev PWR_EVENTS_done))

/-! ## Unit clocks and the clock monitors (R31, R471 to R473, R478) -/

/-- CLOCK_GOOD (R31): a demand-started clock is good; a unit that its clock held in local reset is released. -/
def execClockGood (unit : BitVec 12) (s : State) : Out :=
  let u := unit.toNat
  match unitDomain u with
  | none => .next s
  | some d =>
    if !domainOn s d then .next s
    else
      let s := clockUse (s.putB (UNIT_STATUS_clk_on u) true) u
      let good : State := { s with rst := { s.rst with clockBad := s.rst.clockBad.filter (fun x => decide (x ≠ u)) } }
      .next (if s.rst.clockBad.contains u then (if s.rst.localUnits.any (fun e => decide (e.1 = u)) then good else unitUp good u) else s)

/-- Whether the clock branch of the cluster that unit `u` belongs to runs (R23, R473): it stops when every unit of the cluster has. -/
def clusterClock (s : State) (u : Nat) : Bool := (clusterUnits u).any (fun v => s.on (UNIT_STATUS_clk_on v))

/-- CLOCK_IDLE_STOP (R473): a unit has had no access for PWR_IDLE.idle_ns, and no work. -/
def execClockIdleStop (unit : BitVec 12) (s : State) : Out :=
  let u := unit.toNat
  match unitDomain u with
  | none => .next s
  | some _ =>
    if s.passed (tabGet (fun _ => ⟨0, 0⟩) s.clkAt u) (s.get PWR_IDLE_idle_ns) then .next (s.putB (UNIT_STATUS_clk_on u) false)
    else .next s

/-- A unit's clock goes bad (R31): the unit goes into local reset and the DEGRADE source 25 names it. -/
def clockBad (s : State) (u : Nat) : State :=
  let s := (s.ev CKG_EVENTS_unit_clk_bad).put CKG_CLK_BAD_UNIT_unit u
  let s := if u = 0x0DA then leaveSync s else s
  let s := unitLocalReset s u
  let s := (s.putB (UNIT_STATUS_in_reset u) true).putB (UNIT_STATUS_clk_on u) false
  raiseSrc { s with rst := { s.rst with clockBad := u :: s.rst.clockBad } } 25 (some u)

/-- UNIT_CLOCK_BAD (R31). -/
def execUnitClockBad (unit : BitVec 12) (s : State) : Out :=
  match unitDomain unit.toNat with
  | none => .next s
  | some d => if domainOn s d then .next (clockBad s unit.toNat) else .next s

/-- OSC_LOST (R472): the timebase PLL freezes and the oscillator-lost fault is raised on the same tick. -/
def execOscLost (s : State) : Out :=
  if s.on CKG_STATUS_tb_frozen then .next s
  else
    let s := (s.ev CKG_EVENTS_osc_lost).putB CKG_STATUS_osc_ok false
    let s := (s.putB CKG_STATUS_tb_lock false).putB CKG_STATUS_tb_frozen true
    .next (raiseSrc s 5 none)

/-- PLL_UNLOCK (R478): the fabric PLL (0) or the DRAM PLL (1) loses lock. Its units go into local reset under R31: those of
the powered Canvas domains that the fabric clock drives, or the Memory region, whose loss is FATAL (R27). -/
def execPllUnlock (which : Fin 2) (s : State) : Out :=
  let s := s.ev CKG_EVENTS_pll_unlock
  if which = 0 then
    let us := allUnits.filter (fun u => match unitDomain u with
      | none => false
      | some d => decide (4 ≤ d) && decide (d ≤ 10) && domainOn s d && !(decide (0x064 ≤ u) && decide (u ≤ 0x073)))
    .next (us.foldl clockBad (s.putB CKG_STATUS_fab_lock false))
  else
    let s := s.putB CKG_STATUS_dram_lock false
    let s := (regionUnits 8).foldl (fun s u => s.putB (UNIT_STATUS_in_reset u) true) s
    .next (raiseSrc s 11 none)

/-- ATOM_IN_LOST (R478): the CKG monitor finds ATOM_IN absent or outside its limits. -/
def execAtomInLost (s : State) : Out :=
  if s.on CKG_STATUS_atom_ok then .next ((s.putB CKG_STATUS_atom_ok false).ev CKG_EVENTS_atom_lost) else .next s

/-! ## Device resets (R457 to R461) -/

/-- RST_COUNT and RST_CAUSE as a reset is taken (R475). -/
def countReset (s : State) (cause : Nat) (osc gaveUp : Bool) : State :=
  let restarts := s.get RST_CAUSE_prm_restarts
  let restarts := if s.on PRM_STATUS_busy then min 255 (restarts + 1) else if s.rst.step < 8 then restarts else 0
  let s := s.incSat RST_COUNT_count
  s.wr RST_CAUSE (w40 (restarts * 2 ^ 24 + b2n s.fix.fatal * 2 ^ 18 + b2n gaveUp * 2 ^ 17 + b2n osc * 2 ^ 15 + cause))

/-- Units whose every register a warm reset keeps (R460): PWR, TMP, CKG and MEM. -/
def warmKept (u : Nat) : Bool := decide (u = 0x001) || decide (u = 0x003) || decide (u = 0x005) || decide (u = 0x0E0)

/-- A FIFO after a warm reset (R502): emptied, its configuration kept. -/
def fifoEmptied (q : Fifo) : Fifo := { Fifo.reset with base := q.base, depthLog := q.depthLog, packet := q.packet, en := q.en }

/-- A warm reset reaches the device (R460, R195, R218): give-up of a paired active unit first, then every unit but the kept
ones; the journal, the counter and its fields, DRAM and BK stay. -/
def warmReset (s0 : State) : State :=
  let active := twActive s0
  let s := countReset s0 2 false active
  let s := stopExecutors s
  let unresolved := s0.skb.unresolved ++ unackedSeqs s
  let s := s.skb.offers.foldl resetWrite s
  let s : State := { s with skb := { s.skb with offers := [] } }
  let s := giveUp s
  let bound := s.get GLZ_B_b
  let inHold := decide (s.get PAL_STATE_state = 3) || decide (s.get PAL_STATE_state = 4)
  let und := s.und
  let keepCommon := fun (a : Nat) => decide (a / 256 = 0x004) && decide (0xF0 ≤ a % 256)
  let s := regsBack s 1 (fun a => !warmKept (a / 256) && !keepCommon a)
  let s := { s with
    evc := tabFilter (fun k _ => warmKept (k / 64 / 256)) s.evc,
    fifoWait := [],
    fifos := s.fifos.foldl (fun t e => tabSet (fun _ => Fifo.reset) t e.1 (fifoEmptied e.2)) [],
    cores := [], mbx := MbxSt.reset, house := HouseSt.reset, timed := [],
    skb := { SkbSt.reset with journal := s.skb.journal, cold := false, unresolved := unresolved },
    pal := { PalSt.reset with ticks := s.pal.ticks },
    und := { UndSt.reset with lHist := und.lHist, l := und.l, ran := und.ran, locked := und.locked, secs := und.secs,
                                tInt := und.tInt, tBad := und.tBad, intAt := und.intAt, hours := und.hours, holdSteps := und.holdSteps },
    glz := GlzSt.reset, var := (List.range 4).foldl (fun t n => tabSet (fun _ => VarSt.reset) t n { VarSt.reset with order := (s.varSt n).order }) [], outs := [], pins := [], tdc := [], gns := GnsSt.reset, lp := [], stz := { s.stz with cache := [] },
    ptp := PtpSt.reset, kv := s.kv.reload, sp := [], atl := AtlSt.reset, stb := StbSt.reset,
    tw := { TwSt.reset with coldReset := false }, tly := TlySt.reset, host := HostPort.reset,
    lcy := { s.lcy with lfsr := 1, accesses := 0, stopped := false },
    fix := { FixSt.reset with srcUnit := [] } }
  let s := (regionUnits 0).foldl releaseUnit s
  let s := (regionUnits 8).foldl (fun s u => s.putB (UNIT_STATUS_in_reset u) (decide (u ≠ 0x0E0))) s
  let r : RstSt := { s.rst with
    cold := false, held := false, step := 2, stopped := false, optRecord := [], pcieTraining := false, pcieUp := false,
    localUnits := [], clockBad := [] }
  let s : State := { s with rst := r }
  if s.on TB_STATUS_time_valid ∧ s.on PAL_STATE_locked_once then
    let s := (s.put PAL_STATE_state 3).put UND_STATUS_mode 4
    if inHold then s
    else
      let s := s.putT UND_HOLD_T_HI UND_HOLD_T_LO (s.getT TB_RESET_T_HI TB_RESET_T_LO)
      let s := s.put UND_B_ENTRY_b bound
      let s : State := { s with und := { s.und with tInt := 0, tBad := 0, hours := [], holdSteps := s.tb.steps } }
      let (l, s) := lHold s
      { s with und := { s.und with l := l, intAt := t80OfUnits (holdStart s).toNat } }
  else s

/-- A cold reset reaches the device (R460): only BK stays, with the life-cycle and anchor fuses; DRAM loses its contents.
The registers in BK and the kept tamper configuration keep their values. -/
def coldReset (s : State) : State :=
  let back := fun (t : Tab Word) (e : Nat × Word) =>
    if e.1 / 256 = 0x003 then tabSet regReset t e.1 e.2
    else tabSet regReset t e.1 (keepPart 2 e.1 e.2)
  { State.reset with
    pending := s.pending, freeCtr := s.freeCtr,
    regs := s.regs.foldl back [],
    lat := tabFilter (fun a _ => decide (a / 256 = 0x003)) s.lat,
    evc := tabFilter (fun k _ => decide (k / 64 / 256 = 0x003)) s.evc,
    gnsKeep := s.gnsKeep, tmpOn := s.tmpOn,
    mem := tabFilter (fun a _ => decide (0x300000 ≤ a) && decide (a < 0x310000)) s.mem,
    stz := { StzSt.reset with keySerial := s.stz.keySerial + 1 },
    kv := s.kv.reload,
    lcy := { s.lcy with lfsr := 1, accesses := 0, stopped := false },
    rst := { RstSt.reset with resetN := s.rst.resetN, pwrGood := s.rst.pwrGood, perstN := s.rst.perstN } }

/-- RESET_PIN_ASSERT (R457, R461, R472): the filter qualifies a low level. It is a warm reset, but a cold one while the
timebase PLL is frozen or while a cold bring-up is under way. -/
def execResetPinAssert (s : State) : Out :=
  if !s.rst.resetN ∨ !s.rst.pwrGood then .next s
  else
    let s := { s with rst := { s.rst with resetN := false } }
    let s := if s.on CKG_STATUS_tb_frozen then coldReset (countReset (giveUp s) 2 true (twActive s))
      else if s.rst.step < 8 ∧ s.rst.cold then coldReset (countReset (giveUp s) 2 false (twActive s))
      else warmReset { s with rst := { s.rst with lowAt := some s.steady } }
    .next (s.putB RST_PIN_level false)

/-- RESET_ESCALATION (R458): RESET_N has been low for 250 ms, of which the filter took up to 10 us (R457); the same reset becomes cold. -/
def execResetEscalation (s : State) : Out :=
  let early : Bool := match s.rst.lowAt with | some t => !s.elapsed (t80Add t (nsU 249990000 : Nat)) | none => false
  if s.rst.resetN ∨ !s.rst.pwrGood ∨ early then .next s
  else
    let s := coldReset s
    let s := s.put RST_CAUSE_cause 3
    let s := s.putB RST_CAUSE_escalated true
    .next (s.putB RST_PIN_level false)

/-- Bring-up begins (R462): a cold one with die-link training, a warm one with priming. -/
def bringUpStart (s : State) : State :=
  if s.rst.cold then s else s.putB PRM_STATUS_busy true

/-- RESET_PIN_RELEASE (R462): RESET_N rises. -/
def execResetPinRelease (s : State) : Out :=
  if s.rst.resetN then .next s
  else
    let s := { s with rst := { s.rst with resetN := true, lowAt := none } }
    let s := (s.putB RST_PIN_level true).putB RST_PIN_pending false
    .next (if s.rst.pwrGood then bringUpStart s else s)

/-- A power-on reset begins (R458, R551), after the give-up of a paired active unit. -/
def powerOnReset (s : State) : State :=
  let s := giveUp s
  { coldReset (countReset s 1 false false) with
    rst := { RstSt.reset with resetN := s.rst.resetN, pwrGood := false, perstN := s.rst.perstN } }

/-- POWER_GOOD_FALL (R458). -/
def execPowerGoodFall (s : State) : Out := if s.rst.pwrGood then .next (powerOnReset s) else .next s

/-- CORE_UNDERVOLTAGE (R551): VDD_CORE below 0.64 V for 1 us. -/
def execCoreUndervoltage (s : State) : Out := if s.rst.pwrGood then .next (powerOnReset s) else .next s

/-- Always-on and Backup are up and out of reset, alone (R21). -/
def alwaysOnUp (s : State) : State := releaseDomain (releaseDomain (setDomainOn (setDomainOn s 0 true) 1 true) 0) 1

/-- DIE_LINK_TRAIN (R21, R22): with AO's logic up, an attempt to train the Ground-Canvas link, then the Canvas-Memory link, ends. The third
failure of one holds every region but Always-on/Backup in reset until the next reset. -/
def execDieLinkTrain (ok : Bool) (s : State) : Out :=
  if s.rst.step ≠ 1 ∨ !s.rst.resetN ∨ !s.rst.pwrGood ∨ s.rst.held ∨ 2 ≤ s.rst.linkAt then .next s
  else
  let s := alwaysOnUp s
  if ok then .next { s with rst := { s.rst with linkAt := s.rst.linkAt + 1, linkTries := 0 } }
  else if s.rst.linkTries < 2 then .next { s with rst := { s.rst with linkTries := s.rst.linkTries + 1 } }
  else
    let s := s.put RST_CAUSE_link_fail (s.rst.linkAt + 1)
    .next (raiseSrc { s with rst := { s.rst with held := true } } 2 none)

/-- SUPPLY_LOW (R447): VDD_CORE falls below 0.68 V, and a paired active unit gives up. -/
def execSupplyLow (s : State) : Out := .next (giveUp (s.ev PWR_EVENTS_supply_low))

end Sys2Proof.Machine
end

