-- ==== Sys2Proof/Machine/Tw.lean ====
section
/-! DEFINITION. The twin unit: the link, pairing, mirroring, giving up and taking control, planned swaps (R432 to R456). -/

namespace Sys2Proof.Machine

/-! ## The link (R434 to R437) -/

/-- Whether the unit is tampered, as the vault or, while KEY is off, the latch shows it. -/
def tamperedNow (s : State) : Bool := s.on TMP_STATUS_latched

/-- The last seq up to which this ledger holds every accepted stroke (R440): those not yet resolved are still to come (R150). -/
def lastHeld (s : State) : Nat :=
  match s.skb.unresolved with
  | [] => s.get SKB_SEQ_seq
  | q :: qs => (qs.foldl (fun a b => if seqBefore b a then b else a) q + 2 ^ 32 - 1) % 2 ^ 32

/-- The words of a HELLO (R435). -/
def helloWords (s : State) : List Word :=
  [w40 Config.uidHi.toNat, w40 Config.uidLo.toNat, w40 (s.get TW_STATUS_role), s.rd TW_GEN, s.rd TW_GEN_UID_HI,
   s.rd TW_GEN_UID_LO, w40 Config.houseVersion.toNat, w40 (s.get LCY_STATE_state), w40 (b2n (tamperedNow s)),
   w40 (lastHeld s)]

/-- pstate enters HELLO (R437, R438): the link key is copied into TW where there is one and the link numbering starts
anew. -/
def helloEnter (s : State) : State :=
  let key := s.tw.keyCopy || (s.kv.pair.isSome && !tamperedNow s)
  let t : TwSt := { s.tw with
    keyCopy := key, helloRx := false, helloTx := true, unacked := [], txSeq := 0, rxSeq := 0, progressAt := s.steady,
    lastRx := s.steady, helloAt := s.steady }
  let s := { s with tw := t }
  twSend (s.put TW_STATUS_pstate 1) 1 (helloWords s)

/-- Whether link number `n` is acknowledged by a cumulative acknowledgement `a`. -/
def ackCovers (a n : Nat) : Bool := decide ((a + 65536 - n % 65536) % 65536 < 32768)

/-- SYNC on the active unit (R440): the standby has acknowledged the refill and every stroke streamed meanwhile. -/
def refillDone (s : State) : State :=
  if s.get TW_STATUS_pstate = 2 ∧ twActive s ∧ !s.tw.unacked.any (fun f => decide (f.kind = 2 ∨ f.kind = 6)) then
    ((s.put TW_STATUS_pstate 3).putB SKB_CTL_mirror_en true).ev TW_EVENTS_paired
  else s

/-- The cumulative acknowledgement of a frame is taken. -/
def takeAck (s : State) (a : Nat) : State :=
  let left := s.tw.unacked.filter (fun f => !ackCovers a f.seq)
  if left.length = s.tw.unacked.length then s
  else refillDone { s with tw := { s.tw with unacked := left, progressAt := s.steady } }

/-- A former active unit whose planned swap has ended well ends it with OK (R454): a verified frame of the new active unit
has come after the check window of R453. -/
def swapSettled (s : State) : State :=
  match s.tw.swapAt with
  | none => s
  | some t =>
    if s.tw.swapping ∧ s.get TW_STATUS_role = 2 ∧ s.reached (t80Add t ((nsU 1100 : Nat) : Int)) then
      let mbx := s.tw.swapMbx
      let s := { s with tw := { s.tw with swapAt := none, swapping := false, swapMbx := false } }
      let s := s.ev TW_EVENTS_swap_done
      if mbx ∧ mbxCode s = 0x0B then mbxFinish s 0 [] else s
    else s

/-- A frame reaches the receiver (R435 to R437): discarded and counted where it does not verify, else it keeps the link
alive and its acknowledgement counts; a frame other than IDLE is taken in sequence only, a HELLO starting the sequence. -/
def twFrame (h : TwHdr) (idle hello : Bool) (s : State) (f : State → Out) : Out :=
  if !s.on TW_CFG_en then .next s
  else if !h.lineOk then .next (s.inc TW_CNT_CRC_count)
  else if !s.tw.keyCopy || !h.tagOk then .next (s.inc TW_CNT_AUTH_count)
  else
    let s := s.inc TW_CNT_RX_count
    let s := { s with tw := { s.tw with lastRx := s.steady, lastDep := t80Of h.hi h.lo, silent := false } }
    let s := swapSettled (takeAck s h.ack.toNat)
    if idle then f s
    else if hello ∨ h.seq.toNat = (s.tw.rxSeq + 1) % 65536 then f { s with tw := { s.tw with rxSeq := h.seq.toNat } }
    else .next s

/-- TWIN_IDLE_RX (R434). -/
def execTwinIdleRx (h : TwHdr) (s : State) : Out := twFrame h true false s (fun s => .next s)

/-- TWIN_LANE_LOCK (R438): a lane gains lock; OFF moves to HELLO while en is set. -/
def execTwinLaneLock (lane : Fin 2) (s : State) : Out :=
  let s := s.put TW_STATUS_lane_ok (setMask (s.get TW_STATUS_lane_ok) lane true)
  .next (if s.on TW_CFG_en ∧ s.get TW_STATUS_pstate = 0 then helloEnter s else s)

/-- TWIN_LANE_LOSS (R434): the other lane alone carries the pair. -/
def execTwinLaneLoss (lane : Fin 2) (s : State) : Out :=
  if (s.get TW_STATUS_lane_ok).testBit lane then
    let s := s.put TW_STATUS_lane_ok (setMask (s.get TW_STATUS_lane_ok) lane false)
    .next (raiseSrc (s.ev TW_EVENTS_lane_fail) 105 none)
  else .next s

/-- TWIN_HELLO_SEND (R438): HELLO is repeated every second while pstate is HELLO. -/
def execTwinHelloSend (s : State) : Out :=
  if s.get TW_STATUS_pstate = 1 ∧ s.elapsed (secsAfter s.tw.helloAt 1) then
    .next (twSend { s with tw := { s.tw with helloTx := true, helloAt := s.steady, unacked := s.tw.unacked.filter (fun f => decide (f.kind ≠ 1)) } }
      1 (helloWords s))
  else .next s

/-- TWIN_SILENT (R456): once for each silence. -/
def execTwinSilent (s : State) : Out :=
  if s.on TW_CFG_en ∧ !s.tw.silent ∧ s.on TW_STATUS_peer_own ∧ s.elapsed (t80Add s.tw.lastRx ((nsU 10000 : Nat) : Int)) then
    .next (State.ev { s with tw := { s.tw with silent := true } } TW_EVENTS_silent)
  else .next s

/-- TWIN_RESEND (R436): no acknowledgement progress for 500 ns. -/
def execTwinResend (s : State) : Out :=
  match s.tw.unacked with
  | [] => .next s
  | f :: _ =>
    let from_ := if t80Lt s.tw.progressAt f.at_ then f.at_ else s.tw.progressAt
    if f.sends < 4 ∧ s.elapsed (t80Add from_ ((nsU 500 : Nat) : Int)) then
      let fs := s.tw.unacked.map (fun f => { f with sends := f.sends + 1, at_ := s.steady })
      let s := s.put TW_CNT_RETX_count (s.get TW_CNT_RETX_count + fs.length)
      .next { s with tw := { s.tw with unacked := fs, progressAt := s.steady } }
    else .next s

/-- TWIN_LINK_TIMEOUT (R436): one of the three conditions ends sync. -/
def execTwinLinkTimeout (s : State) : Out :=
  let sent4 := s.tw.unacked.any (fun f => decide (4 ≤ f.sends) && s.elapsed (t80Add f.at_ ((nsU 500 : Nat) : Int)))
  let quiet := s.elapsed (t80Add s.tw.lastRx ((nsU 2000 : Nat) : Int))
  let noAck := s.skb.offers.any (fun o => o.mirrored && !o.acked && s.elapsed (t80Add o.at_ ((nsU 2000 : Nat) : Int)))
  .next (if sent4 || quiet || noAck then leaveSync s else s)

/-- LAPSED_QUIET_EXPIRY (R438): the link has been quiet and verified for 10 ms. -/
def execLapsedQuietExpiry (s : State) : Out :=
  if s.get TW_STATUS_pstate = 4 ∧ s.elapsed (t80Add s.tw.quietFrom ((nsU 10000000 : Nat) : Int))
      ∧ !s.elapsed (t80Add s.tw.lastRx ((nsU 2000 : Nat) : Int)) then .next (helloEnter s)
  else .next s

/-! ## Mirrored state (R442) -/

/-- The handle-epoch items of the mirror, beside register addresses: handle `h` under 0x10000 + h, word `i` of the digest of
the last attestation record under 0x20000 + i, the servo's L under 0x30000, the event entries activated since UND_B_ENTRY was latched under 0x30001, the T80 of the Palette tick under
0x30002 and 0x30003. -/
abbrev handleItem (h : Nat) : Nat := 0x10000 + h
abbrev digestItem (i : Nat) : Nat := 0x20000 + i
abbrev servoItem : Nat := 0x30000
abbrev eventsItem : Nat := 0x30001
abbrev tickHiItem : Nat := 0x30002
abbrev tickLoItem : Nat := 0x30003

/-- The registers of the time and servo state, sent every millisecond. -/
def mirrorSteady : List Nat :=
  [GLZ_B, TB_UTC_OFS, TB_LEAP, TB_STEP_THRESH, TB_SLEW_RATE, UND_STATUS, UND_B_ENTRY] ++ (List.range 16).map (fun i => UND_M_Y0 + i)
    ++ [GLZ_T_REF, GLZ_T_MEAS, GLZ_T_PATH, GLZ_T_HOLD, GLZ_T_EVT, GLZ_LIN_SERIAL, GLZ_ATT_SERIAL]
    ++ (List.range 8).flatMap (fun k => [GLZ_EVTk_VAL k, GLZ_EVTk_LIFE k])

/-- The registers of the Palette and key state, sent on change. -/
def mirrorChange : List Nat :=
  [PAL_CTL, PAL_FORCE, PAL_HOLD_LIMIT, PAL_STATE, KV_NTS_EPOCH, KV_NTS_PERIOD] ++
    (List.range 24).flatMap (fun n => [PAL_Sn_CFG n, PAL_Sn_ADV n, PAL_Sn_LIMITS n, PAL_Sn_XCHK n, PAL_Sn_BOUND n])

/-- The items sent now: every steady one, and of the others those that changed since they were last sent. -/
def mirrorItems (s : State) : List (Nat × Word) :=
  let other := mirrorChange.map (fun a => (a, s.rd a))
    ++ s.kv.defs.map (fun e => (handleItem e.1, w40 e.2.epoch))
    ++ [(handleItem 2, w40 s.kv.pairEpoch), (handleItem 3, w40 s.kv.opEpoch)]
    ++ s.glz.digest.zipIdx.map (fun (w, i) => (digestItem i, w))
  (servoItem, i40 (s.und.l / 2 ^ 40)) :: (eventsItem, w40 s.glz.evtNew) :: (tickHiItem, T80hi s.now) :: (tickLoItem, T80lo s.now)
    :: mirrorSteady.map (fun a => (a, s.rd a))
    ++ other.filter (fun e => decide (tabGet (fun _ => 0) s.tw.mirrorSent e.1 ≠ e.2))

/-- STATE frames of at most 22 items each, with TW_GEN and its setter in every one (R439, R442). -/
def sendItems (s : State) : Nat → List (Nat × Word) → State
  | 0, _ => s
  | n + 1, items =>
    if items.isEmpty then s
    else
      let ws := s.rd TW_GEN :: s.rd TW_GEN_UID_HI :: s.rd TW_GEN_UID_LO :: (items.take 22).flatMap (fun e => [w40 e.1, e.2])
      sendItems (twSend s 5 ws) n (items.drop 22)

/-- The active unit sends the mirrored state (R442). -/
def sendState (s : State) : State :=
  if twActive s ∧ (s.get TW_STATUS_pstate = 2 ∨ s.get TW_STATUS_pstate = 3) then
    let items := mirrorItems s
    let sent := items.foldl (fun t e => tabSet (fun _ => 0) t e.1 e.2) s.tw.mirrorSent
    sendItems { s with tw := { s.tw with mirrorSent := sent } } 20 items
  else s

/-- The mirrored servo state is applied where one atomic oscillator feeds both units (R442). -/
def applyServo (s : State) (a : Nat) (w : Word) : State :=
  if a = servoItem then { s with und := { s.und with l := sgn w * 2 ^ 40 } }
  else if a = UND_STATUS then (s.put UND_STATUS_learn_h (fieldOf w 35 16)).put UND_STATUS_stage (fieldOf w 5 4)
  else if UND_M_Y0 ≤ a ∧ a < UND_M_Y0 + 16 then s.wr a w
  else s

/-- One item of a STATE frame on the standby. -/
def takeItem (shared : Bool) (s : State) (e : Nat × Word) : State :=
  let s := { s with tw := { s.tw with mirror := tabSet (fun _ => 0) s.tw.mirror e.1 e.2 } }
  let s := if e.1 = GLZ_B then s.wr (PAL_Sn_BOUND 23) e.2 else s
  if shared && s.on TW_CFG_shared_atom then applyServo s e.1 e.2 else s

/-- TWIN_STATE_RX (R439, R442): `shared` says that the sender's shared_atom is set. -/
def execTwinStateRx (h : TwHdr) (gen : Word) (setter : BitVec 64) (shared : Bool) (items : List (Nat × Word)) (s : State) :
    Out :=
  twFrame h false false s (fun s =>
    if !twStandby s then .next s
    else
      let s := s.wr TW_GEN gen
      let s := (s.put TW_GEN_UID_HI_val (setter.toNat / 2 ^ 32)).put TW_GEN_UID_LO_val (setter.toNat % 2 ^ 32)
      let s := s.putB TW_STATUS_peer_own true
      .next (items.foldl (takeItem shared) s))

/-! ## Pairing (R438 to R440) -/

/-- The stale standby discards its ledger, its mirrored state and its key-epoch record (R439). -/
def discardStale (s : State) : State :=
  let ids := s.skb.slots.map (fun e => e.1)
  let s := ids.foldl (fun s i => ledgerStore (s.setLed i Slot.free) i) s
  let s := { s with skb := { s.skb with slots := [], offers := [], trails := [], pushWait := [], unresolved := [] } }
  let s : State := { s with tw := { s.tw with mirror := [] } }
  (s.wr KV_NTS_EPOCH 0).wr KV_NTS_PERIOD (regReset KV_NTS_PERIOD)

/-- The active unit sends its ledger, every slot of a full refill or those above the standby's last seq, and a snapshot of
the mirrored state (R440). -/
def sendRefill (s : State) (full : Bool) (last : Nat) : State :=
  let xs := s.skb.slots.filter (fun e => decide (e.2.state ≠ 0) && (full || seqBefore last e.2.seq))
  let s := xs.foldl (fun s e => twSend s 6 (slotWords e.2)) s
  refillDone (sendState { s with tw := { s.tw with mirrorSent := [] } })

/-- The Palette of a standby follows slot 23, of kind TOD and priority 0; every other slot carries lockout (R443). The twin
supervision function sets them. -/
def standbySlots (s : State) : State :=
  if houseReplaced s 10 then s
  else (List.range 24).foldl (fun s n =>
    let w := s.rd (PAL_Sn_CFG n)
    let w := if n = 23 then putField (putField (putField (putField w 11 4 0) 3 3 0) 2 1 2) 0 0 1 else putField w 3 3 1
    houseDo s (palHeldWrite (PAL_Sn_CFG n) w)) s

/-- Both HELLO frames are verified and agree: the pentimento check and REFILL (R438, R439); a standby accepts no offers and
follows slot 23 (R443). -/
def startRefill (s : State) (p : TwHello) : State :=
  let differ := decide (s.rd TW_GEN ≠ p.gen)
    || decide (s.get TW_GEN_UID_HI_val * 2 ^ 32 + s.get TW_GEN_UID_LO_val ≠ p.setter.toNat)
  let stale := differ || (twStandby s && s.tw.coldReset)
  let s := (s.put TW_STATUS_pstate 2).putB TW_STATUS_stale stale
  let s := if stale then s.ev TW_EVENTS_stale else s
  if twActive s then sendRefill s differ p.lastSeq.toNat
  else
    let s := if stale then discardStale s else s
    standbySlots (s.putB SKB_CTL_accept_en false)

/-- TWIN_HELLO_RX (R438): refused where versions or life-cycle states differ or a unit is tampered; else pairing goes on
once this unit's HELLO has been acknowledged and one of the two is active. -/
def execTwinHelloRx (h : TwHdr) (p : TwHello) (s : State) : Out :=
  twFrame h false true s (fun s =>
    if s.get TW_STATUS_pstate ≠ 1 then .next s
    else
      let s := (s.put TW_PEER_HI_val (p.uid.toNat / 2 ^ 32)).put TW_PEER_LO_val (p.uid.toNat % 2 ^ 32)
      if p.house ≠ Config.houseVersion ∨ p.lc.val ≠ s.get LCY_STATE_state ∨ p.tampered ∨ tamperedNow s then
        .next (s.ev TW_EVENTS_mismatch)
      else
        let s := { s with tw := { s.tw with helloRx := true } }
        let s := if p.claim.val = 1 ∧ !s.on TW_STATUS_own then (twRole s 2).putB TW_STATUS_peer_own true else s
        let both := s.tw.helloTx && !s.tw.unacked.any (fun f => decide (f.kind = 1))
        .next (if both ∧ s.get TW_STATUS_role ≠ 0 then startRefill s p else s))

/-- The slot a mirrored stroke goes to: the one that holds its seq already, else one as an offer would take. -/
def mirrorSlot (s : State) (seq : Nat) : Option Nat :=
  match s.skb.slots.find? (fun e => decide (e.2.seq = seq) && decide (e.2.state ≠ 0)) with
  | some e => some e.1
  | none => slotToTake s

/-- The seq of a stroke received is one this ledger holds, and resolved (R150). -/
def noteSeq (s : State) (seq : Nat) : State :=
  noteAccepted { s with skb := { s.skb with unresolved := s.skb.unresolved.filter (fun q => decide (q ≠ seq)) } } seq

/-- A ledger slot received enters this ledger, its stroke held as a mirrored copy (R440). -/
def refillSlot (s : State) (x : Slot) : State :=
  match mirrorSlot s x.seq with
  | none => s
  | some i =>
    let y : Slot := { x with state := if x.state = 2 then 1 else x.state, chip := true, twin := true }
    noteSeq (ledgerStore (s.setLed i y) i) x.seq

/-- The slots of strokes that the twin's ledger has not shown are freed (R150). -/
def dropUnresolved (s : State) : State :=
  let ids := (s.skb.slots.filter (fun e => decide (e.2.state ≠ 0) && s.skb.unresolved.contains e.2.seq)).map (fun e => e.1)
  let s := ids.foldl (fun s i => ledgerStore (s.setLed i Slot.free) i) s
  { s with skb := { s.skb with unresolved := [] } }

/-- The refill ends on the standby: what the twin does not hold is discarded; SYNC, with its executors armed unless a reset still holds them. -/
def refillEnd (s : State) : State :=
  let s := dropUnresolved s
  let s := (s.put TW_STATUS_pstate 3).ev TW_EVENTS_paired
  let arm := decide (s.skb.waits = 0) && !s.fix.fatal && !s.lcy.stopped
  let s := { s with skb := { s.skb with armed := s.skb.armed || arm } }
  { s with tw := { s.tw with coldReset := false } }

/-- TWIN_REFILL_RX (R440): one ledger slot; `done` ends the refill, and the standby enters SYNC with its executors armed. A
pending stroke that does not verify is a stroke check failure (R34, R35). -/
def execTwinRefillRx (h : TwHdr) (words : List Word) (done : Bool) (s : State) : Out :=
  twFrame h false false s (fun s =>
    if !twStandby s ∨ s.get TW_STATUS_pstate ≠ 2 then .next s
    else
      let x := slotOfWords words
      if slotPending x && !strokeOk x.stroke then .next (raiseSrc s 0 none)
      else
        let s := if x.state = 0 then s else refillSlot s x
        .next (if done then refillEnd s else s))

/-! ## Strokes on the link (R36, R146, R441, R442) -/

/-- TWIN_STROKE_RX (R146): a mirrored stroke is verified; refused when it comes too late, else written to this ledger, its
acknowledgement following the write. -/
def execTwinStrokeRx (h : TwHdr) (hi lo act : Word) (tag : BitVec 8) (chk seq : BitVec 32) (offerer : BitVec 8)
    (keeper : Bool) (s : State) : Out :=
  twFrame h false false s (fun s =>
    if !twStandby s ∨ (s.get TW_STATUS_pstate ≠ 2 ∧ s.get TW_STATUS_pstate ≠ 3) then .next s
    else
      let k : Stroke := { hi := hi, lo := lo, act := act, tag := tag.toNat, chk := chk.toNat }
      if !strokeOk k then .next (raiseSrc s 0 none)
      else if strictClass k ∧ t80Lt (strokeAt k) (s.afterNs 100) then .next (twSend s 3 [w40 (2 ^ 32 + seq.toNat)])
      else match mirrorSlot s seq.toNat with
        | none => .next s
        | some i =>
          let x : Slot := { Slot.free with state := 1, keeper := keeper, seq := seq.toNat, offerer := offerer.toNat,
                                           chip := true, twin := true, stroke := k }
          let s := noteSeq (s.setLed i x) seq.toNat
          let o : Offer := { core := none, asker := .nobody, old := Slot.free, stroke := k, keeper := keeper, slot := some i, wrote := false, mirrored := false,
                             acked := false, late := false, fromTwin := true, at_ := s.steady }
          .next { s with skb := { s.skb with offers := s.skb.offers ++ [o] } })

/-- TW_RTT (R456): the largest round trip of the last 10 s; House sets SKB_MIRROR_LEAD from it. -/
def noteRtt (s : State) (o : Offer) : State :=
  let (ns, s) := freeQ s (t80Diff s.steady o.at_) 1024
  let old := s.tw.rtts.filter (fun e => decide (t80Units s.steady ≤ e.1 + 10 * unitsPerSec))
  let rtts := (t80Units s.steady, ns.toNat) :: old
  let r := min 65535 (rtts.foldl (fun a e => max a e.2) 0)
  let s := ({ s with tw := { s.tw with rtts := rtts } }.put TW_RTT_rtt_ns r)
  if houseReplaced s 10 then s else s.put SKB_MIRROR_LEAD_lead (min 65535 (max 500 (r + 200)))

/-- TWIN_STROKE_ACK_RX (R36, R146): the twin's answer reaches the offering unit. -/
def execTwinStrokeAckRx (h : TwHdr) (seq : BitVec 32) (refused : Bool) (s : State) : Out :=
  twFrame h false false s (fun s =>
    match s.skb.offers.find? (fun o => o.mirrored && !o.acked && (match o.slot with
        | none => false
        | some i => decide ((s.led i).seq = seq.toNat))) with
    | none => .next s
    | some o =>
      let s := noteRtt { s with skb := { s.skb with offers := s.skb.offers.filter (fun p => !decide (p = o)) } } o
      if refused then .next (settleWaiters (dropOffer s o))
      else if o.wrote then .next (settleWaiters (commitOffer s { o with acked := true }))
      else .next { s with skb := { s.skb with offers := s.skb.offers ++ [{ o with acked := true }] } })

/-- TWIN_NOTE_RX (R445): an active-only stroke the active unit has completed is DONE. -/
def execTwinNoteRx (h : TwHdr) (seq : BitVec 32) (_report : Fin 8) (s : State) : Out :=
  twFrame h false false s (fun s =>
    if !twStandby s then .next s
    else match s.skb.slots.find? (fun e => decide (e.2.seq = seq.toNat) && slotPending e.2 && !shadowStroke e.2.stroke) with
      | none => .next s
      | some e => .next (s.setLed e.1 { e.2 with state := 3 }))

/-! ## Handing over (R447 to R451) -/

/-- Strokes are divided at t_stop (R450): the former active unit executed every active-only stroke before it. -/
def divideStrokes (s : State) (t : T80) : State :=
  let past := fun (x : Slot) => slotPending x && x.twin && !shadowStroke x.stroke && t80Lt (strokeAt x.stroke) t
  { s with skb := { s.skb with slots := s.skb.slots.map (fun e => (e.1, if past e.2 then { e.2 with state := 3 } else e.2)) } }

/-- TWIN_GIVE_RX (R450): GIVE fixes t_stop. -/
def execTwinGiveRx (h : TwHdr) (hi lo : Word) (_lastSeq : BitVec 32) (s : State) : Out :=
  twFrame h false false s (fun s =>
    let t := t80Of hi lo
    if s.on TW_STATUS_give_missing ∧ s.tw.driveAt.isSome then .next s
    else
      let s := s.putT TW_T_STOP_HI TW_T_STOP_LO t
      let s := { s with tw := { s.tw with give := some t } }
      .next (if s.tw.driveAt.isSome then divideStrokes s t else s))

/-- GIVE_TIMEOUT (R450): no GIVE 1 us after drive permission. -/
def execGiveTimeout (s : State) : Out :=
  match s.tw.driveAt with
  | none => .next s
  | some d =>
    if giveWait s ∧ s.elapsed (t80Add d ((nsU 1000 : Nat) : Int)) then
      let t := s.tw.lastDep
      let s := (s.putT TW_T_STOP_HI TW_T_STOP_LO t).putB TW_STATUS_give_missing true
      .next (divideStrokes s t)
    else .next s

/-- HEARTBEAT_LOST (R447): the AO watchdog misses the House heartbeat for 10 ms. -/
def execHeartbeatLost (s : State) : Out := .next (giveUp (raiseSrc s 110 none))

/-- GIVE_UP (R448): the active unit of a pair decides to give up control. -/
def execGiveUp (s : State) : Out := .next (giveUp s)

/-- A mirrored item as the last STATE frames gave it. -/
def mirrorWord (s : State) (a : Nat) : Word := tabGet (fun _ => 0) s.tw.mirror a

/-- The mirrored registers that a takeover applies (R242, R442, R451): the Palette's but for its state, the Glaze's and UND_B_ENTRY. -/
def mirrorApplied : List Nat :=
  (mirrorSteady ++ mirrorChange).filter (fun a =>
    (decide (a / 256 = 0x010) && decide (a ≠ PAL_STATE)) || (decide (a / 256 = 0x012) && decide (a ≠ GLZ_B)) || decide (a = UND_B_ENTRY))

/-- The mirrored Palette and Glaze state is applied at takeover, zeros included (R442, R451); where no STATE frame has come there is none. -/
def applyMirror (s : State) : State :=
  if s.tw.mirror.isEmpty then s
  else
    let s := mirrorApplied.foldl (fun s a => s.wr a (mirrorWord s a)) s
    { s with glz := { s.glz with digest := (List.range 10).map (fun i => mirrorWord s (digestItem i)),
                                 evtNew := (mirrorWord s eventsItem).toNat } }

/-- A sleeping standby's Easel clusters 1 to 3 leave or enter local reset (R446). -/
def easelSleep (s : State) (sleep : Bool) : State :=
  let us := (clusterUnits 0x061 ++ clusterUnits 0x062 ++ clusterUnits 0x063)
  if sleep then us.foldl (fun s u => ((unitLocalReset s u).putB (UNIT_STATUS_in_reset u) true).putB (UNIT_STATUS_clk_on u) false) s
  else us.foldl releaseUnit s

/-- The incoming unit takes control at drive permission (R449, R451); `back` says that it takes back a failed planned
swap. -/
def takeControl (s : State) (gap : Nat) (back : Bool) : State :=
  let ready := s.on TW_STATUS_ready
  let s := s.putB TW_STATUS_own true
  let outs := (List.range 20).filter (fun k => decide (s.get (OUTk_CFG_mode k) ≠ 0))
  let t : TwSt := { s.tw with
    driveAt := some s.steady, gapFrom := t80Add s.steady (-((nsU gap : Nat) : Int)), checks := [], waitOut := outs }
  let s := { s with tw := t }
  let s := (s.wr TW_GAP 0).putB TW_STATUS_give_missing false
  let s := leaveSync s
  let s := s.put TW_STATUS_pstate 4
  let s := twNewGen (twRole s 1)
  let s := (s.ev TW_EVENTS_takeover).inc TW_CNT_TAKEOVER_count
  let s := mbxQueue s 0
  let s := if ready || back then s else raiseSrc s 107 none
  let s := applyMirror s
  let s := s.wr (GLZ_EVTk_VAL 7) (w40 (s.get TW_TAKE_evt_ps))
  let s := s.put (GLZ_EVTk_LIFE_life 7) (s.get TW_TAKE_life_s)
  let s := { s with glz := { s.glz with evtNew := s.glz.evtNew ||| 128 } }
  let s := s.setSlot 23 { s.slot 23 with cmdFault := true }
  let s := lineageCause s 6
  let s := easelSleep s false
  let s := houseRequest s 0x3C0
  let s := if s.gns.sentinel ∧ houseRuns s 3 then sentinelExit s else s
  let s := s.putB SKB_CTL_accept_en true
  let s := { s with skb := { s.skb with armed := !s.fix.fatal && !s.lcy.stopped && decide (s.skb.waits = 0) } }
  match s.tw.give with
  | none => s
  | some t => divideStrokes s t

/-- PEER_OWN_RELEASE (R449): TW_PEER_OWN_N rises, `ns` after it began to (t_g). A standby that may takes control. -/
def execPeerOwnRelease (ns : BitVec 8) (s : State) : Out :=
  let s := s.putB TW_STATUS_peer_own false
  let back := s.tw.swapping && s.tw.swapAt.isSome
  let may := s.on TW_STATUS_ready || s.on TW_CFG_take_unsync || back
  if twStandby s ∧ !s.on TW_STATUS_own ∧ !s.fix.fatal ∧ !tamperedNow s ∧ may then
    let s := takeControl s ns.toNat back
    if back then
      let mbx := s.tw.swapMbx
      let s := { s with tw := { s.tw with swapAt := none, swapping := false, swapMbx := false } }
      let s := s.ev TW_EVENTS_swap_failed
      .next (if mbx ∧ mbxCode s = 0x0B then mbxFinish s 6 [] else s)
    else .next s
  else .next s

/-- OUTPUT_DRIVER_ENABLE (R449): the driver of output `k` enables when the output's own level equals its gated level, or
100 ns after t_g. An output whose own level was high at some tick of the gap, the termination level being low, is marked. `high` and
`differed` say of the event which level that was and whether the output is marked: one that the state belies does not occur (log 15). -/
def execOutputDriverEnable (k : Fin 20) (high differed : Bool) (s : State) : Out :=
  let up := s.level k
  let marked := up || (match (s.out k).highAt with | some t => t80Le s.tw.gapFrom t | none => false)
  if high = up ∧ differed = marked ∧ s.tw.waitOut.contains k.val ∧ s.on TW_STATUS_own ∧ (!up ∨ s.elapsed (t80Add s.tw.gapFrom ((nsU 100 : Nat) : Int))) then
    let s := s.putB (OUTk_STATUS_driving k) true
    let ns := (t80Diff s.steady s.tw.gapFrom).toNat / 1024
    let s := s.put TW_GAP_gap_ns (min 255 (max (s.get TW_GAP_gap_ns) ns))
    let s := if differed then s.put TW_GAP_pins (setMask (s.get TW_GAP_pins) k true) else s
    let left := s.tw.waitOut.filter (fun j => decide (j ≠ k.val))
    .next { s with tw := { s.tw with waitOut := left, checks := s.tw.checks ++ [(k.val, s.steady)] } }
  else .next s

/-- The check of output `k` has ended (R453, R454), with or without a mismatch. -/
def takeoverChecked (k : Nat) (hit : Bool) (s : State) : Out :=
  let swap := s.tw.swapAt.isSome
  if hit then
    let s := (s.putB TW_STATUS_take_fail true).ev TW_EVENTS_take_fail
    let s := mbxNotice (raiseSrc s 108 none)
    let s := outSafe s k
    if swap then
      let s := giveUp (s.ev TW_EVENTS_swap_failed)
      .next { s with tw := { s.tw with swapAt := none } }
    else .next s
  else if swap ∧ s.tw.checks.isEmpty ∧ s.tw.waitOut.isEmpty then
    .next ({ s with tw := { s.tw with swapAt := none } }.ev TW_EVENTS_swap_done)
  else .next s

/-- TAKEOVER_OUTPUT_CHECK (R453): the pad of output `k` is compared for 1 us after its driver enabled. A mismatch within it sets
take_fail, and a planned swap that brought it is given back at once (R454); without one the check ends with it. -/
def execTakeoverOutputCheck (k : Fin 20) (mismatch : Bool) (s : State) : Out :=
  match s.tw.checks.find? (fun c => decide (c.1 = k.val)) with
  | none => .next s
  | some (_, t) =>
    let close := t80Add t ((nsU 1000 : Nat) : Int)
    let hit := mismatch && t80Le s.steady close
    let s' := { s with tw := { s.tw with checks := s.tw.checks.filter (fun c => decide (c.1 ≠ k.val)) } }
    if !hit ∧ !s.elapsed close then .next s
    else takeoverChecked k hit s'

/-! ## Planned swaps and take-back (R454, R455) -/

/-- Whether no PIN stroke on a driven output falls in the 100 ns from `t` (R454). -/
def swapClear (s : State) (t : T80) : Bool :=
  !s.skb.slots.any (fun e => slotPending e.2 && decide (strokeClass e.2.stroke = 1) && decide (strokePin e.2.stroke < 20)
    && s.on (OUTk_STATUS_driving (strokePin e.2.stroke)) && t80Le t (strokeAt e.2.stroke)
    && t80Le (strokeAt e.2.stroke) (t80Add t ((nsU 100 : Nat) : Int)))

/-- The first clear whole millisecond from `ms` on. -/
def swapMs (s : State) : Nat → Nat → Nat
  | 0, ms => ms
  | n + 1, ms => if swapClear s (t80OfUnits (ms * 1024000000)) then ms else swapMs s n (ms + 1)

/-- A planned swap starts on an active unit in SYNC (R454). -/
def startSwap (s : State) (mbx : Bool) : State :=
  let first := (t80Units s.now + 2 * 1024000000 + 1023999999) / 1024000000
  let t := t80OfUnits (swapMs s (s.skb.slots.length + 1) first * 1024000000)
  let s := { s with tw := { s.tw with swapAt := some t, swapAck := false, swapSent := s.steady, swapMbx := mbx, swapping := true } }
  twSend s 8 [T80hi t, T80lo t]

/-- Whether a planned swap may start. -/
def swapLegal (s : State) : Bool := twActive s && twSync s && s.tw.swapAt.isNone

/-- TWIN_SWAP_RX (R454, R455): the standby acknowledges the instant; on the active unit it is the home unit's request for a
planned swap. -/
def execTwinSwapRx (h : TwHdr) (hi lo : Word) (s : State) : Out :=
  twFrame h false false s (fun s =>
    if twStandby s then
      .next (twSend { s with tw := { s.tw with swapAt := some (t80Of hi lo), swapping := false } } 9 [hi, lo])
    else if swapLegal s then .next (startSwap s false)
    else .next s)

/-- TWIN_SWAP_ACK_RX (R454). -/
def execTwinSwapAckRx (h : TwHdr) (hi lo : Word) (s : State) : Out :=
  twFrame h false false s (fun s =>
    if s.tw.swapAt = some (t80Of hi lo) ∧ twActive s ∧ !s.elapsed (t80Add s.tw.swapSent ((nsU 1000000 : Nat) : Int)) then .next { s with tw := { s.tw with swapAck := true } } else .next s)

/-- SWAP_INSTANT (R454): at t_s the active unit gives up with t_stop = t_s. -/
def execSwapInstant (s : State) : Out :=
  match s.tw.swapAt with
  | none => .next s
  | some t => .next (if twActive s ∧ s.tw.swapAck ∧ s.reached t then giveUpAt t s else s)

/-- SWAP_ACK_TIMEOUT (R454): the swap is abandoned with no effect. -/
def execSwapAckTimeout (s : State) : Out :=
  if twActive s ∧ s.tw.swapAt.isSome ∧ !s.tw.swapAck ∧ s.elapsed (t80Add s.tw.swapSent ((nsU 1000000 : Nat) : Int)) then
    let mbx := s.tw.swapMbx
    let s := { s with tw := { s.tw with swapAt := none, swapping := false, swapMbx := false } }
    .next (if mbx ∧ mbxCode s = 0x0B then mbxFinish s 7 [] else s)
  else .next s

/-- REVERTIVE_WTR_EXPIRY (R455): a home standby ready for wtr_s without a break asks for a planned swap. -/
def execRevertiveWtrExpiry (s : State) : Out :=
  match s.tw.readyFrom with
  | none => .next s
  | some t =>
    if s.on TW_CFG_revertive ∧ s.on TW_CFG_home ∧ twStandby s ∧ s.on TW_STATUS_ready
        ∧ s.elapsed (secsAfter t (s.get TW_CFG_wtr_s)) then
      .next (twSend { s with tw := { s.tw with readyFrom := some s.steady } } 8 [0, 0])
    else .next s

/-! ## Ownership at power-on (R433) -/

/-- Every output that has a mode drives. -/
def driveAll (s : State) : State :=
  (List.range 20).foldl (fun s k =>
    if s.get (OUTk_CFG_mode k) ≠ 0 ∧ !s.on (OUTk_STATUS_safe_forced k) then s.putB (OUTk_STATUS_driving k) true else s) s

/-- Strokes that no twin's ledger has resolved count as accepted where the unit claims the pins without one, as the offers of a pairing that ends do
(R441; DESIGN CHOICE, log 153). -/
def claimUnresolved (s : State) : State :=
  let ids := (s.skb.slots.filter (fun e => slotPending e.2 && s.skb.unresolved.contains e.2.seq)).map (fun e => e.1)
  let s := ids.foldl (fun s i => noteAccepted (s.setLed i { s.led i with commit := true }) (s.led i).seq) s
  { s with skb := { s.skb with unresolved := [] } }

/-- POWER_ON_PIN_CLAIM (R433): with the peer's line high, the home unit claims on the peer's HELLO or after 2 s, the other
unit a second later. -/
def execPowerOnPinClaim (s : State) : Out :=
  let home := s.on TW_CFG_home
  let waited := (home && s.tw.helloRx) || s.elapsed (secsAfter s.tw.enAt (if home then 2 else 3))
  if s.on TW_CFG_en ∧ s.get TW_STATUS_role = 0 ∧ !s.on TW_STATUS_own ∧ !s.on TW_STATUS_peer_own ∧ !s.fix.fatal ∧ waited then
    .next (driveAll (twRole (claimUnresolved (s.putB TW_STATUS_own true)) 1))
  else .next s

/-- OWNERSHIP_CONFLICT (R433): both own lines are low; the unit with home = 0 releases. -/
def execOwnershipConflict (s : State) : Out :=
  let s := s.putB TW_STATUS_peer_own true
  if s.on TW_CFG_en ∧ s.on TW_STATUS_own ∧ !s.on TW_CFG_home then
    let s := (List.range 20).foldl outRelease s
    .next (twRole (s.putB TW_STATUS_own false) 2)
  else .next s

/-! ## Readiness and the sleeping standby (R444, R446) -/

/-- Whether the unit is standby-ready (R444). -/
def standbyReady (s : State) : Bool :=
  twStandby s && twSync s && decide (10 ≤ s.tw.alignRun) && !s.fix.fatal && !tamperedNow s && !s.on TW_STATUS_take_fail
    && (List.range 20).all (fun k => decide (s.get (OUTk_CFG_mode k) ≠ 1) || varLocked s (outVar k))

/-- A ready standby with sleep set turns off PKA, PKB, SDL and KEY and puts Easel clusters 1 to 3 in local reset (R446). -/
def standbySleep (s : State) : State :=
  if s.on TW_STATUS_ready ∧ s.on TW_CFG_sleep ∧ Nat.land (s.get PWR_REQ_on) 0x3C0 ≠ 0 ∧ !houseReplaced s 10 then
    match powerRequest s (s.get PWR_REQ_on - Nat.land (s.get PWR_REQ_on) 0x3C0) with
    | none => s
    | some s => easelSleep s true
  else s

/-- The twin's part of a Palette tick: the mirror goes out, readiness is judged. -/
def twTick (s : State) : State :=
  if !s.on TW_CFG_en then s
  else
    let s := sendState s
    let r := standbyReady s
    let s := s.putB TW_STATUS_ready r
    let s := { s with tw := { s.tw with readyFrom := if r then (match s.tw.readyFrom with | none => some s.steady | some t => some t) else none } }
    standbySleep s

/-! ## Registers (R456) -/

/-- The effect of a TW_CFG write: home and shared_atom stay while en is 1; en cleared ends twin operation, en set starts
it. -/
def twCfgWrite (w : Word) (s : State) : Out :=
  let en := s.on TW_CFG_en
  let old := s.rd TW_CFG
  let locked := en && (decide (bitAt w 2 ≠ bitAt old 2) || decide (bitAt w 5 ≠ bitAt old 5))
  let s := if locked then s.ev TW_EVENTS_cfg_ignored else s
  let w := if en then putField (putField w 2 2 (fieldOf old 2 2)) 5 5 (fieldOf old 5 5) else w
  if en && !bitAt w 0 then
    let s := leaveSync s
    let s := twRole (s.put TW_STATUS_pstate 0) 0
    let s := { s with tw := { s.tw with keyCopy := false, unacked := [], helloRx := false, helloTx := false } }
    .next (plainWrite s TW_CFG w)
  else
    let s := plainWrite s TW_CFG w
    if !en && bitAt w 0 then
      let s := { s with tw := { s.tw with enAt := s.steady } }
      let s := if s.on TW_STATUS_own then s else (List.range 20).foldl outRelease s
      .next (if s.get TW_STATUS_lane_ok ≠ 0 then helloEnter s else s)
    else .next s

/-- TW_CMD op 1 (R454). -/
def twSwap (s : State) : Out := .next (if swapLegal s then startSwap s false else s)

/-- TW_CMD op 2 (R456). -/
def twRepair (s : State) : Out :=
  let s := s.putB TW_STATUS_take_fail false
  .next (if s.get TW_STATUS_pstate = 4 then helloEnter s else s)

/-- TW_CMD op 3 (R438). -/
def twEnd (s : State) : Out := .next (leaveSync s)

/-- The effect of a TW_CMD write. -/
def twCmdWrite (w : Word) (s : State) : Out :=
  let op := fieldOf w 1 0
  if op = 1 then twSwap s else if op = 2 then twRepair s else if op = 3 then twEnd s else .next s

/-- TW_CMD_SWAP (R454). -/
def execTwCmdSwap (m : Master) (s : State) : Out := writeReg m TW_CMD 1 twSwap s

/-- REPAIR (R456). -/
def execRepair (m : Master) (s : State) : Out := writeReg m TW_CMD 2 twRepair s

/-- END_PAIRING (R438). -/
def execEndPairing (m : Master) (s : State) : Out := writeReg m TW_CMD 3 twEnd s

end Sys2Proof.Machine
end

