-- ==== Sys2Proof/Machine/Kv.lean ====
section
/-! DEFINITION. The key vault, the public-key engine and the tamper monitor: key operations, NTS
epochs, updates and the tamper response (R362 to R386). -/

namespace Sys2Proof.Machine

/-- PKE_STATUS follows its queue (R385). -/
def pkeRefresh (s : State) : State :=
  let n := s.kv.pke.length
  (s.put PKE_STATUS_queue (min 8 (n - 1))).putB PKE_STATUS_busy (decide (0 < n))

/-- A handle enters the key cache, the least recently used of 256 leaving it (R362). Roots are always resident. -/
def cacheTouch (s : State) (h : Nat) : State :=
  if h ≤ 3 then s
  else { s with kv := { s.kv with cache := (h :: s.kv.cache.filter (fun x => decide (x ≠ h))).take 256 } }

/-- A key is used (R362): where the cache lacks it, every missing ancestor is derived and enters before it. `n` bounds the
line of dynamic parents. -/
def cacheUse : Nat → State → Nat → State
  | 0, s, h => cacheTouch s h
  | n + 1, s, h =>
    if s.kv.cache.contains h then cacheTouch s h
    else match s.kv.dyn.find? (fun e => decide (e.1 = h)) with
      | some (_, c) => cacheTouch (if s.kv.cache.contains c.parent then s else cacheUse n s c.parent) h
      | none => cacheTouch s h

/-- A request takes its place in the PKE's queue of 8 (R366): Keeper's go first, otherwise in order of arrival. -/
def pkeInsert (q : List PkeReq) (r : PkeReq) : List PkeReq :=
  if r.keeper then q.filter (fun x => x.keeper) ++ [r] ++ q.filter (fun x => !x.keeper) else q ++ [r]

/-- A request reaches the PKE (R366): behind the one in service it joins the queue of 8, or waits until a place is free. -/
def pkeAdd (s : State) (r : PkeReq) : State :=
  let q := match s.kv.pke with
    | [] => [r]
    | h :: t => h :: (if 8 ≤ t.length then t ++ [r] else pkeInsert t r)
  pkeRefresh { s with kv := { s.kv with pke := q } }

/-- The queue when the operation in service has ended (R366): the next begins, and the first request that waited for a place
takes it. -/
def pkeNext (t : List PkeReq) : List PkeReq :=
  match t with
  | [] => []
  | h :: q =>
    h :: (match q.drop 7 with | [] => q | r :: more => pkeInsert (q.take 7) r ++ more)

/-- PKE_OP_DONE (R366): the operation in service ends and the next begins. -/
def execPkeOpDone (s : State) : Out :=
  match s.kv.pke with
  | [] => .next s
  | r :: t =>
    let s := pkeRefresh (kvRefresh { s with kv := { s.kv with pke := pkeNext t } })
    let s := if r.op = 0 then s.inc PKE_CNT_SIGN_count else if r.op = 1 then s.inc PKE_CNT_VERIFY_count
      else if r.op = 2 then s.inc PKE_CNT_ECDH_count else s
    .next (if r.fails then s.inc PKE_CNT_FAIL_count else s)

/-! ## Random numbers -/

/-- `n` octets drawn from the DRBG: free values (R369; log 1). -/
def drawWords : Nat → State → List Word × State
  | 0, s => ([], s)
  | n + 1, s =>
    let (w, s) := s.free
    let (ws, s) := drawWords n s
    (w :: ws, s)

def drawBytes (s : State) (n : Nat) : List Nat × State :=
  let (ws, s) := drawWords ((n + 4) / 5) s
  ((ws.flatMap bytesOf).take n, { s with kv := { s.kv with drbgUsed := s.kv.drbgUsed + 1 } })

/-- DRBG_HEALTH_FAIL (R369): the DEGRADE fault, and nonce-drawing SEALs are refused. -/
def execDrbgHealthFail (s : State) : Out :=
  if (unitErr s KV_CTL).isSome then .next s
  else .next (raiseSrc ((s.putB KV_STATUS_drbg_ok false).ev KV_EVENTS_drbg_fail) 103 none)

/-- DRBG_RECOVER (R369): 1,024 consecutive healthy samples clear the failure. -/
def execDrbgRecover (s : State) : Out :=
  .next (if (unitErr s KV_CTL).isSome then s else s.putB KV_STATUS_drbg_ok true)

/-- DRBG_RESEED (R369): after 2^20 requests. -/
def execDrbgReseed (s : State) : Out :=
  .next (if s.kv.drbgUsed < 2 ^ 20 then s else { s with kv := { s.kv with drbgUsed := 0 } })

/-! ## Key operations -/

/-- What a key operation answers (R97): code, epoch, out, the octets to write, and the PKE operation it needs. -/
structure KopRes where
  code : Nat
  epoch : Nat
  out : Nat
  data : List Nat
  pke : Option Nat

/-- A refused operation. -/
def kopFail (code epoch : Nat) : KopRes := { code := code, epoch := epoch % 16, out := 0, data := [], pke := none }

/-- A completed operation whose output is `data`. -/
def kopData (epoch : Nat) (data : List Nat) (pke : Option Nat) : KopRes :=
  { code := 0, epoch := epoch % 16, out := data.length, data := data, pke := pke }

/-- The session handles of engine `e` (R359). -/
def sessionHandle (e : Nat) : Nat := 0xF80 + 2 * e

/-- The session handles of engine `e` are loaded with C2S and S2C (R346). -/
def loadSession (s : State) (e h : Nat) (epoch : Nat) (keys : List Nat) : State :=
  let child := fun (k : List Nat) =>
    ({ kind := 3, parent := resolveAlias s h, master := some epoch, keeper := false, key := k, epoch := epoch, perm := 2,
       used := false } : KeyChild)
  let t := tabIns (tabDel s.kv.sess (sessionHandle e)) (sessionHandle e) (child (keys.take 32))
  let t := tabIns (tabDel t (sessionHandle e + 1)) (sessionHandle e + 1) (child ((keys.drop 32).take 32))
  { s with kv := { s.kv with sess := t } }

/-- Whether a label permits User to derive from the Operator Root (R364). -/
def openLabel (aux : List Nat) : Bool := decide (aux.take 4 = ascii "SPAN") || decide (aux.take 4 = ascii "ATEL")

/-- The free dynamic handles. -/
def freeDyn (s : State) : List Nat :=
  ((List.range 0x680).map (fun i => 0x900 + i)).filter (fun h => !s.kv.dyn.any (fun e => decide (e.1 = h)))

/-- KOP DERIVE (R364, R346). Which free dynamic handle a child gets, and the child handle of a status word that frees one,
are not stated: free values. -/
def kopDerive (s : State) (k : Nat) (keeper : Bool) (h : Nat) (i : KeyInfo) (input aux : List Nat) : KopRes × State :=
  if i.master then
    if k < 16 then (kopFail 2 i.epoch, s)
    else if input.length ≠ 64 then (kopFail 4 i.epoch, s)
    else
      let s := loadSession s (k - 16) h i.epoch input
      ({ kopData i.epoch [] none with out := sessionHandle (k - 16) }, s)
  else if 0x900 ≤ h ∧ h ≤ 0xF7F ∧ aux.isEmpty then
    if i.keeper && !keeper then (kopFail 2 i.epoch, s)
    else
      let (x, s) := s.freeBelow 4096
      ({ kopData i.epoch [] none with out := x }, { s with kv := { s.kv with dyn := tabDel s.kv.dyn h } })
  else
    let fromRoot := decide (h = 3) && !keeper && openLabel aux
    let ok := if i.kind = 0 then keeper || fromRoot else i.perm.testBit 0 && (keeper || !i.keeper)
    if !ok then (kopFail 2 i.epoch, s)
    else if !input.isEmpty ∨ aux.isEmpty ∨ 48 < aux.length then (kopFail 4 i.epoch, s)
    else
      let fr := freeDyn s
      if fr.isEmpty then (kopFail 2 i.epoch, s)
      else
        let (n, s) := s.freeBelow fr.length
        let c := fr.getD n 0x900
        let kind := if fromRoot then 1 else i.kind
        let child : KeyChild := { kind := kind, parent := h, master := none, keeper := keeper,
                                  key := deriveKey i.key kind aux [], epoch := i.epoch,
                                  perm := if fromRoot then 2 else i.perm, used := false }
        let s := cacheTouch { s with kv := { s.kv with dyn := tabIns s.kv.dyn c child } } c
        ({ kopData i.epoch [] none with out := c }, s)

/-- KOP MAC (R360): a tag over the input. -/
def kopMac (s : State) (i : KeyInfo) (input : List Nat) : KopRes × State :=
  if i.kind = 1 then (kopData i.epoch ((hmacSha256 i.key input).take (if i.perm.testBit 2 then 32 else 16)) none, s)
  else if i.kind = 2 then (kopData i.epoch (aesCmac i.key input) none, s)
  else (kopFail 2 i.epoch, s)

/-- The engine of a core, and the keys of its session handles. -/
def sessionKeys (s : State) (k : Nat) : Option (List Nat) :=
  if k < 16 then none
  else match keyInfo s (sessionHandle (k - 16)), keyInfo s (sessionHandle (k - 16) + 1) with
    | some a, some b => some (a.key ++ b.key)
    | _, _ => none

/-- KOP SEAL (R360, R346, R345): nonce, tag and ciphertext; on a master with no input, a cookie of the session keys. -/
def kopSeal (s : State) (k : Nat) (i : KeyInfo) (input aux : List Nat) : KopRes × State :=
  if i.kind ≠ 3 then (kopFail 2 i.epoch, s)
  else if i.master then
    if k < 16 then (kopFail 2 i.epoch, s)
    else if !input.isEmpty then (kopFail 4 i.epoch, s)
    else match sessionKeys s k with
      | none => (kopFail 1 i.epoch, s)
      | some keys =>
        if !s.on KV_STATUS_drbg_ok then (kopFail 2 i.epoch, s)
        else
          let (nonce, s) := drawBytes s 16
          (kopData i.epoch (beBytes 4 i.epoch ++ nonce ++ sivSeal i.key [nonce] keys) none, s)
  else if 65535 < input.length + 32 then (kopFail 4 i.epoch, s)
  else if !s.on KV_STATUS_drbg_ok then (kopFail 2 i.epoch, s)
  else
    let (nonce, s) := drawBytes s 16
    (kopData i.epoch (nonce ++ sivSeal i.key ((if aux.isEmpty then [] else [aux]) ++ [nonce]) input) none, s)

/-- KOP OPEN (R360, R346, R345). -/
def kopOpen (s : State) (k h : Nat) (i : KeyInfo) (input aux : List Nat) : KopRes × State :=
  if i.kind ≠ 3 then (kopFail 2 i.epoch, s)
  else if i.master then
    if k < 16 then (kopFail 2 i.epoch, s)
    else if input.length ≠ 100 then (kopFail 4 i.epoch, s)
    else match sivOpen i.key [octets input 4 16] (input.drop 20) with
      | none => (kopFail 3 i.epoch, s)
      | some keys =>
        ({ kopData i.epoch [] none with out := sessionHandle (k - 16) }, loadSession s (k - 16) h i.epoch keys)
  else if input.length < 32 then (kopFail 4 i.epoch, s)
  else match sivOpen i.key ((if aux.isEmpty then [] else [aux]) ++ [input.take 16]) (input.drop 16) with
    | none => (kopFail 3 i.epoch, s)
    | some p => (kopData i.epoch p none, s)

/-- KOP SIGN (R360, R367). -/
def kopSign (s : State) (keeper : Bool) (h : Nat) (i : KeyInfo) (input : List Nat) : KopRes × State :=
  if i.kind ≠ 4 ∧ i.kind ≠ 5 then (kopFail 2 i.epoch, s)
  else if input.isEmpty then
    (kopData i.epoch (p384Public (beNum i.key)) (if s.kv.cache.contains h then none else some 3), s)
  else if input.length ≠ 48 then (kopFail 4 i.epoch, s)
  else if i.kind = 5 ∨ (i.keeper && !keeper) then (kopFail 2 i.epoch, s)
  else
    let k := Config.signNonce s.freeCtr % (p384Order - 1) + 1
    (kopData i.epoch (p384Sign (beNum i.key) input k) (some 0), s.free.2)

/-- Whether an AES pipe of group `g` carries work (R358). -/
def pipeUp (s : State) (i : Nat) : Bool := (unitErr s ((0x098 + i) * 0x100)).isNone

/-- AES blocks or SHA-256 compressions of an operation on a Brush engine are counted by the group's pipes (R358); how they
share the work is not stated: a free value. -/
def pipeCount (s : State) (g n : Nat) (sha : Bool) : State :=
  let add := fun (s : State) (i n : Nat) =>
    let f := if sha then AESi_CNT_SHA_count i else AESi_CNT_AES_count i
    s.put f (s.get f + n)
  let a := 2 * g
  if !pipeUp s a then add s (a + 1) n
  else if !pipeUp s (a + 1) then add s a n
  else
    let (x, s) := s.freeBelow (n + 1)
    add (add s a x) (a + 1) (n - x)

/-- The AES blocks of an operation (R365), for plaintext `p` octets and associated items. -/
def sivBlocks (p : Nat) (items : List Nat) (first draws : Bool) : Nat :=
  (if first then 2 else 0) + (items.map (fun a => (a + 15) / 16)).sum + 1 + max 1 ((p + 15) / 16) + (p + 15) / 16 + b2n draws

/-- The work of an operation that completed, as the pipes count it (R365, R98), and the first use of a session or dynamic
handle. -/
def kopWork (s : State) (k h op : Nat) (i : KeyInfo) (input aux : List Nat) (r : KopRes) : State :=
  let used := (s.kv.sess ++ s.kv.dyn).any (fun e => decide (e.1 = h) && e.2.used)
  let fresh := decide (0x900 ≤ h) && !used
  let mark := fun (t : Tab KeyChild) => t.map (fun e => if e.1 = h then (e.1, { e.2 with used := true }) else e)
  let s := if fresh && decide (op = 2 ∨ op = 3) && decide (r.code = 0) then
      { s with kv := { s.kv with sess := mark s.kv.sess, dyn := mark s.kv.dyn } } else s
  if k < 16 ∨ r.code ≠ 0 then s
  else
    let g := (k - 16) / 8
    let items := if aux.isEmpty ∨ i.master then [] else [aux.length]
    if op = 1 ∧ i.kind = 1 then pipeCount s g ((input.length + 9 + 63) / 64 + 1) true
    else if op = 1 then pipeCount s g (max 1 ((input.length + 15) / 16)) false
    else if op = 2 then pipeCount s g (sivBlocks (if i.master then 64 else input.length) items fresh true) false
    else if op = 3 then pipeCount s g (sivBlocks (if i.master then 64 else input.length - 32) items fresh false) false
    else s

/-- Counting a KOP's outcome (R384). -/
def kopCount (s : State) (code : Nat) : State :=
  let s := s.inc KV_CNT_KOP_count
  if code = 1 then s.inc KV_CNT_NO_KEY_count else if code = 2 then s.inc KV_CNT_NOT_ALLOWED_count
  else if code = 3 then s.inc KV_CNT_AUTH_FAIL_count else s

/-- A key operation at its key point (R360, R368): `op` 0 DERIVE, 1 MAC, 2 SEAL, 3 OPEN, 4 SIGN. Liveness is checked first,
then permission, then length (log 10). A vault that does not serve gives one of the refusals; which one is free. -/
def kopRun (s : State) (k : Nat) (keeper : Bool) (op h : Nat) (input aux : List Nat) : KopRes × State :=
  if (unitErr s KV_CTL).isSome then
    let (x, s) := s.freeBelow 2
    (kopFail (1 + x) 0, s)
  else if !s.on KV_CTL_en then
    let (x, s) := s.freeBelow 2
    (kopFail (1 + x) 0, kopCount s (1 + x))
  else match keyInfo s h with
    | none => (kopFail 1 0, kopCount s 1)
    | some i =>
      let rh := resolveAlias s h
      let export4 := decide (op = 4) && input.isEmpty && decide (i.kind = 4 ∨ i.kind = 5)
      let mine := match i.engine with | none => true | some e => decide (k = 16 + e)
      let pipes := decide (16 ≤ k) && decide (1 ≤ op ∧ op ≤ 3) && !pipeUp s (2 * ((k - 16) / 8)) && !pipeUp s (2 * ((k - 16) / 8) + 1)
      let barred := decide (rh = 6) || !mine || pipes || (i.keeper && !keeper && !export4 && decide (op ≠ 0))
      let (r, s) : KopRes × State :=
        if s.on KV_STATUS_tampered ∧ rh ≠ 1 ∧ !(decide (rh = 4) && export4) then (kopFail 1 i.epoch, s)
        else if barred then (kopFail 2 i.epoch, s)
        else if op = 0 then kopDerive s k keeper rh i input aux
        else if op = 1 then kopMac s i input
        else if op = 2 then kopSeal s k i input aux
        else if op = 3 then kopOpen s k rh i input aux
        else kopSign s keeper rh i input
      let s := if r.code = 0 then cacheUse 8 s rh else s
      let s := kopWork s k rh op i input aux r
      let s := match r.pke with
        | some o => pkeAdd s { keeper := keeper, op := o, core := some k, fails := false }
        | none => s
      (r, kvRefresh (kopCount s r.code))

/-! ## Invalidation and epochs -/

/-- Handles are invalidated with every descendant (R372, R373): cached keys and dynamic children go, and the sessions that
descend from a master go. `gone` says which handles and which NTS epochs. -/
def invalidate (s : State) (gone : Nat → Bool) (epochGone : Nat → Bool) : State :=
  let step := fun (t : Tab KeyChild) => t.filter (fun e => !(gone e.2.parent
    || (match e.2.master with | some m => epochGone m | none => false)
    || (decide (0x900 ≤ e.2.parent) && !t.any (fun x => decide (x.1 = e.2.parent)))))
  let dyn := (List.range 8).foldl (fun t _ => step t) s.kv.dyn
  let k : KvSt := { s.kv with dyn := dyn, sess := step s.kv.sess, cache := s.kv.cache.filter (fun h => !gone h) }
  kvRefresh (State.ev { s with kv := k } KV_EVENTS_invalidated)

/-- The instant of the next roll (R370): the next whole multiple of the period. -/
def setNextRoll (s : State) : State :=
  let p := max 1 (s.get KV_NTS_PERIOD_period_s)
  s.putT KV_NTS_NEXT_HI KV_NTS_NEXT_LO { sec := (s.now.sec / p + 1) * p, low := 0 }

/-- The House KV function offers the roll stroke of the next roll (R370), unless it is in the ledger already. The tag is not
stated: a free value. -/
def offerRoll (s : State) : State :=
  let t := s.getT KV_NTS_NEXT_HI KV_NTS_NEXT_LO
  let act := w40 (7 * 2 ^ 36 + 0xFFFF)
  let there := s.skb.slots.any (fun e => slotPending e.2 && decide (e.2.stroke.act = act) && decide (strokeAt e.2.stroke = t))
    || s.skb.offers.any (fun o => decide (o.stroke.act = act) && decide (strokeAt o.stroke = t))
  if there ∨ !s.on KV_CTL_roll_en ∨ twStandby s ∨ t.sec = 0 then s
  else
    let (tag, s) := s.freeBelow 256
    tryOffer s (newOffer (some 0) .nobody true (T80hi t) (T80lo t) act tag)

/-- NTS_EPOCH_ROLL (R371): the roll stroke of slot `i` makes the next epoch current. -/
def execNtsEpochRoll (i : Fin 65536) (s : State) : Out :=
  if !strokeDue s i 7 ∨ fieldOf (s.led i).stroke.act 15 0 ≠ 0xFFFF then .next s
  else
    verified s i (fun s =>
      if (unitErr s KV_CTL).isSome then .next (completeAs s i 5)
      else
        let e := s.get KV_NTS_EPOCH_epoch
        let s := s.put KV_NTS_EPOCH_epoch (e + 1)
        let s := invalidate s (fun h => decide (h = 0x010 + (e + 2) % 4)) (fun m => decide (m + 2 = e))
        let s := (allCoresEvent s 28).ev KV_EVENTS_epoch_roll
        let s := setNextRoll s
        .next (offerRoll (completeNow s i)))

/-- KEY_PREDERIVE (R362): one second before a roll the next epoch's master key enters the cache; the roll stroke stands. -/
def execKeyPrederive (s : State) : Out :=
  let t := s.getT KV_NTS_NEXT_HI KV_NTS_NEXT_LO
  if (unitErr s KV_CTL).isSome ∨ !s.on KV_CTL_en ∨ t.sec = 0 ∨ s.now.sec + 1 < t.sec then .next s
  else .next (cacheTouch (offerRoll s) (0x010 + (s.get KV_NTS_EPOCH_epoch + 1) % 4))

/-! ## Updates -/

/-- The length of an update message of `n` operations (R374). -/
def updLength (n : Nat) : Nat := 224 + 96 * n + 96

/-- Operation `k` of a message, its secret still wrapped. -/
def updOp (msg : List Nat) (k : Nat) : UpdOp :=
  let b := octets msg (224 + 96 * k) 96
  { code := b.getD 0 0, kind := b.getD 1 0, handle := beNum (octets b 2 2), parent := beNum (octets b 4 2), perm := b.getD 6 0,
    label := octets b 8 (b.getD 7 0), secret := octets b 56 40 }

/-- Whether an operation's fields lie in range (R375, R376). -/
def updOpOk (msg : List Nat) (k : Nat) : Bool :=
  let o := updOp msg k
  let b := octets msg (224 + 96 * k) 96
  let len := b.getD 7 0
  decide (len ≤ 48) && (octets b (8 + len) (48 - len)).all (fun x => decide (x = 0))
    && (if o.code = 1 then decide (o.handle = 2 ∨ o.handle = 3)
      else if o.code = 2 then decide (0x100 ≤ o.handle) && decide (o.handle ≤ 0x8FF) && decide (1 ≤ o.kind ∧ o.kind ≤ 3)
        && decide (o.parent = 2 ∨ o.parent = 3) && decide (o.perm < 8) && decide (1 ≤ len)
      else if o.code = 3 then decide (0x100 ≤ o.handle) && decide (o.handle ≤ 0x8FF)
      else if o.code = 4 then decide (8 ≤ len) && decide (3600 ≤ beNum (octets o.label 4 4))
        && decide (beNum (octets o.label 4 4) ≤ 2592000)
      else if o.code = 5 then true
      else decide (o.code = 6) && decide (len = 48))

/-- The digest in a verification-key fuse slot. -/
def vkDigest (s : State) (j : Nat) : List Nat :=
  match s.kv.vk.find? (fun e => decide (e.1 = j)) with | some (_, d) => d | none => Config.fuseKeyDigest j

/-- Whether an operator verification key is live (KV_VK). -/
def vkLive (s : State) : Bool := !(s.get KV_VK_revoked).testBit (s.get KV_VK_live)

/-- The checks of an update message (R376): the first failure's mailbox status, or the unwrapped slot. -/
def updCheck (s : State) (msg : List Nat) (free : Bool) : Nat ⊕ UpdSlot :=
  let n := msg.getD 5 0
  let counter := beNum (octets msg 16 5)
  let ops := (List.range n).map (updOp msg)
  let form := decide (beNum (octets msg 0 4) = 0x424B5550) && decide (msg.getD 4 0 = 1) && decide (1 ≤ n ∧ n ≤ 16)
    && decide (updLength n ≤ msg.length) && decide (beNum (octets msg 6 2) = 0) && decide (beNum (octets msg 21 3) = 0)
    && (List.range n).all (updOpOk msg)
  let vk := octets msg 32 96
  let kek := (rootSecret s 1).bind (fun d =>
    (p384Shared (beNum (deriveKey d 5 (ascii "TRANSPORT") [])) (octets msg 128 96)).map (fun z =>
      kdfBytes z (ascii "BKUP-KEK") (uidBytes ++ octets msg 16 5) 256))
  let unwrap := fun (o : UpdOp) => if o.code = 1 then kek.bind (fun k => keyUnwrap k o.secret) else some []
  let body := msg.take (updLength n - 96)
  if !form then .inl 3
  else if (lifeCycle s ≠ 1 ∧ lifeCycle s ≠ 2) ∨ 1024 < counter / 4096 ∨ !free then .inl 1
  else if octets msg 8 8 ≠ uidBytes ∨ !vkLive s ∨ sha384 vk ≠ vkDigest s (s.get KV_VK_live)
      ∨ !p384Verify vk (sha384 body) (octets msg (updLength n - 96) 96) ∨ counter ≤ s.get KV_UPD_CTR_counter
      ∨ ops.any (fun o => (unwrap o).isNone) then .inl 5
  else if s.on KV_STATUS_tampered ∧ !(ops.any (fun o => decide (o.code = 5)) && ops.any (fun o => decide (o.code = 1 ∧ o.handle = 2))
      && ops.any (fun o => decide (o.code = 1 ∧ o.handle = 3))) then .inl 3
  else .inr { ops := ops.map (fun o => { o with secret := (unwrap o).getD [] }), counter := counter,
              effect := beNum (octets msg 24 8) }

/-- The vault verifies a message into slot `j` (R376, R377): the status stands in KV_LAST_UPD. The PKE does the
verification, and the ECDH where a secret is carried. -/
def updVerify (s : State) (msg : List Nat) (j : Nat) : Nat × State :=
  let free := !s.kv.slots.any (fun e => decide (e.1 = j)) && decide (j < 16)
  let r := updCheck s msg free
  let status := match r with | .inl c => c | .inr _ => 0
  let reached := decide (status = 0 ∨ status = 5)
  let s := if reached then pkeAdd s { keeper := true, op := 1, core := none, fails := decide (status = 5) } else s
  let s := if reached ∧ beNum (octets msg 128 96) ≠ 0 then pkeAdd s { keeper := true, op := 2, core := none, fails := false } else s
  let s := (s.put KV_LAST_UPD_status status).put KV_LAST_UPD_slot j
  match r with
  | .inl c => (c, s.ev KV_EVENTS_upd_refused)
  | .inr u => (0, { s with kv := { s.kv with slots := tabIns s.kv.slots j u } })

/-- The octets in the command window. -/
def windowBytes (s : State) (n : Nat) : List Nat :=
  ((List.range ((n + 4) / 5)).flatMap (fun i => bytesOf (tabGet (fun _ => 0) s.kv.win i))).take n

/-- What KV_CMD op 1 does (R376). -/
def kvVerify (j : Nat) (s : State) : Out := .next (updVerify s (windowBytes s (updLength 16)) j).2

/-- What KV_CMD op 2 does: the slot is discarded. -/
def kvDiscard (j : Nat) (s : State) : Out := .next { s with kv := { s.kv with slots := tabDel s.kv.slots j } }

/-- The effect of a KV_CMD write (R384). -/
def kvCmdWrite (w : Word) (s : State) : Out :=
  match fieldOf w 1 0 with | 1 => kvVerify (fieldOf w 5 2) s | 2 => kvDiscard (fieldOf w 5 2) s | _ => .next s

/-- The effect of a KV_CTL write (R384). -/
def kvCtlWrite (w : Word) (s : State) : Out :=
  let s := plainWrite s KV_CTL w
  let s := s.putB KV_STATUS_ready (s.on KV_CTL_en && !s.on KV_STATUS_tampered)
  .next (if s.on KV_CTL_en then offerRoll (setNextRoll s) else s)

/-- VERIFY_UPDATE. -/
def execVerifyUpdate (m : Master) (j : Fin 16) (s : State) : Out := writeReg m KV_CMD (w40 (j.val * 4 + 1)) (kvVerify j) s

/-- DISCARD_SLOT. -/
def execDiscardSlot (m : Master) (j : Fin 16) (s : State) : Out := writeReg m KV_CMD (w40 (j.val * 4 + 2)) (kvDiscard j) s

/-- The free update slot that a KEY_UPDATE takes. -/
def freeUpdSlot (s : State) : Nat := ((List.range 16).find? (fun j => !s.kv.slots.any (fun e => decide (e.1 = j)))).getD 16

/-- KEY_UPDATE's work (R376, R377): the message is copied into the window and verified, and its stroke offered at its time,
or one millisecond from now. -/
def keyUpdate (s : State) (msg : List Nat) : State :=
  let words := packBytes (msg.length / 5 + 1) msg
  let s : State := { s with kv := { s.kv with win := words.zipIdx.foldl (fun t e => tabSet (fun _ => 0) t e.2 e.1) [] } }
  let j := freeUpdSlot s
  let (status, s) := updVerify s msg j
  if status ≠ 0 then mbxFinish s status [s.rd KV_UPD_CTR]
  else
    let eff := ((s.kv.slots.find? (fun e => decide (e.1 = j))).map (fun e => e.2.effect)).getD 0
    let at_ : T80 := { sec := eff % 2 ^ 40, low := 0 }
    let at_ := if t80Le (s.afterNs 1000000) at_ then at_ else s.afterNs 1000000
    let (tag, s) := s.freeBelow 256
    let s : State := { s with kv := { s.kv with updWaits := some j } }
    tryOffer s (newOffer none (.update j) true (T80hi at_) (T80lo at_) (w40 (7 * 2 ^ 36 + j)) tag)

/-- A root is replaced (R85, R363, R372): every key derived from it is invalidated and its epoch advances. -/
def setRoot (s : State) (h : Nat) (secret : List Nat) : State :=
  let k := s.kv
  let defs := k.defs.map (fun e => if e.2.parent = h then (e.1, { e.2 with epoch := (e.2.epoch + 1) % 2 ^ 32 }) else e)
  let children := (k.defs.filter (fun e => decide (e.2.parent = h))).map (fun e => e.1)
  let k : KvSt := if h = 2 then { k with pair := some secret, pairEpoch := (k.pairEpoch + 1) % 2 ^ 32, defs := defs }
    else { k with opRoot := some secret, opEpoch := (k.opEpoch + 1) % 2 ^ 32, defs := defs }
  let low := if h = 2 then [2, 5, 6, 0x010, 0x011, 0x012, 0x013] else [3]
  allCoresEvent (invalidate { s with kv := k } (fun x => low.contains x || children.contains x) (fun _ => decide (h = 2))) 28

/-! ## Tamper sources -/

/-- Whether a tamper source is enabled (R380, R386), by its bit in TMP_CAUSE; BK loss always counts. -/
def tamperEnabled (s : State) (b : Nat) : Bool :=
  if b < 4 then (s.get TMP_CFG_sw_en).testBit b
  else if b < 6 then (s.get TMP_CFG_mesh_en).testBit (b - 4)
  else if b < 8 then s.on TMP_CFG_volt_en
  else if b < 10 then s.on TMP_CFG_temp_en
  else if b = 10 then s.on TMP_CFG_glitch_en
  else true

/-- Bit `b` of a mask set or cleared. -/
def bitTo (m b : Nat) (v : Bool) : Nat := if v then Nat.lor m (2 ^ b) else m - (if m.testBit b then 2 ^ b else 0)

/-- Whether an enabled source is alarming (R383, R386). -/
def tamperActive (s : State) : Bool := (List.range 12).any (fun b => s.tmpOn.testBit b && tamperEnabled s b)

/-- TMP_STATUS.active follows the sources (R386). -/
def tmpRefresh (s : State) : State := s.putB TMP_STATUS_active (tamperActive s)

/-- One operation of an update is applied (R375). `clear` says whether no enabled tamper source alarms. -/
def updApply (clear : Bool) (s : State) (o : UpdOp) : State :=
  if o.code = 1 then setRoot s o.handle o.secret
  else if o.code = 2 then
    let old := s.kv.defs.find? (fun e => decide (e.1 = o.handle))
    let d : KeyDef := { kind := o.kind, parent := o.parent, perm := o.perm, label := o.label,
                        epoch := match old with | some (_, d) => (d.epoch + 1) % 2 ^ 32 | none => 1 }
    let s := if old.isSome then invalidate s (fun h => decide (h = o.handle)) (fun _ => false) else s
    allCoresEvent { s with kv := { s.kv with defs := tabIns (tabDel s.kv.defs o.handle) o.handle d } } 28
  else if o.code = 3 then
    let s : State := { s with kv := { s.kv with defs := tabDel s.kv.defs o.handle } }
    invalidate s (fun h => decide (h = o.handle)) (fun _ => false)
  else if o.code = 4 then
    let s := s.put KV_NTS_EPOCH_epoch (beNum (octets o.label 0 4))
    let s := s.put KV_NTS_PERIOD_period_s (beNum (octets o.label 4 4))
    let e := s.get KV_NTS_EPOCH_epoch
    let s := invalidate s (fun h => decide (0x010 ≤ h) && decide (h ≤ 0x013) && (liveEpoch s (h - 0x010)).isNone)
      (fun m => !(decide (m ≤ e) && decide (e ≤ m + 2)))
    offerRoll (setNextRoll (allCoresEvent s 28))
  else if o.code = 5 then
    if clear then
      let s := (s.putB TMP_STATUS_latched false).putB KV_STATUS_tampered false
      mbxQueue (s.putB KV_STATUS_ready (s.on KV_CTL_en)) 4
    else s
  else
    let live := s.get KV_VK_live
    let revoked := Nat.lor (s.get KV_VK_revoked) (2 ^ live)
    match (List.range 4).find? (fun j => !revoked.testBit j) with
    | none => s.put KV_VK_revoked revoked
    | some j =>
      let s : State := { s with kv := { s.kv with vk := tabIns (tabDel s.kv.vk j) j o.label } }
      (s.put KV_VK_revoked revoked).put KV_VK_live j

/-- KEYUPD_STROKE_EXECUTE (R377, R379, R383): every operation of the slot as one commit, in order. An empty slot, the
mirrored copy of the other unit's stroke, and a tamper that still alarms give TARGET_ERROR. -/
def execKeyupdStrokeExecute (i : Fin 65536) (s : State) : Out :=
  let j := fieldOf (s.led i).stroke.act 15 0
  if !strokeDue s i 7 ∨ j = 0xFFFF then .next s
  else
    verified s i (fun s =>
      match s.kv.slots.find? (fun e => decide (e.1 = j)) with
      | none => .next (completeAs s i 5)
      | some (_, u) =>
        if (s.led i).twin ∨ (unitErr s KV_CTL).isSome then .next (completeAs s i 5)
        else
          let clear := !tamperActive s
          let s := u.ops.foldl (updApply clear) s
          let s : State := { s with kv := { s.kv with slots := tabDel s.kv.slots j } }
          let s := (kvRefresh s).ev KV_EVENTS_upd_done
          if u.ops.any (fun o => decide (o.code = 5)) ∧ !clear then .next (completeAs s i 5) else .next (completeNow s i))

/-! ## Tamper -/

/-- The vault and BK lose the keys (R381): roots, definitions, update slots, session and dynamic keys, cache, PKE. A key
operation that has not begun its write-out returns NO_KEY with nothing written (R382). -/
def zeroize (s : State) : State :=
  let k : KvSt := { s.kv.reload with pair := none, opRoot := none, defs := [], slots := [] }
  let s : State := { s with kv := k, tw := { s.tw with keyCopy := false } }
  let abort := fun (c : Core) => match c.waiting with
    | .kop rd out _ _ => { c with waiting := .kop rd out [] (w40 (2 ^ 36)) }
    | _ => c
  let s : State := { s with cores := s.cores.map (fun e => (e.1, abort e.2)) }
  pkeRefresh s

/-- A tamper alarm is latched in BK and the keys are zeroized (R381); `b` is its bit of TMP_CAUSE. -/
def tamperLatch (s : State) (b : Nat) (slow : Word) (stays : Bool) : State :=
  let fresh := !s.on TMP_STATUS_latched
  let s := tmpRefresh (({ s with tmpOn := bitTo s.tmpOn b stays } : State).putB TMP_STATUS_latched true)
  let s := s.put ⟨TMP_CAUSE, 11, 0⟩ (Nat.lor (if fresh then 0 else s.get ⟨TMP_CAUSE, 11, 0⟩) (2 ^ b))
  let s := s.putT TMP_TIME_HI TMP_TIME_LO (if s.on TB_STATUS_time_valid then s.now else ⟨0, 0⟩)
  let s := (s.wr TMP_SLOW slow).incSat TMP_COUNT_count
  zeroize (s.ev TMP_EVENTS_alarm)

/-- A tamper alarm (R381): latched with its cause and time, the paired active unit gives up first (R447, R448), keys
zeroized, the fault raised, the service state queued to become TAMPERED, and pairing ended. -/
def tamperAlarm (s : State) (b : Nat) (slow : Word) (stays : Bool) : State :=
  let s := tamperLatch (giveUp s) b slow stays
  let s := if (unitErr s KV_CTL).isSome then s
    else kvRefresh (((s.putB KV_STATUS_tampered true).putB KV_STATUS_ready false).ev KV_EVENTS_zeroized)
  mbxQueue (raiseSrc (leaveSync s) 104 none) 1

/-- TAMPER_ALARM (R380, R381): the source with bit `b` of TMP_CAUSE alarms at slow-clock count `slow`, a switch only where the
level it held is its active one. `stays.stays` says whether the source goes on alarming: one that does is one alarm until a command
without it, or a switch's other level, ends it. -/
def execTamperAlarm (b : Fin 12) (slow : Word) (stays : TamperInput) (s : State) : Out :=
  let here := decide (4 ≤ b.val) || (stays.level == (s.get TMP_CFG_sw_pol).testBit b.val)
  if !here ∨ s.tmpOn.testBit b.val then .next (tmpRefresh { s with tmpOn := bitTo s.tmpOn b.val (here && stays.stays) })
  else .next (if tamperEnabled s b.val then tamperAlarm s b.val slow stays.stays else s)

/-- The effect of a TMP_CFG write (R386): in DEPLOYED an enable is only set, and an enabled switch keeps its polarity. -/
def tmpCfgMerge (s : State) (w : Word) : Word :=
  let old := (s.rd TMP_CFG).toNat
  if lifeCycle s ≠ 2 then w
  else
    let en := Nat.lor (Nat.land old 0x1F0F) (Nat.land w.toNat 0x1F0F)
    let keep := Nat.land old 0xF * 16
    let pol := Nat.lor (Nat.land old (Nat.land keep 0xF0)) (Nat.land (Nat.land w.toNat 0xF0) (0xF0 - keep))
    w40 (en + pol)

def tmpCfgWrite (w : Word) (s : State) : Out := .next (tmpRefresh (s.wr TMP_CFG (tmpCfgMerge s w)))

/-- The counter is rolled forward with its anchor (R378). -/
def rollForward (s : State) : State :=
  let a := s.get KV_ANCHOR_anchors
  if (fuseState s = 1 ∨ fuseState s = 2) ∧ a < 1024 then
    (s.put KV_ANCHOR_anchors (a + 1)).put KV_UPD_CTR_counter ((a + 1) * 4096)
  else s.put KV_UPD_CTR_counter (a * 4096)

/-- BK is found lost at power-on (R378, R380): the counter is rolled forward, what BK held is gone, and the loss is latched as a
tamper cause. -/
def bkLoss (s : State) (slow : Word) : State :=
  let inBk := fun (a : Nat) =>
    decide (a / 256 = 0x003) || decide (a = RST_CAUSE) || decide (a = TW_GEN) || decide (a = TW_GEN_UID_HI) || decide (a = TW_GEN_UID_LO)
  let s := regsBack (rollForward s) 3 inBk
  let s : State := { s with
    evc := tabFilter (fun k _ => !inBk (k / 64)) s.evc, gnsKeep := [],
    mem := tabFilter (fun x _ => !(decide (0x300000 ≤ x) && decide (x < 0x310000))) s.mem }
  let s := (s.putB RST_CAUSE_bk_lost true).put RST_COUNT_count 1
  raiseSrc (tamperLatch s 11 slow false) 104 none

end Sys2Proof.Machine
end

