-- ==== Sys2Proof/Machine/Att.lean ====
section
/-! DEFINITION. Attestation, ledger recovery as Keeper runs it, the ToD message, and the strokes that House functions offer
for each second (R159 to R163, R237 to R241, R370). -/

namespace Sys2Proof.Machine

/-! ## Attestation -/

/-- The address of record `i` in the ring (R238). -/
def attAddr (s : State) (i : Nat) : Nat := s.get GLZ_ATT_BASE_base + 48 * (i % max 1 (s.get GLZ_ATT_COUNT_count))

/-- A record is written to the ring, whose four bursts it replaces. -/
def attStore (s : State) (i : Nat) (ws : List Word) : State :=
  let a := attAddr s i
  ((List.range 4).foldl (fun s k => s.setBurst (burstOf a + k) false) s).stN a ws

/-- The octets of words, five each. -/
def wordBytes (ws : List Word) : List Nat := ws.flatMap bytesOf

/-- The 20 words that a signature and a sig_state fill (R238). -/
def sigWords (sig : List Nat) (state : Nat) : List Word := packBytes 20 ((sig ++ List.replicate (96 - sig.length) 0) ++ [state, 0, 0, 0])

/-- The body of the record of the ATTEST stroke in slot `i` (R237, R238), with record serial `n`. -/
def attBody (s : State) (i n : Nat) : List Word :=
  let x := s.led i
  let late := decide ((lateReport s x).1 ≠ 0)
  let epoch := match keyInfo s 5 with | some k => k.epoch % 16 | none => 0
  let digest := (s.glz.digest ++ List.replicate 10 0).take 10
  [w40 0x0041545331, w40 (2 ^ 32 + 28 * 2 ^ 16), w40 Config.uidHi.toNat, w40 Config.uidLo.toNat, x.stroke.hi,
   w40 (b2n (twActive s) * 2 ^ 38 + n), if late then T80lo s.now else 0, s.rd GLZ_B,
   w40 ((s.glz.bHist.take 1000).foldl max (s.get GLZ_B_b)), s.rd GLZ_LIN,
   w40 (epoch * 2 ^ 36 + s.get GLZ_STATUS_mode * 2 ^ 5 + b2n late * 2 ^ 4 + b2n (s.on PAL_STATE_time_traceable) * 2 ^ 3
     + s.get PAL_STATE_state),
   w40 (fieldOf (s.rd TB_LEAP) 2 0 * 2 ^ 16 + s.get TB_UTC_OFS_ofs),
   s.rd GLZ_T_REF, s.rd GLZ_T_MEAS, s.rd GLZ_T_PATH, s.rd GLZ_T_HOLD, s.rd GLZ_T_EVT, w40 x.seq] ++ digest

/-- GLZ_STATUS.sign_busy follows the records that await a signature. -/
def attBusy (s : State) : State := s.putB GLZ_STATUS_sign_busy (s.glz.recs.any (fun r => decide (r.sig = 0)))

/-- The digest that the next record carries (R238). -/
def setDigest (s : State) (ws : List Word) : State :=
  { s with glz := { s.glz with digest := packBytes 10 (sha384 (wordBytes ws) ++ [0, 0]) } }

/-- ATTEST_STROKE_EXECUTE (R237 to R239): the values are latched on the tick, and the body reaches the ring unsigned. -/
def execAttestStrokeExecute (i : Fin 65536) (s : State) : Out :=
  if !strokeDue s i 6 then .next s
  else
    verified s i (fun s =>
      if (unitErr s GLZ_CTL).isSome then .next (completeAs s i 5)
      else
        let n := (s.get GLZ_ATT_SERIAL_serial + 1) % 2 ^ 32
        let ws := attBody s i n ++ sigWords [] 0
        let s := (s.put GLZ_ATT_SERIAL_serial n).wr GLZ_ATT_LAST (s.led i).stroke.hi
        let r : AttRec := { serial := n, sec := (s.led i).stroke.hi.toNat, words := ws, sig := 0 }
        let s : State := { s with glz := { s.glz with recs := s.glz.recs ++ [r] } }
        .next (completeNow (attBusy (setDigest (attStore s n ws) ws)) i))

/-- The 28 words of a record that its signature covers (R238). -/
def attHead (r : AttRec) : List Word := (List.range 28).map (fun q => r.words.getD q 0)

/-- A record ends with its sig_state (R239, R240). -/
def attEnd (s : State) (r : AttRec) (sig : List Nat) (state : Nat) : State :=
  let ws := attHead r ++ sigWords sig state
  let s := attStore s r.serial ws
  let s : State := { s with glz := { s.glz with recs := s.glz.recs.filter (fun x => decide (x.serial ≠ r.serial)) } }
  let s := if s.get GLZ_ATT_SERIAL_serial = r.serial then setDigest s ws else s
  let s := attBusy s
  if state = 1 then mbxNotice (s.ev GLZ_EVENTS_att_signed) else s.ev GLZ_EVENTS_att_unsigned

/-- Whether the deadline of a record has passed (R239). -/
def attLate (s : State) (r : AttRec) : Bool := s.reached { sec := r.sec, low := nsU 900000000 }

/-- ATTEST_SIGNED (R239, R240): KOP SIGN of a pending record completes, with sig_state 1, or 2 where the key refuses. -/
def execAttestSigned (serial : BitVec 32) (s : State) : Out :=
  match s.glz.recs.find? (fun r => decide (r.serial = serial.toNat)) with
  | none => .next s
  | some r =>
    if attLate s r then .next s
    else
      let (k, s) := kopRun s 0 true 4 5 (sha384 (wordBytes (attHead r))) []
      .next (if k.code = 0 then attEnd s r k.data 1 else attEnd s r [] 2)

/-- ATTEST_DEADLINE (R239): at S + 900 ms a record still pending is written with sig_state 3. -/
def execAttestDeadline (serial : BitVec 32) (s : State) : Out :=
  match s.glz.recs.find? (fun r => decide (r.serial = serial.toNat)) with
  | none => .next s
  | some r => .next (if attLate s r then attEnd s r [] 3 else s)

/-- The words of the record of second `sec` (R241), none where the ring does not hold it or it still pends. -/
def attRead (s : State) (sec : Nat) : Option (List Word) :=
  let base := s.get GLZ_ATT_BASE_base
  let size := 48 * s.get GLZ_ATT_COUNT_count
  let hits := s.mem.filter (fun e => decide (base ≤ e.1) && decide (e.1 < base + size) && decide ((e.1 - base) % 48 = 4)
    && decide (e.2.toNat = sec) && decide (s.ld (e.1 - 4) = w40 0x0041545331))
  match hits.getLast? with
  | none => none
  | some (a, _) =>
    let ws := s.ldN (a - 4) 48
    if byteOf (ws.getD 47 0) 1 = 0 then none else some ws

/-- After a warm reset Keeper takes up the records still unsigned whose deadline has not passed, ends the others, and the
digest chain goes on from the ring (R240). -/
def attRecover (s : State) : State :=
  let base := s.get GLZ_ATT_BASE_base
  let size := 48 * s.get GLZ_ATT_COUNT_count
  let hits := s.mem.filter (fun e => decide (base ≤ e.1) && decide (e.1 < base + size) && decide ((e.1 - base) % 48 = 0)
    && decide (e.2 = w40 0x0041545331))
  let recs := hits.map (fun e =>
    let ws := s.ldN e.1 48
    ({ serial := fieldOf (ws.getD 5 0) 31 0, sec := (ws.getD 4 0).toNat, words := ws, sig := byteOf (ws.getD 47 0) 1 } : AttRec))
  let last := recs.find? (fun r => decide (r.serial = s.get GLZ_ATT_SERIAL_serial))
  let s := match last with | some r => setDigest s r.words | none => s
  let open_ := recs.filter (fun r => decide (r.sig = 0))
  let s : State := { s with glz := { s.glz with recs := open_ } }
  attBusy (open_.foldl (fun s r => if attLate s r then attEnd s r [] 3 else s) s)

/-- LEDGER_RECOVERY (R159, R570, R240): Keeper's recovery of the ledger, then of the attestation records. -/
def execLedgerRecovery (s : State) : Out :=
  if !s.on SKB_STATUS_recovering then .next s
  else
    let cold := s.skb.cold
    let s := ledgerRecover s
    .next (if cold then s else attRecover s)

/-! ## Strokes that House offers for each second -/

/-- The T80 of a pending leap stroke (R137), none where none is pending. -/
def leapStroke (s : State) : Option T80 :=
  (s.skb.slots.find? (fun e => slotPending e.2 && decide (strokeClass e.2.stroke = 3)
    && decide (fieldOf e.2.stroke.act 35 20 = 0x0410) && decide (fieldOf e.2.stroke.act 19 0 = 1))).map (fun e => strokeAt e.2.stroke)

/-- TAI - UTC at second `sec`, and whether a leap second begins there, as the announced leap stroke will leave it (R138). -/
def utcAt (s : State) (sec : Nat) : Int × Bool :=
  let ofs := signedOf 16 (s.get TB_UTC_OFS_ofs)
  match leapStroke s with
  | none => (ofs, s.on TB_STATUS_in_leap && decide (sec < s.tb.leapEnd.sec))
  | some t =>
    if sec < t.sec then (ofs, false)
    else if s.on TB_LEAP_leap61 then (ofs + 1, decide (sec = t.sec))
    else if s.on TB_LEAP_leap59 then (ofs - 1, false)
    else (ofs, false)

/-- Whether a pending forward step withholds a PIN stroke at `t` (R134). -/
def withheld (s : State) (t : T80) : Bool :=
  s.skb.slots.any (fun e =>
    let k := e.2.stroke
    slotPending e.2 && decide (strokeClass k = 3) && decide (fieldOf k.act 35 28 = 0x04)
      && decide (fieldOf k.act 27 20 = TB_STEP_US % 256 ∨ fieldOf k.act 27 20 = TB_STEP_S % 256)
      && (let d := stepNs (if fieldOf k.act 27 20 = TB_STEP_US % 256 then 0 else 1) (signedOf 20 (fieldOf k.act 19 0))
          decide (0 < d) && t80Lt (strokeAt k) t && t80Le t (t80Add (strokeAt k) (d * 1024))))

/-- The action word of a pulse of `us` microseconds, high or low, on an output (R141): a whole number of ms is given in ms, as
R141's example does. -/
def pulseWord (out us : Nat) (low : Bool) : Word :=
  w40 (2 ^ 36 + out * 2 ^ 30 + (2 + b2n low) * 2 ^ 28 + (if us % 1000 = 0 then 2 * 2 ^ 26 + us / 1000 else 2 ^ 26 + us))

/-- A stroke that a House function offers for `asker`; its tag is not stated (log 1). -/
def houseOfferFor (asker : Asker) (s : State) (t : T80) (act : Word) : State :=
  let (tag, s) := s.freeBelow 256
  tryOffer s (newOffer (some 0) asker true (T80hi t) (T80lo t) act tag)

/-- A stroke that a House function offers. -/
def houseOffer (s : State) (t : T80) (act : Word) : State := houseOfferFor .nobody s t act

/-- The action word of a register-write stroke to a TB register (R141). -/
def tbWriteWord (a : Nat) (v : Int) : Word := w40 (3 * 2 ^ 36 + 0x04 * 2 ^ 28 + a % 256 * 2 ^ 20 + (v % 2 ^ 20).toNat)

/-- The House Palette control offers the step strokes that are wanted, for whole second `sec`: TB_STEP_S for the whole seconds and TB_STEP_US
for the rest within its range (R134, R190, R191; log 163). A step that was refused or not made gives way to PAL_CMD op 3. -/
def offerStep (s : State) (sec : Nat) : State :=
  let s := if s.pal.stepMissed then houseDo { s with pal := { s.pal with stepMissed := false } } palSlew else s
  match s.pal.stepUs with
  | none => s
  | some us =>
    let s := { s with pal := { s.pal with stepUs := none } }
    let t : T80 := { sec := sec, low := 0 }
    let secs := if us.natAbs ≤ 500000 then 0 else (us + 500000) / 1000000
    let rest := us - secs * 1000000
    if us = 0 then houseDo s palSlew
    else
      let s := if secs = 0 then s else houseOfferFor .step s t (tbWriteWord TB_STEP_S secs)
      if rest = 0 then s else houseOfferFor .step s t (tbWriteWord TB_STEP_US rest)

/-- Year and day of the year of a count of days since 1970-01-01. -/
def yearDay (days : Nat) : Nat × Nat :=
  let z := days + 719468
  let era := z / 146097
  let doe := z % 146097
  let yoe := (doe - doe / 1460 + doe / 36524 - doe / 146096) / 365
  let doy := doe - (365 * yoe + yoe / 4 - yoe / 100)
  let y := yoe + era * 400
  if 306 ≤ doy then (y + 1, doy - 305)
  else (y, doy + 60 + b2n ((decide (y % 4 = 0) && decide (y % 100 ≠ 0)) || decide (y % 400 = 0)))

/-- Element `e` of the IRIG-B frame of a UTC second (R162; the frame layout is IRIG Standard 200's, log 9): 2 a position
marker, else the bit. -/
def irigElement (code : Nat) (utc : Nat) (leap : Bool) (e : Nat) : Nat :=
  let sod := utc % 86400
  let (year, day) := yearDay (utc / 86400)
  let sec := sod % 60 + b2n leap
  let min := sod / 60 % 60
  let hour := sod / 3600
  let withYear := decide (4 ≤ code)
  let withSbs := decide (code = 0 ∨ code = 3 ∨ code = 4 ∨ code = 7)
  let bcd := fun (x lo : Nat) => if lo ≤ e ∧ e < lo + 4 then some ((x % 10).testBit (e - lo))
    else if lo + 5 ≤ e ∧ e < lo + 9 then some ((x / 10 % 10).testBit (e - lo - 5)) else none
  if e = 0 ∨ e % 10 = 9 then 2
  else
    let b := if 1 ≤ e ∧ e < 9 then (if e < 5 then (sec % 10).testBit (e - 1) else if 6 ≤ e then (sec / 10).testBit (e - 6) else false)
      else if e < 20 then (bcd min 10).getD false
      else if e < 30 then (bcd hour 20).getD false
      else if e < 40 then (bcd day 30).getD false
      else if e < 42 then (day / 100).testBit (e - 40)
      else if 50 ≤ e ∧ e < 60 ∧ withYear then (bcd (year % 100) 50).getD false
      else if 80 ≤ e ∧ e < 89 ∧ withSbs then sod.testBit (e - 80)
      else if 90 ≤ e ∧ e < 98 ∧ withSbs then sod.testBit (e - 90 + 9)
      else false
    b2n b

/-- The IRIG-B strokes of the frame of second `sec` (R161, R162). -/
def offerIrig (s : State) (sec : Nat) : State :=
  if optField s 8 5 5 0 = 1 then s
  else
    let out := optField s 8 4 0 17
    let code := optField s 8 8 6 4
    let (ofs, leap) := utcAt s sec
    let utc := ((sec : Int) - ofs).toNat
    (List.range 100).foldl (fun s e =>
      let t : T80 := { sec := sec, low := nsU (e * 10000000) }
      let x := irigElement code utc leap e
      if withheld s t then s else houseOffer s t (pulseWord out (if x = 2 then 8000 else if x = 1 then 5000 else 2000) false)) s

/-- The PPS stroke of second `sec` (R161). -/
def offerPps (s : State) (sec : Nat) : State :=
  let t : T80 := { sec := sec, low := 0 }
  match ppsOut s with
  | none => s
  | some out =>
    if withheld s t then s
    else houseOffer s t (pulseWord out (optField s 7 25 8 100000) (decide (optField s 7 6 6 0 = 1)))

/-- At each second of an active or standalone device whose House set serves, the strokes of the next second are offered: the
step that the Palette wants (R190, R191), the PPS and the IRIG-B frame by the ToD function (R161), the ATTEST stroke by the attestation function (R237), and a roll that is
due next (R370). -/
def houseSecond (s : State) : State :=
  if !s.house.bringUpDone ∨ twStandby s ∨ s.fix.fatal ∨ !s.on TB_STATUS_time_valid then s
  else
    let sec := s.now.sec + 1
    let s := if houseRuns s 0 then offerStep s sec else s
    let s := if houseRuns s 11 then offerIrig (offerPps s sec) sec else s
    let s := houseOffer s { sec := sec, low := 0 } (w40 (6 * 2 ^ 36))
    let t := s.getT KV_NTS_NEXT_HI KV_NTS_NEXT_LO
    if (unitErr s KV_CTL).isNone ∧ t.sec ≤ sec + 1 then offerRoll s else s

/-- TOD_MESSAGE (R163): 1 ms after a PPS edge, within 0.1 ms, the UART gives the time of that edge, its UTC offset and leap flags, once. A PPS
that lapsed, or a replaced ToD function, sends none. The line runs with 8 data bits, no parity and 1 stop bit at the baud rate of the option
record (R567). -/
def execTodMessage (s : State) : Out :=
  match ppsOut s with
  | none => .next s
  | some out =>
    let edge := s.skb.slots.any (fun e => decide (strokeClass e.2.stroke = 1) && decide (strokePin e.2.stroke = out)
      && isPulse e.2.stroke && decide (strokeAt e.2.stroke = ⟨s.now.sec, 0⟩)
      && (e.2.leadDone || decide (e.2.state = 3)))
    let sent : Bool := match s.tod with | none => false | some m => decide (m.edge = s.now.sec)
    if !houseRuns s 11 ∨ !edge ∨ sent ∨ s.tb.ns < 900000 ∨ 1100000 < s.tb.ns then .next s
    else
      let ofs := signedOf 16 (s.get TB_UTC_OFS_ofs)
      .next { s with tod := some { edge := s.now.sec, utc := (s.now.sec : Int) - ofs, offset := ofs,
                                   leapSecond := s.on TB_STATUS_in_leap, leap61 := s.on TB_LEAP_leap61,
                                   leap59 := s.on TB_LEAP_leap59, baud := if optField s 3 5 5 0 = 1 then 115200 else 9600 } }

end Sys2Proof.Machine
end

