-- ==== Sys2Proof/Machine/Fifo.lean ====
section
/-! DEFINITION. The FIFO ports and their configuration (R494 to R502, R505). -/

namespace Sys2Proof.Machine

/-- The address of a FIFO port's word (R495). -/
def portAddr (n off : Nat) : Nat := 0x00500000 + n * 0x100 + off

/-- Whether a write must stand behind one that waits: of its master at its FIFO, or of its core at any FIFO port, since a core's
accesses to one target are performed in program order (R71; log 152). -/
def fifoBehind (s : State) (n m : Nat) (core : Option Nat) : Bool :=
  s.fifoWait.any (fun e => (decide (e.fifo = n) && decide (e.master = m)) || (core.isSome && decide (e.core = core)))

/-- The writes waiting on FIFOs are taken in order as far as their FIFOs take them now (R497, R499). -/
def fifoDrainList (s : State) : List FifoWrite → State
  | [] => s
  | x :: t =>
    if !(s.fifo x.fifo).en then fifoDrainList s t
    else if fifoTakes s x.fifo x.master x.frame ∧ !fifoBehind s x.fifo x.master x.core then
      fifoDrainList (s.setFifo x.fifo (fifoPut (s.fifo x.fifo) x.master x.frame x.word)) t
    else fifoDrainList { s with fifoWait := s.fifoWait ++ [x] } t

/-- Waiting writes are looked at again; a FIFO that has been disabled ignores them (R502). -/
def fifoDrain (s : State) : State :=
  match s.fifoWait with
  | [] => s
  | ws => fifoDrainList { s with fifoWait := [] } ws

/-- A write of one word with framing `fr` by a master, from the store buffer of `core` where it is a core's store (R495 to R499). A full
FIFO makes the write wait, but a PCIe write is discarded, and abandons the packet it stands in. -/
def fifoWriteBy (core : Option Nat) (n m fr : Nat) (w : Word) (s : State) : Out :=
  let q := s.fifo n
  let mine := match q.owner with | none => true | some o => decide (o = m)
  let wait : State := { s with fifoWait := s.fifoWait ++ [{ fifo := n, master := m, frame := fr, word := w, core := core }] }
  if !q.en then .next s
  else if !mine ∨ fifoBehind s n m core then .next wait
  else if !fifoFramed q fr then .fault .unpredictable
  else if fifoTakes s n m fr then .next (fifoDrain (s.setFifo n (fifoPut q m fr w)))
  else if m = 20 then
    let s := (s.setFifo n { q with nHostDrop := (q.nHostDrop + 1) % 2 ^ 32 }).ev FIFO_EVENTS_host_drop
    .next (if q.owner = some 20 then fifoDrain (fifoAbandon s n) else s)
  else .next wait

/-- A write of one word by a master that is no core. -/
def fifoWrite (n m fr : Nat) (w : Word) (s : State) : Out := fifoWriteBy none n m fr w s

/-- A read of DATA (R498): the word popped, or none from an empty or disabled FIFO. Descriptors too old for their ring go
first (R326), and a line port's records that waited for room follow. -/
def fifoRead (n : Nat) (s : State) : Option Word × State :=
  let s := ringFresh s n
  let q := s.fifo n
  if !q.en then (none, s)
  else
    let (w, q) := fifoPop q
    let s := s.setFifo n q
    let s := [0, 1, 2, 3].foldl (fun s p =>
      if s.get (BRGg_AUX_FIFO_txdone p) = n then doneFlush p (s.port p).done s else s) s
    (w, fifoDrain s)

/-- A WASH (R95, R500). -/
def fifoWashAt (n : Nat) (s : State) : State := fifoDrain (s.setFifo n (fifoWash (s.fifo n)))

/-- LEVEL (R495): words readable now, and closed packets in [39:20]. -/
def fifoLevel (s : State) (n : Nat) : Word :=
  let q := s.fifo n
  if !q.en then 0
  else w40 (((q.closed.map List.length).sum) + (if q.packet then q.closed.length else 0) * 2 ^ 20)

/-- A command at a FIFO port: the error response of the FIFO unit, or its effect. -/
def atPort (m : Master) (n off : Nat) (write : Bool) (f : State → Out) (s : State) : Out :=
  match unitErr s FIFO_IDX with
  | some k => .next (mtxErr s m k (portAddr n off) write)
  | none => f (startClock s FIFO_IDX)

/-- FIFO_DATA_WRITE (R495). -/
def execFifoDataWrite (m : Master) (n : Fin 256) (w : Word) (s : State) : Out := atPort m n 0 true (fifoWrite n m.id.val 0 w) s

/-- FIFO_FIRST_WRITE (R496). -/
def execFifoFirstWrite (m : Master) (n : Fin 256) (w : Word) (s : State) : Out := atPort m n 1 true (fifoWrite n m.id.val 1 w) s

/-- FIFO_LAST_WRITE (R496). -/
def execFifoLastWrite (m : Master) (n : Fin 256) (w : Word) (s : State) : Out := atPort m n 2 true (fifoWrite n m.id.val 2 w) s

/-- FIFO_ONLY_WRITE (R496). -/
def execFifoOnlyWrite (m : Master) (n : Fin 256) (w : Word) (s : State) : Out := atPort m n 3 true (fifoWrite n m.id.val 3 w) s

/-- The slot that a host read of DATA returns (R498). -/
def dataSlot (w : Option Word) : BitVec 64 :=
  match w with | none => BitVec.ofNat 64 (2 ^ 63) | some w => w.setWidth 64

/-- FIFO_DATA_READ (R498): the host sees what it read; another master's word goes to that master's own command. -/
def execFifoDataRead (m : Master) (n : Fin 256) (s : State) : Out :=
  atPort m n 0 false (fun s =>
    let (w, s) := fifoRead n s
    .next (if m.id.val = 20 then { s with host := { s.host with data := [dataSlot w], abort := false } } else s)) s

/-- FIFO_WASH_WRITE (R500). -/
def execFifoWashWrite (m : Master) (n : Fin 256) (_w : Word) (s : State) : Out :=
  atPort m n 4 true (fun s => .next (fifoWashAt n s)) s

/-- FIFO_CUT_REACHED (R500): with no packet open, the write side stands at a cut point that is pending. The close of a packet
and its abandonment perform the cut themselves, so this finds one only where they have not. -/
def execFifoCutReached (n : Fin 256) (s : State) : Out :=
  let q := s.fifo n
  .next (if q.cut ∧ q.owner.isNone then s.setFifo n (fifoCut q) else s)

/-- FIFO_CFG as the selected FIFO shows it (R505). -/
def fifoCfgWord (q : Fifo) : Word := w40 (q.base * 2 ^ 6 + q.depthLog * 4 + b2n q.packet * 2 + b2n q.en)

/-- Whether two stretches of the FIFO store overlap (R494). -/
def fifoOverlap (a b : Fifo) : Bool := decide (a.base < b.base + fifoDepth b) && decide (b.base < a.base + fifoDepth a)

/-- The effect of a FIFO_CFG write (R494, R502). An overlap of enabled FIFOs and a base that is no multiple of the depth break
the unit's documented sequencing. -/
def fifoCfgWrite (w : Word) (s : State) : Out :=
  let n := s.get FIFO_IDX_fifo
  let q := s.fifo n
  let new : Fifo := { q with base := fieldOf w 21 6, depthLog := fieldOf w 5 2, packet := bitAt w 1, en := bitAt w 0 }
  let onlyEn := !bitAt w 0 && decide (putField w 0 0 1 = fifoCfgWord q)
  if q.en ∧ 0 < fifoUsed q ∧ !onlyEn then .next (s.ev FIFO_EVENTS_cfg_ignored)
  else if new.en ∧ (new.base % fifoDepth new ≠ 0 ∨ 65536 < new.base + fifoDepth new
      ∨ s.fifos.any (fun e => decide (e.1 ≠ n) && e.2.en && fifoOverlap e.2 new)) then .fault .unpredictable
  else if new.en then .next (s.setFifo n new)
  else
    let s := fifoAbandon s n
    let q := s.fifo n
    .next (fifoDrain (s.setFifo n { q with
      base := new.base, depthLog := new.depthLog, packet := new.packet, en := false, closed := [], begun := false, cut := false }))

/-- FIFO_CFG_WRITE (R494). -/
def execFifoCfgWrite (m : Master) (w : Word) (s : State) : Out := writeReg m FIFO_CFG w (fifoCfgWrite w) s

/-- The registers of the FIFO block that show the selected FIFO (R505); none for another. -/
def fifoLive (s : State) (a : Nat) : Option Word :=
  let q := s.fifo (s.get FIFO_IDX_fifo)
  if a = FIFO_CFG then some (fifoCfgWord q)
  else if a = FIFO_STATUS then
    some (w40 ((match q.owner with | some o => o * 2 ^ 32 + 2 ^ 31 | none => 0) + b2n q.cut * 2 ^ 30 + fifoUsed q * 2 ^ 15
      + (if q.packet then q.closed.length else 0)))
  else if a = FIFO_CNT_WASH then some (w40 q.nWash)
  else if a = FIFO_CNT_ABANDON then some (w40 q.nAbandon)
  else if a = FIFO_CNT_HOST_DROP then some (w40 q.nHostDrop)
  else none

end Sys2Proof.Machine
end

