-- ==== Sys2Proof/Machine/Ticks.lean ====
section
/-! DEFINITION. The two periodic ticks: the timebase tick and the Palette tick (R126, R168). -/

namespace Sys2Proof.Machine

/-- CKG_OSC_OFS follows UND_FLY once a second while ATOM_IN is good (R478). -/
def oscOffset (s : State) : State := if s.on CKG_STATUS_atom_ok then s.wr CKG_OSC_OFS (s.rd UND_FLY) else s

/-- TIMEBASE_TICK (R126, R132, R223): the counter advances by the steered increment with its slew, the PLLs follow, the effects
due on the tick are performed, House offers the strokes of the next second at each second, the Tally
reads and counts, writes and offers that wait are taken up, and a raised bound is published. -/
def execTimebaseTick (s : State) : Out :=
  if s.tb.counting then
    let sec := s.tb.sec
    let s := tbCount { s with skb := { s.skb with tickPins := [] } }
    let s := if s.tb.sec ≠ sec then houseSecond (oscOffset (secondTick s)) else s
    let s := (List.range 20).foldl outTick ((List.range 4).foldl varTick (ownTick s))
    .next (glzRefresh (settleWaiters (runDue (tallyTick (fifoDrain s)))))
  else .next s

/-- PALETTE_TICK (R168, R184, R198, R222, R442): `sensor` is the on-die temperature reading in units of 0.01 K (R210). -/
def execPaletteTick (sensor : BitVec 17) (s : State) : Out :=
  if palDue s then .next (twTick (palTick sensor s)) else .next s

end Sys2Proof.Machine
end

