-- ==== Sys2Proof/Machine/Bus.lean ====
section
/-! DEFINITION. The bus: every register's read and write effect under its address, and every access by word address, with the
response its master gets (R12, R14, R25, R92, R104, R164, R479 to R484, R493, R498, R525). -/

namespace Sys2Proof.Machine

/-- The response to one word access: performed, an error of a kind of R504, or an error that the test unit injects, which has no
kind (R525). -/
inductive Resp where
  | ok
  | err (kind : Nat)
  | injected
deriving DecidableEq, Repr

/-- The kind of an error response, where it has one. -/
def Resp.kind? : Resp → Option Nat
  | .err k => some k
  | _ => none

/-- An error response to a master is recorded, but for an injected one (R493, R525). -/
def noteResp (m : Master) (r : Resp) (addr : Nat) (write : Bool) (s : State) : State :=
  match r with | .err k => mtxErr s m k addr write | _ => s

/-! ## HI and LO pairs -/

/-- The HI registers whose read latches the LO register that follows (R164 and the tables that say so). -/
def hiRegs : List Nat :=
  [TB_TIME_HI, BRGg_TIME_HI 0, BRGg_TIME_HI 1, BRGg_TIME_HI 2, BRGg_TIME_HI 3, TB_STEP_T_HI, SKB_T_RESUME_HI,
   PAL_LAST_SW_T_HI, UND_M_T0_HI, UND_HOLD_T_HI, KV_NTS_NEXT_HI, TMP_TIME_HI, TW_T_STOP_HI, FIX_FIRST_T_HI]
    ++ (List.range 16).map (fun n => TDCn_LAST_HI n)

/-- Whether a HI register shows the counter itself (R164, R356). -/
def hiLive (a : Nat) : Bool := decide (a = TB_TIME_HI) || (List.range 4).any (fun g => decide (a = BRGg_TIME_HI g))

/-- A read of a HI register latches its LO word of the same tick (R164). -/
def hiLatch (a : Nat) (s : State) : State :=
  if hiLive a then (s.wr a (T80hi s.now)).wr (a + 1) (T80lo s.now)
  else s.wr (a + 1) (s.lo (a + 1))

/-! ## Register reads -/

/-- KV_H_INFO (R384). -/
def handleInfo (s : State) : Word :=
  let h := s.get KV_H_IDX_handle
  match keyInfo s h with
  | none => 0
  | some i => w40 (i.epoch % 2 ^ 32 * 2 ^ 8 + 2 ^ 7 + b2n (s.kv.cache.contains h) * 2 ^ 6 + i.perm % 8 * 2 ^ 3 + i.kind % 8)

/-- The Brush engine of an offset of a group's block, as a core position, none for the group registers (R356). -/
def blockCore (a : Nat) : Option Nat :=
  let u := a / 256
  let off := a % 256
  if 0x064 ≤ u ∧ u ≤ 0x073 ∧ off < 0x10 then some (u - 0x064)
  else if 0x088 ≤ u ∧ u ≤ 0x08B ∧ off < 0x80 then some (16 + 8 * (u - 0x088) + off / 16)
  else none

/-- What a register shows where the state holds it elsewhere than under its address; the second part is the state after values
that are open have been drawn. -/
def regLive (s : State) (a : Nat) : Word × State :=
  let u := a / 256
  match blockCore a with
  | some k =>
    (if a = coreBlock k then coreCtlWord s k else if a = coreBlock k + 0x0D then w40 (corePending s k) else s.rd a, s)
  | none =>
    if a = TB_SLEW_REM then (slewRem s, s)
    else if a = TB_STATUS then (putField (s.rd a) 1 1 (b2n (decide (s.tb.rem ≠ 0))), s)
    else if a = TB_RESET_T_LO then (s.lo a, s)
    else if a = SKB_STATUS then
      let p := pendingCount s
      (w40 (b2n (s.on SKB_CTL_accept_en && s.on TB_STATUS_time_valid) * 2 ^ 29 + s.get SKB_STATUS_recovering * 2 ^ 28
        + min 1024 p * 2 ^ 17 + p), s)
    else if a = SKB_REPORTS then (w40 (reportedCount s), s)
    else if a = GNS_BANK_LIST then (tabGet (fun _ => (0 : Word)) s.gns.list (s.get GNS_BANK_LIST_IDX_idx), s)
    else if a = GNS_BANK_AID then (tabGet (fun _ => (0 : Word)) s.gns.aid (s.get GNS_BANK_LIST_IDX_idx), s)
    else if a = GNS_CH_CTL then (s.pairCtl (s.get GNS_CH_IDX_pair), s)
    else if a = GNS_CH_AID then (tabGet (fun _ => (0 : Word)) s.gns.chAid (s.get GNS_CH_IDX_pair), s)
    else if a = GNS_CH_STATUS then (s.pairStat (s.get GNS_CH_IDX_pair), s)
    else if a = GNS_KEEP_DATA then (keepWord s, s)
    else if a = KV_H_INFO then (handleInfo s, s)
    else if a = ATL_RT_DATA then (tabGet (fun _ => (0 : Word)) s.atl.routes (s.get ATL_RT_IDX_addr), s)
    else if a = TDCn_CDT_DATA 0 then (tdcTable s 0, s)
    else if a = TDCn_CDT_DATA 1 then (tdcTable s 1, s)
    else if 0x098 ≤ u ∧ u ≤ 0x09F ∧ a % 256 = 0 then (putField (s.rd a) 1 1 (b2n (s.on (UNIT_STATUS_fenced u))), s)
    else if a = MEM_STATUS then (putField (s.rd a) 2 2 (b2n (s.on MEM_STATUS_scrubbing && s.on MEM_SCRUB_en)), s)
    else if a = FIX_SRC then (fixSrcWord s, s)
    else if a = TLY_BUF_DATA then (tlyWord s, s)
    else if a = TLY_SLOT_DATA then tlySlotRead s
    else if u = 0x0F1 ∧ a % 256 < 0xF0 then
      (if tstOpen s then (if a = TST_CTL then putField (s.rd a) 4 4 1 else s.rd a) else 0, s)
    else if a % 256 = 0xF3 then (evcWord s u, s)
    else match fifoLive s a with
      | some w => (w, s)
      | none => (readFields (regFields a) (s.rd a), s)

/-- What a read of a register leaves behind (R12, R164, R306, R355, R515, R542). -/
def regTouched (s : State) (a : Nat) : State :=
  if a = GNS_KEEP_DATA then keepNext s
  else if a = TLY_BUF_DATA then tlyBufRead s
  else if a % 256 = 0xF3 then evcRead (a / 256) s
  else if (regFields a).any (fun f => decide (f.ty = .rc)) then s.wr a (afterRead (regFields a) (s.rd a))
  else s

/-- What a read must do before its value stands: a HI read latches, a read of LPp_TSQ_ID pops the stamp queue. -/
def regPrepare (s : State) (a : Nat) : State :=
  if hiRegs.contains a then hiLatch a s
  else match (List.range 4).find? (fun p => decide (a = LPp_TSQ_ID p)) with
    | some p => tsqPop p s
    | none => s

/-- A read of the register at `a` by a master: its response and its value (0 with an error). -/
def regRead (m : Master) (a : Nat) (s : State) : (Resp × Word) × State :=
  match regErr s m a false with
  | some k => ((.err k, 0), if k = 1 ∨ k = 2 then tally s (a / 256) 0x05 else s)
  | none =>
    let (inj, s) := injectErr s (a / 256)
    if inj then ((.injected, 0), s)
    else
      let s := regPrepare (tally (startClock s a) (a / 256) 0x03) a
      let (w, s) := regLive s a
      ((.ok, w), regTouched s a)

/-! ## Register writes -/

/-- A doorbell (R119): ignored while busy; else the command slots are copied and the command runs. -/
def doorbellWrite (w : Word) (s : State) : Out :=
  if s.on MBX_STATUS_busy then .next (s.inc MBX_DROPPED_dropped)
  else
    let slots := (List.range 64).map (fun i => tabGet (fun _ => (0 : BitVec 64)) s.mbx.win i)
    let s : State := { s with mbx := { s.mbx with resp := [], cmd := slots, started := false } }
    let s := (s.wr MBX_DOORBELL w).put MBX_STATUS_resp_valid 0
    .next (coreEvent (s.putB MBX_STATUS_busy true) 0 24)

/-- The effect of a LCY_JTAG write: ext_en is set only in MAINTENANCE (R523). -/
def jtagWrite (w : Word) (s : State) : Out :=
  .next (s.putB LCY_JTAG_ext_en (bitAt w 0 && (s.on LCY_JTAG_ext_en || decide (s.get MBX_STATUS_state = 3))))

/-- The effect of a write of a test register: ignored where the test unit is closed (R525). -/
def tstWrite (a : Nat) (w : Word) (s : State) : Out :=
  if tstOpen s ∧ a = TST_BP ∧ fieldOf w 31 16 < fieldOf w 15 0 then .fault .reservedValue
  else if tstOpen s then
    .next (if a = TST_SEED then { (plainWrite s a w) with lcy := { s.lcy with lfsr := w } } else plainWrite s a w)
  else .next s

/-- The effect of a UND_CMD write (R209, R216). -/
def undCmdWrite (w : Word) (s : State) : Out :=
  if w = 1 then .next (learnRestart s)
  else if w = 2 then .next { s with und := { s.und with recompute := true } }
  else .next s

/-- The effect of a write of a core's control register (R110). -/
def blockWrite (k a : Nat) (w : Word) (s : State) : Out :=
  if a = coreBlock k then coreRunWrite k w s
  else if a = coreBlock k + 0x0C then coreSevWrite k w s
  else .next (plainWrite s a w)

/-- The effect of a Palette register's write. -/
def palWrite (a : Nat) (w : Word) (s : State) : Out :=
  let off := a % 256
  if a = PAL_CTL ∨ a = PAL_FORCE then palHeldWrite a w s
  else if a = PAL_CMD then palCmdWrite w s
  else if 0x20 ≤ off ∧ off < 0x80 then
    (if off % 4 = 1 then advWrite ((off - 0x20) / 4) w s else palHeldWrite a w s)
  else if 0xE0 ≤ off ∧ off ≤ 0xEE then sampleWrite (off - 0xE0 + 9) w s
  else .next (plainWrite s a w)

/-- The effect of a Glaze register's write. -/
def glzWrite (a : Nat) (w : Word) (s : State) : Out :=
  let off := a % 256
  if a = GLZ_CTL then glzCtlWrite w s
  else if a = GLZ_NTP_EF then ntpEfWrite w s
  else if 0x18 ≤ off ∧ off < 0x20 then evtWrite (off - 0x18) w s
  else if 0x78 ≤ off ∧ off < 0x90 then calWrite (off - 0x78) w s
  else if 0x90 ≤ off ∧ off < 0xC0 ∧ off % 2 = 1 then upLoWrite ((off - 0x90) / 2) w s
  else .next (plainWrite s a w)

/-- The effect of a Varnish register's write. -/
def varWrite (n a : Nat) (w : Word) (s : State) : Out :=
  if a = VARn_CTL n then varCtlWrite n w s
  else if a = VARn_CMD n then varCmdWrite n w s
  else if a = VARn_PHASE n then varPhaseWrite n w s
  else if a = VARn_LOCK n then .next (houseFollow (plainWrite s a w) (clusterOuts n))
  else .next (plainWrite s a w)

/-- The effect of a write of a GNSS register. -/
def gnsWrite (a : Nat) (w : Word) (s : State) : Out :=
  if a = GNS_CTL then gnsCtlWrite w s
  else if a = GNS_CH_CTL then chCtlWrite w s
  else if a = GNS_CH_AID then chAidWrite w s
  else if a = GNS_BANK_LIST then bankWrite false w s
  else if a = GNS_BANK_AID then bankWrite true w s
  else if a = GNS_KEEP_DATA then keepWrite w s
  else .next (plainWrite s a w)

/-- The effect of a write of a span port's register. -/
def spanWrite (p a : Nat) (w : Word) (s : State) : Out :=
  if a = SPp_CFG p ∨ a = SPp_TX_OFS p ∨ a = SPp_RX_OFS p then spCfgWrite p a w s
  else if a = SPp_LAMBDA_TX p ∨ a = SPp_LAMBDA_RX p ∨ a = SPp_FIBRE p ∨ a = SPp_NG p ∨ a = SPp_XC p then spParamWrite p a w s
  else .next (plainWrite s a w)

/-- The effect of a write of a timebase register. -/
def tbWrite (m : Master) (a : Nat) (w : Word) (s : State) : Out :=
  if a = TB_STEER then steerWrite w s
  else if a = TB_SLEW_ADD then .next (slewAdd s (sgn w))
  else if a = TB_LOAD_LO then loadLoWrite w s
  else if a = TB_STEP_US ∨ a = TB_STEP_S ∨ a = TB_LEAP_EXEC then directStepWrite m a s
  else .next (plainWrite s a w)

/-- The effect of a write of an Underpainting register. -/
def undWrite (a : Nat) (w : Word) (s : State) : Out :=
  let off := a % 256
  if a = UND_CTL then undCtlWrite w s
  else if (0x10 ≤ off ∧ off ≤ 0x15) ∨ (0x1B ≤ off ∧ off ≤ 0x1F) then modelWrite a w s
  else if a = UND_TEMP_EXT then tempExtWrite w s
  else if a = UND_CMD then undCmdWrite w s
  else .next (plainWrite s a w)

/-- The effect of a write of a channel register. -/
def tdcWrite (n a : Nat) (w : Word) (s : State) : Out :=
  let off := a % 256
  if off < 7 ∧ off ≠ 5 then tdcCfgWrite n off w s
  else if off = 7 ∧ n ≤ 1 then calNowWrite n w s
  else .next (plainWrite s a w)

/-- The effect of a performed write of the register at `a`: the unit's own where it has one, else that of the field types. -/
def regEffect (m : Master) (a : Nat) (w : Word) (s : State) : Out :=
  let u := a / 256
  if 0xF0 ≤ a % 256 then (if a % 256 = 0xFD then unitForceWrite m u w s else .next (plainWrite s a w))
  else match blockCore a with
  | some k => blockWrite k a w s
  | none =>
    if a = RST_LOCAL then rstLocalWrite m w s
    else if a = PWR_REQ then pwrReqWrite w s
    else if a = TMP_CFG then tmpCfgWrite w s
    else if u = 0x004 then tbWrite m a w s
    else if a = LCY_JTAG then jtagWrite w s
    else if u = 0x010 then palWrite a w s
    else if u = 0x011 then undWrite a w s
    else if u = 0x012 then glzWrite a w s
    else if 0x018 ≤ u ∧ u ≤ 0x01F ∧ a % 256 < 2 then refinWrite (u - 0x018) a w s
    else if 0x020 ≤ u ∧ u ≤ 0x023 then varWrite (u - 0x020) a w s
    else if 0x028 ≤ u ∧ u ≤ 0x03B then
      (if a = OUTk_CFG (u - 0x028) then outCfgWrite (u - 0x028) w s
       else if a = OUTk_DIV (u - 0x028) then outDivWrite (u - 0x028) w s
       else .next (plainWrite s a w))
    else if 0x040 ≤ u ∧ u ≤ 0x04F then tdcWrite (u - 0x040) a w s
    else if u = 0x050 then gnsWrite a w s
    else if 0x051 ≤ u ∧ u ≤ 0x054 then gstWrite (u - 0x051) a w s
    else if a = MBX_DOORBELL then doorbellWrite w s
    else if 0x080 ≤ u ∧ u ≤ 0x083 ∧ (a % 256 = 0 ∨ a % 256 = 2 ∨ a % 256 = 3 ∨ a % 256 = 8) then lpCfgWrite (u - 0x080) a w s
    else if a = STZ_CTL then stzCtlWrite w s
    else if a = STZ_CMD then stzCmdWrite w s
    else if a = KV_CTL then kvCtlWrite w s
    else if a = KV_CMD then kvCmdWrite w s
    else if 0x0D0 ≤ u ∧ u ≤ 0x0D3 then spanWrite (u - 0x0D0) a w s
    else if a = ATL_RT_DATA then rtDataWrite w s
    else if a = STB_CFG then stbCfgWrite w s
    else if a = TW_CFG then twCfgWrite w s
    else if a = TW_CMD then twCmdWrite w s
    else if a = FIFO_CFG then fifoCfgWrite w s
    else if a = FIX_FORCE then fixForceWrite m w s
    else if a = FIX_RAISE then fixRaiseWrite w s
    else if u = 0x0F1 then tstWrite a w s
    else if a = TLY_CTL then tlyCtlWrite w s
    else .next (plainWrite s a w)

/-- A write of the register at `a` by a master: its response, and the outcome without the matrix's record. -/
def regWrite (m : Master) (a : Nat) (w : Word) (s : State) : Resp × Out :=
  match regErr s m a true with
  | some k => (.err k, .next (if k = 1 ∨ k = 2 then tally s (a / 256) 0x05 else s))
  | none =>
    if !reservedBitsZero (regFields a) w then (.ok, .fault .unpredictable)
    else if !legalValues (regFields a) w then (.ok, .fault .reservedValue)
    else
      let (inj, s) := injectErr s (a / 256)
      if inj then (.injected, .next s)
      else (.ok, regEffect m a w (tally (startClock s a) (a / 256) 0x04))

/-! ## Accesses by word address -/

/-- A read of a FIFO port (R495, R498): the word, and whether DATA had one. -/
def portRead (a : Nat) (s : State) : (Resp × Option Word) × State :=
  let n := (a - 0x500000) / 256
  let off := a % 256
  match unitErr s FIFO_IDX with
  | some k => ((.err k, some 0), s)
  | none =>
    let s := startClock s FIFO_IDX
    if off = 0 then let r := fifoRead n s; ((.ok, r.1), r.2)
    else if off = 5 then ((.ok, some (fifoLevel s n)), s)
    else ((.ok, some 0), s)

/-- A write of a FIFO port (R495), from the store buffer of `core` where it is a core's store (R71, R75): a reserved offset takes only zeros (R12). -/
def portWrite (core : Option Nat) (m : Master) (a : Nat) (w : Word) (s : State) : Resp × Out :=
  let n := (a - 0x500000) / 256
  let off := a % 256
  match unitErr s FIFO_IDX with
  | some k => (.err k, .next s)
  | none =>
    let s := startClock s FIFO_IDX
    if off ≤ 3 then (.ok, fifoWriteBy core n m.id.val off w s)
    else if off = 4 then (.ok, .next (fifoWashAt n s))
    else if off = 5 ∨ w = 0 then (.ok, .next s)
    else (.ok, .fault .unpredictable)

/-- A response by its error kind. -/
def respOf : Option Nat → Resp
  | none => .ok
  | some k => .err k

/-- A read of one word by a master (R479): its response and the word, without the matrix's record. -/
def busRead (m : Master) (a : Nat) (s : State) : (Resp × Word) × State :=
  match targetOf a with
  | .regs => regRead m (a - 0x400000) s
  | .fifo => let r := portRead a s; ((r.1.1, r.1.2.getD 0), r.2)
  | .vault => ((if m.keeper then .ok else .err 1, 0), s)
  | _ => let r := memRead s m a; ((respOf r.1.1, r.1.2), r.2)

/-- A write of one word by a master (R479), from the store buffer of `core` where it is a core's store: its response and the outcome,
without the matrix's record. -/
def busWriteBy (core : Option Nat) (m : Master) (a : Nat) (w : Word) (s : State) : Resp × Out :=
  match targetOf a with
  | .regs => regWrite m (a - 0x400000) w s
  | .fifo => portWrite core m a w s
  | .vault =>
    if !m.keeper then (.err 1, .next s)
    else match unitErr s KV_CTL with
      | some k => (.err k, .next s)
      | none => (.ok, .next { s with kv := { s.kv with win := tabSet (fun _ => (0 : Word)) s.kv.win (a - 0x600000) w } })
  | _ =>
    let r := memWrite s m a w
    (respOf r.1, if r.1.isNone && ledgerWord s a then .fault .unpredictable else .next r.2)

/-- A write of one word by a master that posts nothing. -/
def busWrite (m : Master) (a : Nat) (w : Word) (s : State) : Resp × Out := busWriteBy none m a w s

/-! ## Rows -/

/-- REGISTER_WRITE (R12): a write of a register that has no row of its own, or that names its effect by its address alone. -/
def execRegisterWrite (m : Master) (a : BitVec 16) (w : Word) (s : State) : Out :=
  writeReg m a.toNat w (regEffect m a.toNat w) s

/-- A word as the host sees it in a slot (R482). -/
def slotOf (w : Word) : BitVec 64 := w.setWidth 64

/-- HI_WORD_READ (R164): a read of a HI register; the host sees its word. -/
def execHiWordRead (m : Master) (i : Fin 30) (s : State) : Out :=
  let a := hiRegs.getD i.val TB_TIME_HI
  readReg m a (fun s =>
    let s := hiLatch a s
    if m.id.val = 20 then { s with host := { s.host with data := [slotOf (s.rd a)], abort := false } } else s) s

/-- The register that a REGWR stroke names (R141). -/
def regwrAddr (k : Stroke) : Nat := fieldOf k.act 35 28 * 256 + fieldOf k.act 27 20

/-- Whether a REGWR stroke is a step or a leap, which have rows of their own (R569). -/
def regwrStep (k : Stroke) : Bool := decide (regwrAddr k = TB_STEP_US ∨ regwrAddr k = TB_STEP_S ∨ regwrAddr k = TB_LEAP_EXEC)

/-- REGWR_STROKE_EXECUTE (R143, R152): the register-write port issues the write with the privilege recorded in the slot; an
error response gives TARGET_ERROR. The port has no master ID in R490: the record's is free (log 1). -/
def execRegwrStrokeExecute (i : Fin 65536) (s : State) : Out :=
  if strokeDue s i 3 ∧ !regwrStep (s.led i).stroke then
    verified s i (fun s =>
      let x := s.led i
      let m : Master := { id := 24, keeper := x.keeper }
      let a := regwrAddr x.stroke
      let w := sext 20 (fieldOf x.stroke.act 19 0)
      let (r, o) := regWrite m a w s
      match r with
      | .ok => thenOut o (fun s => .next (completeNow s i))
      | r =>
        thenOut o (fun s =>
          let s := noteResp m r (regSpace a) true s
          let (f, s) := s.freeBelow 32
          let s := if r.kind?.isSome then s.put MTX_ERR_INFO_master f else s
          .next (completeAs s i 5)))
  else .next s

end Sys2Proof.Machine
end

