-- ==== Sys2Proof/Machine/Alu.lean ====
section
/-! DEFINITION. Arithmetic, logic, shifts, multiplication and accumulators (R52 to R58, R77, R78). -/

namespace Sys2Proof.Machine

/-- An opcode or form absent from the core's profile raises ILLEGAL; nothing is written (R78, R105). -/
def illegal (k : CoreId) (s : State) : Out :=
  issue k [] true (fun c s => .next (takeTrap s k 3 none none c.pc)) s

/-- A register-writing computation of the operands `rs`: its result and flags. -/
def compute (k : CoreId) (rd : GReg) (rs : List Nat) (f : Core → Word × Flags) (s : State) : Out :=
  issue k (rd.val :: rs) false (fun c s => .next (retireReg s k c rd (f c))) s

/-- ADD (R52). -/
def execAdd (k : CoreId) (rd rs1 : GReg) (b : Src2) (s : State) : Out :=
  compute k rd (rs1.val :: srcRegs b) (fun c => addFlags c.flags (c.g rs1) (c.srcS b)) s

/-- SUB (R52). -/
def execSub (k : CoreId) (rd rs1 : GReg) (b : Src2) (s : State) : Out :=
  compute k rd (rs1.val :: srcRegs b) (fun c => subFlags c.flags (c.g rs1) (c.srcS b)) s

/-- AND (R52). -/
def execAnd (k : CoreId) (rd rs1 : GReg) (b : Src2) (s : State) : Out :=
  compute k rd (rs1.val :: srcRegs b) (fun c => logicFlags c.flags (c.g rs1 &&& c.srcZ b)) s

/-- OR (R52). -/
def execOr (k : CoreId) (rd rs1 : GReg) (b : Src2) (s : State) : Out :=
  compute k rd (rs1.val :: srcRegs b) (fun c => logicFlags c.flags (c.g rs1 ||| c.srcZ b)) s

/-- XOR (R52). -/
def execXor (k : CoreId) (rd rs1 : GReg) (b : Src2) (s : State) : Out :=
  compute k rd (rs1.val :: srcRegs b) (fun c => logicFlags c.flags (c.g rs1 ^^^ c.srcZ b)) s

/-- A shift by register or immediate (R54); immediate bits [18:6] are reserved (R50, R79). -/
def shift (k : CoreId) (rd rs1 : GReg) (b : Src2) (f : Flags → Word → Nat → Word × Flags) (s : State) : Out :=
  issue k (rd.val :: rs1.val :: srcRegs b) false (fun c s =>
    if shiftOk b then .next (retireReg s k c rd (f c.flags (c.g rs1) (c.shiftBy b))) else .fault .unpredictable) s

/-- SHL (R54). -/
def execShl (k : CoreId) (rd rs1 : GReg) (b : Src2) (s : State) : Out := shift k rd rs1 b shlFlags s

/-- SHR (R54). -/
def execShr (k : CoreId) (rd rs1 : GReg) (b : Src2) (s : State) : Out := shift k rd rs1 b shrFlags s

/-- SRA (R54). -/
def execSra (k : CoreId) (rd rs1 : GReg) (b : Src2) (s : State) : Out := shift k rd rs1 b sraFlags s

/-- MUL, and MUL.Q with `q` (R56). -/
def execMul (k : CoreId) (rd rs1 rs2 : GReg) (q : Bool) (s : State) : Out :=
  compute k rd [rs1.val, rs2.val] (fun c => mulFlags c.flags (c.g rs1) (c.g rs2) q) s

/-- LIH (R55). -/
def execLih (k : CoreId) (rd rs1 : GReg) (imm : BitVec 19) (s : State) : Out :=
  compute k rd [rs1.val] (fun c => (lihWord (c.g rs1) imm, c.flags)) s

/-- An accumulator: a0, or a1 with `sel`. -/
def Core.acc (c : Core) (sel : Bool) : BitVec 88 := if sel then c.a1 else c.a0

/-- An accumulator written. -/
def Core.setAcc (c : Core) (sel : Bool) (x : BitVec 88) : Core := if sel then { c with a1 := x } else { c with a0 := x }

/-- A multiply-accumulate (R57), absent on Brush (R77). -/
def macDo (k : CoreId) (rs1 rs2 : GReg) (sel clr sub : Bool) (s : State) : Out :=
  if k.val < 16 then
    issue k [rs1.val, rs2.val] false (fun c s =>
      .next (retire s k (c.setAcc sel (macAcc (c.acc sel) (c.g rs1) (c.g rs2) sub clr)))) s
  else illegal k s

/-- MAC (R57). -/
def execMac (k : CoreId) (rs1 rs2 : GReg) (sel clr : Bool) (s : State) : Out := macDo k rs1 rs2 sel clr false s

/-- MSC (R57). -/
def execMsc (k : CoreId) (rs1 rs2 : GReg) (sel clr : Bool) (s : State) : Out := macDo k rs1 rs2 sel clr true s

/-- ACC (R58): a shift of 40 to 63 is reserved (R79). On Brush the accumulators stay zero, so it returns 0. -/
def execAcc (k : CoreId) (rd : GReg) (sh : BitVec 6) (trunc clr sel : Bool) (s : State) : Out :=
  issue k [rd.val] false (fun c s =>
    if 40 ≤ sh.toNat then .fault .unpredictable
    else
      let r := accFlags c.flags (c.acc sel) sh.toNat trunc
      .next (retireReg s k (if clr then c.setAcc sel 0 else c) rd r)) s

end Sys2Proof.Machine
end

