-- ==== Sys2Proof/Machine/Mbx.lean ====
section
/-! DEFINITION. The mailbox commands and the image loader (R112 to R123, R519 to R521). A doorbell copies the command; the row of its
code runs it. -/

namespace Sys2Proof.Machine

/-! ## Arguments and checks -/

/-- Slot `i` of the command copied at the doorbell. -/
def mbxSlot (s : State) (i : Nat) : Nat := (s.mbx.cmd.getD i 0).toNat

/-- The argument count. -/
def mbxCount (s : State) : Nat := bitsOf (mbxSlot s 0) 55 48

/-- Whether the slots are as R118 lays them out under the doorbell's sequence number (R119). -/
def mbxFormed (s : State) : Bool :=
  let seq := s.get MBX_DOORBELL_seq
  decide (mbxCount s ≤ 64) && decide (bitsOf (mbxSlot s 0) 47 40 = seq)
    && (decide (0 < mbxCount s) || decide (bitsOf (mbxSlot s 0) 39 0 = 0))
    && (List.range (mbxCount s)).all (fun i =>
      decide (i = 0) || (decide (bitsOf (mbxSlot s i) 63 48 = 0) && decide (bitsOf (mbxSlot s i) 47 40 = seq)))

/-- The argument words. -/
def mbxArgs (s : State) : List Word := (List.range (mbxCount s)).map (fun i => w40 (mbxSlot s i % 2 ^ 40))

/-- Whether the command that has been copied and not begun carries `code`. -/
def mbxWaits (s : State) (code : Nat) : Bool := s.on MBX_STATUS_busy && decide (mbxCode s = code) && !s.mbx.started

/-- Command `code` runs (R119 to R121, R123): its form and its `n` arguments are checked, then the service state. -/
def mbxRun (code n : Nat) (ok : List Word → Bool) (f : List Word → State → State) (s : State) : Out :=
  if !mbxWaits s code then .next s
  else
    let res := if code = 0x07 then [s.rd KV_UPD_CTR] else []
    let s : State := { s with mbx := { s.mbx with started := true } }
    if !mbxFormed s ∨ (mbxArgs s).length ≠ n ∨ !ok (mbxArgs s) then .next (mbxFinish s 3 res)
    else if !mbxLegal code (s.get MBX_STATUS_state) then .next (mbxFinish s 1 res)
    else .next (f (mbxArgs s) s)

/-- An argument as a number. -/
def argN (as : List Word) (i : Nat) : Nat := (as.getD i 0).toNat

/-- Whether `n` words from word address `a` lie in DRAM (R479). -/
def inDram (a n : Nat) : Bool := decide (0x10000000 ≤ a) && decide (1 ≤ n) && decide (a + n ≤ 0x13000000)

/-- Whether a burst among `n` DRAM words from `a` stands uncorrectable (R486). -/
def dramUnreadable (s : State) (a n : Nat) : Bool :=
  s.dramErr.any (fun e => decide (e.2 ≠ 0) && decide (burstOf a ≤ e.1) && decide (e.1 ≤ burstOf (a + n - 1)))

/-! ## Images -/

/-- A section of an image: its load address, kind, length, and where its contents stand. -/
structure ImgSec where
  addr : Nat
  kind : Nat
  len : Nat
  at_ : Nat
deriving DecidableEq, Repr

/-- The sections of an image from table entry `i` on, contents from word `pos` (R112). -/
def imgSecs (ws : List Word) : Nat → Nat → Nat → List ImgSec
  | 0, _, _ => []
  | n + 1, i, pos =>
    let a := ws.getD (16 + 2 * i) 0
    let k := fieldOf a 39 38
    let len := (ws.getD (17 + 2 * i) 0).toNat
    { addr := fieldOf a 31 0, kind := k, len := len, at_ := pos } :: imgSecs ws n (i + 1) (if k < 2 then pos + len else pos)

/-- The number of sections. -/
def imgCount (ws : List Word) : Nat := fieldOf (ws.getD 1 0) 15 0

/-- The word after the contents. -/
def imgEnd (ws : List Word) : Nat :=
  16 + 2 * imgCount ws + ((imgSecs ws (imgCount ws) 0 0).map (fun x => if x.kind < 2 then x.len else 0)).sum

/-- Whether the image's target is Brush group `index`, rather than Easel cluster `index`. -/
def imgBrush (ws : List Word) : Bool := decide (fieldOf (ws.getD 3 0) 39 38 = 1)

/-- The key of an image's target: the cluster, or 4 + the group. -/
def imgKey (ws : List Word) : Nat := fieldOf (ws.getD 3 0) 37 36 + (if imgBrush ws then 4 else 0)

/-- The signature kind. -/
def imgSig (ws : List Word) : Nat := fieldOf (ws.getD 14 0) 39 32

/-- What the header fixes for the cores. -/
def imgHdr (ws : List Word) : ImgHdr :=
  { replaces := (ws.getD 6 0).toNat, entry := (ws.getD 4 0).toNat, tvec := (ws.getD 5 0).toNat, stack := (ws.getD 9 0).toNat,
    start := fieldOf (ws.getD 3 0) 7 0 }

/-- Every bit of the header and the section table that R112 does not list is 0. -/
def imgBitsZero (ws : List Word) : Bool :=
  let below := fun (i n : Nat) => decide ((ws.getD i 0).toNat < 2 ^ n)
  below 2 32 && decide (fieldOf (ws.getD 3 0) 35 8 = 0) && below 4 32 && below 5 32 && below 6 13 && below 8 32 && below 9 32
    && below 10 0 && below 11 0 && below 12 0 && below 13 0 && below 15 0
    && (imgBrush ws || decide (fieldOf (ws.getD 3 0) 7 4 = 0))
    && (List.range (imgCount ws)).all (fun i => decide (fieldOf (ws.getD (16 + 2 * i) 0) 37 32 = 0) && below (17 + 2 * i) 32)

/-- Whether a section lies in its target's memory, outside the House reserved part; code of an Easel image in instruction
memory, and other sections there or in data memory, which follows it (R111, R113, R479). -/
def imgInside (brush : Bool) (key : Nat) (x : ImgSec) : Bool :=
  let last := x.addr + max x.len 1 - 1
  let within := fun (lo hi : Nat) => decide (lo ≤ x.addr) && decide (last ≤ hi)
  if brush then let b := 0x200000 + 0x10000 * (key - 4); within b (b + 0xEFFF)
  else
    let b := 0x100000 + 0x20000 * key
    within b (if x.kind = 0 then b + 0xFFFF else b + 0x1EFFF)

/-- The octets an image's check word covers: every word but word 14 and the signature (R112). -/
def imgBytes (ws : List Word) : List Nat := (ws.take 14 ++ (ws.take (imgEnd ws)).drop 15).flatMap bytesOf

/-- Whether the signature verifies under the operator verification key (R112, R376). -/
def imgSigned (s : State) (ws : List Word) : Bool :=
  let sig := (ws.drop (imgEnd ws)).flatMap bytesOf
  vkLive s && (sig.drop 96).all (fun b => decide (b = 0))
    && p384Verify (Config.digestKey (vkDigest s (s.get KV_VK_live)))
      (sha384 ((ws.take (imgEnd ws)).flatMap bytesOf)) (sig.take 96)

/-- Whether the loader accepts an image (R113, R522). -/
def imgOk (s : State) (ws : List Word) : Bool :=
  let w := fun (i : Nat) => ws.getD i 0
  decide (lifeCycle s ≠ 4)
    && decide ((w 0).toNat = 0x00574C4F31) && decide (fieldOf (w 1) 39 32 = 1) && decide (fieldOf (w 1) 31 16 = 16)
    && decide (1 ≤ imgCount ws) && decide (imgCount ws ≤ 64) && decide (imgSig ws ≤ 1)
    && decide (fieldOf (w 3) 39 38 ≤ 1) && imgBitsZero ws
    && decide ((w 2).toNat = ws.length) && decide (ws.length = imgEnd ws + (if imgSig ws = 1 then 20 else 0))
    && decide (fieldOf (w 14) 31 0 = crc32c (imgBytes ws))
    && (imgSecs ws (imgCount ws) 0 0).all (fun x => decide (x.kind ≠ 3) && imgInside (imgBrush ws) (imgKey ws) x)
    && !(decide (imgKey ws = 0) && bitAt (w 3) 0)
    && decide ((w 8).toNat ≤ Config.houseVersion.toNat)
    && (decide (lifeCycle s ≠ 2) || (decide (imgSig ws = 1) && imgSigned s ws))

/-- The cores of an image's target; core 0 belongs to no image (R111). -/
def keyCores (key : Nat) : List Nat :=
  if key < 4 then ((List.range 4).map (fun j => 4 * key + j)).filter (fun k => decide (k ≠ 0)) else groupEngines (key - 4)

/-- The unit that holds the memory of an image's target. -/
def keyUnit (key : Nat) : Nat := if key < 4 then 0x060 + key else 0x088 + (key - 4)

/-- The key under which a core's image is loaded. -/
def coreKey (k : Nat) : Nat := if k < 16 then k / 4 else 4 + (k - 16) / 8

/-- The image last loaded for a key. -/
def imgOf (s : State) (key : Nat) : ImgHdr := tabGet (fun _ => ImgHdr.reset) s.house.images key

/-- The loader starts a halted core (R115): its entry, its trap handler and g30 from its image, and run; the core begins in User
privilege. A core that runs, or whose unit does not answer, is passed over without a status (DESIGN CHOICE, log 135). -/
def startOne (s : State) (k : Nat) : State :=
  if !(s.core k).halted ∨ (unitErr s (coreBlock k)).isSome then s
  else
    let s := if s.house.images.any (fun e => decide (e.1 = coreKey k)) then
        let h := imgOf s (coreKey k)
        let s := (s.wr (coreBlock k + 1) (w40 h.entry)).wr (coreBlock k + 2) (w40 h.tvec)
        s.setCore k ((s.core k).setG 30 (w40 h.stack))
      else s
    startCore s k false

/-- A section of an image is written to its target's memory. -/
def secStore (ws : List Word) (s : State) (x : ImgSec) : State :=
  s.stN x.addr (if x.kind < 2 then (ws.drop x.at_).take x.len else List.replicate x.len 0)

/-- The sections of an image with the places of their contents. -/
def imgSections (ws : List Word) : List ImgSec := imgSecs ws (imgCount ws) 0 (16 + 2 * imgCount ws)

/-- The cores that an image lists begin together on what its header fixes (R115). -/
def imgBegin (s : State) (ws : List Word) : State :=
  let h := imgHdr ws
  let s : State := { s with house := { s.house with images := tabSet (fun _ => ImgHdr.reset) s.house.images (imgKey ws) h } }
  ((keyCores (imgKey ws)).filter (fun k => h.start.testBit (if k < 16 then k % 4 else (k - 16) % 8))).foldl startOne s

/-- BOOT_IMAGE_LOAD's core (R114, R115): the image is placed and the cores that it lists begin. -/
def imgLoad (s : State) (ws : List Word) : State := imgBegin ((imgSections ws).foldl (secStore ws) s) ws

/-- The words of an image in DRAM: none when it cannot be read whole. -/
def imgRead (s : State) (a : Nat) : Option (List Word) :=
  let n := fieldOf (s.ld (a + 2)) 31 0
  if 16 ≤ n ∧ inDram a n ∧ !dramUnreadable s a n then some (s.ldN a n) else none

/-- What LOAD_IMAGE begins with (R113, R120, R123): the image is checked before the state of its target (DESIGN CHOICE, log 134), and kept while its sections
are written. -/
def loadImageDo (as : List Word) (s : State) : State :=
  match imgRead s (argN as 0) with
  | none => mbxFinish s 4 []
  | some ws =>
    if !imgOk s ws then mbxFinish s 4 []
    else if (keyCores (imgKey ws)).any (fun k => !(s.core k).halted) ∨ (unitErr s (keyUnit (imgKey ws) * 0x100)).isSome then
      mbxFinish s 1 []
    else { s with mbx := { s.mbx with image := ws, section_ := 0 } }

/-- The next section of the image under way is written, and after the last one its cores begin. -/
def loadImageNext (s : State) : State :=
  let ws := s.mbx.image
  match (imgSections ws)[s.mbx.section_]? with
  | some x => secStore ws { s with mbx := { s.mbx with section_ := s.mbx.section_ + 1 } } x
  | none => mbxFinish (imgBegin s ws) 0 []

/-- LOAD_IMAGE: while the mailbox runs it, each further LOAD_IMAGE carries it on by a section; a change of state between them may
end it with ABORTED (R120; log 134). -/
def execLoadImage (s : State) : Out :=
  if s.mbx.image.isEmpty then mbxRun 0x02 1 (fun as => inDram (argN as 0) 1) loadImageDo s else .next (loadImageNext s)

/-! ## Starting and stopping cores -/

/-- Whether a core mask names only cores that START_CORES and STOP_CORES may name (R123). -/
def maskOk (as : List Word) : Bool := decide (argN as 0 < 2 ^ 20) && decide (argN as 0 % 2 = 0)

/-- The cores that a mask names: Easel cores by bit, and each Brush group's engines that `pick` keeps. -/
def maskCores (mask : Nat) (pick : Nat → Nat → Bool) : List Nat :=
  (List.range 16).filter (fun k => mask.testBit k)
    ++ ((List.range 4).filter (fun g => mask.testBit (16 + g))).flatMap (fun g =>
      (groupEngines g).filter (fun k => pick g ((k - 16) % 8)))

/-- The engines of a group that START_CORES starts: those its image lists, or all where no image is loaded. -/
def groupStarts (s : State) (g e : Nat) : Bool :=
  if s.house.images.any (fun x => decide (x.1 = 4 + g)) then (imgOf s (4 + g)).start.testBit e else true

/-- START_CORES (R115, R116). -/
def execStartCores (s : State) : Out :=
  mbxRun 0x03 1 maskOk (fun as s => mbxFinish ((maskCores (argN as 0) (groupStarts s)).foldl startOne s) 0 []) s

/-- A core is stopped: run is cleared, and the core halts at the next instruction boundary (R110). -/
def stopOne (s : State) (k : Nat) : State := coreBoundary (s.put (coreCtl k) 0) k

/-- STOP_CORES (R116, R123). -/
def execStopCores (s : State) : Out :=
  mbxRun 0x04 1 maskOk (fun as s => mbxFinish ((maskCores (argN as 0) (fun _ _ => true)).foldl stopOne s) 0 []) s

/-! ## The other commands -/

/-- GET_INFO's result words (R123). -/
def infoWords (s : State) : List Word :=
  [w40 Config.uidHi.toNat, w40 Config.uidLo.toNat, w40 Config.houseVersion.toNat, w40 (lifeCycle s),
   w40 (s.get MBX_STATUS_state), w40 (s.get TW_STATUS_pstate), w40 s.house.bootRefused]

/-- GET_INFO. -/
def execGetInfo (s : State) : Out := mbxRun 0x01 0 (fun _ => true) (fun _ s => mbxFinish s 0 (infoWords s)) s

/-- Whether the mailbox may offer a stroke: a T80, an action word of R141 that User may offer, and a tag (R90, R121); a Keeper class is a bad
argument (DESIGN CHOICE, log 137). -/
def offerOk (as : List Word) : Bool :=
  t80Normal (t80Of (as.getD 0 0) (as.getD 1 0)) && actionLegal (as.getD 2 0) && !keeperClass (fieldOf (as.getD 2 0) 39 36)
    && decide (argN as 3 < 256)

/-- OFFER_STROKE (R568): the Sketchbook's answer ends the command. -/
def execOfferStroke (s : State) : Out :=
  mbxRun 0x05 4 offerOk (fun as s =>
    tryOffer s (newOffer none .mailbox false (as.getD 0 0) (as.getD 1 0) (as.getD 2 0) (argN as 3))) s

/-- ARM_STEP (R134). -/
def execArmStep (s : State) : Out :=
  mbxRun 0x06 1 (fun as => decide (argN as 0 < 2 ^ 32)) (fun as s => mbxFinish (s.put TB_STEP_THRESH_thresh (argN as 0)) 0 []) s

/-- KEY_UPDATE (R376, R377): the message is read from DRAM. -/
def execKeyUpdate (s : State) : Out :=
  mbxRun 0x07 2 (fun as => inDram (argN as 0) (argN as 1)) (fun as s =>
    if dramUnreadable s (argN as 0) (argN as 1) then mbxFinish s 3 [s.rd KV_UPD_CTR]
    else keyUpdate s ((s.ldN (argN as 0) (argN as 1)).flatMap bytesOf)) s

/-- READ_ATTEST (R241). -/
def execReadAttest (s : State) : Out :=
  mbxRun 0x08 2 (fun as => decide (argN as 1 = 0)) (fun as s =>
    match attRead s (argN as 0) with
    | none => mbxFinish s 3 []
    | some ws => mbxFinish s 0 ws) s

/-- ENTER_MAINT (R122). -/
def execEnterMaint (s : State) : Out := mbxRun 0x09 0 (fun _ => true) (fun _ s => mbxState (mbxFinish s 0 []) 3) s

/-- LEAVE_MAINT (R122): by present role. -/
def execLeaveMaint (s : State) : Out :=
  mbxRun 0x0A 0 (fun _ => true) (fun _ s => mbxState (mbxFinish s 0 []) (roleState s)) s

/-- PLANNED_SWAP (R454). -/
def execPlannedSwap (s : State) : Out :=
  mbxRun 0x0B 0 (fun _ => true) (fun _ s => if swapLegal s then startSwap s true else mbxFinish s 1 []) s

/-- What SET_DOMAIN does (R469): PWR_REQ is written, and the result is returned when PWR_STATE shows the change. -/
def setDomainDo (as : List Word) (s : State) : State :=
  let d := argN as 0
  let on := decide (argN as 1 = 1)
  if !on ∧ !switched.contains d then mbxFinish (s.ev PWR_EVENTS_refused) 1 []
  else match powerRequest s (setMask (s.get PWR_REQ_on) d on) with
    | none => mbxFinish (s.ev PWR_EVENTS_refused) 1 []
    | some s => setDomainDone s

/-- SET_DOMAIN. -/
def execSetDomain (s : State) : Out :=
  mbxRun 0x0C 2 (fun as => decide (argN as 0 < 12) && decide (argN as 1 < 2)) setDomainDo s

/-- READ_LAPSE_LOG (R160): up to 16 REPORTED slots from the start index on; each one returned becomes FREE. -/
def execReadLapseLog (s : State) : Out :=
  mbxRun 0x0D 1 (fun _ => true) (fun as s =>
    let is := lapseSlots s (argN as 0)
    let res := is.flatMap (fun i => (strokeWords (s.led i).stroke).take 3 ++ ((slotWords (s.led i)).drop 4).take 1)
    mbxFinish (is.foldl (fun s i => ledgerStore (s.setLed i Slot.free) i) s) 0 res) s

/-- BAD_COMMAND (R123): a copied command whose code the table does not list. -/
def execBadCommand (s : State) : Out :=
  if !s.on MBX_STATUS_busy ∨ s.mbx.started ∨ (1 ≤ mbxCode s ∧ mbxCode s ≤ 0x0E) then .next s
  else .next (mbxFinish s (if mbxFormed s then 2 else 3) [])

/-! ## Life cycle -/

/-- The octets of a token (R520). -/
def tokenBytes (s : State) (a : Nat) : List Nat := ((s.ldN a 26).flatMap bytesOf).take 128

/-- Whether a token is well formed and names the target of the command (R520). -/
def tokenFormed (b : List Nat) (target : Nat) : Bool :=
  decide (beNum (octets b 0 4) = 0x424C4359) && decide (b.getD 4 0 = 1) && decide (1 ≤ b.getD 5 0) && decide (b.getD 5 0 ≤ 4)
    && decide (b.getD 6 0 ≤ 1) && decide (b.getD 7 0 ≤ 1) && (octets b 24 8).all (fun x => decide (x = 0))
    && decide (b.getD 5 0 = target)

/-- The signers (0 operator, 1 Askeno) that a transition takes, none where R519 does not list it. -/
def tokenSigners (from_ target action : Nat) : Option (List Nat) :=
  if action = 1 then (if from_ = 3 ∧ target = 3 then some [1] else none)
  else if from_ = 0 ∧ target = 1 then some [1]
  else if from_ = 1 ∧ target = 2 then some [0]
  else if (from_ = 1 ∨ from_ = 2) ∧ target = 3 then some [0]
  else if from_ ≤ 3 ∧ target = 4 then some (if from_ = 0 then [0, 1] else [0])
  else none

/-- Whether a token names this device and the nonce as it stands, and its signature verifies (R520). -/
def tokenAuth (s : State) (b : List Nat) : Bool :=
  let digest := if b.getD 7 0 = 0 then vkDigest s (s.get KV_VK_live) else Config.askenoKeyDigest
  decide (octets b 8 8 = uidBytes) && decide (beNum (octets b 16 4) = s.get LCY_NONCE_HI_val)
    && decide (beNum (octets b 20 4) = s.get LCY_NONCE_LO_val) && (decide (b.getD 7 0 = 1) || vkLive s)
    && p384Verify (Config.digestKey digest) (sha384 (octets b 0 32)) (octets b 32 96)

/-- A fuse of a list of blown fuses is blown. -/
def blow (fuses : List Nat) (t : Nat) : List Nat := if fuses.contains t then fuses else fuses ++ [t]

/-- A transition from its second step on (R521): the keys the table names are destroyed and fuse B is blown. -/
def lifeComplete (s : State) (t : Nat) : State :=
  let s := if 3 ≤ t then zeroize s else s
  { s with lcy := { s.lcy with fuseB := blow s.lcy.fuseB t } }

/-- The test unit's registers return to their reset values (R525). -/
def testClear (s : State) : State := regsBack s 2 (fun a => decide (a / 256 = 0x0F1) && decide (a % 256 < 0xF0))

/-- A transition (R521), in its order; perturbations clear on DEPLOYED and SCRAPPED (R525). -/
def lifeMove (s : State) (t : Nat) : State :=
  let s : State := { s with lcy := { s.lcy with fuseA := blow s.lcy.fuseA t } }
  let s := lifeComplete s t
  let s := kvRefresh ((s.put LCY_STATE_state t).ev LCY_EVENTS_transition)
  if t = 2 ∨ t = 4 then testClear s else s

/-- What LIFE_CYCLE does (R519 to R521). -/
def lifeCycleDo (as : List Word) (s : State) : State :=
  let b := tokenBytes s (argN as 1)
  let t := argN as 0
  if dramUnreadable s (argN as 1) 26 ∨ !tokenFormed b t then mbxFinish s 3 []
  else match tokenSigners (lifeCycle s) t (b.getD 6 0) with
    | none => mbxFinish s 1 []
    | some signers =>
      if lifeCycle s = 1 ∧ t = 2 ∧ !vkLive s then mbxFinish s 1 []
      else if !signers.contains (b.getD 7 0) ∨ !tokenAuth s b then mbxFinish (s.ev LCY_EVENTS_token_fail) 5 []
      else if b.getD 6 0 = 1 then mbxFinish (s.putB LCY_STATE_vendor_open true) 0 []
      else mbxFinish (lifeMove s t) 0 []

/-- LIFE_CYCLE. -/
def execLifeCycle (s : State) : Out :=
  mbxRun 0x0E 2 (fun as => decide (1 ≤ argN as 0 ∧ argN as 0 ≤ 4) && inDram (argN as 1) 26) lifeCycleDo s

end Sys2Proof.Machine
end

