-- ==== Sys2Proof/Machine/BringUp.lean ====
section
/-! DEFINITION. Bring-up (R462 to R466, R114, R378): its stages, priming, the boot images, and the PCIe link. -/

namespace Sys2Proof.Machine

/-- Whether a copy of the option record checks (R463, R567). -/
def copyOk (ws : List Word) : Bool :=
  let w := fun (i : Nat) => ws.getD i 0
  decide (ws.length = 128) && decide ((w 0).toNat = 0x004F505431) && decide (fieldOf (w 1) 39 32 = 1)
    && decide (fieldOf (w 1) 15 0 = 128) && decide (fieldOf (w 3) 2 0 ≤ 5)
    && decide (fieldOf (w 127) 31 0 = crc32c ((ws.take 127).flatMap bytesOf))

/-- The fields of the record that reach the units a warm reset keeps (R466): the tamper configuration and the oscillator. -/
def keptFields (ws : List Word) : Nat × Nat :=
  let f := fun (i hi : Nat) => let w := ws.getD i 0; if bitAt w 39 then 2 ^ 39 + fieldOf w hi 0 else 0
  (f 6 12, f 3 3)

/-- Transitions begun are completed (R518, R521), and LCY_STATE takes the state in force. -/
def lifePrime (s : State) : State :=
  let begun := [1, 2, 3, 4].filter (fun t => s.lcy.fuseA.contains t && !s.lcy.fuseB.contains t)
  let s := begun.foldl lifeComplete s
  (s.put LCY_STATE_state (fuseState s)).putB LCY_STATE_resuming (!begun.isEmpty)

/-- The fields of the committed record take their values (R463, R567). -/
def primeFields (s : State) : State :=
  let s := s.put GLZ_TLV_ORG_org (optField s 4 23 0 0)
  let s := s.put TW_CFG_home (optField s 5 32 32 0)
  let s := s.put STB_CFG_node (optField s 5 20 16 0)
  let s := s.put ATL_CHASSIS_chassis (optField s 5 15 0 0)
  [UND_SPEC_Y, UND_SPEC_DRIFT, UND_SPEC_TC, UND_SPEC_WF, UND_SPEC_RW].zipIdx.foldl (fun s e =>
    if optWord s (34 + e.2) = 0 then s else s.wr e.1 (optWord s (34 + e.2))) s

/-- Priming commits (R463 to R466): the fuse trims, the record that checked or the defaults, the life cycle, and on a cold reset the
tamper configuration, in full where BK was lost (R386). -/
def primeCommit (r : StageResult) (s : State) : State :=
  let a := copyOk r.copyA
  let b := !a && copyOk r.copyB
  let record := if a then r.copyA else if b then r.copyB else []
  let cold := s.rst.cold
  let deferred := !cold && decide (keptFields record ≠ keptFields s.rst.optCold)
  let s : State := { s with rst := { s.rst with optRecord := record, optCold := if cold then record else s.rst.optCold } }
  let s := s.wr PRM_STATUS (w40 (b2n deferred * 32 + b2n (decide (r.fuse = 1)) * 16 + b2n (!a && !b) * 8 + b2n b * 4 + 1))
  let s := (s.put PRM_OPT_CRC_crc (fieldOf (optWord s 127) 31 0)).put PRM_OPT_VER_version (fieldOf (optWord s 2) 31 0)
  let s := primeFields (lifePrime (s.put PRM_TIME_us r.us.toNat))
  if !cold then s
  else
    let w := w40 (optField s 6 12 0 0)
    s.wr TMP_CFG (if s.on RST_CAUSE_bk_lost then w else tmpCfgMerge s w)

/-- The device stops in a bring-up stage with a FATAL fault (R462, R464). -/
def bringUpFail (s : State) (source : Nat) : State := raiseSrc { s with rst := { s.rst with held := true } } source none

/-- The next bring-up step begins. -/
def nextStep (s : State) (n : Nat) : State := { s with rst := { s.rst with step := n } }

/-- Step 1 is complete (R462): AO is out of reset and priming begins. -/
def stageAo (s : State) : State :=
  nextStep (alwaysOnUp (s.putB PRM_STATUS_busy true)) 2

/-- Step 2 is complete: the kept steps 3 and 4 of a warm bring-up are complete at once. -/
def stagePrime (r : StageResult) (s : State) : State :=
  if r.fuse = 2 then bringUpFail s 4
  else let s := primeCommit r s; nextStep s (if s.rst.cold then 3 else 5)

/-- Step 3 ends (R462, R471): the PLLs are locked and AO moves to the timebase clock, or one has not locked. -/
def stageClk (r : StageResult) (s : State) : State :=
  if !r.pllOk then bringUpFail s 3
  else
    let s := s.put CKG_OSC_freq (if optField s 3 3 3 0 = 1 then optField s 3 2 0 0 else r.osc.val)
    let s := s.wr CKG_STATUS (w40 (0x2F + b2n r.atomOk * 16))
    let s : State := { s with tb := { s.tb with counting := true } }
    nextStep (releaseDomain (setDomainOn s 2 true) 2) 4

/-- Step 4 is complete: DRAM is trained and serves. -/
def stageMem (s : State) : State :=
  let s := (s.putB MEM_STATUS_trained true).putB MEM_STATUS_ready true
  nextStep (releaseDomain (setDomainOn s 11 true) 11) 5

/-- Step 5 is complete (R462, R476): CTL is released and the House loader starts on core 0; after a cold reset PWR_REQ reads 0xC27,
which requests SPN. -/
def stageCtl (s : State) : State :=
  let s := if s.rst.cold then setDomainBusy ((s.put PWR_REQ_on 0xC27)) 10 true else s
  let s := releaseDomain (setDomainOn s 5 true) 5
  nextStep (startCore s 0 true) 6

/-- The words of the DRAM ledger, the lineage log and the attestation ring (R148, R230, R238). -/
def placedWords (s : State) : List Nat := [393216, 49152, 48 * s.get GLZ_ATT_COUNT_count]

/-- The House set places the ledger, the lineage log and the attestation ring in protected windows (R488). Where in DRAM is not stated: the
first burst is free, and the three follow one another (log 173). -/
def housePlace (s : State) : State :=
  let ns := placedWords s
  let a0 := 0x10000000 + 12 * (Config.housePlace.toNat % ((50331648 - ns.sum) / 12 + 1))
  let a1 := a0 + ns.getD 0 0
  let a2 := a1 + ns.getD 1 0
  let s := ((s.put SKB_LEDGER_BASE_base a0).put GLZ_LIN_BASE_base a1).put GLZ_ATT_BASE_base a2
  ([(0, a0), (1, a1), (2, a2)] : List (Nat × Nat)).foldl (fun s e =>
    ((s.put (MEM_PROTk_BASE_addr e.1) e.2).putB (MEM_PROTk_BASE_en e.1) true).put (MEM_PROTk_LIMIT_addr e.1) (e.2 + ns.getD e.1 0 - 1)) s

/-- Step 6 is complete and step 7 begins (R462, R159): KEY, the units of every domain named, the domains the House functions need, the
ledger's recovery and the PCIe link. -/
def stageKey (s : State) : State :=
  let s := if s.rst.cold then setDomainOn (s.put PWR_REQ_on 0xD27) 8 true else s
  let s := if domainOn s 8 then releaseDomain s 8 else s
  let s := nextStep (if s.rst.cold then housePlace s else s) 7
  let s := ([3, 4, 6, 7, 9, 10].filter (fun d => domainOn s d)).foldl releaseDomain s
  let s := (s.putB SKB_STATUS_recovering true)
  let s : State := { s with skb := { s.skb with waits := 1 } }
  let s := if s.rst.cold then houseRequest s 0x2D8 else s
  { s with rst := { s.rst with pcieTraining := s.rst.perstN } }

/-- BOOT_IMAGE_LOAD (R114): the image of directory entry `i` is loaded, or skipped and reported. -/
def bootImage (s : State) (i : Nat) (ws : List Word) : State :=
  if !bitAt (optWord s (9 + i)) 39 then s
  else if imgOk s ws ∧ (unitErr s (keyUnit (imgKey ws) * 0x100)).isNone then imgLoad s ws
  else raiseSrc { s with house := { s.house with bootRefused := s.house.bootRefused + 1 } } 113 none

/-- Step 7 is complete: the images are loaded, none when the option record is invalid (R464), and the House set runs (R122, R226,
R289). -/
def stageRest (r : StageResult) (s : State) : State :=
  let s := if s.on PRM_STATUS_opt_bad then raiseSrc s 112 none
    else (List.range 8).foldl (fun s i => bootImage s i (r.images.getD i [])) s
  let s := nextStep { s with house := { s.house with bringUpDone := true } } 8
  let s := (List.range 28).foldl houseEmit s
  let s := if houseReplaced s 2 then s
    else (List.range 9).foldl (fun s n => s.wr (GLZ_Sn_MEAS n) (if n = 8 then 12 else 21)) (s.wr (GLZ_EMITk 29) (w40 1003))
  mbxQueue s 3

/-- BRING_UP_STAGE_DONE (R462): the step in progress completes with what it finds, and the next one starts. Step 1 needs both die links,
step 7 every domain that is switching. -/
def execBringUpStageDone (r : StageResult) (s : State) : Out :=
  if !s.rst.resetN ∨ !s.rst.pwrGood ∨ s.rst.held ∨ s.rst.stopped then .next s
  else match s.rst.step with
    | 1 => .next (if s.rst.linkAt = 2 then stageAo s else s)
    | 2 => .next (stagePrime r s)
    | 3 => .next (stageClk r s)
    | 4 => .next (stageMem s)
    | 5 => .next (stageCtl s)
    | 6 => .next (stageKey s)
    | 7 => .next (if s.get PWR_STATE_busy = 0 then stageRest r s else s)
    | _ => .next s

/-- POWER_GOOD_RISE (R462, R378): a cold bring-up begins, BK being found lost, or its counter out of step with the anchors. -/
def execPowerGoodRise (bkLost : Bool) (slow : Word) (s : State) : Out :=
  if s.rst.pwrGood then .next s
  else
    let s : State := { s with rst := { s.rst with pwrGood := true } }
    .next (if bkLost then bkLoss s slow
      else if s.get KV_UPD_CTR_counter / 4096 ≠ s.get KV_ANCHOR_anchors then rollForward s else s)

/-- PCIE_PERST_RELEASE (R462): PCIE_PERST_N rises; training begins once step 7 has begun. -/
def execPciePerstRelease (s : State) : Out :=
  if s.rst.perstN then .next s
  else .next { s with rst := { s.rst with perstN := true, pcieTraining := decide (7 ≤ s.rst.step) } }

/-- PCIE_LINK_UP (R462): the endpoint reaches L0. -/
def execPcieLinkUp (s : State) : Out :=
  if s.rst.pcieTraining ∧ s.rst.perstN then .next { s with rst := { s.rst with pcieTraining := false, pcieUp := true } }
  else .next s

end Sys2Proof.Machine
end

