-- ==== Sys2Proof/Machine/Time.lean ====
section
/-! DEFINITION. Time arithmetic (R59 to R63). A pair field that is odd, or g0:g1 as a destination, is reserved (R44, R79); of a
source whose low word is not normalized the result is unpredictable (R5, R63), and its words and flags are free (log 151). -/

namespace Sys2Proof.Machine

/-- Flags of which Z, N, C and V are the low bits of a free word. -/
def openFlags (f : Flags) (w : Word) : Flags := { f with z := bitAt w 0, n := bitAt w 1, c := bitAt w 2, v := bitAt w 3 }

/-- A computation that writes a pair and the flags: `form` says whether its fields are ones the spec gives an effect, `ok`
whether its operands are normalized, `f` its result on those, and `g` the flags that go with free words on others. -/
def computePair (k : CoreId) (rd : GReg) (rs : List Nat) (form : Bool) (ok : Core → Bool) (f : Core → Word × Word × Flags)
    (g : Flags → Word → Word → Word → Flags) (s : State) : Out :=
  issue k (rd.val :: (rd.val + 1) :: rs) false (fun c s =>
    if !(pairDst rd && form) then .fault .unpredictable
    else if ok c then
      let (hi, lo, fl) := f c
      .next (retire s k { c.setPair rd hi lo with flags := fl })
    else
      let (hi, s) := s.free
      let (lo, s) := s.free
      let (w, s) := s.free
      .next (retire s k { c.setPair rd hi lo with flags := g c.flags hi lo w })) s

/-- TADD's flags where the time is open (R59): Z by the words that are written, N 0. -/
def taddOpen (f : Flags) (hi lo w : Word) : Flags := { openFlags f w with z := decide (hi = 0 ∧ lo = 0), n := false }

/-- TADD.T, and TADD.P with `p` (R59). -/
def execTadd (k : CoreId) (rd rs1 rs2 : GReg) (p : Bool) (s : State) : Out :=
  computePair k rd ([rs1.val, rs1.val + 1, rs2.val] ++ (if p then [] else [rs2.val + 1]))
    (pairSrc rs1 && (p || pairSrc rs2))
    (fun c => t80Normal (c.pair rs1) && (p || t80Normal (c.pair rs2)))
    (fun c =>
      if p then taddFlags c.flags (c.pair rs1) 0 (sgn (c.g rs2))
      else taddFlags c.flags (c.pair rs1) (sgn (c.g rs2)) ((c.pair rs2).low : Int))
    taddOpen s

/-- Whether two source pairs hold normalized times. -/
def pairsNormal (c : Core) (a b : GReg) : Bool := t80Normal (c.pair a) && t80Normal (c.pair b)

/-- The registers of two source pairs. -/
def pairRegs (a b : GReg) : List Nat := [a.val, a.val + 1, b.val, b.val + 1]

/-- TSUB.T, and TSUB.P with `p`, whose destination is a single register (R60). -/
def execTsub (k : CoreId) (rd rs1 rs2 : GReg) (p : Bool) (s : State) : Out :=
  if p then
    issue k (rd.val :: pairRegs rs1 rs2) false (fun c s =>
      if !(pairSrc rs1 && pairSrc rs2) then .fault .unpredictable
      else if pairsNormal c rs1 rs2 then .next (retireReg s k c rd (tsubPFlags c.flags (c.pair rs1) (c.pair rs2)))
      else
        let (r, s) := s.free
        let (w, s) := s.free
        .next (retireReg s k c rd (r, openFlags c.flags w))) s
  else computePair k rd (pairRegs rs1 rs2) (pairSrc rs1 && pairSrc rs2) (fun c => pairsNormal c rs1 rs2)
    (fun c => tsubTFlags c.flags (c.pair rs1) (c.pair rs2)) (fun f _ _ w => openFlags f w) s

/-- TCMP's flags where a time is open (R61): N equals C, and V is 0. -/
def tcmpOpen (f : Flags) (w : Word) : Flags := { openFlags f w with n := bitAt w 2, v := false }

/-- TCMP (R61). -/
def execTcmp (k : CoreId) (rs1 rs2 : GReg) (s : State) : Out :=
  issue k (pairRegs rs1 rs2) false (fun c s =>
    if !(pairSrc rs1 && pairSrc rs2) then .fault .unpredictable
    else if pairsNormal c rs1 rs2 then .next (retire s k { c with flags := tcmpFlags c.flags (c.pair rs1) (c.pair rs2) })
    else
      let (w, s) := s.free
      .next (retire s k { c with flags := tcmpOpen c.flags w })) s

/-- TEXT (R62): rs1 holds the stamp, rs2 names the reference pair; C stays. -/
def execText (k : CoreId) (rd rs1 rs2 : GReg) (s : State) : Out :=
  computePair k rd [rs1.val, rs2.val, rs2.val + 1] (pairSrc rs2) (fun c => t80Normal (c.pair rs2))
    (fun c => textFlags c.flags (c.g rs1) (c.pair rs2)) (fun f _ _ w => { openFlags f w with c := f.c }) s

end Sys2Proof.Machine
end

