-- ==== Sys2Proof/Machine/Flow.lean ====
section
/-! DEFINITION. Branches, calls, traps and the House services (R64 to R67, R105 to R109). -/

namespace Sys2Proof.Machine

/-- The slots wasted after a taken branch (R76): two where its target is a register, else one. -/
def branchSlots : Target → Nat
  | .off _ => 1
  | .reg _ => 2

/-- A branch is taken: the core goes on at its target, and the slots after it are wasted (R76, R535). -/
def branchTo (s : State) (k : CoreId) (c : Core) (t : Target) (pc : Nat) : State := slotAdd (retireAt s k c pc) k 2 (branchSlots t)

/-- BR (R64). -/
def execBr (k : CoreId) (t : Target) (s : State) : Out :=
  issue k (targetRegs t) false (fun c s => .next (branchTo s k c t (c.target t))) s

/-- BRC (R65). -/
def execBrc (k : CoreId) (cond : Fin 16) (off : BitVec 19) (s : State) : Out :=
  issue k [] false (fun c s =>
    .next (if condHolds c.flags cond then branchTo s k c (.off off) (c.target (.off off)) else retire s k c)) s

/-- CALL (R66): the target is read before the link register is written. -/
def execCall (k : CoreId) (rd : GReg) (t : Target) (s : State) : Out :=
  issue k (rd.val :: targetRegs t) false (fun c s =>
    .next (branchTo s k (c.setG rd (w40 ((c.pc + 1) % 2 ^ 32))) t (c.target t))) s

/-- RET (R64). -/
def execRet (k : CoreId) (rs1 : GReg) (s : State) : Out :=
  issue k [rs1.val] false (fun c s => .next (branchTo s k c (.reg rs1) (c.target (.reg rs1)))) s

/-! ## Services -/

/-- A House service returns (R106, R108, R109): in_trap clears and the privilege and flags are as they were. -/
def serviceDone (s : State) (k : CoreId) (before : Core) (f : Core → Core) : State :=
  let c := f (s.core k)
  s.setCore k { c with inTrap := false, keeper := before.keeper, flags := before.flags, pc := (before.pc + 1) % 2 ^ 32 }

/-- A TRAP has issued: one slot retired and, of its three issue slots, two wasted (R76, R535). -/
def trapIssued (s : State) (k : Nat) : State := slotAdd (slotInc s k 1) k 2 2

/-- SERVICE trap entry, or DOUBLE within a trap (R105, R107, R108); `f` is what the service then does, given the core as it was. -/
def service (k : CoreId) (code : Nat) (f : Core → State → State) (s : State) : Out :=
  issue k [] true (fun c s =>
    if c.inTrap then .next (trapDouble (trapIssued s k) k)
    else .next (f c (trapEnter (trapIssued s k) k 1 code code (c.pc + 1)))) s

/-- The index that SELF answers (R109). -/
def coreIndex (k : Nat) : Nat := if k < 16 then k else 0x100 + (k - 16)

/-- STRAY (R109): the core halts and is reported. -/
def strayDo (k : CoreId) (_before : Core) (s : State) : State := mbxNotice (raiseSrc (haltCore s k) (haltSource k) none)

/-- SELF (R109). -/
def selfDo (k : CoreId) (before : Core) (s : State) : State := serviceDone s k before (fun c => c.setG 1 (w40 (coreIndex k)))

/-- The core's next unread stroke notice (R109, R160): its REPORTED slot accepted first. -/
def nextNotice (s : State) (k : Nat) : Option Slot :=
  (s.skb.slots.foldl (fun (b : Option Slot) e =>
    if e.2.state ≠ 4 ∨ e.2.offerer ≠ coreOfferer k then b
    else match b with
      | none => some e.2
      | some x => if seqBefore e.2.seq x.seq then some e.2 else b) none)

/-- NOTICE (R109). -/
def noticeDo (k : CoreId) (before : Core) (s : State) : State :=
  serviceDone s k before (fun c =>
    match nextNotice s k with
    | none => ((((c.setG 1 0).setG 2 0).setG 3 0).setG 4 0).setG 5 0
    | some x =>
      ((((c.setG 1 (w40 x.report)).setG 2 x.stroke.hi).setG 3 x.stroke.lo).setG 4 x.stroke.act).setG 5 (w40 x.seq))

/-- BOUND (R109): now, the bound and the lineage identifier. -/
def boundDo (k : CoreId) (before : Core) (s : State) : State :=
  serviceDone s k before (fun c =>
    (((c.setG 2 (T80hi s.now)).setG 3 (T80lo s.now)).setG 4 (s.rd GLZ_B)).setG 5 (s.rd GLZ_LIN))

/-- RESUME and RESUME_SKIP (R108): ILLEGAL outside a trap. -/
def resumeDo (k : CoreId) (skip : Nat) (s : State) : Out :=
  issue k [] true (fun c s =>
    if c.inTrap then .next (trapReturn (trapIssued s k) k skip)
    else .next (takeTrap s k 3 none none c.pc)) s

/-- STRAY: TRAP 0x0_0000. -/
def execStray (k : CoreId) (s : State) : Out := service k 0 (strayDo k) s

/-- SELF: TRAP 0x0_0001. -/
def execSelfSvc (k : CoreId) (s : State) : Out := service k 1 (selfDo k) s

/-- NOTICE: TRAP 0x0_0002. -/
def execNotice (k : CoreId) (s : State) : Out := service k 2 (noticeDo k) s

/-- BOUND: TRAP 0x0_0003. -/
def execBound (k : CoreId) (s : State) : Out := service k 3 (boundDo k) s

/-- RESUME: TRAP 0x0_FFFF. -/
def execResume (k : CoreId) (s : State) : Out := resumeDo k 0 s

/-- RESUME_SKIP: TRAP 0x0_FFFE. -/
def execResumeSkip (k : CoreId) (s : State) : Out := resumeDo k 1 s

/-- TRAP (R67, R105, R109): a USER trap, or the service of its code; an undefined service code raises ILLEGAL. -/
def execTrap (k : CoreId) (code : BitVec 19) (s : State) : Out :=
  let n := code.toNat
  if n = 0xFFFF then resumeDo k 0 s
  else if n = 0xFFFE then resumeDo k 1 s
  else if n = 0 then service k 0 (strayDo k) s
  else if n = 1 then service k 1 (selfDo k) s
  else if n = 2 then service k 2 (noticeDo k) s
  else if n = 3 then service k 3 (boundDo k) s
  else issue k [] true (fun c s =>
    if n < 0x10000 then .next (takeTrap s k 3 none none c.pc)
    else .next (takeTrap (trapIssued s k) k 2 (some n) (some n) (c.pc + 1))) s

end Sys2Proof.Machine
end

