-- ==== Sys2Proof/Machine/Hostio.lean ====
section
/-! DEFINITION. What the host does over PCIe (R118, R482 to R484, R492, R493): reads and writes of 8-byte slots through the three
BARs. -/

namespace Sys2Proof.Machine

/-- The PCIe master, which acts with User privilege (R483, R490). -/
def hostMaster : Master := { id := 20, keeper := false }

/-- What a BAR offset reaches (R483). -/
inductive HostTarget where
  | word (a : Nat)
  | mailbox (i : Nat)
  | nothing
deriving DecidableEq, Repr

/-- The target of byte offset `b` of a BAR (0 BAR0, 1 BAR2, 2 BAR4). -/
def hostTarget (bar b : Nat) : HostTarget :=
  if bar = 0 then .word (0x400000 + b / 8)
  else if bar = 1 then
    (if b < 0x400 then .mailbox (b / 8) else if b < 0x80000 then .nothing else .word (0x500000 + (b - 0x80000) / 8))
  else if b < 0x18000000 then .word (0x10000000 + b / 8)
  else .nothing

/-- The size of a BAR in bytes. -/
def barSize (bar : Nat) : Nat := if bar = 0 then 0x800000 else if bar = 1 then 0x100000 else 0x20000000

/-- An error response to the host is recorded with its BAR (R493). -/
def hostErr (kind bar b : Nat) (write : Bool) (s : State) : State :=
  match hostTarget bar b with
  | .word a => mtxRecord s hostMaster kind a write bar false
  | _ => mtxRecord s hostMaster kind (b / 8) write bar true

/-- A host access's error is recorded, but for an injected one (R493, R525). -/
def hostNote (r : Resp) (bar b : Nat) (write : Bool) (s : State) : State :=
  match r with | .err k => hostErr k bar b write s | _ => s

/-- One slot read (R118, R482, R498). -/
def hostReadSlot (bar b : Nat) (s : State) : (Resp × BitVec 64) × State :=
  match hostTarget bar b with
  | .nothing => ((.err 0, 0), s)
  | .mailbox i =>
    (match unitErr s MBX_DOORBELL with
     | some k => ((.err k, 0), s)
     | none =>
       ((.ok, if i < 64 then tabGet (fun _ => 0) s.mbx.win i else tabGet (fun _ => 0) s.mbx.resp (i - 64)), s))
  | .word a =>
    if targetOf a = .fifo ∧ a % 256 = 0 then let r := portRead a s; ((r.1.1, dataSlot r.1.2), r.2)
    else let r := busRead hostMaster a s; ((r.1.1, slotOf r.1.2), r.2)

/-- Consecutive slots read: whether every one was performed, and the slots. -/
def hostReads (bar : Nat) : Nat → Nat → State → (Bool × List (BitVec 64)) × State
  | 0, _, s => ((true, []), s)
  | n + 1, b, s =>
    let ((r, d), s) := hostReadSlot bar b s
    let ((ok, ds), s) := hostReads bar n (b + 8) (hostNote r bar b false s)
    ((decide (r = .ok) && ok, d :: ds), s)

/-- One slot written (R118, R482): the response slots take no write. -/
def hostWriteSlot (bar b : Nat) (d : BitVec 64) (s : State) : Resp × Out :=
  match hostTarget bar b with
  | .nothing => (.err 0, .next s)
  | .mailbox i =>
    (match unitErr s MBX_DOORBELL with
     | some k => (.err k, .next s)
     | none =>
       (.ok, .next (if i < 64 then { s with mbx := { s.mbx with win := tabSet (fun _ => 0) s.mbx.win i d } } else s)))
  | .word a => busWrite hostMaster a (d.setWidth 40) s

/-- Consecutive slots written. -/
def hostWrites (bar : Nat) : List (BitVec 64) → Nat → State → Out
  | [], _, s => .next s
  | d :: ds, b, s =>
    let (r, o) := hostWriteSlot bar b d s
    thenOut o (fun s => hostWrites bar ds (b + 8) (hostNote r bar b true s))

/-- The pieces of a burst of more than 16 words are counted (R492, R504). -/
def splitCount (n : Nat) (s : State) : State :=
  if 16 < n then s.put MTX_CNT_SPLIT_count (s.get MTX_CNT_SPLIT_count + (n + 15) / 16) else s

/-- The completion of a host read. -/
def hostDone (ok : Bool) (ds : List (BitVec 64)) (s : State) : State :=
  { s with host := { s.host with data := if ok then ds else [], abort := !ok } }

/-- HOST_READ (R482, R483): `len` bytes from offset `off` of a BAR. -/
def execHostRead (bar : Fin 3) (off : BitVec 30) (len : BitVec 13) (s : State) : Out :=
  let b := off.toNat
  let n := len.toNat
  if !s.rst.pcieUp ∨ 4096 < n ∨ barSize bar < b + n then .next s
  else if b % 8 ≠ 0 ∨ n % 8 ≠ 0 then .next (hostDone false [] (hostErr 5 bar b false s))
  else
    let r := hostReads bar (n / 8) b (splitCount (n / 8) s)
    .next (hostDone r.1.1 r.1.2 r.2)

/-- HOST_WRITE (R482, R483): the slots `data` and `tail` bytes more from offset `off` of a BAR. A burst that covers DRAM bursts whole
replaces them (R486). -/
def execHostWrite (bar : Fin 3) (off : BitVec 30) (data : List (BitVec 64)) (tail : Fin 8) (s : State) : Out :=
  let b := off.toNat
  let n := data.length
  if !s.rst.pcieUp ∨ 512 < 8 * n + tail.val ∨ barSize bar < b + 8 * n + tail.val then .next s
  else if b % 8 ≠ 0 ∨ tail.val ≠ 0 then .next (hostErr 5 bar b true s)
  else
    let s := splitCount n s
    let s := if bar.val = 2 then coverBursts s hostMaster (0x10000000 + b / 8) n else s
    hostWrites bar data b s

end Sys2Proof.Machine
end

