-- ==== Sys2Proof/Machine/LdSt.lean ====
section
/-! DEFINITION. Loads and stores, the return of a load and the error response to a store (R68 to R76, R105). A load is performed
when it returns; a store when it issues (log 63). -/

namespace Sys2Proof.Machine

/-- The master that a core is (R490), with its present privilege. -/
def coreAs (k : CoreId) (keeper : Bool) : Master := { id := ⟨coreMaster k % 25, Nat.mod_lt _ (by decide)⟩, keeper := keeper }

/-- A load of a FIFO port or of the unit register space waits for every earlier load (R75). -/
def loadAlone (a : Nat) : Bool := decide (targetOf a = .regs ∨ targetOf a = .fifo)

/-- Whether a word lies in the core's own local memory, which it reaches without the matrix (R74, R76). -/
def localWord (k a : Nat) : Bool :=
  if k < 16 then decide (targetOf a = .imem (k / 4) ∨ targetOf a = .dmem (k / 4)) else decide (targetOf a = .brush ((k - 16) / 8))

/-- Whether the 32 tags of the core's matrix port are taken (R491): only the eight engines of a Brush group share one. -/
def tagsFull (s : State) (k : Nat) : Bool :=
  decide (16 ≤ k) && decide (32 ≤ ((groupEngines ((k - 16) / 8)).map (fun e =>
    ((s.core e).loads.filter (fun l => decide (l.back = 0) && !localWord e l.addr)).length)).sum)

/-- A load issues (R69, R70, R75): it joins the outstanding loads, of which there may be eight. -/
def loadIssue (k : CoreId) (rd : GReg) (rs1 : GReg) (imm : BitVec 19) (pair : Bool) (s : State) : Out :=
  issue k (rd.val :: rs1.val :: (if pair then [rd.val + 1] else [])) false (fun c s =>
    let a := c.ea rs1 imm
    if pair && !pairDst rd then .fault .unpredictable
    else if 8 ≤ c.loads.length ∨ (!c.loads.isEmpty ∧ loadAlone a) ∨ (!localWord k a ∧ tagsFull s k) then .next s
    else
      let (due, s) := respDue s a
      let l : Load := { pc := c.pc, rd := rd.val, pair := pair, addr := a, after := 0, back := 0, kind := none,
                        regs := c.regs, a0 := c.a0, a1 := c.a1, flags := c.flags, due := due }
      let s := retire s k c
      let s := s.setCore k { s.core k with loads := (s.core k).loads ++ [l] }
      .next (if localWord k a then s else slotInc s k 6)) s

/-- LD (R69). -/
def execLd (k : CoreId) (rd rs1 : GReg) (imm : BitVec 19) (s : State) : Out := loadIssue k rd rs1 imm false s

/-- LDP (R69, R70). -/
def execLdp (k : CoreId) (rd rs1 : GReg) (imm : BitVec 19) (s : State) : Out := loadIssue k rd rs1 imm true s

/-- The word of a register file written, and likewise in what a younger load would restore. -/
def fileSet (t : Tab Word) (r : Nat) (w : Word) : Tab Word := if r = 0 then t else tabSet (fun _ => (0 : Word)) t r w

/-- The words of a load that has returned are written (R69). -/
def loadWrite (l : Load) (w0 w1 : Word) (t : Tab Word) : Tab Word :=
  let t := fileSet t l.rd w0
  if l.pair then fileSet t (l.rd + 1) w1 else t

/-- The oldest outstanding load has come back with an error (R75, R105): what issued behind it is undone and BUS_LOAD is
taken with the PC of the load. -/
def loadTrap (s : State) (k : CoreId) : State :=
  let c := s.core k
  match c.loads with
  | l :: _ =>
    if l.back = 2 then
      let c := { c with regs := l.regs, a0 := l.a0, a1 := l.a1, flags := l.flags, pc := l.pc, loads := [] }
      takeTrap (s.setCore k c) k 5 l.kind (some l.addr) l.pc
    else s
  | [] => s

/-- The accesses of a load (R69, R70): its response and its words. -/
def loadAccess (m : Master) (l : Load) (s : State) : (Resp × Word × Word) × State :=
  let r := busRead m l.addr s
  let s := noteResp m r.1.1 l.addr false r.2
  if l.pair then
    let a1 := (l.addr + 1) % 2 ^ 32
    let r1 := busRead m a1 s
    let s := noteResp m r1.1.1 a1 false r1.2
    ((if r.1.1 = .ok then r1.1.1 else r.1.1, r.1.2, r1.1.2), s)
  else ((r.1.1, r.1.2, 0), s)

/-- The accesses that a load makes as it returns: none where its unit's wrapper has ended it with an error response (R25). -/
def loadReturns (k : CoreId) (l : Load) (s : State) : (Resp × Word × Word) × State :=
  let m := coreAs k (s.core k).keeper
  if l.back = 3 then ((.err (l.kind.getD 2), 0, 0), noteResp m (.err (l.kind.getD 2)) l.addr false s) else loadAccess m l s

/-- A core's stores that wait in its store buffer, all for FIFOs (R71, R75, R499; log 63). -/
def storesWaiting (s : State) (k : Nat) : Nat := (s.fifoWait.filter (fun e => decide (e.core = some k))).length

/-- LOAD_RETURN (R69, R71, R75): outstanding load `i` of a core returns, once the test unit holds it back no more (R525), after every older one to its target and every earlier store to
it. Its words are written, or its error waits until it is the oldest. -/
def execLoadReturn (k : CoreId) (i : Fin 8) (s : State) : Out :=
  match (s.core k).loads[i.val]? with
  | none => .next s
  | some l =>
    if l.back = 2 ∨ !s.elapsed l.due ∨ ((s.core k).loads.take i).any (fun o => decide (o.back ≠ 2) && decide (targetOf o.addr = targetOf l.addr))
        ∨ (targetOf l.addr = .fifo ∧ storesWaiting s k ≠ 0) then
      .next s
    else
      let ((r, w0, w1), s) := loadReturns k l s
      let c := s.core k
      match r with
      | .ok =>
        let older := c.loads.take i
        let younger := (c.loads.drop (i + 1)).map (fun o => { o with regs := loadWrite l w0 w1 o.regs })
        let s := s.setCore k { c with regs := loadWrite l w0 w1 c.regs, loads := older ++ younger }
        .next (coreBoundary (loadTrap s k) k)
      | r =>
        let s := s.setCore k { c with loads := c.loads.set i { l with back := 2, kind := r.kind? } }
        .next (coreBoundary (loadTrap s k) k)

/-- An error response to a posted store is on its way to the core (R75, R105). -/
def storeErr (k : CoreId) (m : Master) (a ea : Nat) (r : Resp) (s : State) : State :=
  match r with
  | .ok => s
  | r =>
    let s := noteResp m r a true s
    s.setCore k { s.core k with stErr := (s.core k).stErr ++ [(ea, r.kind?)] }

/-- A word of a store is performed. -/
def storeWord (k : CoreId) (m : Master) (a ea : Nat) (w : Word) (s : State) : Out :=
  let (r, o) := busWriteBy (some k) m a w s
  thenOut o (fun s => .next (storeErr k m a ea r s))

/-- ST (R69); it stalls while the store buffer is full (R75). -/
def execSt (k : CoreId) (rs1 rs2 : GReg) (imm : BitVec 19) (s : State) : Out :=
  issue k [rs1.val, rs2.val] true (fun c s =>
    if 8 < storesWaiting s k + 1 then .next s
    else
      let a := c.ea rs1 imm
      storeWord k (coreAs k c.keeper) a a (c.g rs2) (retire s k c)) s

/-- The two words of a pair are stored as one access (R69): where either errs neither is written, and the one error response is that of
the pair, EC_TADDR holding the address of its first word (DESIGN CHOICE, log 157). -/
def storePair (k : CoreId) (m : Master) (a : Nat) (w0 w1 : Word) (s : State) : Out :=
  let b := (a + 1) % 2 ^ 32
  let (r0, o0) := busWriteBy (some k) m a w0 s
  if r0 ≠ .ok then thenOut o0 (fun t => .next (storeErr k m a a r0 t))
  else
    thenOut o0 (fun t =>
      let (r1, o1) := busWriteBy (some k) m b w1 t
      if r1 = .ok then o1
      else
        let (r, o) := busWriteBy (some k) m b w1 s
        if r = .ok then thenOut o1 (fun u => .next (storeErr k m b a r1 u)) else thenOut o (fun u => .next (storeErr k m b a r u)))

/-- STP (R69, R70): the words in ascending order; it stalls while the store buffer has no room for both (R75). -/
def execStp (k : CoreId) (rs1 rs2 : GReg) (imm : BitVec 19) (s : State) : Out :=
  issue k [rs1.val, rs2.val, rs2.val + 1] true (fun c s =>
    if !pairSrc rs2 then .fault .unpredictable
    else if 8 < storesWaiting s k + 2 then .next s
    else storePair k (coreAs k c.keeper) (c.ea rs1 imm) (c.g rs2) (c.g (rs2 + 1)) (retire s k c)) s

/-- STORE_ERROR_RESPONSE (R105): the oldest error response to a posted store reaches the core; BUS_STORE is taken at the
instruction boundary, in WAIT and WEV at once, in SCHED after it completes. -/
def execStoreErrorResponse (k : CoreId) (s : State) : Out :=
  let c := s.core k
  match c.stErr with
  | [] => .next s
  | e :: rest => .next (coreBoundary (s.setCore k { c with stErr := rest, stBack := c.stBack ++ [e] }) k)

end Sys2Proof.Machine
end

