-- ==== Sys2Proof/Machine/Sys.lean ====
section
/-! DEFINITION. FIFO instructions, unit registers, waiting on time and on events, and the control registers of a core
(R81 to R86, R91 to R95, R110). -/

namespace Sys2Proof.Machine

/-! ## FIFOs -/

/-- A PUSH is performed now, none where it must wait (R93, R497, R499); a disabled FIFO ignores it (R502). -/
def pushTry (k : CoreId) (n fr : Nat) (w : Word) (s : State) : Option Out :=
  let m := coreMaster k
  let q := s.fifo n
  let mine := match q.owner with | none => true | some o => decide (o = m)
  if !q.en ∨ (unitErr s FIFO_IDX).isSome then some (.next s)
  else if !mine ∨ fifoBehind s n m (some k.val) then none
  else if !fifoFramed q fr then some (.fault .unpredictable)
  else if fifoTakes s n m fr then some (.next (fifoDrain (s.setFifo n (fifoPut q m fr w))))
  else none

/-- PUSH (R93). -/
def execPush (k : CoreId) (rs1 rs2 : GReg) (fr : Fin 4) (s : State) : Out :=
  issue k [rs1.val, rs2.val] true (fun c s =>
    let n := (c.g rs1).toNat % 256
    match pushTry k n fr (c.g rs2) s with
    | some o => thenOut o (fun s => .next (retire s k (s.core k)))
    | none => .next (retireWait s k c (.push n fr (c.g rs2)))) s

/-- PUSH_ACCEPTED (R93): the FIFO takes the word of a waiting PUSH. -/
def execPushAccepted (k : CoreId) (s : State) : Out :=
  match (s.core k).waiting with
  | .push n fr w =>
    (match pushTry k n fr w s with
     | some o => thenOut o (fun s => .next (finishWait s k (s.core k)))
     | none => .next s)
  | _ => .next s

/-- POP (R94, R498). -/
def execPop (k : CoreId) (rd rs1 : GReg) (s : State) : Out :=
  issue k [rd.val, rs1.val] true (fun c s =>
    let n := (c.g rs1).toNat % 256
    let (w, s) := if (unitErr s FIFO_IDX).isSome then (none, s) else fifoRead n s
    let c := s.core k
    .next (retire s k { c.setG rd (w.getD 0) with flags := { c.flags with e := w.isNone } })) s

/-- WASH (R95). -/
def execWash (k : CoreId) (rs1 : GReg) (s : State) : Out :=
  issue k [rs1.val] true (fun c s =>
    let n := (c.g rs1).toNat % 256
    let s := retire s k c
    .next (if (unitErr s FIFO_IDX).isSome then s else fifoWashAt n s)) s

/-! ## Unit registers -/

/-- URD (R91): it waits for the unit's response. -/
def execUrd (k : CoreId) (rd rs1 : GReg) (off : BitVec 8) (s : State) : Out :=
  issue k [rd.val, rs1.val] true (fun c s =>
    let u := (c.g rs1).toNat % 4096
    let (due, s) := respDue s (regSpace (u * 256 + off.toNat))
    .next (retireWait s k { c with due := due } (.urd rd u off.toNat))) s

/-- UWR (R91). -/
def execUwr (k : CoreId) (rs1 rs2 : GReg) (off : BitVec 8) (s : State) : Out :=
  issue k [rs1.val, rs2.val] true (fun c s =>
    let u := (c.g rs1).toNat % 4096
    let (due, s) := respDue s (regSpace (u * 256 + off.toNat))
    .next (retireWait s k { c with due := due } (.uwr u off.toNat (c.g rs2)))) s

/-- A User access to a Keeper block by URD or UWR raises the bus-error trap (R92); every other error sets E. -/
def unitDone (k : CoreId) (m : Master) (a : Nat) (write : Bool) (r : Resp) (f : Core → Core) (s : State) : State :=
  let s := noteResp m r a write s
  let c := s.core k
  if r = .err 1 then takeTrap (s.setCore k { c with waiting := .none }) k 5 (some 1) (some a) c.pc
  else finishWait s k { f c with flags := { c.flags with e := decide (r ≠ .ok) } }

/-- UNIT_ACCESS_RESPONSE (R92): the access of a waiting URD or UWR is performed and its response arrives, or the error response with
which a wrapper has ended it (R25); not while the test unit holds it back (R525). -/
def execUnitAccessResponse (k : CoreId) (s : State) : Out :=
  let c := s.core k
  let m := coreAs k c.keeper
  if !s.elapsed c.due then .next s
  else match c.waiting with
  | .urd rd u off =>
    let a := 0x400000 + u * 0x100 + off
    let r := busRead m a s
    .next (unitDone k m a false r.1.1 (fun c => c.setG rd r.1.2) r.2)
  | .uwr u off w =>
    let a := 0x400000 + u * 0x100 + off
    let (r, o) := busWrite m a w s
    thenOut o (fun s =>
      .next (match (s.core k).waiting with
        | .uwr _ _ _ => unitDone k m a true r (fun c => c) s
        | _ => noteResp m r a true s))
  | .unitErr rd u off =>
    let a := 0x400000 + u * 0x100 + off
    let f := fun (c : Core) => match rd with | some r => c.setG r 0 | none => c
    .next (unitDone k m a rd.isNone (.err ((unitErr s (u * 0x100)).getD 2)) f s)
  | _ => .next s

/-! ## Waiting -/

/-- A WAIT for `t` (R81): no sleep when the time has been reached. -/
def waitFor (k : CoreId) (c : Core) (t : T80) (s : State) : State :=
  if s.reached t then retire s k { c with flags := { c.flags with l := true } }
  else retireWait s k c (.wait t false)

/-- WAIT (R81): relative with `rel`, else absolute, which is absent on Brush (R77). The core waits for a free time where the pair's
is not normalized (R5, log 151). -/
def execWait (k : CoreId) (rs1 : GReg) (rel : Bool) (s : State) : Out :=
  if rel then issue k [rs1.val] true (fun c s => .next (waitFor k c (s.afterNs (c.g rs1).toNat) s)) s
  else if k.val < 16 then
    issue k [rs1.val, rs1.val + 1] true (fun c s =>
      if pairSrc rs1 then
        let (t, s) := timeOrFree (c.pair rs1) s
        .next (waitFor k c t s)
      else .fault .unpredictable) s
  else illegal k s

/-- WAIT_WAKE (R81, R83): the copy reaches the target, or a step has carried it past it. -/
def execWaitWake (k : CoreId) (s : State) : Out :=
  let c := s.core k
  match c.waiting with
  | .wait t past => .next (if s.reached t then finishWait s k { c with flags := { c.flags with l := past } } else s)
  | _ => .next s

/-- WEV (R84): mask bits [39:30] are reserved (R85, R125); a deadline in ns where `dl` names its register. -/
def execWev (k : CoreId) (rd rs1 : GReg) (dl : Option GReg) (s : State) : Out :=
  issue k (rd.val :: rs1.val :: (match dl with | none => [] | some r => [r.val])) true (fun c s =>
    let mask := c.g rs1
    if 2 ^ 30 ≤ mask.toNat then .fault .unpredictable
    else
      let d := dl.map (fun r => s.afterNs (c.g r).toNat)
      match wevTry s k c rd mask d with
      | some c => .next (retire s k c)
      | none => .next (retireWait s k c (.wev rd mask d))) s

/-- WEV_WAKE (R84): a selected event is pending. -/
def execWevWake (k : CoreId) (s : State) : Out :=
  let c := s.core k
  match c.waiting with
  | .wev rd mask _ =>
    (match wevTry s k c rd mask none with | some c => .next (finishWait s k c) | none => .next s)
  | _ => .next s

/-- WEV_DEADLINE (R84): the deadline passes with no selected event pending. -/
def execWevDeadline (k : CoreId) (s : State) : Out :=
  let c := s.core k
  match c.waiting with
  | .wev rd mask (some d) =>
    if s.reached d ∧ (wevTry s k c rd mask none).isNone then
      (match wevTry s k c rd mask (some d) with | some c => .next (finishWait s k c) | none => .next s)
    else .next s
  | _ => .next s

/-! ## Strokes -/

/-- SCHED (R87, R90): a User offer of a Keeper class raises the Keeper trap; an odd pair or a reserved action word is
unpredictable (R79, R125), and a time that is not normalized is free (R5, log 151). -/
def execSched (k : CoreId) (rd rs1 rs2 : GReg) (tag : BitVec 8) (s : State) : Out :=
  issue k [rd.val, rs1.val, rs1.val + 1, rs2.val] true (fun c s =>
    let act := c.g rs2
    if keeperClass (fieldOf act 39 36) && !c.keeper then .next (takeTrap s k 7 none none c.pc)
    else if !pairSrc rs1 ∨ !actionLegal act then .fault .unpredictable
    else
      let (t, s) := timeOrFree (c.pair rs1) s
      .next (tryOffer (retireWait s k c (.sched rd)) (newOffer (some k) (.core k) c.keeper (T80hi t) (T80lo t) act tag.toNat))) s

/-- SCHED_RESULT (R87, R88): two cycles after the answer reached the core, the result word and the flags are written. -/
def execSchedResult (k : CoreId) (s : State) : Out :=
  let c := s.core k
  match c.waiting with
  | .schedDone rd res late =>
    let f : Flags := { c.flags with z := false, n := decide (2 ≤ fieldOf res 39 36), v := false, l := late }
    .next (finishWait s k { c.setG rd res with flags := f })
  | _ => .next s

/-! ## Control registers -/

/-- The control register at offset `off` of a core's block. -/
def coreRegAt (k : CoreId) (off : Nat) : Nat := coreBlock k + off

/-- CORE_RUN_WRITE (R110): a write of ECk_CTL. -/
def execCoreRunWrite (m : Master) (k : CoreId) (w : Word) (s : State) : Out :=
  writeReg m (coreRegAt k 0) w (coreRunWrite k w) s

/-- SOFT_EVENT (R110): a write of ECk_SEV. -/
def execSoftEvent (m : Master) (k : CoreId) (w : Word) (s : State) : Out := writeReg m (coreRegAt k 0x0C) w (coreSevWrite k w) s

end Sys2Proof.Machine
end

