-- ==== Sys2Proof/Machine/Pkt.lean ====
section
/-! DEFINITION. Key operations of the cores and the packet instructions of the Brush engines (R96 to R102, R325, R327). -/

namespace Sys2Proof.Machine

/-! ## Buffers -/

/-- Whether the words of a buffer lie in the program's own memory (R125, R111; log 65): its cluster's or group's memory, outside
the House reserved part for User, or DRAM. -/
def ownWords (k : CoreId) (keeper : Bool) (a n : Nat) : Bool :=
  (List.range n).all (fun i =>
    let w := a + i
    (localWord k w && (keeper || !houseReserved w || decide (k.val < 16 ∧ (w / 0x10000) % 2 = 0))) || decide (targetOf w = .dram))

/-- The words that `n` octets take (R96). -/
def bufWords (n : Nat) : Nat := (n + 4) / 5

/-- The octets of a buffer, five to a word, the least significant first (R96). -/
def bufRead (m : Master) (a n : Nat) (s : State) : List Nat × State :=
  let (ws, s) := dmaLoad m s a (bufWords n)
  ((ws.flatMap bytesOf).take n, s)

/-- Octets packed for a buffer; those of the last word beyond the end are not stated: free (log 1). -/
def bufPack (bs : List Nat) (s : State) : List Word × State :=
  if bs.isEmpty then ([], s)
  else
    let (f, s) := s.free
    (packBytes (bufWords bs.length) ((bs ++ bytesOf f).take (5 * bufWords bs.length)), s)

/-! ## KOP -/

/-- Whether a KOP descriptor sets a reserved bit (R96). -/
def kopReserved (d : List Word) : Bool := d.any (fun w => decide (2 ^ 32 ≤ w.toNat))

/-- KOP (R96, R98, R368): the descriptor and the buffers are read, the operation is performed at its key point with its result
staged, and the core waits. A buffer outside the program's own memory is unpredictable (R125). -/
def kopDo (k : CoreId) (op : Nat) (rd rs1 rs2 : GReg) (s : State) : Out :=
  issue k [rd.val, rs1.val, rs2.val] true (fun c s =>
    let m := coreAs k c.keeper
    let a := (c.g rs2).toNat % 2 ^ 32
    if !ownWords k c.keeper a 4 then .fault .unpredictable
    else
      let (d, s) := dmaLoad m s a 4
      let w := fun i => d.getD i 0
      let inN := fieldOf (w 1) 15 0
      let auxN := fieldOf (w 1) 31 16
      if kopReserved d || !ownWords k c.keeper (w 0).toNat (bufWords inN) || !ownWords k c.keeper (w 3).toNat (bufWords auxN) then
        .fault .unpredictable
      else
        let (input, s) := bufRead m (w 0).toNat inN s
        let (aux, s) := bufRead m (w 3).toNat auxN s
        let (r, s) := kopRun s k c.keeper op ((c.g rs1).toNat % 4096) input aux
        if !ownWords k c.keeper (w 2).toNat (bufWords r.data.length) then .fault .unpredictable
        else
          let (out, s) := bufPack r.data s
          .next (retireWait s k (s.core k)
            (.kop rd (w 2).toNat out (w40 (r.code * 2 ^ 36 + r.epoch * 2 ^ 32 + r.out))))) s

/-- KOP DERIVE (R364). -/
def execKopDerive (k : CoreId) (rd rs1 rs2 : GReg) (s : State) : Out := kopDo k 0 rd rs1 rs2 s

/-- KOP MAC (R360). -/
def execKopMac (k : CoreId) (rd rs1 rs2 : GReg) (s : State) : Out := kopDo k 1 rd rs1 rs2 s

/-- KOP SEAL (R346, R360). -/
def execKopSeal (k : CoreId) (rd rs1 rs2 : GReg) (s : State) : Out := kopDo k 2 rd rs1 rs2 s

/-- KOP OPEN (R346, R360). -/
def execKopOpen (k : CoreId) (rd rs1 rs2 : GReg) (s : State) : Out := kopDo k 3 rd rs1 rs2 s

/-- KOP SIGN (R367). -/
def execKopSign (k : CoreId) (rd rs1 rs2 : GReg) (s : State) : Out := kopDo k 4 rd rs1 rs2 s

/-- KOP_RESULT (R97, R368): the staged output is written and then the status word; not while the PKE still holds the request. -/
def execKopResult (k : CoreId) (s : State) : Out :=
  let c := s.core k
  match c.waiting with
  | .kop rd out data status =>
    if s.kv.pke.any (fun r => decide (r.core = some k.val)) then .next s
    else if ledgerHit s out data.length then .fault .unpredictable
    else
      let s := dmaStore (coreAs k c.keeper) s out data
      let f : Flags := { c.flags with e := decide (fieldOf status 39 36 ≠ 0) }
      .next (finishWait s k { c.setG rd status with flags := f })
  | _ => .next s

/-! ## Packet instructions -/

/-- A packet instruction, absent on Easel (R77, R78). -/
def brush (k : CoreId) (f : State → Out) (s : State) : Out := if k.val < 16 then illegal k s else f s

/-- Octet `i` of the buffer at word `a` of group memory. -/
def bufOctet (s : State) (a i : Nat) : Nat := byteOf (s.ld (a + i / 5)) (i % 5)

/-- Whether `n` octets from octet `i` of the buffer at `a` lie in the engine's own group memory. -/
def ownOctets (k : CoreId) (keeper : Bool) (a i n : Nat) : Bool :=
  decide (n = 0) || (List.range ((i + n - 1) / 5 + 1 - i / 5)).all (fun j =>
    localWord k (a + i / 5 + j) && (keeper || !houseReserved (a + i / 5 + j)))

/-- PEX (R99): lengths above 5 are reserved. -/
def execPex (k : CoreId) (rd rs1 rs2 : GReg) (off : BitVec 11) (len : BitVec 3) (little : Bool) (s : State) : Out :=
  brush k (issue k [rd.val, rs1.val, rs2.val] true (fun c s =>
    let a := (c.g rs1).toNat % 2 ^ 32
    let i := (c.g rs2).toNat % 2 ^ 16 + off.toNat
    let n := len.toNat + 1
    if 5 < n ∨ !ownOctets k c.keeper a i n then .fault .unpredictable
    else
      let bs := (List.range n).map (fun j => bufOctet s a (i + j))
      let r := w40 (beNum (if little then bs.reverse else bs))
      .next (retireReg s k c rd (r, flagsZN c.flags r)))) s

/-- CSUM (R100). -/
def execCsum (k : CoreId) (rd rs1 rs2 : GReg) (fold : Bool) (s : State) : Out :=
  brush k (issue k [rd.val, rs1.val, rs2.val] true (fun c s =>
    let a := (c.g rs1).toNat % 2 ^ 32
    let i := fieldOf (c.g rs2) 15 0
    let n := fieldOf (c.g rs2) 31 16
    if !ownOctets k c.keeper a i n then .fault .unpredictable
    else
      let bs := (List.range n).map (fun j => bufOctet s a (i + j))
      let x := onesSum bs (if fold then fieldOf (c.g rd) 15 0 else 0)
      .next (retireReg s k c rd (w40 x, { c.flags with z := decide (x = 0), n := false })))) s

/-- TSI (R101, R327): word 2 of the descriptor is armed; format 3 is reserved. -/
def execTsi (k : CoreId) (rs1 rs2 : GReg) (off : BitVec 11) (fmt : BitVec 2) (s : State) : Out :=
  brush k (issue k [rs1.val, rs2.val] true (fun c s =>
    let a := (c.g rs1).toNat % 2 ^ 32
    if fmt = 3 ∨ !ownOctets k c.keeper a 0 20 then .fault .unpredictable
    else
      let w := w40 (2 ^ 39 + fmt.toNat * 2 ^ 37 + off.toNat * 2 ^ 26 + fieldOf (c.g rs2) 15 0 * 2 ^ 10)
      .next (retire (s.st (a + 2) w) k c))) s

/-- The frames that a transmit queue of a port holds. -/
def queued (s : State) (p q : Nat) : Nat := ((s.port p).txq.filter (fun f => decide (f.queue = q))).length

/-- A frame joins its transmit queue (R102, R325), none where the queue is full; the word answered is the stamp identifier. A
port that does not answer is down: the descriptor is returned (R328). -/
def qsendTry (p desc queue : Nat) (stamp : Bool) (s : State) : Option (Word × State) :=
  if (unitErr s (LPp_CFG p)).isSome then some (0, txDone s p desc 3)
  else if Config.txDepth ≤ queued s p queue then none
  else
    let x := s.port p
    let f : TxFrame := { txFrame desc queue [] with stampId := if stamp then some x.nextId else none }
    let s := s.setPort p { x with txq := x.txq ++ [f], nextId := if stamp then (x.nextId + 1) % 65536 else x.nextId }
    some (if stamp then w40 x.nextId else 0, s)

/-- The line port of an engine's group. -/
def enginePort (k : CoreId) : Nat := (k.val - 16) / 8

/-- QSEND (R102). -/
def execQsend (k : CoreId) (rd rs1 rs2 : GReg) (stamp : Bool) (s : State) : Out :=
  brush k (issue k [rd.val, rs1.val, rs2.val] true (fun c s =>
    let desc := (c.g rs1).toNat % 2 ^ 32
    let q := (c.g rs2).toNat % 8
    if !ownOctets k c.keeper desc 0 20 then .fault .unpredictable
    else match qsendTry (enginePort k) desc q stamp s with
      | some (w, s) => .next (retire s k ((s.core k).setG rd w))
      | none => .next (retireWait s k c (.qsend desc q rd stamp)))) s

/-- QSEND_ACCEPTED (R102): the queue takes the waiting frame. -/
def execQsendAccepted (k : CoreId) (s : State) : Out :=
  let c := s.core k
  match c.waiting with
  | .qsend desc q rd stamp =>
    (match qsendTry (enginePort k) desc q stamp s with
     | some (w, s) => .next (finishWait s k (c.setG rd w))
     | none => .next s)
  | _ => .next s

end Sys2Proof.Machine
end

