-- ==== Sys2Proof/Machine/Ntp.lean ====
section
/-! DEFINITION. What the House services of the line ports share, and the NTP and NTS services (R232, R233, R334, R342 to
R348, R351, R352). The formats of NTP, NTS and their carriers are those of the standards the rules name (log 9). -/

namespace Sys2Proof.Machine

/-! ## Frames that a service builds -/

/-- The bound that a service places in a packet of port `p` (R334). -/
def serviceBound (s : State) (p : Nat) (held : Bool) : Nat :=
  let block := ([640, 2560, 6400] : List Nat).getD (s.get (LPp_CFG_mode p)) 640
  addE (addE (s.get (BRGg_BMAX_b p)) (emitTerm s (20 + p))) (if held then block else 0)

/-- The bits of descriptor word 1 that have the port check the bound in a frame at departure (R327, R333, R334). -/
def boundCheck (s : State) (p : Nat) : Nat := 2 ^ 17 + s.get (BRGg_BSEQ_bseq p) * 2 ^ 18

/-- A frame that a House service built joins a transmit queue. -/
def serviceSend (s : State) (p : Nat) (f : TxFrame) : State :=
  let x := s.port p
  s.setPort p { x with txq := x.txq ++ [f] }

/-- A frame received, as its descriptor and its buffer give it to a service (R329): its octets, sub-port, class, place of the
payload, the instant of its stamp, and the sitter's verdict and entry. -/
structure Request where
  bs : List Nat
  sub : Nat
  cls : Nat
  l4 : Nat
  ipv6 : Bool
  vlan : Bool
  at_ : T80
  verdict : Nat
  entry : Nat

/-- The place of the layer above Ethernet. -/
def Request.l3 (r : Request) : Nat := if r.vlan then 18 else 14

/-- The message in a request's UDP datagram, or after the Ethernet header. -/
def payloadOf (r : Request) : List Nat :=
  let b := r.bs.drop r.l4
  if r.l4 = r.l3 then b else b.take (beNum (octets r.bs (r.l4 - 4) 2) - 8)

/-- The own address of a port (R567). -/
def portAddress (s : State) (p : Nat) : List Nat :=
  beBytes 2 (fieldOf (optWord s (26 + 2 * p)) 15 0) ++ beBytes 4 (fieldOf (optWord s (27 + 2 * p)) 31 0)

/-- The frame that carries an answer to a request (R335, R342): to its sender, or to its group from the address `ip`, from
the port it was sent to unless another is named. Header octets that no rule states, an own address among them, are free
(log 148). -/
def answerFrame (s : State) (p : Nat) (r : Request) (ip : List Nat) (port : Option Nat) (msg : List Nat) : List Nat × State :=
  let bs := r.bs
  let group := decide (bs.getD 0 0 % 2 = 1)
  let l2 := (if group then bs.take 6 else octets bs 6 6) ++ portAddress s p ++ octets bs 12 (r.l3 - 12)
  if r.l4 = r.l3 then (l2 ++ msg, s)
  else
    let (ws, s) := drawWords 5 s
    let f := fun (k : Nat) => (ws.flatMap bytesOf).getD k 0
    let n := if r.ipv6 then 16 else 4
    let i := r.l3 + if r.ipv6 then 8 else 12
    let src := if group then (ip ++ (List.range n).map (fun k => f (k + 5))).take n else octets bs (i + n) n
    let dst := if group then octets bs (i + n) n else octets bs i n
    let sport := match port with | some x => x | none => beNum (octets bs (r.l4 - 6) 2)
    let dport := match port with | some x => x | none => beNum (octets bs (r.l4 - 8) 2)
    let len := beBytes 2 (8 + msg.length)
    let udp := beBytes 2 sport ++ beBytes 2 dport ++ len
    let x := 65535 - onesSum (src ++ dst ++ [0, 17] ++ len ++ udp ++ [0, 0] ++ msg) 0
    let udp := udp ++ beBytes 2 (if x = 0 then 0xFFFF else x) ++ msg
    let l3 :=
      if r.ipv6 then [0x60 + f 0 % 16, f 1, f 2, f 3] ++ len ++ [17, f 4] ++ src ++ dst
      else
        let a := [0x45, f 0] ++ beBytes 2 (28 + msg.length) ++ [f 1, f 2, f 3 % 2 * 64, 0, f 4, 17]
        a ++ beBytes 2 (65535 - onesSum (a ++ [0, 0] ++ src ++ dst) 0) ++ src ++ dst
    (l2 ++ l3 ++ udp, s)

/-- An answer joins a transmit queue of its sub-port; which queue is not stated, and free. -/
def sendAnswer (s : State) (p : Nat) (r : Request) (bs : List Nat) (ctl : Nat) (arm time : Word) : State :=
  let (q, s) := s.freeBelow 8
  serviceSend s p { txFrame 0 q bs with ctl := r.sub * 2 ^ 14 + ctl, arm := arm, time := time }

/-- A key operation of a service on an engine of port `p`'s group; which engine is not stated, and free. -/
def serviceEngine (s : State) (p : Nat) : Nat × State :=
  let (e, s) := s.freeBelow 8
  (16 + 8 * p + e, s)

/-- An engine reports to the sitter unit (R352): an authentication failure (1) or an epoch (2) of the request's entry. -/
def sitterReport (s : State) (r : Request) (op epoch : Nat) : State :=
  if r.verdict = 3 then s
  else (pushPacket s (s.get STZ_CMD_FIFO_fifo) [w40 (op * 2 ^ 38 + r.entry * 2 ^ 16 + epoch % 16 * 2 ^ 12)]).getD s

/-! ## NTP -/

/-- The reference ID (R342): INIT at stratum 16, else the source of the slot last selected; a spare slot 23 has none stated. -/
def ntpRefId (s : State) : List Nat × State :=
  let n := s.get PAL_STATE_sel_slot
  let name := fun (t : String) => ((ascii t ++ [0]).take 4, s)
  if s.get GLZ_ADV_stratum = 16 then name "INIT"
  else if n ≤ 7 then name "REF" else if n = 8 then name "ATOM" else if n = 9 then name "GNSS" else if n ≤ 13 then name "SPAN"
  else if n ≤ 17 then name "SYNC" else if n ≤ 22 ∨ s.ptp.clients.any (fun e => decide (e.1 = 5)) then name "PTP"
  else
    let (ws, s) := drawWords 1 s
    ((ws.flatMap bytesOf).take 4, s)

/-- The root dispersion of a bound (R232). -/
def rootDispersion (b : Nat) : Nat :=
  let x := (b * 2 ^ 16 + 10 ^ 12 - 1) / 10 ^ 12
  if unbounded ≤ b ∨ 2 ^ 32 ≤ x then 0xFFFFFFFF else x

/-- The 48-octet header of an answer (R342); a kiss-o'-death has stratum 0 and its code as the reference ID (R347, R351). -/
def ntpHeader (s : State) (p : Nat) (r : Request) (kiss : Option String) (held : Option T80) : List Nat × State :=
  let q := payloadOf r
  let (id, s) := match kiss with | some k => (ascii k, s) | none => ntpRefId s
  let stratum := if kiss.isSome then 0 else s.get GLZ_ADV_stratum
  let tx := match held with | some t => ntpStamp s t | none => List.replicate 8 0
  ([s.get GLZ_ADV_li * 64 + q.getD 0 0 / 8 % 8 * 8 + 4, stratum, q.getD 2 0, 256 - 30] ++ [0, 0, 0, 0]
    ++ beBytes 4 (rootDispersion (serviceBound s p held.isSome)) ++ id ++ ntpStamp s { sec := s.now.sec, low := 0 }
    ++ octets q 40 8 ++ ntpStamp s r.at_ ++ tx, s)

/-- The extension field of R233. -/
def ntpField (s : State) (p : Nat) (held : Bool) : List Nat :=
  if !s.on GLZ_CTL_ntp_ef_en then []
  else beBytes 2 (s.get GLZ_NTP_EF_type) ++ [0, 16, 0] ++ beBytes 5 (serviceBound s p held) ++ beBytes 5 (s.rd GLZ_LIN).toNat
    ++ [s.get PAL_STATE_state]

/-- The hold time of an authenticated answer (R332, R354's trace). -/
def holdTime (s : State) : T80 := t80Add s.now (nsU 2000 : Nat)

/-- An answer with its transmit timestamp inserted at departure (R342, format 1). -/
def sendInserted (s : State) (p : Nat) (r : Request) (msg : List Nat) : State :=
  let (bs, s) := answerFrame s p r [] none msg
  sendAnswer s p r bs (boundCheck s p) (w40 (2 ^ 39 + 2 ^ 37 + (r.l4 + 40) * 2 ^ 26 + (r.l4 - 2) * 2 ^ 10)) 0

/-- An answer that starts at the time its transmit timestamp shows (R332). -/
def sendHeld (s : State) (p : Nat) (r : Request) (msg : List Nat) (t : T80) : State :=
  let (bs, s) := answerFrame s p r [] none msg
  sendAnswer s p r bs (2 ^ 16 + boundCheck s p) 0 (w40 (s40Of t))

/-- The NTP service's answer without authentication (R342); on verdict 1 a kiss-o'-death with code RATE (R351). -/
def ntpAnswer (s : State) (p : Nat) (r : Request) : State :=
  let (h, s) := ntpHeader s p r (if r.verdict = 1 then some "RATE" else none) none
  sendInserted s p r (h ++ if r.verdict = 1 then [] else ntpField s p false)

/-- The answer to a request with a MAC (R343): a held response with a MAC, or a crypto-NAK. -/
def ntpMacAnswer (s : State) (p : Nat) (r : Request) : State :=
  if r.verdict = 1 then ntpAnswer s p r
  else
    let q := payloadOf r
    let key := beNum (octets q 48 4)
    let (k, s) := serviceEngine s p
    let handle := (s.ptp.ntpKeys.find? (fun e => decide (e.1 = key))).map Prod.snd
    let (good, s) := match handle with
      | none => (false, s)
      | some h =>
        let (m, s) := kopRun s k true 1 h (q.take 48) []
        (decide (m.code = 0) && decide (m.data = octets q 52 16), s)
    let nak := fun (s : State) =>
      let (h, s) := ntpHeader s p r none none
      sendInserted (sitterReport s r 1 0) p r (h ++ [0, 0, 0, 0])
    match good, handle with
    | true, some h =>
      let t := holdTime s
      let (head, s) := ntpHeader s p r none (some t)
      let msg := head ++ ntpField s p true
      let (m, s) := kopRun s k true 1 h msg []
      if m.code = 0 then sendHeld s p r (msg ++ beBytes 4 key ++ m.data) t else nak s
    | _, _ => nak s

/-! ## NTS -/

/-- An extension field: its place in the packet, its type and its body. -/
structure ExtField where
  place : Nat
  type : Nat
  body : List Nat

/-- The extension fields of a packet from octet `i` on, the last one the authenticator's. -/
def extFields : Nat → Nat → List Nat → List ExtField
  | 0, _, _ => []
  | n + 1, i, q =>
    let len := beNum (octets q (i + 2) 2)
    if q.length < i + 4 ∨ len < 4 ∨ q.length < i + len then []
    else
      let f : ExtField := { place := i, type := beNum (octets q i 2), body := octets q (i + 4) (len - 4) }
      if f.type = 0x0404 then [f] else f :: extFields n (i + len) q

/-- An extension field as octets. -/
def extField (type : Nat) (body : List Nat) : List Nat := beBytes 2 type ++ beBytes 2 (body.length + 4) ++ body

/-- The nonce and the tag with the ciphertext in an authenticator field (R344, RFC 8915). -/
def authParts (body : List Nat) : List Nat × List Nat :=
  let n := beNum (body.take 2)
  let c := beNum (octets body 2 2)
  (octets body 4 n, octets body (4 + (n + 3) / 4 * 4) c)

/-- `n` cookies minted from the engine's session handles (R345, R346), and the epoch of the key used; none where a SEAL fails. -/
def mintCookies (k h : Nat) : Nat → State → Option (List (List Nat) × Nat) × State
  | 0, s => (some ([], 0), s)
  | n + 1, s =>
    let (m, s) := kopRun s k true 2 h [] []
    if m.code ≠ 0 then (none, s)
    else
      let (rest, s) := mintCookies k h n s
      (rest.map (fun x => (m.data :: x.1, m.epoch)), s)

/-- The NTS NAK (R347). -/
def ntsNak (s : State) (p : Nat) (r : Request) (uid : List Nat) : State :=
  let (h, s) := ntpHeader s p r (some "NTSN") none
  sendInserted (sitterReport s r 1 0) p r (h ++ extField 0x0104 uid)

/-- The NTS service's answer (R344, R347); a request over its rate is not answered (R351), nor one that lacks a field. -/
def ntsAnswer (s : State) (p : Nat) (r : Request) : State :=
  if r.verdict = 1 then s
  else
    let q := payloadOf r
    let fs := extFields 64 48 q
    let find := fun (t : Nat) => fs.find? (fun f => decide (f.type = t))
    match find 0x0104, find 0x0204, find 0x0404 with
    | some uid, some cookie, some auth =>
      let e := s.get KV_NTS_EPOCH_epoch
      let c := beNum (cookie.body.take 4)
      if e < c ∨ c + 2 < e then ntsNak s p r uid.body
      else
        let (k, s) := serviceEngine s p
        let (m, s) := kopRun s k true 3 (0x010 + c % 4) cookie.body []
        if m.code = 1 ∨ m.code = 3 then ntsNak s p r uid.body
        else if m.code ≠ 0 then s
        else
          let (nonce, text) := authParts auth.body
          let (v, s) := kopRun s k true 3 (sessionHandle (k - 16)) (nonce ++ text) (q.take auth.place)
          if v.code = 1 ∨ v.code = 3 then ntsNak s p r uid.body
          else if v.code ≠ 0 then s
          else
            let n := min 8 (1 + (fs.filter (fun f => decide (f.type = 0x0304))).length)
            let (minted, s) := mintCookies k 0x00F n s
            match minted with
            | none => s
            | some (cookies, epoch) =>
              let t := holdTime s
              let (head, s) := ntpHeader s p r none (some t)
              let clear := head ++ extField 0x0104 uid.body ++ ntpField s p true
              let (w, s) := kopRun s k true 2 (sessionHandle (k - 16) + 1) (cookies.flatMap (extField 0x0204)) clear
              if w.code ≠ 0 then s
              else
                let body := [0, 16] ++ beBytes 2 (w.data.length - 16) ++ w.data
                sendHeld (sitterReport s r 2 epoch) p r (clear ++ extField 0x0404 body) t
    | _, _, _ => s

/-- The NTS service mints cookies for the host (R348): a packet of the mint-request FIFO holds C2S, S2C and a count of 1 to 8;
each cookie goes to the mint-reply FIFO as one packet (log 148). -/
def mintRequest (s : State) : State :=
  let n := optField s 17 7 0 0
  if !bitAt (optWord s 17) 39 ∨ !houseRuns s 5 then s
  else match takePacket s n with
    | none => s
    | some (ws, s) =>
      let b := ws.flatMap bytesOf
      let count := b.getD 64 0
      if ws.length ≠ 13 ∨ count = 0 ∨ 8 < count then s
      else
        let (g, s) := s.freeBelow 4
        let (k, s) := serviceEngine s g
        let (m, s) := kopRun s k true 0 0x00F (b.take 64) []
        if m.code ≠ 0 then s
        else
          let (minted, s) := mintCookies k 0x00F count s
          match minted with
          | none => s
          | some (cookies, _) =>
            cookies.foldl (fun s c => (pushPacket s (optField s 17 15 8 0) (packBytes 20 c)).getD s) s

/-- What the House services take up when no command waits (log 64): the host's mint requests. -/
def serviceIdle (s : State) : State := mintRequest s

end Sys2Proof.Machine
end

