-- ==== Sys2Proof/Machine/Ptp.lean ====
section
/-! DEFINITION. The House PTP service: what it sends, the requests it answers, its client sessions, unicast negotiation,
authentication, and ESMC (R231, R335 to R341). The formats are IEEE 1588-2019's and ITU-T G.8264's (log 9). -/

namespace Sys2Proof.Machine

/-! ## Messages -/

/-- The Glaze TLV (R231) with the lineage identifier `lin`, where GLZ_CTL.tlv_en is 1. -/
def glazeTlv (s : State) (p : Nat) (lin : Word) : List Nat :=
  if !s.on GLZ_CTL_tlv_en then []
  else
    let flags := b2n (s.on PAL_STATE_time_traceable)
      + 2 * b2n (decide (s.get GLZ_STATUS_mode = 2) || decide (s.get GLZ_STATUS_mode = 3)) + 4 * b2n (twSync s && s.on TW_CFG_en)
    beBytes 2 3 ++ beBytes 2 18 ++ beBytes 3 (s.get GLZ_TLV_ORG_org) ++ beBytes 3 1 ++ beBytes 5 (serviceBound s p false)
      ++ beBytes 5 lin.toNat ++ [s.get PAL_STATE_state, flags]

/-- The next sequence number of a message kind on a port. -/
def ptpNextSeq (s : State) (k : Nat) : Nat × State :=
  let n := tabGet (fun _ => 0) s.ptp.seqs k
  (n, { s with ptp := { s.ptp with seqs := tabSet (fun _ => 0) s.ptp.seqs k ((n + 1) % 65536) } })

/-- currentUtcOffset (R138). -/
def ptpUtcOffset (s : State) : Nat :=
  ((signedOf 16 (s.get TB_UTC_OFS_ofs) - (b2n (s.on TB_STATUS_in_leap) : Int)) % 2 ^ 16).toNat

/-- The PTP header with its length, leap flags and sequence number filled in (log 9). -/
def ptpHeader (s : State) (h : List Nat) (body seq : Nat) : List Nat :=
  let i := h.length - 34
  let h := overwrite h (i + 2) (beBytes 2 (34 + body))
  let leap := b2n (s.on TB_LEAP_leap61 || s.on TB_STATUS_in_leap) + 2 * b2n (s.on TB_LEAP_leap59)
  let h := overwrite h (i + 7) [h.getD (i + 7) 0 / 4 * 4 + leap]
  overwrite h (i + 30) (beBytes 2 seq)

/-! ## Authentication -/

/-- The octets that an AUTHENTICATION TLV adds to a message (R338). -/
def authLength (a : Option PtpAuth) : Nat := if a.isSome then 26 else 0

/-- A frame whose PTP message starts at octet `i` with its AUTHENTICATION TLV added, on an engine of port `p`'s group (R338);
none where the key is refused. -/
def ptpSigned (s : State) (p : Nat) (a : Option PtpAuth) (i : Nat) (bs : List Nat) : Option (List Nat) × State :=
  match a with
  | none => (some bs, s)
  | some a =>
    let bs := bs ++ beBytes 2 0x8009 ++ beBytes 2 22 ++ [a.spp % 256, 0] ++ beBytes 4 a.keyId
    let (k, s) := serviceEngine s p
    let (m, s) := kopRun s k true 1 a.handle (bs.drop i) []
    (if m.code = 0 then some (bs ++ m.data) else none, s)

/-- Whether a message received carries the ICV of its session's key (R338). -/
def ptpVerified (s : State) (p : Nat) (a : Option PtpAuth) (msg : List Nat) : Bool × State :=
  match a with
  | none => (true, s)
  | some a =>
    let i := msg.length - 26
    let tlv := beBytes 2 0x8009 ++ beBytes 2 22 ++ [a.spp % 256]
    let (k, s) := serviceEngine s p
    let (m, s) := kopRun s k true 1 a.handle (msg.take (i + 10)) []
    (decide (26 ≤ msg.length) && decide (octets msg i 5 = tlv) && decide (octets msg (i + 6) 4 = beBytes 4 a.keyId)
      && decide (m.code = 0) && decide (m.data = msg.drop (i + 10)), s)

/-! ## Sending -/

/-- A PTP message of port `p` joins a transmit queue (R335): a frame whose message starts at octet `i`. A message that carries
a bound is checked at departure (R334). Which queue is not stated, and free. -/
def ptpSend (s : State) (p i : Nat) (a : Option PtpAuth) (bound : Bool) (f : TxFrame) : State :=
  let (q, s) := s.freeBelow 8
  let (bs, s) := ptpSigned s p a i f.bytes
  match bs with
  | none => s
  | some bs => serviceSend s p { f with bytes := bs, queue := q, ctl := f.ctl + if bound then boundCheck s p else 0 }

/-- PTP_MESSAGE_SEND (R335, R337, R338): a master port sends Sync (0), Announce (1) or Follow_Up (2) at its message interval.
An authenticated session has no one-step Sync. -/
def execPtpMessageSend (p : Fin 4) (kind : Fin 3) (c : PtpCfg) (s : State) : Out :=
  let auth := c.auth.map (fun (x : BitVec 8 × BitVec 32 × BitVec 12) =>
    ({ spp := x.1.toNat, keyId := x.2.1.toNat, handle := x.2.2.toNat } : PtpAuth))
  if !houseRuns s 6 ∨ !s.on (LPp_CFG_en p) ∨ (unitErr s (LPp_CFG p)).isSome ∨ (unitErr s (BRGg_CTL p)).isSome then .next s
  else if kind = 0 ∧ auth.isSome ∧ !c.twoStep then .next s
  else
    let last := tabGet (fun _ => ⟨0, 0⟩) s.ptp.lastSync p
    let tlv := glazeTlv s p (if kind = 2 then lineageAt s last else s.rd GLZ_LIN)
    let n := c.header.length
    let head := fun (s : State) (body seq : Nat) => ptpHeader s (c.header.map BitVec.toNat) (body + authLength auth) seq
    if kind = 0 then
      let (seq, s) := ptpNextSeq s (4 * p)
      let tlv := if c.twoStep then [] else tlv
      let f := txFrame 0 0 (head s (10 + tlv.length) seq ++ List.replicate 10 0 ++ tlv)
      if c.twoStep then .next (ptpSend s p (n - 34) auth false { f with sync := true })
      else .next (ptpSend s p (n - 34) auth (!tlv.isEmpty) { f with
        arm := w40 (2 ^ 39 + n * 2 ^ 26 + 0xFFFF * 2 ^ 10), lineage := if tlv.isEmpty then none else some (n + 25) })
    else if kind = 1 then
      let (seq, s) := ptpNextSeq s (4 * p + 1)
      let body := List.replicate 10 0 ++ beBytes 2 (ptpUtcOffset s) ++ [0, c.prio1.toNat, s.get GLZ_ADV_clock_class,
        accuracyCode (serviceBound s p false)] ++ beBytes 2 c.variance.toNat ++ [c.prio2.toNat]
        ++ beBytes 8 c.identity.toNat ++ [0, 0, c.source.toNat] ++ tlv
      .next (ptpSend s p (n - 34) auth true (txFrame 0 0 (head s body.length seq ++ body)))
    else
      let seq := (tabGet (fun _ => 0) s.ptp.seqs (4 * p) + 65535) % 65536
      let bs := head s (10 + tlv.length) seq ++ beBytes 6 last.sec ++ beBytes 4 (last.low / 1024) ++ tlv
      .next (ptpSend s p (n - 34) auth (!tlv.isEmpty) (txFrame 0 0 (addCorrection bs (n - 26) (last.low % 1024 : Nat))))

/-- ANNOUNCE_RECEIPT_TIMEOUT (R340): the client session of slot 18 + n has had no Announce message for its announceReceiptTimeout: qrank 15,
qsrc 3. -/
def execAnnounceReceiptTimeout (n : Fin 6) (s : State) : Out :=
  let a := 18 + n.val
  let heard := tabGet (fun _ => ⟨0, 0⟩) s.ptp.announce a
  let late := match s.ptp.clients.find? (fun e => decide (e.1 = n.val)) with
    | none => false
    | some (_, c) => s.passed heard (c.announceMs * 1000000)
  if !houseRuns s 6 ∨ !late then .next s
  else
    .next (houseDo s (advWrite a (putField (putField (s.rd (PAL_Sn_ADV a)) 19 16 3) 3 0 15)))

/-! ## Messages received -/

/-- The TLVs of a message from octet `i` on: type and value (R337: others are skipped by their length). -/
def ptpTlvs : Nat → List Nat → List (Nat × List Nat)
  | 0, _ => []
  | n + 1, b =>
    let len := beNum (octets b 2 2)
    if b.length < 4 + len ∨ b.length < 4 then [] else (beNum (b.take 2), octets b 4 len) :: ptpTlvs n (b.drop (4 + len))

/-- The length of a message of a type up to its TLVs. -/
def ptpBody (type : Nat) : Nat :=
  if type = 2 ∨ type = 3 ∨ type = 9 ∨ type = 10 then 54 else if type = 11 then 64 else 44

/-- boundPs and the lineage identifier of a Glaze TLV that a message carries (R231). -/
def glazeOf (s : State) (msg : List Nat) : Option (Nat × Nat) :=
  let org := beBytes 3 (s.get GLZ_TLV_ORG_org) ++ beBytes 3 1
  ((ptpTlvs 64 (msg.drop (ptpBody (msg.getD 0 0 % 16)))).find? (fun t => decide (t.1 = 3 ∧ t.2.length = 18 ∧ t.2.take 6 = org))).map
    (fun t => (beNum (octets t.2 6 5), beNum (octets t.2 11 5)))

/-- An instant in 2^-16 ns; the same of a message's timestamp at octet `i`; and its correctionField. -/
def fineOf (t : T80) : Int := 64 * (t80Units t : Int)
def stampOf (msg : List Nat) (i : Nat) : Int :=
  ((beNum (octets msg i 6) * 1000000000 + beNum (octets msg (i + 6) 4) : Nat) : Int) * 65536
def correctionOf (msg : List Nat) : Int := signedOf 64 (beNum (octets msg 8 8))

/-- A client session is replaced. -/
def setClient (s : State) (n : Nat) (c : PtpClient) : State :=
  { s with ptp := { s.ptp with clients := tabIns (tabDel s.ptp.clients n) n c } }

/-- The qrank of a clockClass and of the bound a Glaze TLV states (R172). -/
def classRank (cls : Nat) (bound : Option Nat) : Nat :=
  if cls = 6 then (match bound with | some b => if b ≤ 30000 then 1 else 2 | none => 2)
  else if cls = 7 then 3 else if cls = 135 then 4 else if cls = 140 ∨ cls = 150 ∨ cls = 160 ∨ cls = 165 then 5
  else if cls = 248 then 6 else 15

/-- The upper end of a clockAccuracy in ps (R236, R340). -/
def accuracyBound (code : Nat) : Nat := if code < 0x17 then unbounded else accuracySteps.getD (code - 0x17) unbounded

/-- A client sends a Delay_Req whose transmit stamp it asks for (R335, R325); it sends one when t1 and t2 of a Sync are known
(log 148). -/
def delayRequest (s : State) (n : Nat) : State :=
  match s.ptp.clients.find? (fun e => decide (e.1 = n)) with
  | none => s
  | some (_, c) =>
    let p := c.port
    let (seq, s) := ptpNextSeq s (16 + n)
    let id := (s.port p).nextId
    let s := s.setPort p { s.port p with nextId := (id + 1) % 65536 }
    let bs := ptpHeader s c.header (10 + authLength c.auth) seq ++ List.replicate 10 0
    let s := ptpSend s p (c.header.length - 34) c.auth false { txFrame 0 0 bs with stampId := some id }
    setClient s n { c with req := some (seq, id) }

/-- The transmit stamp of an identifier leaves the port's stamp queue (R325, R326). -/
def takeStamp (s : State) (p id : Nat) : Option (T80 × State) :=
  let x := s.port p
  match x.tsq.find? (fun e => decide (e.1 = id)) with
  | none => none
  | some (_, w, t) =>
    if stampAged s p t then none
    else
      let q := x.tsq.filter (fun e => !decide (e.1 = id))
      some ((s40Extend w.toNat s.now).1, (s.setPort p { x with tsq := q }).put (LPp_STATUS_tsq_level p) q.length)

/-- A session's sample and terms after a Sync and Delay_Resp pair (R340), from t1 to t4 in 2^-16 ns. -/
def clientSample (s : State) (n : Nat) (c : PtpClient) (t1 t2 t3 t4 : Int) : State :=
  let m := 18 + n
  let go := t2 - t1
  let back := t4 - t3
  let delay := (go + back - 128 * c.asym).natAbs
  let bound := match c.bound with | some b => b | none => accuracyBound c.accuracy
  let emit := emitTerm s (20 + c.port)
  let asym := match c.asymUnc with | some u => u | none => upE (delay * 1000) 131072
  let s := s.wr (PAL_Sn_BOUND m) (w40 bound)
  let s := s.wr (GLZ_Sn_MEAS m) (w40 (addE emit emit))
  let s := s.wr (GLZ_Sn_ASYM m) (w40 asym)
  let (v, s) := roundQ s (go - back + 128 * c.asym) 128
  feedSlot s m v

/-- What a client writes on receipt of a Glaze TLV (R231): boundPs and the hops of its lineage. -/
def clientLineage (s : State) (n bound lineage : Nat) : State :=
  let a := GLZ_Sn_CAL (18 + n)
  let s := s.wr (PAL_Sn_BOUND (18 + n)) (w40 bound)
  houseDo s (calWrite (18 + n) (putField (s.rd a) 39 32 (min 255 (lineage % 256 + 1))))

/-- A message of a client session (R335, R340): Sync, Follow_Up, Delay_Resp or Announce. -/
def clientMessage (s : State) (n : Nat) (c : PtpClient) (msg : List Nat) (at_ : T80) : State :=
  let type := msg.getD 0 0 % 16
  let seq := beNum (octets msg 30 2)
  let tlv := glazeOf s msg
  let c := if msg.getD 0 0 % 16 = 1 ∨ tlv.isNone then c else { c with bound := tlv.map Prod.fst }
  let s := match tlv with | some (b, l) => clientLineage s n b l | none => s
  if type = 0 then
    let two := (msg.getD 6 0).testBit 1
    let cor := correctionOf msg
    let c := { c with sync := some (seq, fineOf at_, cor), t1 := if two then none else some (stampOf msg 34 + cor),
                      bound := if two then c.bound else tlv.map Prod.fst }
    let s := setClient s n c
    if two then s else delayRequest s n
  else if type = 8 then
    match c.sync with
    | some (q, _, cor) =>
      if q = seq ∧ c.t1.isNone then
        delayRequest (setClient s n { c with t1 := some (stampOf msg 34 + correctionOf msg + cor), bound := tlv.map Prod.fst }) n
      else setClient s n c
    | none => setClient s n c
  else if type = 9 then
    match c.sync, c.t1, c.req with
    | some (_, t2, _), some t1, some (q, id) =>
      if q = seq ∧ octets msg 44 10 = c.own then
        match takeStamp s c.port id with
        | none => setClient s n c
        | some (t3, s) =>
          clientSample (setClient s n { c with req := none }) n c t1 t2 (fineOf t3) (stampOf msg 34 - correctionOf msg)
      else setClient s n c
    | _, _, _ => setClient s n c
  else if type = 11 then
    let cls := msg.getD 48 0
    let s := setClient s n { c with accuracy := msg.getD 49 0 }
    let s : State := { s with ptp := { s.ptp with announce := tabSet (fun _ => ⟨0, 0⟩) s.ptp.announce (18 + n) s.steady } }
    let s := s.wr (GLZ_Sn_UP_HI (18 + n)) (w40 (2 ^ 32 + beNum (octets msg 53 4)))
    let s := houseDo s (upLoWrite (18 + n) (w40 (beNum (octets msg 57 4))))
    houseDo s (advWrite (18 + n) (w40 (3 * 2 ^ 16 + cls * 2 ^ 8 + classRank cls (tlv.map Prod.fst))))
  else setClient s n c

/-! ## Requests answered -/

/-- The header of an answer to a PTP message (log 9): type, length, flags, correction, own identity, sequence number and
logMessageInterval; the rest is the request's. -/
def answerHeader (msg own : List Nat) (type len flags : Nat) (cor : Int) (log : Nat) : List Nat :=
  [msg.getD 0 0 / 16 * 16 + type, msg.getD 1 0] ++ beBytes 2 len ++ octets msg 4 2 ++ [flags, 0]
    ++ beBytes 8 (cor % 2 ^ 64).toNat ++ [0, 0, 0, 0] ++ own ++ octets msg 30 2 ++ [if type = 9 then 3 else 5, log]

/-- Whether a message was sent unicast, as a flag of its answer. -/
def unicastFlag (msg : List Nat) : Nat := if (msg.getD 6 0).testBit 2 then 4 else 0

/-- A master port answers a Delay_Req (R335, R337): t4 is the request's stamp. -/
def delayAnswer (s : State) (p : Nat) (m : PtpMaster) (r : Request) (msg : List Nat) : State :=
  let t := r.at_
  let tlv := glazeTlv s p (lineageAt s t)
  let uni := unicastFlag msg
  let cor := correctionOf msg - 64 * (t.low % 1024 : Nat)
  let out := answerHeader msg m.own 9 (54 + tlv.length + authLength m.auth) uni cor (if uni = 4 then 0x7F else m.logInterval)
    ++ beBytes 6 t.sec ++ beBytes 4 (t.low / 1024) ++ octets msg 20 10 ++ tlv
  let (out, s) := ptpSigned s p m.auth 0 out
  match out with
  | none => s
  | some out =>
    let (bs, s) := answerFrame s p r m.ip (some 320) out
    sendAnswer s p r bs (if tlv.isEmpty then 0 else boundCheck s p) 0 0

/-- A master port answers a Pdelay_Req (R335): one-step with the residence inserted at departure (format 2), or two-step with
a Pdelay_Resp_Follow_Up that departs after it. An authenticated session is two-step (R338). -/
def peerAnswer (s : State) (p : Nat) (m : PtpMaster) (r : Request) (msg : List Nat) : State :=
  let t := r.at_
  let two := m.twoStep || m.auth.isSome
  let len := 54 + authLength m.auth
  let uni := unicastFlag msg
  if !two then
    let out := answerHeader msg m.own 3 len uni (correctionOf msg) 0x7F ++ List.replicate 10 0 ++ octets msg 20 10
    let (bs, s) := answerFrame s p r m.ip (some 319) out
    let csum := if r.l4 = r.l3 then 0xFFFF else r.l4 - 2
    sendAnswer s p r bs 0 (w40 (2 ^ 39 + 2 * 2 ^ 37 + (r.l4 + 8) * 2 ^ 26 + csum * 2 ^ 10)) (w40 (s40Of t))
  else
    let out := answerHeader msg m.own 3 len (uni + 2) (-64 * (t.low % 1024 : Nat)) 0x7F ++ beBytes 6 t.sec
      ++ beBytes 4 (t.low / 1024) ++ octets msg 20 10
    let follow := answerHeader msg m.own 10 len uni (correctionOf msg) 0x7F ++ List.replicate 10 0 ++ octets msg 20 10
    let (out, s) := ptpSigned s p m.auth 0 out
    match out with
    | none => s
    | some out =>
      let (bs, s) := answerFrame s p r m.ip (some 319) out
      let (fs, s) := answerFrame s p r m.ip (some 320) follow
      let (q, s) := s.freeBelow 8
      serviceSend s p { txFrame 0 q bs with ctl := r.sub * 2 ^ 14, after := some (r.l4, fs) }

/-- After a two-step Pdelay_Resp has departed at `t`, its Follow_Up is filled in and joins a queue (R335). The key of its port
signs it; its UDP checksum is made anew by the adjustment of R331. -/
def peerFollow (s : State) (p : Nat) (f : TxFrame) (t : T80) : State :=
  match f.after with
  | none => s
  | some (i, bs) =>
    let auth := (s.ptp.masters.find? (fun e => decide (e.1 = p))).bind (fun e => e.2.auth)
    let new := overwrite bs (i + 34) (beBytes 6 t.sec ++ beBytes 4 (t.low / 1024))
    let new := addCorrection new (i + 8) (t.low % 1024 : Nat)
    let (signed, s) := ptpSigned s p auth i new
    match signed with
    | none => s
    | some new =>
      let new := if i = 14 ∨ i = 18 then new else fixChecksum (bs ++ List.replicate (new.length - bs.length) 0) new (i - 2)
      let (q, s) := s.freeBelow 8
      serviceSend s p { txFrame 0 q new with ctl := f.ctl }

/-! ## Unicast negotiation -/

/-- The answer to one TLV of a Signaling message (R337, R339): a request is granted as asked, or with durationField 0 where it
asks for more than 128 messages a second or would exceed 512 sessions on the port or 2,048 in all; a cancellation is
acknowledged and ends the grant. -/
def unicastTlv (s : State) (p : Nat) (peer : List Nat) (t : Nat × List Nat) : List Nat × State :=
  let kind := t.2.getD 0 0 / 16
  let live := s.ptp.grants.filter (fun g => !s.reached g.until_)
  let others := live.filter (fun g => !(decide (g.port = p) && decide (g.peer = peer) && decide (g.kind = kind)))
  let set := fun (s : State) (gs : List PtpGrant) => { s with ptp := { s.ptp with grants := gs } }
  if t.1 = 4 then
    let log := signedOf 8 (t.2.getD 1 0)
    let dur := beNum (octets t.2 2 4)
    let peers := (others.map (fun g => (g.port, g.peer))).dedup
    let known := peers.contains (p, peer)
    let full := !known && (decide (512 ≤ (peers.filter (fun x => decide (x.1 = p))).length) || decide (2048 ≤ peers.length))
    let dur := if log < -7 ∨ full then 0 else dur
    (beBytes 2 5 ++ beBytes 2 8 ++ [kind * 16, t.2.getD 1 0] ++ beBytes 4 dur ++ [0, 0],
      set s (if dur = 0 then live else others ++ [{ port := p, peer := peer, kind := kind, until_ := secsAfter s.now dur }]))
  else if t.1 = 6 then (beBytes 2 7 ++ beBytes 2 2 ++ [kind * 16, 0], set s others)
  else ([], s)

/-- A master port answers a Signaling message with the TLVs that answer its own. -/
def signalAnswer (s : State) (p : Nat) (m : PtpMaster) (r : Request) (msg : List Nat) : State :=
  let peer := octets msg 20 10
  let (out, s) := (ptpTlvs 64 (msg.drop 44)).foldl (fun (x : List Nat × State) t =>
    let (o, s) := unicastTlv x.2 p peer t
    (x.1 ++ o, s)) ([], s)
  if out.isEmpty then s
  else
    let out := answerHeader msg m.own 12 (44 + out.length + authLength m.auth) (unicastFlag msg) 0 0x7F ++ peer ++ out
    let (out, s) := ptpSigned s p m.auth 0 out
    match out with
    | none => s
    | some out =>
      let (bs, s) := answerFrame s p r m.ip (some 320) out
      sendAnswer s p r bs 0 0 0

/-- A management message is passed to the host (R335): its frame goes to a buffer of the host's and its descriptor, of class
6, to the host-rx FIFO; without a buffer or room it is lost and counted. -/
def passToHost (s : State) (p : Nat) (r : Request) (words : List Word) : State :=
  let ff := s.get (BRGg_AUX_FIFO_host_free p)
  let ring := s.get (BRGg_AUX_FIFO_host_rx p)
  let (buf, q) := fifoPop (s.fifo ff)
  match buf with
  | none => s.inc (LPp_CNT_RX_NOBUF_count p)
  | some b =>
    let d := [w40 (fieldOf b 31 0), putField (words.getD 1 0) 18 16 6, words.getD 2 0, 0]
    match fifoPacket s ring (16 + p) d with
    | none => s.inc (LPp_CNT_RX_NOBUF_count p)
    | some _ =>
      let s := s.setFifo ff q
      let s := dmaStore (groupMaster p true) s (fieldOf b 31 0) (packBytes (r.bs.length / 5 + 1) r.bs)
      (fifoPacket s ring (16 + p) d).getD s

/-- The PTP service takes a message (R335 to R340): a client session's by its master's identity, else a master port's. -/
def ptpTake (s : State) (p : Nat) (r : Request) (words : List Word) : State :=
  let msg := payloadOf r
  let msg := msg.take (beNum (octets msg 2 2))
  let type := msg.getD 0 0 % 16
  let from_ := octets msg 20 10
  if type = 13 then passToHost s p r words
  else
    match s.ptp.clients.find? (fun e => decide (e.2.port = p) && decide (e.2.source = from_)), s.ptp.masters.find? (fun e => decide (e.1 = p)) with
    | some (n, c), _ =>
      let (good, s) := ptpVerified s p c.auth msg
      if good then clientMessage s n c msg r.at_ else setClient s n { c with discarded := c.discarded + 1 }
    | none, some (_, m) =>
      let (good, s) := ptpVerified s p m.auth msg
      if !good then { s with ptp := { s.ptp with masters := tabIns (tabDel s.ptp.masters p) p { m with discarded := m.discarded + 1 } } }
      else if type = 1 then delayAnswer s p m r msg
      else if type = 2 then peerAnswer s p m r msg
      else if type = 12 then signalAnswer s p m r msg
      else s
    | none, none => s

/-! ## ESMC -/

/-- The rank of a received QL code and its enhanced code, and the option it belongs to (R172): the codes are ITU-T G.8264's
(log 9). -/
def qlRank (opt2 : Bool) (ssm essm : Nat) : Nat :=
  if essm = 0x21 then 1 else if essm = 0x20 then 2
  else if opt2 then
    (if ssm = 1 then 3 else if ssm = 7 then 4 else if ssm = 13 then 5 else if ssm = 10 then 6 else 15)
  else (if ssm = 2 then 3 else if ssm = 4 then 4 else if ssm = 8 then 5 else if ssm = 11 then 6 else 15)

/-- The QL code and enhanced code sent for a rank (R235); a rank without a standard mapping has no code stated and is sent as
a free one. -/
def qlCode (s : State) (opt2 : Bool) (rank : Nat) : (Nat × Nat) × State :=
  let ssm := if opt2 then ([0, 1, 1, 1, 7, 13, 10] : List Nat) else [0, 2, 2, 2, 4, 8, 11]
  if rank = 15 then ((15, 0xFF), s)
  else if 1 ≤ rank ∧ rank ≤ 6 then ((ssm.getD rank 15, if rank = 1 then 0x21 else if rank = 2 then 0x20 else 0xFF), s)
  else
    let (x, s) := s.freeBelow 16
    ((x, 0xFF), s)

/-- The PTP service takes a received ESMC PDU (R341, R172): the rank of the SyncE slot of the port. -/
def esmcTake (s : State) (p sub : Nat) (bs : List Nat) : State :=
  if !houseRuns s 6 ∨ (s.get (LPp_CFG_mode p) ≠ 0 ∧ sub ≠ s.get (LPp_CFG_synce_lane p)) then s
  else
    let i := if beNum (octets bs 12 2) = 0x8100 then 18 else 14
    let opt2 := s.on GLZ_ADV_CFG_ssm_opt
    let essm := if bs.getD (i + 14) 0 = 2 then bs.getD (i + 17) 0 else 0xFF
    let ssm := bs.getD (i + 13) 0 % 16
    let s : State := { s with ptp := { s.ptp with esmcHeard := tabSet (fun _ => ⟨0, 0⟩) s.ptp.esmcHeard p s.steady } }
    let w := w40 ((if opt2 then 2 else 1) * 2 ^ 16 + ssm * 2 ^ 8 + qlRank opt2 ssm essm)
    houseDo s (advWrite (14 + p) w)

/-- ESMC_PDU_SEND (R341): an information PDU each second, or an event PDU on a change of GLZ_ADV.ql_rank since the last PDU. -/
def execEsmcPduSend (p : Fin 4) (event : Bool) (s : State) : Out :=
  let (was, sent) := tabGet (fun _ => (0, ⟨0, 0⟩)) s.ptp.esmcSent p
  let due := if event then decide (was ≠ s.get GLZ_ADV_ql_rank) else decide (sent.low = 0 ∧ sent.sec = 0) || s.passed sent 1000000000
  if !houseRuns s 6 ∨ !s.on (LPp_CFG_en p) ∨ (unitErr s (LPp_CFG p)).isSome ∨ !due then .next s
  else
    let rank := s.get GLZ_ADV_ql_rank
    let ((ssm, essm), s) := qlCode s (s.on GLZ_ADV_CFG_ssm_opt) rank
    let ext := [2] ++ beBytes 2 20 ++ [essm] ++ beBytes 4 Config.uidHi.toNat ++ beBytes 4 Config.uidLo.toNat ++ [0, 1, 0]
      ++ List.replicate 5 0
    let bs := [0x01, 0x80, 0xC2, 0, 0, 2] ++ portAddress s p ++ [0x88, 0x09, 0x0A, 0x00, 0x19, 0xA7, 0, 1,
      if event then 0x18 else 0x10, 0, 0, 0] ++ [1, 0, 4, ssm] ++ ext
    let (q, s) := s.freeBelow 8
    let s := serviceSend s p (txFrame 0 q bs)
    .next { s with ptp := { s.ptp with esmcSent := tabSet (fun _ => (0, ⟨0, 0⟩)) s.ptp.esmcSent p (rank, if event then sent else s.steady) } }

/-- ESMC_PDU_TIMEOUT (R341): five seconds without a received PDU give the SyncE slot qrank 15. -/
def execEsmcPduTimeout (p : Fin 4) (s : State) : Out :=
  let heard := tabGet (fun _ => ⟨0, 0⟩) s.ptp.esmcHeard p
  if !houseRuns s 6 ∨ !s.passed heard 5000000000 then .next s
  else
    let a := 14 + p.val
    .next (houseDo s (advWrite a (putField (s.rd (PAL_Sn_ADV a)) 3 0 15)))

end Sys2Proof.Machine
end

