-- ==== Sys2Proof/Machine/Serve.lean ====
section
/-! DEFINITION. The rings of the line ports as the House services take them, the reception of a frame and its departure (R328
to R333, R335 to R348). -/

namespace Sys2Proof.Machine

/-! ## Rings -/

/-- The House function that serves a class (R116, R329), where it has not been replaced. -/
def serves (s : State) (cls : Nat) : Bool :=
  if cls = 2 ∨ cls = 4 then houseRuns s 4 else if cls = 3 then houseRuns s 5
  else decide (cls = 0 ∨ cls = 1 ∨ cls = 5) && houseRuns s 6

/-- A service answers a frame of its class; a request over its rate is dropped (R351). -/
def serve (s : State) (p : Nat) (r : Request) (words : List Word) : State :=
  if r.cls = 5 then esmcTake s p r.sub r.bs
  else if r.cls ≤ 1 then ptpTake s p r words
  else if r.verdict = 2 then s
  else if r.cls = 2 then ntpAnswer s p r
  else if r.cls = 3 then ntsAnswer s p r
  else ntpMacAnswer s p r

/-- The frame that a receive descriptor names (R329), its stamp extended against the group's time (R326). -/
def requestOf (s : State) (p : Nat) (d : List Word) : Request × State :=
  let w1 := d.getD 1 0
  let w3 := d.getD 3 0
  let n := fieldOf w1 13 0
  let (words, s) := dmaLoad (groupMaster p true) s (fieldOf (d.getD 0 0) 31 0) (n / 5 + 1)
  ({ bs := (words.flatMap bytesOf).take n, sub := fieldOf w1 15 14, cls := fieldOf w1 18 16, l4 := fieldOf w1 29 19,
     ipv6 := bitAt w1 30, vlan := bitAt w1 31, at_ := (s40Extend (d.getD 2 0).toNat s.now).1, verdict := fieldOf w3 39 38,
     entry := fieldOf w3 37 16 }, s)

/-- The House services take the descriptors of ring `n` of group `p`, up to one of a class that they do not serve, and give
each buffer back to the free FIFO. -/
def serveRing (p n : Nat) : Nat → State → State
  | 0, s => s
  | k + 1, s =>
    let s := ringFresh s n
    match (s.fifo n).closed with
    | (_ :: _ :: w1 :: _) :: _ =>
      if serves s (fieldOf w1 18 16) then
        match takePacket s n with
        | none => s
        | some (d, s) =>
          let (r, s) := requestOf s p d
          let s := serve s p r d
          serveRing p n k ((fifoPacket s (s.get (BRGg_AUX_FIFO_free p)) (16 + p) [w40 (fieldOf (d.getD 0 0) 31 0)]).getD s)
      else s
    | _ => s

/-! ## Reception -/

/-- A frame is delivered with its stamp (R329). -/
def lpDeliver (s : State) (p sub : Nat) (bs : List Nat) (r : Parsed) (stamp : Nat) (at_ : T80) : State :=
  let host := decide (r.cls = 6)
  let ff := if host then s.get (BRGg_AUX_FIFO_host_free p) else s.get (BRGg_AUX_FIFO_free p)
  let ring := if host then s.get (BRGg_AUX_FIFO_host_rx p) else ringFifo s p r.cls
  let m := groupMaster p true
  let (buf, q) := fifoPop (s.fifo ff)
  match buf with
  | none => s.inc (LPp_CNT_RX_NOBUF_count p)
  | some b =>
    if s.get (BRGg_RX_CFG_buf_bytes p) < bs.length ∨ (fifoPacket s ring (16 + p) [0, 0, 0, 0]).isNone then
      s.inc (LPp_CNT_RX_NOBUF_count p)
    else
      let s := s.setFifo ff q
      let ((v, entry, epoch), s) := match r.sitter with
        | some (v6, a) => if 2 ≤ r.cls ∧ r.cls ≤ 4 then sitterLook s p v6 a else ((0, 0, 0), s)
        | none => ((0, 0, 0), s)
      let a := fieldOf b 31 0
      let s := dmaStore m s a (packBytes (bs.length / 5 + 1) bs)
      let d := [w40 a,
        w40 (bs.length + sub * 2 ^ 14 + r.cls * 2 ^ 16 + r.l4 * 2 ^ 19 + b2n r.ipv6 * 2 ^ 30 + b2n r.vlan * 2 ^ 31),
        w40 stamp, w40 (v * 2 ^ 38 + entry * 2 ^ 16 + epoch * 2 ^ 12)]
      let s := (fifoPacket s ring (16 + p) d).getD s
      let x := s.port p
      serveRing p ring (s.fifo ring).closed.length (s.setPort p { x with given := tabSet (fun _ => ⟨0, 0⟩) x.given a (steadyOf s at_) })

/-- LP_FRAME_RECEIVE (R322, R325, R329): a frame of port `p`, sub-port `sub`, whose octets the line delivered (the FCS
removed and found good or bad); its timestamp point lay `age` 1/1024 ns before now. -/
def execLpFrameReceive (p : Fin 4) (sub : Fin 4) (bytes : List (BitVec 8)) (fcsOk : Bool) (age : BitVec 24) (s : State) : Out :=
  let up := (s.get (LPp_STATUS_link p)).testBit sub
  if (unitErr s (LPp_CFG p)).isSome ∨ !s.on (LPp_CFG_en p) ∨ !up then .next s
  else if !fcsOk then .next (s.inc (LPp_CNT_FCS_count p))
  else
    let bs := bytes.map BitVec.toNat
    let s := s.inc (LPp_CNT_RX_count p)
    match parseFrame bs with
    | none => .next s
    | some r =>
      if !addressed s p bs ∨ !s.on (BRGg_CTL_rx_en p) ∨ (unitErr s (BRGg_CTL p)).isSome ∨ (unitErr s FIFO_IDX).isSome then .next s
      else if r.cls = 7 ∨ (r.cls ≤ 4 ∧ !s.on (LPp_STATUS_cal_valid p)) then .next (s.inc (LPp_CNT_RX_DISCARD_count p))
      else
        let (sh, s) := stampShift s 0
        let t := t80Add s.now (-(age.toNat : Int) + s.getI (LPp_RX_OFS_val p) + sh)
        .next (lpDeliver s p sub bs r (s40Of t) t)

/-! ## Departure -/

/-- LP_FRAME_DEPARTURE (R330 to R333; R510: none while FATAL): the next frame of port `p` leaves on a block boundary `off` 1/1024 ns from now, or
is dropped with its reason. -/
def execLpFrameDeparture (p : Fin 4) (off : BitVec 14) (s : State) : Out :=
  if (unitErr s (LPp_CFG p)).isSome ∨ !s.on (LPp_CFG_en p) ∨ s.fix.fatal then .next s
  else
    let s := hostFrame s p
    let t := t80Add s.now ((off.toNat : Int) + s.getI (LPp_TX_OFS_val p))
    match txChoose s p t with
    | none => .next s
    | some (f, missed) =>
      let (ws, s) := txWords s p f
      let x := s.port p
      let s := s.setPort p { x with txq := x.txq.filter (fun g => !decide (g = f)) ++ (x.txq.filter (fun g => decide (g = f))).drop 1 }
      let mine := decide (f.bytes = [])
      let done := fun (s : State) (res : Nat) => if mine then txDone s p f.desc res else s
      let sub := fieldOf (ws.getD 1 0) 15 14
      if txReserved ws then .fault .unpredictable
      else if !(s.get (LPp_STATUS_link p)).testBit sub then .next (done s 3)
      else if missed = 1 then .next (done ((s.inc (LPp_CNT_HOLD_MISSED_count p)).ev (LPp_EVENTS_hold_missed p)) 1)
      else if bitAt (ws.getD 1 0) 17 ∧ fieldOf (ws.getD 1 0) 25 18 ≠ s.get (BRGg_BSEQ_bseq p) then
        .next (done ((s.inc (LPp_CNT_STALE_count p)).ev (LPp_EVENTS_stale_bound p)) 2)
      else .next (peerFollow (done (txSend s p f ws t) 0) p f t)

end Sys2Proof.Machine
end

