-- ==== Sys2Proof/Machine/Dispatch.lean ====
section
/-! DEFINITION. One arm per command, each a direct call of its meaning. -/

namespace Sys2Proof.Machine

/-- The effect of a command on everything but the queue. -/
def exec (i : Instr) (s : State) : Host.Outcome State Fault Refusal :=
  match i with
  | .trap k code => Sys2Proof.Machine.execTrap k code s
  | .stray k => Sys2Proof.Machine.execStray k s
  | .selfSvc k => Sys2Proof.Machine.execSelfSvc k s
  | .notice k => Sys2Proof.Machine.execNotice k s
  | .bound k => Sys2Proof.Machine.execBound k s
  | .resume k => Sys2Proof.Machine.execResume k s
  | .resumeSkip k => Sys2Proof.Machine.execResumeSkip k s
  | .add k rd rs1 b => Sys2Proof.Machine.execAdd k rd rs1 b s
  | .sub k rd rs1 b => Sys2Proof.Machine.execSub k rd rs1 b s
  | .and_ k rd rs1 b => Sys2Proof.Machine.execAnd k rd rs1 b s
  | .or_ k rd rs1 b => Sys2Proof.Machine.execOr k rd rs1 b s
  | .xor k rd rs1 b => Sys2Proof.Machine.execXor k rd rs1 b s
  | .shl k rd rs1 b => Sys2Proof.Machine.execShl k rd rs1 b s
  | .shr k rd rs1 b => Sys2Proof.Machine.execShr k rd rs1 b s
  | .sra k rd rs1 b => Sys2Proof.Machine.execSra k rd rs1 b s
  | .mul k rd rs1 rs2 q => Sys2Proof.Machine.execMul k rd rs1 rs2 q s
  | .lih k rd rs1 imm => Sys2Proof.Machine.execLih k rd rs1 imm s
  | .mac k rs1 rs2 sel clr => Sys2Proof.Machine.execMac k rs1 rs2 sel clr s
  | .msc k rs1 rs2 sel clr => Sys2Proof.Machine.execMsc k rs1 rs2 sel clr s
  | .acc k rd sh trunc clr sel => Sys2Proof.Machine.execAcc k rd sh trunc clr sel s
  | .tadd k rd rs1 rs2 p => Sys2Proof.Machine.execTadd k rd rs1 rs2 p s
  | .tsub k rd rs1 rs2 p => Sys2Proof.Machine.execTsub k rd rs1 rs2 p s
  | .tcmp k rs1 rs2 => Sys2Proof.Machine.execTcmp k rs1 rs2 s
  | .text k rd rs1 rs2 => Sys2Proof.Machine.execText k rd rs1 rs2 s
  | .br k t => Sys2Proof.Machine.execBr k t s
  | .brc k cond off => Sys2Proof.Machine.execBrc k cond off s
  | .call k rd t => Sys2Proof.Machine.execCall k rd t s
  | .ret k rs1 => Sys2Proof.Machine.execRet k rs1 s
  | .ld k rd rs1 imm => Sys2Proof.Machine.execLd k rd rs1 imm s
  | .st k rs1 rs2 imm => Sys2Proof.Machine.execSt k rs1 rs2 imm s
  | .ldp k rd rs1 imm => Sys2Proof.Machine.execLdp k rd rs1 imm s
  | .stp k rs1 rs2 imm => Sys2Proof.Machine.execStp k rs1 rs2 imm s
  | .loadReturn k idx => Sys2Proof.Machine.execLoadReturn k idx s
  | .storeErrorResponse k => Sys2Proof.Machine.execStoreErrorResponse k s
  | .push k rs1 rs2 fr => Sys2Proof.Machine.execPush k rs1 rs2 fr s
  | .pushAccepted k => Sys2Proof.Machine.execPushAccepted k s
  | .pop k rd rs1 => Sys2Proof.Machine.execPop k rd rs1 s
  | .wash k rs1 => Sys2Proof.Machine.execWash k rs1 s
  | .urd k rd rs1 off => Sys2Proof.Machine.execUrd k rd rs1 off s
  | .uwr k rs1 rs2 off => Sys2Proof.Machine.execUwr k rs1 rs2 off s
  | .unitAccessResponse k => Sys2Proof.Machine.execUnitAccessResponse k s
  | .wait k rs1 rel => Sys2Proof.Machine.execWait k rs1 rel s
  | .waitWake k => Sys2Proof.Machine.execWaitWake k s
  | .wev k rd rs1 dl => Sys2Proof.Machine.execWev k rd rs1 dl s
  | .wevWake k => Sys2Proof.Machine.execWevWake k s
  | .wevDeadline k => Sys2Proof.Machine.execWevDeadline k s
  | .sched k rd rs1 rs2 tag => Sys2Proof.Machine.execSched k rd rs1 rs2 tag s
  | .schedResult k => Sys2Proof.Machine.execSchedResult k s
  | .kopDerive k rd rs1 rs2 => Sys2Proof.Machine.execKopDerive k rd rs1 rs2 s
  | .kopMac k rd rs1 rs2 => Sys2Proof.Machine.execKopMac k rd rs1 rs2 s
  | .kopSeal k rd rs1 rs2 => Sys2Proof.Machine.execKopSeal k rd rs1 rs2 s
  | .kopOpen k rd rs1 rs2 => Sys2Proof.Machine.execKopOpen k rd rs1 rs2 s
  | .kopSign k rd rs1 rs2 => Sys2Proof.Machine.execKopSign k rd rs1 rs2 s
  | .kopResult k => Sys2Proof.Machine.execKopResult k s
  | .pex k rd rs1 rs2 off len little => Sys2Proof.Machine.execPex k rd rs1 rs2 off len little s
  | .csum k rd rs1 rs2 fold => Sys2Proof.Machine.execCsum k rd rs1 rs2 fold s
  | .tsi k rs1 rs2 off fmt => Sys2Proof.Machine.execTsi k rs1 rs2 off fmt s
  | .qsend k rd rs1 rs2 stamp => Sys2Proof.Machine.execQsend k rd rs1 rs2 stamp s
  | .qsendAccepted k => Sys2Proof.Machine.execQsendAccepted k s
  | .coreRunWrite m k w => Sys2Proof.Machine.execCoreRunWrite m k w s
  | .softEvent m k w => Sys2Proof.Machine.execSoftEvent m k w s
  | .getInfo => Sys2Proof.Machine.execGetInfo s
  | .loadImage => Sys2Proof.Machine.execLoadImage s
  | .startCores => Sys2Proof.Machine.execStartCores s
  | .stopCores => Sys2Proof.Machine.execStopCores s
  | .offerStroke => Sys2Proof.Machine.execOfferStroke s
  | .armStep => Sys2Proof.Machine.execArmStep s
  | .keyUpdate => Sys2Proof.Machine.execKeyUpdate s
  | .readAttest => Sys2Proof.Machine.execReadAttest s
  | .enterMaint => Sys2Proof.Machine.execEnterMaint s
  | .leaveMaint => Sys2Proof.Machine.execLeaveMaint s
  | .plannedSwap => Sys2Proof.Machine.execPlannedSwap s
  | .setDomain => Sys2Proof.Machine.execSetDomain s
  | .readLapseLog => Sys2Proof.Machine.execReadLapseLog s
  | .lifeCycle => Sys2Proof.Machine.execLifeCycle s
  | .badCommand => Sys2Proof.Machine.execBadCommand s
  | .timebaseTick => Sys2Proof.Machine.execTimebaseTick s
  | .copyCompare bad => Sys2Proof.Machine.execCopyCompare bad s
  | .tbSteerWrite m w => Sys2Proof.Machine.execTbSteerWrite m w s
  | .tbSlewAddWrite m w => Sys2Proof.Machine.execTbSlewAddWrite m w s
  | .tbLoadLoWrite m w => Sys2Proof.Machine.execTbLoadLoWrite m w s
  | .timeLoad => Sys2Proof.Machine.execTimeLoad s
  | .tbDirectStepWrite m which w => Sys2Proof.Machine.execTbDirectStepWrite m which w s
  | .timeStep idx => Sys2Proof.Machine.execTimeStep idx s
  | .leapExec idx => Sys2Proof.Machine.execLeapExec idx s
  | .leapEnd => Sys2Proof.Machine.execLeapEnd s
  | .ledgerWriteComplete idx => Sys2Proof.Machine.execLedgerWriteComplete idx s
  | .ledgerReadback idx => Sys2Proof.Machine.execLedgerReadback idx s
  | .strokeHandoff idx => Sys2Proof.Machine.execStrokeHandoff idx s
  | .pinStrokeExecute idx => Sys2Proof.Machine.execPinStrokeExecute idx s
  | .pulseTrailingEdge idx => Sys2Proof.Machine.execPulseTrailingEdge idx s
  | .phaseStrokeExecute idx => Sys2Proof.Machine.execPhaseStrokeExecute idx s
  | .regwrStrokeExecute idx => Sys2Proof.Machine.execRegwrStrokeExecute idx s
  | .launchStrokeExecute idx off => Sys2Proof.Machine.execLaunchStrokeExecute idx off s
  | .pushStrokeExecute idx => Sys2Proof.Machine.execPushStrokeExecute idx s
  | .pushStrokeDeferred idx => Sys2Proof.Machine.execPushStrokeDeferred idx s
  | .attestStrokeExecute idx => Sys2Proof.Machine.execAttestStrokeExecute idx s
  | .attestSigned serial => Sys2Proof.Machine.execAttestSigned serial s
  | .attestDeadline serial => Sys2Proof.Machine.execAttestDeadline serial s
  | .keyupdStrokeExecute idx => Sys2Proof.Machine.execKeyupdStrokeExecute idx s
  | .ntsEpochRoll idx => Sys2Proof.Machine.execNtsEpochRoll idx s
  | .statusWriteback idx => Sys2Proof.Machine.execStatusWriteback idx s
  | .ledgerRecovery => Sys2Proof.Machine.execLedgerRecovery s
  | .executorsRearm => Sys2Proof.Machine.execExecutorsRearm s
  | .todMessage => Sys2Proof.Machine.execTodMessage s
  | .paletteTick sensor => Sys2Proof.Machine.execPaletteTick sensor s
  | .switchComplete => Sys2Proof.Machine.execSwitchComplete s
  | .palSampleWrite m idx w => Sys2Proof.Machine.execPalSampleWrite m idx w s
  | .refinLos n => Sys2Proof.Machine.execRefinLos n s
  | .sampleTimeout n => Sys2Proof.Machine.execSampleTimeout n s
  | .rankHoldExpiry n => Sys2Proof.Machine.execRankHoldExpiry n s
  | .qualificationTimerExpiry n => Sys2Proof.Machine.execQualificationTimerExpiry n s
  | .driftClearExpiry n => Sys2Proof.Machine.execDriftClearExpiry n s
  | .clearDisagreeing m n => Sys2Proof.Machine.execClearDisagreeing m n s
  | .restartQualification m n => Sys2Proof.Machine.execRestartQualification m n s
  | .slewAfterStep m n => Sys2Proof.Machine.execSlewAfterStep m n s
  | .setSourceFault m n => Sys2Proof.Machine.execSetSourceFault m n s
  | .clearSourceFault m n => Sys2Proof.Machine.execClearSourceFault m n s
  | .stepToWideOffset m n => Sys2Proof.Machine.execStepToWideOffset m n s
  | .learningSample => Sys2Proof.Machine.execLearningSample s
  | .modelUpdate => Sys2Proof.Machine.execModelUpdate s
  | .predictionUpdate => Sys2Proof.Machine.execPredictionUpdate s
  | .restartLearning m => Sys2Proof.Machine.execRestartLearning m s
  | .recomputePredictions m => Sys2Proof.Machine.execRecomputePredictions m s
  | .undTempExtWrite m w => Sys2Proof.Machine.execUndTempExtWrite m w s
  | .tempStale => Sys2Proof.Machine.execTempStale s
  | .undModelWrite m idx w => Sys2Proof.Machine.execUndModelWrite m idx w s
  | .eventEntryWrite m k w => Sys2Proof.Machine.execEventEntryWrite m k w s
  | .eventEntryExpiry k => Sys2Proof.Machine.execEventEntryExpiry k s
  | .upstreamIdCommit m n w => Sys2Proof.Machine.execUpstreamIdCommit m n w s
  | .pllEnable m n w => Sys2Proof.Machine.execPllEnable m n w s
  | .pllDisable m n w => Sys2Proof.Machine.execPllDisable m n w s
  | .relock m n => Sys2Proof.Machine.execRelock m n s
  | .glide m n => Sys2Proof.Machine.execGlide m n s
  | .clearBm m n => Sys2Proof.Machine.execClearBm m n s
  | .bandFound n band => Sys2Proof.Machine.execBandFound n band s
  | .hopSettled n => Sys2Proof.Machine.execHopSettled n s
  | .lockDeclared n err => Sys2Proof.Machine.execLockDeclared n err s
  | .lockLost n err => Sys2Proof.Machine.execLockLost n err s
  | .acquireTimeout n => Sys2Proof.Machine.execAcquireTimeout n s
  | .inputLoss n => Sys2Proof.Machine.execInputLoss n s
  | .inputGood n => Sys2Proof.Machine.execInputGood n s
  | .glideTargetReached n => Sys2Proof.Machine.execGlideTargetReached n s
  | .outputUngate k => Sys2Proof.Machine.execOutputUngate k s
  | .phaseStepDone n => Sys2Proof.Machine.execPhaseStepDone n s
  | .alignRestored n => Sys2Proof.Machine.execAlignRestored n s
  | .outCfgWrite m k w => Sys2Proof.Machine.execOutCfgWrite m k w s
  | .outDivWrite m k w => Sys2Proof.Machine.execOutDivWrite m k w s
  | .varPhaseWrite m n w => Sys2Proof.Machine.execVarPhaseWrite m n w s
  | .tdcEdge n rise code => Sys2Proof.Machine.execTdcEdge n rise code s
  | .pairWindowClose n => Sys2Proof.Machine.execPairWindowClose n s
  | .freqGateEnd n => Sys2Proof.Machine.execFreqGateEnd n s
  | .tdcRecordDrain n => Sys2Proof.Machine.execTdcRecordDrain n s
  | .calStart n => Sys2Proof.Machine.execCalStart n s
  | .calNow m n w => Sys2Proof.Machine.execCalNow m n w s
  | .calLineSwap n hits => Sys2Proof.Machine.execCalLineSwap n hits s
  | .calExpired n => Sys2Proof.Machine.execCalExpired n s
  | .dllLock n => Sys2Proof.Machine.execDllLock n s
  | .tdcCfgWrite m n off w => Sys2Proof.Machine.execTdcCfgWrite m n off w s
  | .streamFault m cause sat rms glitch => Sys2Proof.Machine.execStreamFault m cause sat rms glitch s
  | .streamClear m sat rms => Sys2Proof.Machine.execStreamClear m sat rms s
  | .pairRun m w => Sys2Proof.Machine.execPairRun m w s
  | .pairPullInDone p cn0a cn0b lockB => Sys2Proof.Machine.execPairPullInDone p cn0a cn0b lockB s
  | .pairLost p => Sys2Proof.Machine.execPairLost p s
  | .measRecord p x => Sys2Proof.Machine.execMeasRecord p x s
  | .symbolRecord p count ms symbols => Sys2Proof.Machine.execSymbolRecord p count ms symbols s
  | .bankEntryEnd peaks => Sys2Proof.Machine.execBankEntryEnd peaks s
  | .sweepDone => Sys2Proof.Machine.execSweepDone s
  | .bankRestart => Sys2Proof.Machine.execBankRestart s
  | .keepDataAccess m write w => Sys2Proof.Machine.execKeepDataAccess m write w s
  | .timingSolution x => Sys2Proof.Machine.execTimingSolution x s
  | .surveyEnd x y z unc => Sys2Proof.Machine.execSurveyEnd x y z unc s
  | .spoofAlarm doa => Sys2Proof.Machine.execSpoofAlarm doa s
  | .spoofClear => Sys2Proof.Machine.execSpoofClear s
  | .sentinelSleep => Sys2Proof.Machine.execSentinelSleep s
  | .sentinelWake => Sys2Proof.Machine.execSentinelWake s
  | .lpFrameReceive p sub bytes fcsOk age => Sys2Proof.Machine.execLpFrameReceive p sub bytes fcsOk age s
  | .lpFrameDeparture p off => Sys2Proof.Machine.execLpFrameDeparture p off s
  | .tsqPop m p => Sys2Proof.Machine.execTsqPop m p s
  | .lpAlignLock p sub skew => Sys2Proof.Machine.execLpAlignLock p sub skew s
  | .lpCfgWrite m p idx w => Sys2Proof.Machine.execLpCfgWrite m p idx w s
  | .stzCmdWord => Sys2Proof.Machine.execStzCmdWord s
  | .sitterCacheTakeover g n => Sys2Proof.Machine.execSitterCacheTakeover g n s
  | .sitterWriteback n => Sys2Proof.Machine.execSitterWriteback n s
  | .reseedAndClear m => Sys2Proof.Machine.execReseedAndClear m s
  | .writeBackCaches m => Sys2Proof.Machine.execWriteBackCaches m s
  | .stzTableClearDone => Sys2Proof.Machine.execStzTableClearDone s
  | .keyPrederive => Sys2Proof.Machine.execKeyPrederive s
  | .pkeOpDone => Sys2Proof.Machine.execPkeOpDone s
  | .drbgHealthFail => Sys2Proof.Machine.execDrbgHealthFail s
  | .drbgRecover => Sys2Proof.Machine.execDrbgRecover s
  | .drbgReseed => Sys2Proof.Machine.execDrbgReseed s
  | .verifyUpdate m j => Sys2Proof.Machine.execVerifyUpdate m j s
  | .discardSlot m j => Sys2Proof.Machine.execDiscardSlot m j s
  | .tamperAlarm b slow stays => Sys2Proof.Machine.execTamperAlarm b slow stays s
  | .spFrameReceive p bytes fcsOk age => Sys2Proof.Machine.execSpFrameReceive p bytes fcsOk age s
  | .spFrameDeparture p off => Sys2Proof.Machine.execSpFrameDeparture p off s
  | .spAlignLock p => Sys2Proof.Machine.execSpAlignLock p s
  | .spCfgWrite m p idx w => Sys2Proof.Machine.execSpCfgWrite m p idx w s
  | .exchangeSend p => Sys2Proof.Machine.execExchangeSend p s
  | .exchangeProcess p => Sys2Proof.Machine.execExchangeProcess p s
  | .xcWindowEnd p => Sys2Proof.Machine.execXcWindowEnd p s
  | .atlHelloSend => Sys2Proof.Machine.execAtlHelloSend s
  | .atlHelloReceive port => Sys2Proof.Machine.execAtlHelloReceive port s
  | .adjacencyTimeout port node => Sys2Proof.Machine.execAdjacencyTimeout port node s
  | .rootSeqAdvance => Sys2Proof.Machine.execRootSeqAdvance s
  | .rootTimeout => Sys2Proof.Machine.execRootTimeout s
  | .claimHoldExpiry => Sys2Proof.Machine.execClaimHoldExpiry s
  | .registerSend => Sys2Proof.Machine.execRegisterSend s
  | .registerReceive port => Sys2Proof.Machine.execRegisterReceive port s
  | .registerRetry => Sys2Proof.Machine.execRegisterRetry s
  | .grantReceive port => Sys2Proof.Machine.execGrantReceive port s
  | .mgmtFrameReceive port => Sys2Proof.Machine.execMgmtFrameReceive port s
  | .mgmtSend => Sys2Proof.Machine.execMgmtSend s
  | .relaySend => Sys2Proof.Machine.execRelaySend s
  | .relayReceive port => Sys2Proof.Machine.execRelayReceive port s
  | .atlRtDataWrite m w => Sys2Proof.Machine.execAtlRtDataWrite m w s
  | .stbFrameTransmit outcome deferred => Sys2Proof.Machine.execStbFrameTransmit outcome deferred s
  | .stbBackoffExpiry outcome deferred => Sys2Proof.Machine.execStbBackoffExpiry outcome deferred s
  | .stbFrameReceive dst src kind payload err own => Sys2Proof.Machine.execStbFrameReceive dst src kind payload err own s
  | .twinIdleRx h => Sys2Proof.Machine.execTwinIdleRx h s
  | .twinHelloRx h p => Sys2Proof.Machine.execTwinHelloRx h p s
  | .twinStrokeRx h hi lo act tag chk seq offerer keeper => Sys2Proof.Machine.execTwinStrokeRx h hi lo act tag chk seq offerer keeper s
  | .twinStrokeAckRx h seq refused => Sys2Proof.Machine.execTwinStrokeAckRx h seq refused s
  | .twinNoteRx h seq report => Sys2Proof.Machine.execTwinNoteRx h seq report s
  | .twinStateRx h gen setter shared items => Sys2Proof.Machine.execTwinStateRx h gen setter shared items s
  | .twinRefillRx h words done => Sys2Proof.Machine.execTwinRefillRx h words done s
  | .twinGiveRx h hi lo lastSeq => Sys2Proof.Machine.execTwinGiveRx h hi lo lastSeq s
  | .twinSwapRx h hi lo => Sys2Proof.Machine.execTwinSwapRx h hi lo s
  | .twinSwapAckRx h hi lo => Sys2Proof.Machine.execTwinSwapAckRx h hi lo s
  | .twinResend => Sys2Proof.Machine.execTwinResend s
  | .twinLinkTimeout => Sys2Proof.Machine.execTwinLinkTimeout s
  | .twinLaneLoss lane => Sys2Proof.Machine.execTwinLaneLoss lane s
  | .lapsedQuietExpiry => Sys2Proof.Machine.execLapsedQuietExpiry s
  | .twCmdSwap m => Sys2Proof.Machine.execTwCmdSwap m s
  | .repair m => Sys2Proof.Machine.execRepair m s
  | .endPairing m => Sys2Proof.Machine.execEndPairing m s
  | .giveUp => Sys2Proof.Machine.execGiveUp s
  | .peerOwnRelease ns => Sys2Proof.Machine.execPeerOwnRelease ns s
  | .outputDriverEnable k high differed => Sys2Proof.Machine.execOutputDriverEnable k high differed s
  | .giveTimeout => Sys2Proof.Machine.execGiveTimeout s
  | .takeoverOutputCheck k mismatch => Sys2Proof.Machine.execTakeoverOutputCheck k mismatch s
  | .swapInstant => Sys2Proof.Machine.execSwapInstant s
  | .swapAckTimeout => Sys2Proof.Machine.execSwapAckTimeout s
  | .revertiveWtrExpiry => Sys2Proof.Machine.execRevertiveWtrExpiry s
  | .powerOnPinClaim => Sys2Proof.Machine.execPowerOnPinClaim s
  | .ownershipConflict => Sys2Proof.Machine.execOwnershipConflict s
  | .heartbeatLost => Sys2Proof.Machine.execHeartbeatLost s
  | .supplyLow => Sys2Proof.Machine.execSupplyLow s
  | .resetPinAssert => Sys2Proof.Machine.execResetPinAssert s
  | .resetEscalation => Sys2Proof.Machine.execResetEscalation s
  | .resetPinRelease => Sys2Proof.Machine.execResetPinRelease s
  | .powerGoodFall => Sys2Proof.Machine.execPowerGoodFall s
  | .powerGoodRise bkLost slow => Sys2Proof.Machine.execPowerGoodRise bkLost slow s
  | .coreUndervoltage => Sys2Proof.Machine.execCoreUndervoltage s
  | .dieLinkTrain ok => Sys2Proof.Machine.execDieLinkTrain ok s
  | .bringUpStageDone r => Sys2Proof.Machine.execBringUpStageDone r s
  | .pcieLinkUp => Sys2Proof.Machine.execPcieLinkUp s
  | .localReset m unit cluster => Sys2Proof.Machine.execLocalReset m unit cluster s
  | .localResetRelease => Sys2Proof.Machine.execLocalResetRelease s
  | .domainRequest m w => Sys2Proof.Machine.execDomainRequest m w s
  | .domainChangeDone d => Sys2Proof.Machine.execDomainChangeDone d s
  | .oscLost => Sys2Proof.Machine.execOscLost s
  | .pllUnlock which => Sys2Proof.Machine.execPllUnlock which s
  | .clockGood unit => Sys2Proof.Machine.execClockGood unit s
  | .clockIdleStop unit => Sys2Proof.Machine.execClockIdleStop unit s
  | .unitClockBad unit => Sys2Proof.Machine.execUnitClockBad unit s
  | .hostRead bar off len => Sys2Proof.Machine.execHostRead bar off len s
  | .hostWrite bar off data tail => Sys2Proof.Machine.execHostWrite bar off data tail s
  | .scrubStep inner found => Sys2Proof.Machine.execScrubStep inner found s
  | .fifoDataWrite m n w => Sys2Proof.Machine.execFifoDataWrite m n w s
  | .fifoFirstWrite m n w => Sys2Proof.Machine.execFifoFirstWrite m n w s
  | .fifoLastWrite m n w => Sys2Proof.Machine.execFifoLastWrite m n w s
  | .fifoOnlyWrite m n w => Sys2Proof.Machine.execFifoOnlyWrite m n w s
  | .fifoDataRead m n => Sys2Proof.Machine.execFifoDataRead m n s
  | .fifoWashWrite m n w => Sys2Proof.Machine.execFifoWashWrite m n w s
  | .fifoCutReached n => Sys2Proof.Machine.execFifoCutReached n s
  | .fifoCfgWrite m w => Sys2Proof.Machine.execFifoCfgWrite m w s
  | .faultDetected n unit => Sys2Proof.Machine.execFaultDetected n unit s
  | .fatalEntry n => Sys2Proof.Machine.execFatalEntry n s
  | .fixForceWrite m w => Sys2Proof.Machine.execFixForceWrite m w s
  | .fixRaiseWrite m w => Sys2Proof.Machine.execFixRaiseWrite m w s
  | .unitFaultForceWrite m unit w => Sys2Proof.Machine.execUnitFaultForceWrite m unit w s
  | .eventCountRead m unit => Sys2Proof.Machine.execEventCountRead m unit s
  | .jtagInstructionLoad idx => Sys2Proof.Machine.execJtagInstructionLoad idx s
  | .tallyStart m hold en => Sys2Proof.Machine.execTallyStart m hold en s
  | .tallySweepStart => Sys2Proof.Machine.execTallySweepStart s
  | .tallySweepDone => Sys2Proof.Machine.execTallySweepDone s
  | .tlyBufRead m => Sys2Proof.Machine.execTlyBufRead m s
  | .hiWordRead m idx => Sys2Proof.Machine.execHiWordRead m idx s
  | .registerWrite m a w => Sys2Proof.Machine.execRegisterWrite m a w s
  | .twinLaneLock lane => Sys2Proof.Machine.execTwinLaneLock lane s
  | .twinHelloSend => Sys2Proof.Machine.execTwinHelloSend s
  | .twinSilent => Sys2Proof.Machine.execTwinSilent s
  | .lpLinkLoss p sub => Sys2Proof.Machine.execLpLinkLoss p sub s
  | .spLinkLoss p => Sys2Proof.Machine.execSpLinkLoss p s
  | .tdcDllUnlock n => Sys2Proof.Machine.execTdcDllUnlock n s
  | .atomInLost => Sys2Proof.Machine.execAtomInLost s
  | .pciePerstRelease => Sys2Proof.Machine.execPciePerstRelease s
  | .ptpMessageSend p kind c => Sys2Proof.Machine.execPtpMessageSend p kind c s
  | .announceReceiptTimeout n => Sys2Proof.Machine.execAnnounceReceiptTimeout n s
  | .esmcPduSend p event => Sys2Proof.Machine.execEsmcPduSend p event s
  | .esmcPduTimeout p => Sys2Proof.Machine.execEsmcPduTimeout p s
  | .pairLockBLoss p => Sys2Proof.Machine.execPairLockBLoss p s

end Sys2Proof.Machine
end

