-- ==== Sys2Proof/Safety.lean ====
section
/-! DEFINITION. What claims about the machine are said in: what a command gives, when a register access is performed, when a core issues, and
the invariants of the state. -/

namespace Sys2Proof.Machine

/-- An outcome is a next state of which `P` holds. -/
def Gives (o : Out) (P : State → Prop) : Prop := ∃ t, o = .next t ∧ P t

/-- A safe step: it answers a next state. A fault is a command whose effect the spec calls unpredictable or reserved. -/
def SafeStep (s : State) : Prop := Gives (step s) (fun _ => True)

/-- No access is turned away by the test unit's error injection (R525). -/
def Uninjected (s : State) : Prop := tstOpen s = false ∨ s.on TST_CTL_err_en = false

/-- No access is held back by the test unit's response delay (R525). -/
def Undelayed (s : State) : Prop := tstOpen s = false ∨ s.on TST_CTL_resp_en = false

/-- A master's write of `w` to the register at `a` is performed: the unit answers, the master may, and the reserved fields and values are
kept (R12, R25, R92, R104). -/
def Writes (s : State) (m : Master) (a : Nat) (w : Word) : Prop :=
  regErr s m a true = none ∧ reservedBitsZero (regFields a) w = true ∧ legalValues (regFields a) w = true ∧ Uninjected s

/-- A master's read of the register at `a` is performed. -/
def Reads (s : State) (m : Master) (a : Nat) : Prop := regErr s m a false = none ∧ Uninjected s

/-- The state in which a performed write of the register at `a` finds the machine: its unit's clock runs and its Tally has counted the write
(R31, R532). -/
def touched (s : State) (a : Nat) : State := tally (startClock s a) (a / 256) 0x04

/-- A core issues an instruction that uses the registers `rs` (R75, R86, R105): it runs and waits for nothing, it may fetch where its pc
points, no store error stands at its boundary, and no outstanding load stalls it; with `drain` the instruction waits for them all. -/
def CanIssue (s : State) (k : CoreId) (rs : List Nat) (drain : Bool) : Prop :=
  coreAlive s k = true ∧ s.on (coreCtl k) = true ∧ (s.core k).waiting = .none ∧ fetchOk k (s.core k).pc = true
    ∧ (s.core k).stBack = [] ∧ loadStall (s.core k) rs drain = false

/-- A core past an instruction: it stands at `pc`, and one more instruction has issued behind each outstanding load. -/
def Core.went (c : Core) (pc : Nat) : Core :=
  { c with pc := pc % 2 ^ 32, loads := c.loads.map (fun l => { l with after := l.after + 1 }) }

/-- A core past an instruction that writes `w` to `rd` and leaves the flags `f`. -/
def Core.result (c : Core) (rd : GReg) (w : Word) (f : Flags) : Core := { c.setG rd w with flags := f }.went (c.pc + 1)

/-- Core `k` stands as `c`; every other core and every other part of the machine is as before (but for the Tally's slot counts). -/
def Issued (s t : State) (k : CoreId) (c : Core) : Prop :=
  t.core k = c ∧ (∀ j, j ≠ k.val → t.core j = s.core j) ∧ t = { s with cores := t.cores, tly := t.tly }

/-- Nothing is due at the core's next instruction boundary (R105, R110): it is to run, and no store error has reached it. -/
def GoesOn (s : State) (k : CoreId) : Prop := s.on (coreCtl k) = true ∧ (s.core k).stBack = []

/-- The waiting instruction of core `k` has completed: the core is `c`, past it and awake. -/
def Awake (t : State) (k : CoreId) (c : Core) : Prop := t.core k = { c with waiting := .none, pc := (c.pc + 1) % 2 ^ 32 }

/-- A word address of plain memory: no unit register, no FIFO port, no command window. -/
def plainMemory (a : Nat) : Prop := targetOf a ≠ .regs ∧ targetOf a ≠ .fifo ∧ targetOf a ≠ .vault

/-- Core `k` has taken a trap (R105, R106): what the hardware saves, then the image handler in User, or with no handler the halt. The
other cores are as before. -/
def Trapped (s t : State) (k : CoreId) (cause code addr pc : Nat) : Prop :=
  let c := s.core k
  let info : Word := w40 (code * 2 ^ 15 + b2n c.keeper * 2 ^ 14 + flagBits c.flags * 2 ^ 8 + cause)
  let tvec := s.rd (coreBlock k + 2)
  t.rd (coreBlock k + 3) = w40 (pc % 2 ^ 32) ∧ t.rd (coreBlock k + 4) = info ∧ t.rd (coreBlock k + 5) = w40 (addr % 2 ^ 32) ∧
  (∀ j, j ≠ k.val → t.core j = s.core j) ∧ (t.core k).inTrap = true ∧ (t.core k).waiting = .none ∧
  t.ld (trapFrame k) = c.g 1 ∧ t.ld (trapFrame k + 1) = c.g 2 ∧
  if tvec = 0 then (t.core k).halted = true ∧ srcStatus t (haltSource k) = true ∧ bitAt (t.rd MBX_IRQ) 2 = true
  else
    (t.core k).pc = tvec.toNat ∧ (t.core k).keeper = false ∧ (t.core k).halted = c.halted ∧ (t.core k).g 1 = info ∧
    (t.core k).g 2 = w40 (addr % 2 ^ 32) ∧ (∀ r, r ≠ 1 → r ≠ 2 → (t.core k).g r = c.g r)

/-- Memory is in its one canonical form: addresses strictly rising, no word listed that equals what an unlisted one reads as. -/
abbrev Memory.wf (mem : Tab Word) : Prop := tabWf memDefault mem

/-- Every word of memory reads as before. -/
def SameMemory (s t : State) : Prop := ∀ a, t.ld a = s.ld a

/-- The word in response slot `i` of the mailbox (R118). -/
def respWord (t : State) (i : Nat) : Nat := (tabGet (fun _ => 0) t.mbx.resp i).toNat

/-- A mailbox command has ended with `status` and the result words `res` (R118, R121, R124). -/
def Answered (t : State) (status : Nat) (res : List Word) : Prop :=
  t.on MBX_STATUS_busy = false ∧ t.on MBX_STATUS_resp_valid = true ∧ t.get MBX_STATUS_last_status = status ∧ bitAt (t.rd MBX_IRQ) 0 = true ∧
  respWord t 0 / 2 ^ 63 = 1 ∧ respWord t 0 / 2 ^ 56 % 128 = status ∧ respWord t 0 / 2 ^ 48 % 256 = res.length ∧
  ∀ i, (h : i < res.length) → respWord t i % 2 ^ 40 = (res[i]).toNat

/-- The mailbox holds command `code` with the arguments `args`, laid out as R118 says and not begun, and the service state admits it
(R119, R120, R123). -/
def Asked (s : State) (code : Nat) (args : List Word) : Prop :=
  mbxWaits s code = true ∧ mbxFormed s = true ∧ mbxArgs s = args ∧ mbxLegal code (s.get MBX_STATUS_state) = true

/-- Only registers, event counts, the mailbox, the messages to the host and the count of free values changed. -/
def OnlyRegisters (s t : State) : Prop :=
  t = { s with regs := t.regs, lat := t.lat, evc := t.evc, clkAt := t.clkAt, mbx := t.mbx, host := t.host, freeCtr := t.freeCtr }

/-- The state but for who waits for the answer of an offer. -/
def unasked (s : State) : State :=
  { s with skb := { s.skb with offers := s.skb.offers.map (fun (o : Offer) => { o with asker := .nobody }) },
           kv := { s.kv with updWaits := none } }

/-- As `OnlyRegisters`, and the mailbox may have ceased to wait for the answer of an offer (R120). -/
def OnlyMailbox (s t : State) : Prop := OnlyRegisters (unasked s) (unasked t)

/-- Register `a` shows what it holds, and a read of it has no effect of its own (R12). -/
def ShowsItsWord (a : Nat) : Prop := ∀ v : State, regPrepare v a = v ∧ regLive v a = (readFields (regFields a) (v.rd a), v) ∧ regTouched v a = v

/-- A write of register `a` does no more than its field types say (R12). -/
def HoldsItsWord (m : Master) (a : Nat) (w : Word) : Prop := ∀ v : State, regEffect m a w v = .next (plainWrite v a w)

/-- The stroke of slot `i` has ended (R148, R158, R160): DONE, or REPORTED with its report and lateness. -/
def Finished (s t : State) (i report late : Nat) : Prop :=
  t.led i = { s.led i with state := if report = 0 then 3 else 4, report := report, late := late }

/-- The stroke of slot `i` has ended now: on its tick, or LATE (R160). -/
def FinishedNow (s t : State) (i : Nat) : Prop :=
  Finished s t i (lateReport s (s.led i)).1 (lateReport s (s.led i)).2

/-- The executor of class `c` may perform the stroke of slot `i`, and its check word verifies (R34, R152, R157). -/
def DueStroke (s : State) (i c : Nat) : Prop := strokeDue s i c = true ∧ strokeOk (s.led i).stroke = true

end Sys2Proof.Machine
end

