-- ==== Sys2Proof/Certificates/Slice0/Obligations.lean ====
section
/-! DEFINITION. The statements about the machine, for the provers. -/

open Sys2Proof Sys2Proof.Machine

/-! ## The queue -/

/-- A step takes the command at the front of the queue and runs it on the state whose queue is the rest. -/
def Obligations.StepRunsFront : Prop :=
  ∀ (s : State) (c : Instr) (rest : List Instr), step { s with pending := c :: rest } = exec c { s with pending := rest }

/-- On an empty queue the block idles but for a waiting mint request (R348): the model's choice (log 64). -/
def Obligations.StepIdles : Prop :=
  ∀ s : State, s.pending = [] →
    (bitAt (optWord s 17) 39 = false ∨ houseRuns s 5 = false ∨ takePacket s (optField s 17 7 0 0) = none → step s = .next s) ∧
    ∃ t, step s = .next t ∧ t.pending = []

/-! ## The cores: words -/

/-- No two words of a core decode to one instruction: no bit of an encoding is dropped (R48 to R51). -/
def Obligations.CoreWordsDistinct : Prop :=
  ∀ (k : CoreId) (v w : Word) (i : Instr), decodeCore k v = some i → decodeCore k w = some i → v = w

/-! ## The cores: arithmetic -/

/-- ADD, SUB, AND, OR, XOR and LIH (R50, R52, R53, R55): the result and every flag, for either form of the second operand; nothing else
changes. SHL, SHR and SRA (R54): for every amount from 0 to 63 the result is the source's bits moved, C the last bit moved out and unchanged
where the amount is 0; a shift immediate above 63 has no effect the spec gives. -/
def Obligations.ArithmeticLogicShifts : Prop :=
  (∀ (s : State) (k : CoreId) (rd rs1 : GReg) (b : Src2) (imm : BitVec 19),
    let c := s.core k
    let x := c.g rs1
    let ys := match b with | .reg r => c.g r | .imm i => i.signExtend 40
    let yz := match b with | .reg r => c.g r | .imm i => i.zeroExtend 40
    let logic := fun (w : Word) (t : State) =>
      Issued s t k (c.result rd w { c.flags with z := decide (w = 0), n := w.msb, v := false })
    (CanIssue s k (rd.val :: rs1.val :: (match b with | .reg r => [r.val] | .imm _ => [])) false →
      Gives (exec (.add k rd rs1 b) s) (fun t => Issued s t k (c.result rd (x + ys)
        { c.flags with z := decide (x + ys = 0), n := (x + ys).msb, c := decide (2 ^ 40 ≤ x.toNat + ys.toNat),
                       v := decide ((x + ys).toInt ≠ x.toInt + ys.toInt) })) ∧
      Gives (exec (.sub k rd rs1 b) s) (fun t => Issued s t k (c.result rd (x - ys)
        { c.flags with z := decide (x = ys), n := (x - ys).msb, c := decide (x.toNat < ys.toNat),
                       v := decide ((x - ys).toInt ≠ x.toInt - ys.toInt) })) ∧
      Gives (exec (.and_ k rd rs1 b) s) (logic (x &&& yz)) ∧
      Gives (exec (.or_ k rd rs1 b) s) (logic (x ||| yz)) ∧
      Gives (exec (.xor k rd rs1 b) s) (logic (x ^^^ yz))) ∧
    (CanIssue s k [rd.val, rs1.val] false →
      Gives (exec (.lih k rd rs1 imm) s) (fun t => Issued s t k (c.result rd (x.extractLsb' 0 21 ++ imm) c.flags)))) ∧
  (∀ (s : State) (k : CoreId) (rd rs1 : GReg) (b : Src2),
    let c := s.core k
    let x := c.g rs1
    let n := match b with | .reg r => (c.g r).toNat % 64 | .imm i => i.toNat
    let out := fun (w : Word) (carry : Bool) (t : State) => Issued s t k (c.result rd w
      { c.flags with z := decide (w = 0), n := w.msb, c := if n = 0 then c.flags.c else carry, v := false })
    CanIssue s k (rd.val :: rs1.val :: (match b with | .reg r => [r.val] | .imm _ => [])) false →
    if n < 64 then
      Gives (exec (.shl k rd rs1 b) s) (out (BitVec.ofNat 40 (x.toNat * 2 ^ n)) (decide (n ≤ 40) && x.toNat.testBit (40 - n))) ∧
      Gives (exec (.shr k rd rs1 b) s) (out (BitVec.ofNat 40 (x.toNat / 2 ^ n)) (decide (n ≤ 40) && x.toNat.testBit (n - 1))) ∧
      Gives (exec (.sra k rd rs1 b) s) (out (BitVec.ofInt 40 (x.toInt / 2 ^ n)) (if n ≤ 40 then x.toNat.testBit (n - 1) else x.msb))
    else
      exec (.shl k rd rs1 b) s = .fault .unpredictable ∧ exec (.shr k rd rs1 b) s = .fault .unpredictable ∧
      exec (.sra k rd rs1 b) s = .fault .unpredictable)

/-- MUL, MUL.Q, MAC, MSC and ACC (R56 to R58): the exact product, its low or high half with saturation, the accumulators modulo 2^88, and
the accumulator's scaled, rounded and saturated read-out. -/
def Obligations.MultiplyAccumulate : Prop :=
  ∀ (s : State) (k : CoreId) (rd rs1 rs2 : GReg) (sel clr trunc : Bool) (sh : BitVec 6),
    let c := s.core k
    let p := (c.g rs1).toInt * (c.g rs2).toInt
    let zn := fun (w : Word) (v : Bool) => { c.flags with z := decide (w = 0), n := w.msb, v := v }
    let acc := if sel then c.a1 else c.a0
    let put := fun (a : BitVec 88) => if sel then { c with a1 := a } else { c with a0 := a }
    let clamp := fun (r : Int) => if 2 ^ 39 - 1 < r then (0x7FFFFFFFFF#40, true) else if r < -2 ^ 39 then (0x8000000000#40, true)
      else (BitVec.ofInt 40 r, false)
    let r := clamp ((acc.toInt * 2 ^ sh.toNat + if trunc then 0 else 2 ^ 38) / 2 ^ 39)
    (CanIssue s k [rd.val, rs1.val, rs2.val] false →
      Gives (exec (.mul k rd rs1 rs2 false) s) (fun t => Issued s t k (c.result rd (BitVec.ofInt 40 p)
        (zn (BitVec.ofInt 40 p) (decide (p < -2 ^ 39 ∨ 2 ^ 39 - 1 < p))))) ∧
      Gives (exec (.mul k rd rs1 rs2 true) s) (fun t =>
        Issued s t k (c.result rd (clamp (p / 2 ^ 39)).1 (zn (clamp (p / 2 ^ 39)).1 (clamp (p / 2 ^ 39)).2)))) ∧
    (CanIssue s k [rs1.val, rs2.val] false → k.val < 16 →
      Gives (exec (.mac k rs1 rs2 sel clr) s) (fun t =>
        Issued s t k ((put ((if clr then 0 else acc) + BitVec.ofInt 88 p)).went (c.pc + 1))) ∧
      Gives (exec (.msc k rs1 rs2 sel clr) s) (fun t =>
        Issued s t k ((put ((if clr then 0 else acc) - BitVec.ofInt 88 p)).went (c.pc + 1)))) ∧
    (CanIssue s k [rd.val] false →
      if sh.toNat < 40 then
        Gives (exec (.acc k rd sh trunc clr sel) s) (fun t =>
          Issued s t k ((if clr then put 0 else c).result rd r.1 (zn r.1 r.2)))
      else exec (.acc k rd sh trunc clr sel) s = .fault .unpredictable)

/-- TADD, TSUB, TCMP and TEXT (R59 to R62) on normalized times, in units of 1/1024 ns, with every flag; of a time that is not normalized (R63)
the result and its flags are open, and the rest is as ever. A pair that is odd, or g0:g1 as a destination, has no effect the spec gives (R44).
Where the spec leaves a point open it states the model's choice: log 151. -/
def Obligations.TimeArithmetic : Prop :=
  ∀ (s : State) (k : CoreId) (rd rs1 rs2 : GReg),
    let c := s.core k
    let sec := fun (r : GReg) => ((c.g r).toNat : Int)
    let low := fun (r : GReg) => ((c.g (r.val + 1)).toNat : Int)
    let U : Int := 1024000000000
    let even := fun (r : GReg) => r.val % 2 = 0
    let fine := fun (r : GReg) => low r < U
    let dst := rd.val % 2 = 0 ∧ rd.val ≠ 0
    let units := fun (r : GReg) => sec r * U + low r
    let pair := fun (hi lo : Int) (f : Flags) (t : State) =>
      Issued s t k ({ c.setPair rd (BitVec.ofInt 40 hi) (BitVec.ofInt 40 lo) with flags := f }.went (c.pc + 1))
    let sum := fun (seconds x : Int) (t : State) =>
      let carry : Int := if U ≤ x then 1 else if x < 0 then -1 else 0
      let y := sec rs1 + seconds + carry
      pair y (x - carry * U)
        { c.flags with z := decide (BitVec.ofInt 40 y = 0 ∧ x = carry * U), n := false, c := decide (carry ≠ 0),
                       v := decide (y < 0 ∨ 2 ^ 40 ≤ y) } t
    let d := units rs1 - units rs2
    let clamp := fun (r : Int) => if 2 ^ 39 - 1 < r then (0x7FFFFFFFFF#40, true) else if r < -2 ^ 39 then (0x8000000000#40, true)
      else (BitVec.ofInt 40 r, false)
    let e := (c.g rs1 - BitVec.ofInt 40 (units rs2 / 4)).toInt
    let far := sec rs2 * U + low rs2 / 4 * 4 + 4 * e
    let opened := fun (o : Out) (Q : Word → Word → Flags → Core → Prop) => Gives o (fun t => ∃ hi lo f c', Q hi lo f c' ∧
      Issued { s with freeCtr := t.freeCtr } t k ({ c' with flags := f }.went (c.pc + 1)) ∧ f.e = c.flags.e ∧ f.l = c.flags.l)
    let wide := fun (hi lo : Word) (c' : Core) => c' = c.setPair rd hi lo
    (CanIssue s k [rd.val, rd.val + 1, rs1.val, rs1.val + 1, rs2.val, rs2.val + 1] false →
      (dst → even rs1 → even rs2 → fine rs1 → fine rs2 →
        Gives (exec (.tadd k rd rs1 rs2 false) s) (sum (c.g rs2).toInt (low rs1 + low rs2)) ∧
        Gives (exec (.tsub k rd rs1 rs2 false) s) (pair (d / U) (d % U)
          { c.flags with z := decide (d = 0), n := decide (d < 0), c := decide (low rs1 < low rs2),
                         v := decide (d / U < -2 ^ 39 ∨ 2 ^ 39 - 1 < d / U) })) ∧
      (dst → even rs1 → even rs2 → ¬ (fine rs1 ∧ fine rs2) →
        opened (exec (.tadd k rd rs1 rs2 false) s) (fun hi lo f c' => wide hi lo c' ∧ f.n = false ∧ (f.z = true ↔ hi = 0 ∧ lo = 0)) ∧
        opened (exec (.tsub k rd rs1 rs2 false) s) (fun hi lo _ c' => wide hi lo c')) ∧
      (¬ (dst ∧ even rs1 ∧ even rs2) →
        exec (.tadd k rd rs1 rs2 false) s = .fault .unpredictable ∧ exec (.tsub k rd rs1 rs2 false) s = .fault .unpredictable)) ∧
    (CanIssue s k [rd.val, rd.val + 1, rs1.val, rs1.val + 1, rs2.val] false →
      (dst → even rs1 → fine rs1 → Gives (exec (.tadd k rd rs1 rs2 true) s) (sum 0 (low rs1 + (c.g rs2).toInt))) ∧
      (dst → even rs1 → ¬ fine rs1 →
        opened (exec (.tadd k rd rs1 rs2 true) s) (fun hi lo f c' => wide hi lo c' ∧ f.n = false ∧ (f.z = true ↔ hi = 0 ∧ lo = 0))) ∧
      (¬ (dst ∧ even rs1) → exec (.tadd k rd rs1 rs2 true) s = .fault .unpredictable)) ∧
    (CanIssue s k [rd.val, rs1.val, rs1.val + 1, rs2.val, rs2.val + 1] false →
      (even rs1 → even rs2 → fine rs1 → fine rs2 →
        Gives (exec (.tsub k rd rs1 rs2 true) s) (fun t => Issued s t k (c.result rd (clamp d).1
          { c.flags with z := decide (d = 0), n := decide (d < 0), c := decide (low rs1 < low rs2), v := (clamp d).2 }))) ∧
      (even rs1 → even rs2 → ¬ (fine rs1 ∧ fine rs2) → opened (exec (.tsub k rd rs1 rs2 true) s) (fun hi _ _ c' => c' = c.setG rd hi)) ∧
      (¬ (even rs1 ∧ even rs2) → exec (.tsub k rd rs1 rs2 true) s = .fault .unpredictable)) ∧
    (CanIssue s k [rs1.val, rs1.val + 1, rs2.val, rs2.val + 1] false →
      (even rs1 → even rs2 → fine rs1 → fine rs2 →
        Gives (exec (.tcmp k rs1 rs2) s) (fun t => Issued s t k ({ c with flags :=
          { c.flags with z := decide (d = 0), n := decide (d < 0), c := decide (d < 0), v := false } }.went (c.pc + 1)))) ∧
      (even rs1 → even rs2 → ¬ (fine rs1 ∧ fine rs2) →
        opened (exec (.tcmp k rs1 rs2) s) (fun _ _ f c' => c' = c ∧ f.n = f.c ∧ f.v = false)) ∧
      (¬ (even rs1 ∧ even rs2) → exec (.tcmp k rs1 rs2) s = .fault .unpredictable)) ∧
    (CanIssue s k [rd.val, rd.val + 1, rs1.val, rs2.val, rs2.val + 1] false →
      (dst → even rs2 → fine rs2 →
        Gives (exec (.text k rd rs1 rs2) s) (pair (far / U) (far % U)
          { c.flags with z := decide (e = 0), n := decide (e < 0), v := decide (far / U < 0 ∨ 2 ^ 40 ≤ far / U) })) ∧
      (dst → even rs2 → ¬ fine rs2 → opened (exec (.text k rd rs1 rs2) s) (fun hi lo f c' => wide hi lo c' ∧ f.c = c.flags.c)) ∧
      (¬ (dst ∧ even rs2) → exec (.text k rd rs1 rs2) s = .fault .unpredictable))

/-! ## The cores: control flow -/

/-- BR, BRC, CALL and RET (R64, R66): the target is the instruction's own address plus the signed offset modulo 2^32, or the low 32 bits of a
register as it stood before the link register is written; CALL's link is PC + 1; flags and memory are as before. -/
def Obligations.BranchesAndCalls : Prop :=
  ∀ (s : State) (k : CoreId) (rd rs1 : GReg) (t : Target),
    let c := s.core k
    let rs := match t with | .off _ => [] | .reg r => [r.val]
    let dest := match t with | .off o => (((c.pc : Int) + o.toInt) % 2 ^ 32).toNat | .reg r => (c.g r).toNat % 2 ^ 32
    (CanIssue s k rs false → Gives (exec (.br k t) s) (fun u => Issued s u k (c.went dest))) ∧
    (CanIssue s k (rd.val :: rs) false → Gives (exec (.call k rd t) s) (fun u =>
      Issued s u k ((c.setG rd (BitVec.ofNat 40 ((c.pc + 1) % 2 ^ 32))).went dest))) ∧
    (CanIssue s k [rs1.val] false → Gives (exec (.ret k rs1) s) (fun u => Issued s u k (c.went ((c.g rs1).toNat % 2 ^ 32)))) ∧
    (∀ off : BitVec 19, CanIssue s k [] false → c.flags.z = true → Gives (exec (.brc k 0 off) s) (fun u =>
      Issued s u k (c.went (((c.pc : Int) + off.toInt) % 2 ^ 32).toNat)))

/-- BRC branches exactly when its condition holds of the flags, and else goes on; a word with the reserved bit rd[4] set decodes to nothing (R65). -/
def Obligations.ConditionalBranch : Prop :=
  ∀ (s : State) (k : CoreId) (cond : Fin 16) (off : BitVec 19),
    let c := s.core k
    let f := c.flags
    let taken := match cond.val with
      | 0x0 => f.z = true | 0x1 => f.z = false
      | 0x2 => f.n ≠ f.v | 0x3 => f.n = f.v
      | 0x4 => f.z = false ∧ f.n = f.v | 0x5 => f.z = true ∨ f.n ≠ f.v
      | 0x6 => f.c = true | 0x7 => f.c = false
      | 0x8 => f.c = false ∧ f.z = false | 0x9 => f.c = true ∨ f.z = true
      | 0xA => f.v = true | 0xB => f.v = false
      | 0xC => f.e = true | 0xD => f.e = false
      | 0xE => f.l = true | _ => f.l = false
    (∀ w : Word, fieldOf w 39 34 = 0x1D → bitAt w 33 = true → decodeCore k w = none) ∧
    (CanIssue s k [] false → Gives (exec (.brc k cond off) s) (fun t =>
      (taken → Issued s t k (c.went (((c.pc : Int) + off.toInt) % 2 ^ 32).toNat)) ∧ (¬taken → Issued s t k (c.went (c.pc + 1)))))

/-! ## The cores: traps and services -/

/-- A TRAP of a user code, an undefined service code, and RESUME or RESUME_SKIP outside a trap take the USER or the ILLEGAL trap (R67, R105,
R106, R108, R109); the detail and address of ILLEGAL, which the spec does not state, are free (log 61). A TRAP of a service's code is
that service. A trap within a trap halts the core and raises its double-trap source, whatever the code but RESUME and RESUME_SKIP (R107, R108). MAC, MSC and the
packet instructions are absent from one profile each and take the ILLEGAL trap there (R77, R78, R105). -/
def Obligations.Traps : Prop :=
  (∀ (s : State) (k : CoreId) (code : BitVec 19), CanIssue s k [] true →
    let c := s.core k
    let n := code.toNat
    (c.inTrap = false →
      (0x10000 ≤ n → Gives (exec (.trap k code) s) (fun t => Trapped s t k 2 n n (c.pc + 1))) ∧
      (3 < n → n < 0xFFFE → Gives (exec (.trap k code) s) (fun t => ∃ x y, Trapped s t k 3 x y c.pc)) ∧
      Gives (exec (.resume k) s) (fun t => ∃ x y, Trapped s t k 3 x y c.pc) ∧
      Gives (exec (.resumeSkip k) s) (fun t => ∃ x y, Trapped s t k 3 x y c.pc)) ∧
    (n = 0 → exec (.trap k code) s = exec (.stray k) s) ∧
    (n = 1 → exec (.trap k code) s = exec (.selfSvc k) s) ∧
    (n = 2 → exec (.trap k code) s = exec (.notice k) s) ∧
    (n = 3 → exec (.trap k code) s = exec (.bound k) s) ∧
    (n = 0xFFFF → exec (.trap k code) s = exec (.resume k) s) ∧
    (n = 0xFFFE → exec (.trap k code) s = exec (.resumeSkip k) s)) ∧
  (∀ (s : State) (k : CoreId) (code : BitVec 19), CanIssue s k [] true → (s.core k).inTrap = true → code.toNat < 0xFFFE ∨ 0xFFFF < code.toNat →
    Gives (exec (.trap k code) s) (fun t => (t.core k).halted = true ∧ srcStatus t (doubleTrapSource k) = true)) ∧
  (∀ (s : State) (k : CoreId) (rd rs1 rs2 : GReg) (a b : Bool) (off : BitVec 11) (len : BitVec 3) (fmt : BitVec 2),
    CanIssue s k [] true → (s.core k).inTrap = false →
    let refused := fun (o : Out) => Gives o (fun t => ∃ x y, Trapped s t k 3 x y (s.core k).pc)
    (k.val < 16 → refused (exec (.pex k rd rs1 rs2 off len a) s) ∧ refused (exec (.csum k rd rs1 rs2 a) s) ∧
      refused (exec (.tsi k rs1 rs2 off fmt) s) ∧ refused (exec (.qsend k rd rs1 rs2 a) s)) ∧
    (16 ≤ k.val → refused (exec (.mac k rs1 rs2 a b) s) ∧ refused (exec (.msc k rs1 rs2 a b) s)))

/-- The House services (R109): STRAY halts the core and reports it; SELF, NOTICE and BOUND answer in registers and go on behind the TRAP with
the flags, the privilege and every other register as before.
Where the spec leaves a point open it states the model's choice: log 62. -/
def Obligations.HouseServices : Prop :=
  ∀ (s : State) (k : CoreId), CanIssue s k [] true → (s.core k).inTrap = false →
    let c := s.core k
    let back := fun (t : State) (rs : List (Nat × Word)) =>
      (t.core k).pc = (c.pc + 1) % 2 ^ 32 ∧ (t.core k).flags = c.flags ∧ (t.core k).keeper = c.keeper ∧ (t.core k).inTrap = false ∧
      (∀ p ∈ rs, (t.core k).g p.1 = p.2) ∧ (∀ r, (∀ p ∈ rs, r ≠ p.1) → (t.core k).g r = c.g r) ∧
      (∀ j, j ≠ k.val → t.core j = s.core j) ∧ t.skb = s.skb ∧ t.fifos = s.fifos ∧
      (∀ a, (k.val < 16 ∨ a < trapWords k ∨ trapWords k + 3 ≤ a) → a ≠ trapFrame k → a ≠ trapFrame k + 1 → t.ld a = s.ld a)
    Gives (exec (.stray k) s) (fun t => (t.core k).halted = true ∧ srcStatus t (haltSource k) = true) ∧
    Gives (exec (.selfSvc k) s) (fun t => back t [(1, w40 (if k.val < 16 then k.val else 0x100 + (k.val - 16)))]) ∧
    ((∀ e ∈ s.skb.slots, e.2.state = 4 → e.2.offerer ≠ coreOfferer k) →
      Gives (exec (.notice k) s) (fun t => back t [(1, 0), (2, 0), (3, 0), (4, 0), (5, 0)])) ∧
    (∀ e ∈ s.skb.slots, e.2.state = 4 → e.2.offerer = coreOfferer k →
      (∀ e' ∈ s.skb.slots, e'.2.state = 4 → e'.2.offerer = coreOfferer k → e' = e ∨ seqBefore e.2.seq e'.2.seq = true) →
      Gives (exec (.notice k) s) (fun t =>
        back t [(1, w40 e.2.report), (2, e.2.stroke.hi), (3, e.2.stroke.lo), (4, e.2.stroke.act), (5, w40 e.2.seq)])) ∧
    Gives (exec (.bound k) s) (fun t => back t [(2, T80hi s.now), (3, T80lo s.now), (4, s.rd GLZ_B), (5, s.rd GLZ_LIN)])

/-- RESUME and RESUME_SKIP (R108): g1 and g2 come back from the trap frame, the flags and the privilege too, in_trap clears, and the core goes on at EC_TPC or behind
it; RESUME issues a WAIT again that the trap had ended, against the same instant (R83, R105). -/
def Obligations.TrapReturn : Prop :=
  ∀ (s : State) (k : CoreId), CanIssue s k [] true → (s.core k).inTrap = true →
    let c := s.core k
    let info := s.rd (coreBlock k + 4)
    let tpc := (s.rd (coreBlock k + 3)).toNat
    let back := fun (t : State) =>
      (t.core k).keeper = bitAt info 14 ∧ (t.core k).inTrap = false ∧ (t.core k).g 1 = s.ld (trapFrame k) ∧ (t.core k).g 2 = s.ld (trapFrame k + 1) ∧
      (∀ r, r ≠ 1 → r ≠ 2 → (t.core k).g r = c.g r) ∧ Issued s t k (t.core k)
    (c.held = .none → Gives (exec (.resume k) s) (fun t =>
      back t ∧ (t.core k).pc = tpc % 2 ^ 32 ∧ (t.core k).flags = flagsOf (fieldOf info 13 8) ∧ (t.core k).waiting = .none)) ∧
    (∀ w p, c.held = .wait w p → Gives (exec (.resume k) s) (fun t => back t ∧
      if s.reached w then (t.core k).pc = (tpc % 2 ^ 32 + 1) % 2 ^ 32 ∧ (t.core k).flags.l = true ∧ (t.core k).waiting = .none
      else (t.core k).pc = tpc % 2 ^ 32 ∧ (t.core k).waiting = .wait w false)) ∧
    Gives (exec (.resumeSkip k) s) (fun t =>
      back t ∧ (t.core k).pc = (tpc + 1) % 2 ^ 32 ∧ (t.core k).flags = flagsOf (fieldOf info 13 8) ∧ (t.core k).waiting = .none)

/-! ## The cores: loads and stores -/

/-- LD and LDP issue without waiting for their words: the load joins the outstanding ones, of which there may be eight, with the effective
address of R68 (a Brush group's port has 32 tags for its engines, R491); an odd pair, or g0:g1, has no effect the spec gives (R44, R69, R75).
A load of plain memory that is alone completes when it returns: its words stand in its registers, and nothing else has changed.
Where the spec leaves a point open it states the model's choice: log 62, 63, 157. -/
def Obligations.LoadsIssue : Prop :=
  ∀ (s : State) (k : CoreId) (rd rs1 : GReg) (imm : BitVec 19),
    let c := s.core k
    let ea := (((c.g rs1).toNat % 2 ^ 32 : Int) + imm.toInt) % 2 ^ 32
    let m := coreAs k c.keeper
    let next := (ea.toNat + 1) % 2 ^ 32
    let joined := fun (pair : Bool) (t : State) => ∃ l : Load,
      l.addr = ea.toNat ∧ l.rd = rd.val ∧ l.pair = pair ∧ l.pc = c.pc ∧ l.back = 0 ∧ l.due = ⟨0, 0⟩ ∧
      Issued s t k { c.went (c.pc + 1) with loads := (c.went (c.pc + 1)).loads ++ [l] }
    let returns := fun (o : Out) (d : Core) =>
      Gives o (fun t => Gives (exec (.loadReturn k 0) t) (fun u => Issued s u k (d.went (c.pc + 1))))
    c.loads.length < 8 → (c.loads = [] ∨ (targetOf ea.toNat ≠ .regs ∧ targetOf ea.toNat ≠ .fifo)) →
    (localWord k ea.toNat = true ∨ tagsFull s k = false) → Undelayed s →
    (c.loads = [] → plainMemory ea.toNat → memReadErr s m ea.toNat = none →
      (CanIssue s k [rd.val, rs1.val] false → returns (exec (.ld k rd rs1 imm) s) (c.setG rd (s.ld ea.toNat))) ∧
      (CanIssue s k [rd.val, rs1.val, rd.val + 1] false → rd.val % 2 = 0 → rd.val ≠ 0 → plainMemory next → memReadErr s m next = none →
        returns (exec (.ldp k rd rs1 imm) s) ((c.setG rd (s.ld ea.toNat)).setG (rd.val + 1) (s.ld next)))) ∧
    (CanIssue s k [rd.val, rs1.val] false → Gives (exec (.ld k rd rs1 imm) s) (joined false)) ∧
    (CanIssue s k [rd.val, rs1.val, rd.val + 1] false →
      if rd.val % 2 = 0 ∧ rd.val ≠ 0 then Gives (exec (.ldp k rd rs1 imm) s) (joined true)
      else exec (.ldp k rd rs1 imm) s = .fault .unpredictable)

/-- A load returns from memory (R69, R71, R75): its words go to its registers and to nothing else, and memory is as before.
Where the spec leaves a point open it states the model's choice: log 63. -/
def Obligations.LoadReturns : Prop :=
  ∀ (s : State) (k : CoreId) (i : Fin 8) (l : Load),
    let c := s.core k
    let m := coreAs k c.keeper
    let next := (l.addr + 1) % 2 ^ 32
    c.loads[i.val]? = some l → (∀ o ∈ c.loads, o.back = 0) → (∀ o ∈ c.loads.take i, targetOf o.addr ≠ targetOf l.addr) → GoesOn s k →
    s.elapsed l.due = true →
    plainMemory l.addr → memReadErr s m l.addr = none → (l.pair = true → plainMemory next ∧ memReadErr s m next = none ∧ l.rd ≠ 0) →
    Gives (exec (.loadReturn k i) s) (fun t =>
      (l.rd ≠ 0 → (t.core k).g l.rd = s.ld l.addr) ∧ (l.pair = true → (t.core k).g (l.rd + 1) = s.ld next) ∧
      (∀ r, r ≠ l.rd → (l.pair = true → r ≠ l.rd + 1) → (t.core k).g r = c.g r) ∧
      (t.core k).flags = c.flags ∧ (t.core k).pc = c.pc ∧ (t.core k).loads.length + 1 = c.loads.length ∧
      t = { s with cores := t.cores })

/-- ST and STP write their words at the effective address and the next, and no other word of memory, once the store buffer has room (R75); an
odd pair has no effect the spec gives (R44, R68, R69), nor has a store into the ledger, whose only writer is SKB (R125, R148).
Where the spec leaves a point open it states the model's choice: log 63, 158. -/
def Obligations.Stores : Prop :=
  ∀ (s : State) (k : CoreId) (rs1 rs2 : GReg) (imm : BitVec 19),
    let c := s.core k
    let m := coreAs k c.keeper
    let ea := ((((c.g rs1).toNat % 2 ^ 32 : Int) + imm.toInt) % 2 ^ 32).toNat
    let next := (ea + 1) % 2 ^ 32
    let kept := fun (t : State) => t.core k = c.went (c.pc + 1) ∧ (∀ j, j ≠ k.val → t.core j = s.core j) ∧
      t = { s with cores := t.cores, tly := t.tly, mem := t.mem }
    plainMemory ea → memWriteErr s m ea = none →
    (CanIssue s k [rs1.val, rs2.val] true → storesWaiting s k < 8 →
      if ledgerWord s ea = true then exec (.st k rs1 rs2 imm) s = .fault .unpredictable
      else Gives (exec (.st k rs1 rs2 imm) s) (fun t => kept t ∧ t.ld ea = c.g rs2 ∧ ∀ b, b ≠ ea → t.ld b = s.ld b)) ∧
    (CanIssue s k [rs1.val, rs2.val, rs2.val + 1] true → storesWaiting s k < 7 → plainMemory next → memWriteErr s m next = none →
      if rs2.val % 2 = 0 ∧ ledgerWord s ea = false ∧ ledgerWord s next = false then
        Gives (exec (.stp k rs1 rs2 imm) s) (fun t =>
          kept t ∧ t.ld ea = c.g rs2 ∧ t.ld next = c.g (rs2.val + 1) ∧ ∀ b, b ≠ ea → b ≠ next → t.ld b = s.ld b)
      else exec (.stp k rs1 rs2 imm) s = .fault .unpredictable)

/-- A store to House ROM is a decode error: memory is as before, the matrix records it, and its response is on its way to the core; when it
arrives at a running core it is trapped as BUS_STORE with the store's address, in WAIT and WEV too, and a core in another wait takes it
later (R75, R105, R480, R493).
Where the spec leaves a point open it states the model's choice: log 61, 63. -/
def Obligations.StoreErrors : Prop :=
  ∀ (s : State) (k : CoreId) (rs1 rs2 : GReg) (imm : BitVec 19),
    let c := s.core k
    let ea := ((((c.g rs1).toNat % 2 ^ 32 : Int) + imm.toInt) % 2 ^ 32).toNat
    (CanIssue s k [rs1.val, rs2.val] true → storesWaiting s k < 8 → ea < 0x80000 → Gives (exec (.st k rs1 rs2 imm) s) (fun t =>
      SameMemory s t ∧ (t.core k).stErr = c.stErr ++ [(ea, some 0)] ∧ (t.core k).pc = (c.pc + 1) % 2 ^ 32 ∧
      t.on MTX_EVENTS_err = true ∧ t.get MTX_ERR_ADDR_addr = ea)) ∧
    (∀ a kind rest, c.stErr = (a, some kind) :: rest → kind < 8 → c.stBack = [] →
      (coreAlive s k = true → s.on (coreCtl k) = true → c.loads = [] → c.inTrap = false → (c.waiting = .none ∨ c.waiting.dozing = true) →
        Gives (exec (.storeErrorResponse k) s) (fun t => Trapped s t k 6 kind a c.pc ∧ (s.rd (coreBlock k + 2) ≠ 0 → (t.core k).held = c.waiting))) ∧
      (c.waiting.dozing = false → c.waiting ≠ .none → s.on (coreCtl k) = true → Gives (exec (.storeErrorResponse k) s) (fun t =>
        t = s.setCore k { c with stErr := rest, stBack := [(a, some kind)] })))

/-! ## The cores: FIFOs, unit registers, waiting and strokes -/

/-- PUSH, its acceptance, POP and WASH (R93 to R95, R498, R502): a word that fits goes in and the core goes on, one that does not keeps the
core waiting until it is taken; a pop answers the word at the head with E = 0, or 0 with E = 1; a disabled FIFO ignores pushes.
Where the spec leaves a point open it states the model's choice: log 47. -/
def Obligations.FifoInstructions : Prop :=
  ∀ (s : State) (k : CoreId) (rd rs1 rs2 : GReg) (fr : Fin 4),
    let c := s.core k
    let n := (c.g rs1).toNat % 256
    let m := coreMaster k
    unitErr s FIFO_IDX = none → s.fifoWait = [] →
    (CanIssue s k [rs1.val, rs2.val] true →
      ((s.fifo n).en = true → fifoFramed (s.fifo n) fr = true → fifoTakes s n m fr = true →
        Gives (exec (.push k rs1 rs2 fr) s) (fun t => t.core k = c.went (c.pc + 1) ∧ t.fifo n = fifoPut (s.fifo n) m fr (c.g rs2) ∧
          (∀ j, j ≠ n → t.fifo j = s.fifo j) ∧ t = { s with cores := t.cores, tly := t.tly, fifos := t.fifos })) ∧
      ((s.fifo n).en = true → (s.fifo n).owner = none → fifoFramed (s.fifo n) fr = true → fifoTakes s n m fr = false →
        Gives (exec (.push k rs1 rs2 fr) s) (fun t => Issued s t k { c with waiting := .push n fr (c.g rs2) })) ∧
      ((s.fifo n).en = false → Gives (exec (.push k rs1 rs2 fr) s) (fun t => Issued s t k (c.went (c.pc + 1))))) ∧
    (∀ f w, c.waiting = .push f fr w → GoesOn s k → (s.fifo f).en = true → fifoFramed (s.fifo f) fr = true → fifoTakes s f m fr = true →
      Gives (exec (.pushAccepted k) s) (fun t => Awake t k c ∧ t.fifo f = fifoPut (s.fifo f) m fr w ∧
        (∀ j, j ≠ f → t.fifo j = s.fifo j) ∧ SameMemory s t)) ∧
    (CanIssue s k [rd.val, rs1.val] true → ringFresh s n = s → (∀ p < 4, s.get (BRGg_AUX_FIFO_txdone p) ≠ n) →
      ((s.fifo n).en = true → ∀ w p rest, (s.fifo n).closed = (w :: p) :: rest → Gives (exec (.pop k rd rs1) s) (fun t =>
        t.core k = c.result rd w { c.flags with e := false } ∧
        (t.fifo n).closed = (if p = [] then rest else p :: rest) ∧ (∀ j, j ≠ n → t.fifo j = s.fifo j))) ∧
      ((s.fifo n).en = false ∨ (s.fifo n).closed = [] → Gives (exec (.pop k rd rs1) s) (fun t =>
        t.core k = c.result rd 0 { c.flags with e := true } ∧ ∀ j, t.fifo j = s.fifo j))) ∧
    (CanIssue s k [rs1.val] true → Gives (exec (.wash k rs1) s) (fun t => t.core k = c.went (c.pc + 1) ∧
      (∀ j, j ≠ n → t.fifo j = s.fifo j) ∧
      ((s.fifo n).en = true → (s.fifo n).owner = none → (s.fifo n).begun = false →
        (t.fifo n).closed = [] ∧ (t.fifo n).nWash = ((s.fifo n).nWash + 1) % 2 ^ 32) ∧
      ((s.fifo n).en = true → (s.fifo n).owner ≠ none → t.fifo n = { s.fifo n with cut := true }) ∧
      ((s.fifo n).en = false → t.fifo n = s.fifo n)))

/-- URD and UWR wait for the unit's response (R91, R92). A performed read gives the word that the register shows with E = 0, a performed write
of a register whose write does no more than its field types say leaves them so with E = 0; an error response of any kind but a User's at a
Keeper register gives 0, E = 1 and its record, also where the unit's wrapper has ended the access (R25); that one is trapped as BUS_LOAD.
Where the spec leaves a point open it states the model's choice: log 61. -/
def Obligations.UnitInstructions : Prop :=
  ∀ (s : State) (k : CoreId) (rd rs1 rs2 : GReg) (off : BitVec 8),
    let c := s.core k
    let u := (c.g rs1).toNat % 4096
    let d : Core := { c with due := ⟨0, 0⟩ }
    Undelayed s →
    (CanIssue s k [rd.val, rs1.val] true →
      Gives (exec (.urd k rd rs1 off) s) (fun t => Issued s t k { d with waiting := .urd rd u off.toNat })) ∧
    (CanIssue s k [rs1.val, rs2.val] true →
      Gives (exec (.uwr k rs1 rs2 off) s) (fun t => Issued s t k { d with waiting := .uwr u off.toNat (c.g rs2) })) ∧
    (u < 256 →
      let a := u * 256 + off.toNat
      let m := coreAs k c.keeper
      let e0 := { c.flags with e := false }
      (CanIssue s k [rd.val, rs1.val] true → Reads s m a → Gives (exec (.urd k rd rs1 off) s) (fun t =>
        Gives (exec (.unitAccessResponse k) t) (fun v => ∃ w, v.core k = d.result rd w e0 ∧ (∀ j, j ≠ k.val → v.core j = s.core j) ∧
          SameMemory s v ∧ (off.toNat < 0xF0 → ShowsItsWord a → w = readFields (regFields a) (s.rd a))))) ∧
      (CanIssue s k [rs1.val, rs2.val] true → Writes s m a (c.g rs2) → a ≠ coreBlock k → HoldsItsWord m a (c.g rs2) →
        Gives (exec (.uwr k rs1 rs2 off) s) (fun t => Gives (exec (.unitAccessResponse k) t) (fun v =>
          v.core k = { d with flags := e0 }.went (c.pc + 1) ∧ (∀ j, j ≠ k.val → v.core j = s.core j) ∧ SameMemory s v ∧
          (off.toNat < 0xF0 → v.rd a = writeFields (regFields a) (s.rd a) (c.g rs2)))))) ∧
    (∀ rd u o, c.waiting = .unitErr rd u o → GoesOn s k → s.elapsed c.due = true → Gives (exec (.unitAccessResponse k) s) (fun t =>
      Awake t k { (match rd with | some r => c.setG r 0 | none => c) with flags := { c.flags with e := true } } ∧
      t.on MTX_EVENTS_err = true)) ∧
    (∀ unit o w, unit < 256 → o < 256 → GoesOn s k → s.elapsed c.due = true →
      let a := unit * 256 + o
      let m := coreAs k c.keeper
      (c.waiting = .urd rd unit o → Reads s m (UNIT_ID unit) → o = 0xF0 → s.rd (UNIT_ID unit) = w40 unit →
        Gives (exec (.unitAccessResponse k) s) (fun t => Awake t k { c.setG rd (w40 unit) with flags := { c.flags with e := false } })) ∧
      (c.waiting = .urd rd unit o → ∀ e, regErr s m a false = some e → e ≠ 1 →
        Gives (exec (.unitAccessResponse k) s) (fun t => Awake t k { c.setG rd 0 with flags := { c.flags with e := true } } ∧
          t.on MTX_EVENTS_err = true)) ∧
      (c.waiting = .uwr unit o w → Writes s m a w → a ≠ coreBlock k → regEffect m a w (touched s a) = .next (plainWrite (touched s a) a w) →
        Gives (exec (.unitAccessResponse k) s) (fun t => Awake t k { c with flags := { c.flags with e := false } } ∧
          t.rd a = writeFields (regFields a) ((touched s a).rd a) w)) ∧
      (c.waiting = .uwr unit o w → c.inTrap = false → regErr s m a true = some 1 →
        Gives (exec (.unitAccessResponse k) s) (fun t => Trapped s t k 5 1 (0x400000 + a) c.pc)))

/-- WAIT (R81, R83): to an absolute time or by a number of ns; a time already reached gives L = 1 at once, another makes the core sleep until
it is reached, with L = 0 unless a step carried the time past. WAIT on an absolute time is absent on Brush (R77).
Where the spec leaves a point open it states the model's choice: log 62, 151. -/
def Obligations.WaitOnTime : Prop :=
  ∀ (s : State) (k : CoreId) (rs1 : GReg),
    let c := s.core k
    let waits := fun (s : State) (at_ : T80) (t : State) =>
      if s.reached at_ then Issued s t k ({ c with flags := { c.flags with l := true } }.went (c.pc + 1))
      else Issued s t k { c with waiting := .wait at_ false }
    (CanIssue s k [rs1.val] true → Gives (exec (.wait k rs1 true) s) (waits s (s.afterNs (c.g rs1).toNat))) ∧
    (CanIssue s k [rs1.val, rs1.val + 1] true → k.val < 16 →
      (rs1.val % 2 = 0 → (c.g (rs1.val + 1)).toNat < 1024000000000 →
        Gives (exec (.wait k rs1 false) s) (waits s ⟨(c.g rs1).toNat, (c.g (rs1.val + 1)).toNat⟩)) ∧
      (rs1.val % 2 = 0 → ¬ (c.g (rs1.val + 1)).toNat < 1024000000000 → Gives (exec (.wait k rs1 false) s) (fun t =>
        ∃ at_ : T80, t80Normal at_ = true ∧ waits { s with freeCtr := t.freeCtr } at_ t)) ∧
      (rs1.val % 2 = 1 → exec (.wait k rs1 false) s = .fault .unpredictable)) ∧
    (CanIssue s k [] true → 16 ≤ k.val → c.inTrap = false →
      Gives (exec (.wait k rs1 false) s) (fun t => ∃ x y, Trapped s t k 3 x y c.pc)) ∧
    (∀ at_ past, c.waiting = .wait at_ past → GoesOn s k →
      if s.reached at_ then Gives (exec (.waitWake k) s) (fun t => Awake t k { c with flags := { c.flags with l := past } })
      else exec (.waitWake k) s = .next s)

/-- WEV (R84, R85): a selected pending event is reported in rd with L = 0 and its edge events are cleared; with none the core sleeps, until one
comes or until the deadline passes, which gives 0 with Z = L = 1.
Where the spec leaves a point open it states the model's choice: log 62. -/
def Obligations.WaitOnEvents : Prop :=
  ∀ (s : State) (k : CoreId) (rd rs1 r2 : GReg),
    let c := s.core k
    let due := fun (mask : Word) => (corePending s k) &&& mask.toNat
    let told := fun (d : GReg) (mask : Word) => { c.setG d (w40 (due mask)) with
      evts := c.evts - (c.evts &&& due mask), flags := { c.flags with z := false, l := false } }
    (CanIssue s k [rd.val, rs1.val] true → 2 ^ 30 ≤ (c.g rs1).toNat → exec (.wev k rd rs1 none) s = .fault .unpredictable) ∧
    (CanIssue s k [rd.val, rs1.val] true → (c.g rs1).toNat < 2 ^ 30 → Gives (exec (.wev k rd rs1 none) s) (fun t =>
      if due (c.g rs1) ≠ 0 then Issued s t k ((told rd (c.g rs1)).went (c.pc + 1))
      else Issued s t k { c with waiting := .wev rd (c.g rs1) none })) ∧
    (CanIssue s k [rd.val, rs1.val, r2.val] true → (c.g rs1).toNat < 2 ^ 30 →
      Gives (exec (.wev k rd rs1 (some r2)) s) (fun t =>
        if due (c.g rs1) ≠ 0 then Issued s t k ((told rd (c.g rs1)).went (c.pc + 1))
        else if s.reached (s.afterNs (c.g r2).toNat) then
          Issued s t k ({ c.setG rd 0 with flags := { c.flags with z := true, l := true } }.went (c.pc + 1))
        else Issued s t k { c with waiting := .wev rd (c.g rs1) (some (s.afterNs (c.g r2).toNat)) })) ∧
    (∀ d mask deadline, c.waiting = .wev d.val mask deadline → GoesOn s k →
      (due mask ≠ 0 → Gives (exec (.wevWake k) s) (fun t => Awake t k (told d mask))) ∧
      (due mask = 0 → ∀ at_, deadline = some at_ → s.reached at_ = true → Gives (exec (.wevDeadline k) s) (fun t =>
        Awake t k { c.setG d 0 with flags := { c.flags with z := true, l := true } })))

/-- SCHED (R87 to R90, R145 to R149): an offer that the ledger takes enters a FREE slot as PENDING with the next sequence number and the core
sleeps; a closed ledger answers FULL and enters nothing; a User's offer of a Keeper class is trapped and offers nothing. The answer reaches the
core as the result word with its flags.
Where the spec leaves a point open it states the model's choice: log 62, 85, 151. -/
def Obligations.SchedOffers : Prop :=
  ∀ (s : State) (k : CoreId) (rd rs1 rs2 : GReg) (tag : BitVec 8),
    let c := s.core k
    let act := c.g rs2
    let stroke := mkStroke (c.g rs1) (c.g (rs1.val + 1)) act tag.toNat
    (CanIssue s k [rd.val, rs1.val, rs1.val + 1, rs2.val] true →
      ((fieldOf act 39 36 = 6 ∨ fieldOf act 39 36 = 7) → c.keeper = false → c.inTrap = false →
        Gives (exec (.sched k rd rs1 rs2 tag) s) (fun t => (∃ x y, Trapped s t k 7 x y c.pc) ∧
          t.skb = { s.skb with offers := t.skb.offers } ∧ t.skb.offers.length = s.skb.offers.length)) ∧
      (rs1.val % 2 = 0 → ¬ (c.g (rs1.val + 1)).toNat < 1024000000000 → actionLegal act = true →
        (fieldOf act 39 36 = 6 ∨ fieldOf act 39 36 = 7 → c.keeper = true) → Gives (exec (.sched k rd rs1 rs2 tag) s) (fun t =>
          (t.core k).pc = c.pc ∧ (t.core k).regs = c.regs)) ∧
      (rs1.val % 2 = 1 ∨ actionLegal act = false → (fieldOf act 39 36 = 6 ∨ fieldOf act 39 36 = 7 → c.keeper = true) →
        exec (.sched k rd rs1 rs2 tag) s = .fault .unpredictable) ∧
      (rs1.val % 2 = 0 → (c.g (rs1.val + 1)).toNat < 1024000000000 → actionLegal act = true →
        (fieldOf act 39 36 = 6 ∨ fieldOf act 39 36 = 7 → c.keeper = true) → s.on SKB_STATUS_recovering = false → matchSlot s stroke = none →
        (s.on SKB_CTL_accept_en = false ∨ s.on TB_STATUS_time_valid = false → Gives (exec (.sched k rd rs1 rs2 tag) s) (fun t =>
          (t.core k).waiting = .schedDone rd (w40 (3 * 2 ^ 36)) false ∧ t.skb = s.skb)) ∧
        (∀ i, s.on SKB_CTL_accept_en = true → s.on TB_STATUS_time_valid = true → leadRefusal s stroke = none → slotToTake s = some i →
          limitsBroken s stroke = false → Gives (exec (.sched k rd rs1 rs2 tag) s) (fun t =>
            (t.core k).waiting = .sched rd ∧ (t.led i).state = 1 ∧ (t.led i).stroke = stroke ∧ (t.led i).keeper = c.keeper ∧
            (t.led i).seq = nextSeq s ∧ (t.led i).offerer = coreOfferer k ∧
            (∀ j, j ≠ i → t.led j = s.led j) ∧ t.skb.offers.length = s.skb.offers.length + 1)))) ∧
    (∀ d res late, c.waiting = .schedDone d res late → GoesOn s k → Gives (exec (.schedResult k) s) (fun t =>
      Awake t k { c.setG d res with flags := { c.flags with z := false, n := decide (2 ≤ fieldOf res 39 36), v := false, l := late } }))

/-! ## The cores: keys and packets -/

/-- The five operations of KOP (R96 to R98): on a descriptor and buffers in the program's own memory that read without an error, the core waits
with the status word of the operation, whose output is written only when it completes: then the output, and after it the status word with E. With no other request at the PKE each
of the five so completes, once the PKE has done what it asks of it.
Where the spec leaves a point open it states the model's choice: log 6, 10, 65. -/
def Obligations.KeyInstructions : Prop :=
  ∀ (s : State) (k : CoreId) (rd rs1 rs2 : GReg),
    let c := s.core k
    let m := coreAs k c.keeper
    let a := (c.g rs2).toNat % 2 ^ 32
    let w := fun i => s.ld (a + i)
    let inN := fieldOf (w 1) 15 0
    let auxN := fieldOf (w 1) 31 16
    let octets := fun (at_ n : Nat) => ((s.ldN at_ ((n + 4) / 5)).flatMap bytesOf).take n
    let res := fun (op : Nat) => (kopRun s k c.keeper op ((c.g rs1).toNat % 4096) (octets (w 0).toNat inN) (octets (w 3).toNat auxN)).1
    let reads := fun (at_ n : Nat) => ∀ i < n, memReadErr s m (at_ + i) = none
    let waits := fun (op : Nat) (o : Out) =>
      (ownWords k c.keeper (w 2).toNat (bufWords (res op).data.length) = true →
        Gives o (fun t => ∃ out, out.length = bufWords (res op).data.length ∧ (t.core k).pc = c.pc ∧ (t.core k).regs = c.regs ∧
          (t.core k).waiting = .kop rd (w 2).toNat out (w40 ((res op).code * 2 ^ 36 + (res op).epoch * 2 ^ 32 + (res op).out)) ∧ SameMemory s t))
    let done := fun (op : Nat) (o : Out) =>
      let n := bufWords (res op).data.length
      let status := w40 ((res op).code * 2 ^ 36 + (res op).epoch * 2 ^ 32 + (res op).out)
      let at_ := (w 2).toNat
      (ownWords k c.keeper at_ n = true → (∀ i < n, memWriteErr s m (at_ + i) = none) → ledgerHit s at_ n = false →
        Gives o (fun t => Gives (exec .pkeOpDone t) (fun v => Gives (exec (.kopResult k) v) (fun u =>
          u.core k = c.result rd status { c.flags with e := decide (fieldOf status 39 36 ≠ 0) } ∧
          (∀ b, b < at_ ∨ at_ + n ≤ b → u.ld b = s.ld b) ∧
          ∃ out, out.length = n ∧ (t.core k).waiting = .kop rd at_ out status ∧ ∀ i, (h : i < out.length) → u.ld (at_ + i) = out[i]))))
    (CanIssue s k [rd.val, rs1.val, rs2.val] true → ownWords k c.keeper a 4 = true → reads a 4 → (∀ i < 4, (w i).toNat < 2 ^ 32) →
      ownWords k c.keeper (w 0).toNat (bufWords inN) = true → reads (w 0).toNat (bufWords inN) →
      ownWords k c.keeper (w 3).toNat (bufWords auxN) = true → reads (w 3).toNat (bufWords auxN) →
      waits 0 (exec (.kopDerive k rd rs1 rs2) s) ∧ waits 1 (exec (.kopMac k rd rs1 rs2) s) ∧ waits 2 (exec (.kopSeal k rd rs1 rs2) s) ∧
      waits 3 (exec (.kopOpen k rd rs1 rs2) s) ∧ waits 4 (exec (.kopSign k rd rs1 rs2) s) ∧
      (s.kv.pke = [] → done 0 (exec (.kopDerive k rd rs1 rs2) s) ∧ done 1 (exec (.kopMac k rd rs1 rs2) s) ∧
        done 2 (exec (.kopSeal k rd rs1 rs2) s) ∧ done 3 (exec (.kopOpen k rd rs1 rs2) s) ∧ done 4 (exec (.kopSign k rd rs1 rs2) s))) ∧
    (∀ d at_ out status, c.waiting = .kop d at_ out status → (∀ r ∈ s.kv.pke, r.core ≠ some k.val) → GoesOn s k →
      (∀ i < out.length, memWriteErr s m (at_ + i) = none) → ledgerHit s at_ out.length = false → Gives (exec (.kopResult k) s) (fun t =>
        Awake t k { c.setG d status with flags := { c.flags with e := decide (fieldOf status 39 36 ≠ 0) } } ∧
        (∀ i, (h : i < out.length) → t.ld (at_ + i) = out[i]) ∧ (∀ b, b < at_ ∨ at_ + out.length ≤ b → t.ld b = s.ld b)))

/-- PEX, CSUM and TSI on a Brush engine (R99 to R101): a field of one to five octets in either order; the ones'-complement sum of octet pairs,
with the end-around carry; and the insertion word armed in the descriptor.
Where the spec leaves a point open it states the model's choice: log 65. -/
def Obligations.PacketInstructions : Prop :=
  ∀ (s : State) (k : CoreId) (rd rs1 rs2 : GReg) (off : BitVec 11) (len : BitVec 3) (fmt : BitVec 2) (little fold : Bool),
    let c := s.core k
    let a := (c.g rs1).toNat % 2 ^ 32
    let octet := fun (i : Nat) => ((s.ld (a + i / 5)).toNat / 2 ^ (8 * (i % 5))) % 256
    let i := (c.g rs2).toNat % 2 ^ 16 + off.toNat
    let n := len.toNat + 1
    let field := ((List.range n).map (fun j => octet (i + j) * 256 ^ (if little then j else n - 1 - j))).sum
    let first := (c.g rs2).toNat % 2 ^ 16
    let count := (c.g rs2).toNat / 2 ^ 16 % 2 ^ 16
    let total := ((List.range count).map (fun j => octet (first + j) * (if j % 2 = 0 then 256 else 1))).sum
      + (if fold then (c.g rd).toNat % 65536 else 0)
    let sum := if total = 0 then 0 else (total - 1) % 65535 + 1
    16 ≤ k.val →
    (CanIssue s k [rd.val, rs1.val, rs2.val] true →
      (len.toNat ≤ 4 → ownOctets k c.keeper a i n = true → Gives (exec (.pex k rd rs1 rs2 off len little) s) (fun t =>
        Issued s t k (c.result rd (w40 field) { c.flags with z := decide (field = 0), n := decide (2 ^ 39 ≤ field) }))) ∧
      (4 < len.toNat → exec (.pex k rd rs1 rs2 off len little) s = .fault .unpredictable) ∧
      (ownOctets k c.keeper a first count = true → Gives (exec (.csum k rd rs1 rs2 fold) s) (fun t =>
        Issued s t k (c.result rd (w40 sum) { c.flags with z := decide (sum = 0), n := false })))) ∧
    (CanIssue s k [rs1.val, rs2.val] true → ownOctets k c.keeper a 0 20 = true →
      if fmt.toNat = 3 then exec (.tsi k rs1 rs2 off fmt) s = .fault .unpredictable
      else Gives (exec (.tsi k rs1 rs2 off fmt) s) (fun t => t.core k = c.went (c.pc + 1) ∧
        t.ld (a + 2) = w40 (2 ^ 39 + fmt.toNat * 2 ^ 37 + off.toNat * 2 ^ 26 + (c.g rs2).toNat % 2 ^ 16 * 2 ^ 10) ∧
        (∀ b, b ≠ a + 2 → t.ld b = s.ld b)))

/-- QSEND and its acceptance (R102): the frame joins its queue with the next stamp identifier or none, or the engine waits for a full queue.
Where the spec leaves a point open it states the model's choice: log 65, 66. -/
def Obligations.QueueSend : Prop :=
  ∀ (s : State) (k : CoreId) (rd rs1 rs2 : GReg) (stamp : Bool),
    let c := s.core k
    let p := (k.val - 16) / 8
    let x := s.port p
    let id := if stamp then w40 x.nextId else 0
    let sent := fun (desc q : Nat) (t : State) => (t.port p).txq.length = x.txq.length + 1 ∧
      (∀ f, (t.port p).txq.getLast? = some f → f.desc = desc ∧ f.queue = q ∧ f.stampId = (if stamp then some x.nextId else none)) ∧
      (t.port p).txq.take x.txq.length = x.txq ∧ (t.port p).nextId = (if stamp then (x.nextId + 1) % 65536 else x.nextId)
    16 ≤ k.val → unitErr s (LPp_CFG p) = none →
    (CanIssue s k [rd.val, rs1.val, rs2.val] true →
      let desc := (c.g rs1).toNat % 2 ^ 32
      let q := (c.g rs2).toNat % 8
      ownOctets k c.keeper desc 0 20 = true →
      (queued s p q < Config.txDepth → Gives (exec (.qsend k rd rs1 rs2 stamp) s) (fun t =>
        sent desc q t ∧ t.core k = (c.setG rd id).went (c.pc + 1))) ∧
      (Config.txDepth ≤ queued s p q → Gives (exec (.qsend k rd rs1 rs2 stamp) s) (fun t =>
        Issued s t k { c with waiting := .qsend desc q rd stamp }))) ∧
    (∀ desc q d, c.waiting = .qsend desc q d stamp → GoesOn s k →
      (queued s p q < Config.txDepth → Gives (exec (.qsendAccepted k) s) (fun t => sent desc q t ∧ Awake t k (c.setG d id))) ∧
      (Config.txDepth ≤ queued s p q → exec (.qsendAccepted k) s = .next s))

/-- A write of a core's control register starts a halted core at its entry address in User, and halts a core that runs, at its instruction
boundary (R110, R115); a write of 1 to its soft-event register makes that event pending. A User's write of either control register changes
nothing of the core where only Keeper may write (R104).
Where the spec leaves a point open it states the model's choice: log 132. -/
def Obligations.CoreControl : Prop :=
  ∀ (s : State) (m : Master) (k : CoreId) (w : Word),
    let c := s.core k
    (Writes s m (coreBlock k) w →
      (bitAt w 0 = true → c.halted = true → Gives (exec (.coreRunWrite m k w) s) (fun t =>
        (t.core k).halted = false ∧ (t.core k).pc = (s.rd (coreBlock k + 1)).toNat % 2 ^ 32 ∧ (t.core k).keeper = false ∧
        (t.core k).inTrap = false ∧ t.on (coreCtl k) = true ∧ (∀ r, (t.core k).g r = c.g r) ∧ ∀ j, j ≠ k.val → t.core j = s.core j)) ∧
      (bitAt w 0 = false → c.halted = false → c.loads = [] → (c.waiting = .none ∨ c.waiting.asleep = true) →
        Gives (exec (.coreRunWrite m k w) s) (fun t => (t.core k).halted = true ∧ t.on (coreCtl k) = false ∧
          ∀ j, j ≠ k.val → t.core j = s.core j))) ∧
    (regErr s m (coreBlock k) true = some 1 → Gives (exec (.coreRunWrite m k w) s) (fun t =>
      (∀ j, t.core j = s.core j) ∧ t.on MTX_EVENTS_err = true)) ∧
    (Writes s m (coreBlock k + 0x0C) w → Gives (exec (.softEvent m k w) s) (fun t =>
      (t.core k).evts = (if bitAt w 0 then c.evts ||| 2 ^ 26 else c.evts) ∧ (t.core k).pc = c.pc ∧ ∀ j, j ≠ k.val → t.core j = s.core j))

/-! ## The mailbox -/

/-- Every mailbox command: one that is not waiting changes nothing (but that LOAD_IMAGE carries on an image under way); a malformed one, or one with another argument count, ends with BAD_ARGUMENT; a
well-formed one without arguments that the service state does not admit ends with WRONG_STATE, counted, with no side effect (R119 to R124).
Where the spec leaves a point open it states the model's choice: log 15, 133. -/
def Obligations.MailboxRefusals : Prop :=
  ∀ (s : State), ∀ p ∈ ([(.getInfo, 0x01, 0), (.loadImage, 0x02, 1), (.startCores, 0x03, 1), (.stopCores, 0x04, 1), (.offerStroke, 0x05, 4),
      (.armStep, 0x06, 1), (.keyUpdate, 0x07, 2), (.readAttest, 0x08, 2), (.enterMaint, 0x09, 0), (.leaveMaint, 0x0A, 0),
      (.plannedSwap, 0x0B, 0), (.setDomain, 0x0C, 2), (.readLapseLog, 0x0D, 1), (.lifeCycle, 0x0E, 2)] : List (Instr × Nat × Nat)),
    let res := if p.2.1 = 0x07 then [s.rd KV_UPD_CTR] else []
    (p.2.1 = 0x02 → s.mbx.image = []) →
    (mbxWaits s p.2.1 = false → exec p.1 s = .next s) ∧
    (mbxWaits s p.2.1 = true → mbxFormed s = false ∨ (mbxArgs s).length ≠ p.2.2 →
      Gives (exec p.1 s) (fun t => Answered t 3 res ∧ OnlyMailbox s t)) ∧
    (mbxWaits s p.2.1 = true → mbxFormed s = true → (mbxArgs s).length = 0 → p.2.2 = 0 → mbxLegal p.2.1 (s.get MBX_STATUS_state) = false →
      Gives (exec p.1 s) (fun t => Answered t 1 res ∧ OnlyMailbox s t ∧
        t.get MBX_REFUSED_refused = (s.get MBX_REFUSED_refused + 1) % 2 ^ 32))

/-- GET_INFO, ARM_STEP, ENTER_MAINT, LEAVE_MAINT, READ_ATTEST, READ_LAPSE_LOG and a code that the table does not list (R122, R123, R134, R160, R241,
R520, R523).
Where the spec leaves a point open it states the model's choice: log 133, 137. -/
def Obligations.MailboxServices : Prop :=
  ∀ (s : State) (x y : Word),
    (Asked s 0x01 [] → Gives (exec .getInfo s) (fun t => OnlyMailbox s t ∧
      Answered t 0 [w40 Config.uidHi.toNat, w40 Config.uidLo.toNat, w40 Config.houseVersion.toNat, w40 (s.get LCY_STATE_state),
        w40 (s.get MBX_STATUS_state), w40 (s.get TW_STATUS_pstate), w40 s.house.bootRefused])) ∧
    (Asked s 0x06 [x] → x.toNat < 2 ^ 32 → Gives (exec .armStep s) (fun t =>
      Answered t 0 [] ∧ OnlyMailbox s t ∧ t.get TB_STEP_THRESH_thresh = x.toNat)) ∧
    (Asked s 0x09 [] → Gives (exec .enterMaint s) (fun t => Answered t 0 [] ∧ OnlyMailbox s t ∧ t.get MBX_STATUS_state = 3)) ∧
    (Asked s 0x0A [] → Gives (exec .leaveMaint s) (fun t => Answered t 0 [] ∧ OnlyMailbox s t ∧
      t.get MBX_STATUS_state = (if s.on TW_CFG_en = true ∧ s.get TW_STATUS_role = 2 then 2 else 1) ∧ t.on LCY_JTAG_ext_en = false)) ∧
    (Asked s 0x08 [x, y] → y = 0 →
      (attRead s x.toNat = none → Gives (exec .readAttest s) (fun t => Answered t 3 [] ∧ OnlyMailbox s t)) ∧
      (∀ ws, attRead s x.toNat = some ws → Gives (exec .readAttest s) (fun t => Answered t 0 ws ∧ OnlyMailbox s t))) ∧
    (Asked s 0x0D [x] →
      let is := lapseSlots s x.toNat
      Gives (exec .readLapseLog s) (fun t =>
        Answered t 0 (is.flatMap (fun i => [(s.led i).stroke.hi, (s.led i).stroke.lo, (s.led i).stroke.act, (slotWords (s.led i)).getD 4 0])) ∧
        (∀ i ∈ is, t.led i = Slot.free) ∧ (∀ i, i ∉ is → t.led i = s.led i) ∧ t.cores = s.cores)) ∧
    (s.on MBX_STATUS_busy = true → s.mbx.started = false → (mbxCode s = 0 ∨ 0x0E < mbxCode s) →
      Gives (exec .badCommand s) (fun t => Answered t (if mbxFormed s = true then 2 else 3) [] ∧ OnlyMailbox s t))

/-- LOAD_IMAGE, START_CORES and STOP_CORES (R110 to R116, R120, R123). An image that does not read or check is BAD_IMAGE with nothing written; one
whose target still runs a core is WRONG_STATE; of a good one each further LOAD_IMAGE writes a section to its target's memory, and after the last
its cores run from its entry address. START_CORES passes over a core that runs or whose unit does not answer.
Where the spec leaves a point open it states the model's choice: log 134, 135. -/
def Obligations.ImagesAndCores : Prop :=
  ∀ (s : State) (x : Word),
    (Asked s 0x02 [x] → s.mbx.image = [] → inDram x.toNat 1 = true →
      (imgRead s x.toNat = none → Gives (exec .loadImage s) (fun t => Answered t 4 [] ∧ OnlyMailbox s t)) ∧
      (∀ ws, imgRead s x.toNat = some ws →
        let key := imgKey ws
        (imgOk s ws = false → Gives (exec .loadImage s) (fun t => Answered t 4 [] ∧ OnlyMailbox s t)) ∧
        (imgOk s ws = true → (∃ k ∈ keyCores key, (s.core k).halted = false) →
          Gives (exec .loadImage s) (fun t => Answered t 1 [] ∧ OnlyMailbox s t)) ∧
        (imgOk s ws = true → (∀ k ∈ keyCores key, (s.core k).halted = true) → unitErr s (keyUnit key * 256) = none →
          exec .loadImage s = .next { s with mbx := { s.mbx with started := true, image := ws, section_ := 0 } }))) ∧
    (∀ ws, s.mbx.image = ws → ws ≠ [] →
      let key := imgKey ws
      let secs := imgSecs ws (imgCount ws) 0 (16 + 2 * imgCount ws)
      let lists := fun (k : Nat) => k ∈ keyCores key ∧ (imgHdr ws).start.testBit (if k < 16 then k % 4 else (k - 16) % 8) = true
      (∀ y, secs[s.mbx.section_]? = some y → (y.kind < 2 → y.at_ + y.len ≤ ws.length) → Gives (exec .loadImage s) (fun t =>
        (∀ b, t.ld b = if y.addr ≤ b ∧ b < y.addr + y.len then (if y.kind < 2 then ws.getD (y.at_ + (b - y.addr)) 0 else 0) else s.ld b) ∧
        t = { s with mem := t.mem, mbx := { s.mbx with section_ := s.mbx.section_ + 1 } })) ∧
      (secs.length ≤ s.mbx.section_ → s.on MBX_STATUS_busy = true → Gives (exec .loadImage s) (fun t => Answered t 0 [] ∧ SameMemory s t ∧
        t.mbx.image = [] ∧
        (∀ k, lists k → (s.core k).halted = true → unitErr s (coreBlock k) = none →
          (t.core k).halted = false ∧ (t.core k).keeper = false ∧ (t.core k).pc = (imgHdr ws).entry % 2 ^ 32 ∧
          (t.core k).g 30 = w40 (imgHdr ws).stack ∧ t.rd (coreBlock k + 2) = w40 (imgHdr ws).tvec) ∧
        (∀ k, ¬ lists k → t.core k = s.core k)))) ∧
    (Asked s 0x03 [x] → x.toNat < 2 ^ 20 → x.toNat % 2 = 0 →
      let ks := maskCores x.toNat (groupStarts s)
      Gives (exec .startCores s) (fun t => Answered t 0 [] ∧ SameMemory s t ∧
        (∀ k ∈ ks, (s.core k).halted = true → unitErr s (coreBlock k) = none →
          (t.core k).halted = false ∧ (t.core k).keeper = false ∧ t.on (coreCtl k) = true ∧
          (t.core k).pc = (if s.house.images.any (fun e => decide (e.1 = coreKey k)) then (imgOf s (coreKey k)).entry
            else (s.rd (coreBlock k + 1)).toNat) % 2 ^ 32) ∧
        (∀ k, k ∉ ks ∨ (s.core k).halted = false ∨ unitErr s (coreBlock k) ≠ none → t.core k = s.core k))) ∧
    (Asked s 0x04 [x] → x.toNat < 2 ^ 20 → x.toNat % 2 = 0 →
      let ks := maskCores x.toNat (fun _ _ => true)
      Gives (exec .stopCores s) (fun t => Answered t 0 [] ∧ SameMemory s t ∧
        (∀ k ∈ ks, t.on (coreCtl k) = false ∧
          ((s.core k).loads = [] → ((s.core k).waiting = .none ∨ (s.core k).waiting.asleep = true) → (t.core k).halted = true)) ∧
        (∀ k, k ∉ ks → t.core k = s.core k))) ∧
    (Asked s 0x03 [x] ∨ Asked s 0x04 [x] → 2 ^ 20 ≤ x.toNat ∨ x.toNat % 2 = 1 →
      (Asked s 0x03 [x] → Gives (exec .startCores s) (fun t => Answered t 3 [] ∧ OnlyMailbox s t)) ∧
      (Asked s 0x04 [x] → Gives (exec .stopCores s) (fun t => Answered t 3 [] ∧ OnlyMailbox s t)))

/-- OFFER_STROKE and SET_DOMAIN (R90, R121, R145 to R149, R469).
Where the spec leaves a point open it states the model's choice: log 85, 133, 138. -/
def Obligations.MailboxOffersAndDomains : Prop :=
  ∀ (s : State) (hi lo act tag d : Word),
    let stroke := mkStroke hi lo act tag.toNat
    (Asked s 0x05 [hi, lo, act, tag] → lo.toNat < 1024000000000 → actionLegal act = true → keeperClass (fieldOf act 39 36) = false →
      tag.toNat < 256 → s.on SKB_STATUS_recovering = false → matchSlot s stroke = none →
      (s.on SKB_CTL_accept_en = false ∨ s.on TB_STATUS_time_valid = false →
        Gives (exec .offerStroke s) (fun t => Answered t 6 [w40 (3 * 2 ^ 36)] ∧ OnlyMailbox s t)) ∧
      (∀ i, s.on SKB_CTL_accept_en = true → s.on TB_STATUS_time_valid = true → leadRefusal s stroke = none → slotToTake s = some i →
        limitsBroken s stroke = false → Gives (exec .offerStroke s) (fun t => t.on MBX_STATUS_busy = true ∧
          (t.led i).state = 1 ∧ (t.led i).stroke = stroke ∧ (t.led i).keeper = false ∧ (t.led i).offerer = 0x80 ∧
          (t.led i).seq = nextSeq s ∧ (∀ j, j ≠ i → t.led j = s.led j) ∧ t.cores = s.cores ∧
          (∀ h : i < 65536, s.skb.offers = [] → s.on SKB_CTL_mirror_en = false → s.badBurst (burstOf (slotAddr s i)) = false →
            Gives (exec (.ledgerWriteComplete ⟨i, h⟩) t) (fun u => Answered u 0 [w40 (nextSeq s)] ∧ (u.led i).commit = true))))) ∧
    (Asked s 0x05 [hi, lo, act, tag] → (1024000000000 ≤ lo.toNat ∨ actionLegal act = false ∨ keeperClass (fieldOf act 39 36) = true ∨ 256 ≤ tag.toNat) →
      Gives (exec .offerStroke s) (fun t => Answered t 3 [] ∧ OnlyMailbox s t)) ∧
    (Asked s 0x0C [d, 0] → d.toNat < 12 → d.toNat ∉ [3, 4, 6, 7, 8, 9, 10] → Gives (exec .setDomain s) (fun t =>
      Answered t 1 [] ∧ OnlyMailbox s t ∧ t.on PWR_EVENTS_refused = true ∧ t.rd PWR_REQ = s.rd PWR_REQ)) ∧
    (Asked s 0x0C [d, 1] → d.toNat ∈ [3, 4, 8, 9, 10] → (s.get PWR_STATE_on).testBit d.toNat = false → Gives (exec .setDomain s) (fun t =>
      t.on MBX_STATUS_busy = true ∧ OnlyRegisters s t ∧ t.get PWR_REQ_on = s.get PWR_REQ_on ||| 2 ^ d.toNat ||| 0x827 ∧
      (t.get PWR_STATE_busy).testBit d.toNat = true ∧ t.get PWR_STATE_on = s.get PWR_STATE_on)) ∧
    (Asked s 0x0C [d, 0] → s.on TW_CFG_en = true → d = 10 → (s.get PWR_REQ_on).testBit 10 = true → Gives (exec .setDomain s) (fun t =>
      Answered t 1 [] ∧ t.rd PWR_REQ = s.rd PWR_REQ)) ∧
    (∀ u, Asked s 0x0C [d, 1] → d.toNat < 12 → powerRequest s (setMask (s.get PWR_REQ_on) d.toNat true) = some u → u.get PWR_STATE_busy = 0 →
      Gives (exec .setDomain s) (fun t => Answered t 0 [])) ∧
    (∀ n : Fin 12, Asked s 0x0C [d, 1] → n.val = d.toNat → d.toNat ∈ [3, 4, 8, 9, 10] → (s.get PWR_STATE_on).testBit d.toNat = false →
      s.get PWR_STATE_busy = 0 → (∀ x ∈ switched, x ≠ n.val → (s.get PWR_REQ_on).testBit x = (s.get PWR_STATE_on).testBit x) →
      (∀ x ∈ [0, 1, 2, 5, 11], (s.get PWR_STATE_on).testBit x = true) →
      Gives (exec .setDomain s) (fun t => Gives (exec (.domainChangeDone n) t) (fun u => Answered u 0 [] ∧ (u.get PWR_STATE_on).testBit d.toNat = true)))

/-- KEY_UPDATE and LIFE_CYCLE (R374 to R377, R518 to R521). A message that a check refuses changes no key and no slot; one that verifies stands in a slot
and its KEYUPD stroke is in the ledger, whose commit answers the command. A token that is malformed, not listed or not authentic blows no fuse; an authentic one moves the life cycle.
Where the spec leaves a point open it states the model's choice: log 6, 114, 115, 118, 139. -/
def Obligations.KeyUpdatesAndLifeCycle : Prop :=
  ∀ (s : State) (a n x : Word),
    let msg := (s.ldN a.toNat n.toNat).flatMap bytesOf
    let j := freeUpdSlot s
    (Asked s 0x07 [a, n] → inDram a.toNat n.toNat = true → dramUnreadable s a.toNat n.toNat = false →
      (∀ c, updCheck s msg (decide (j < 16)) = .inl c → Gives (exec .keyUpdate s) (fun t => Answered t c [s.rd KV_UPD_CTR] ∧
        t.kv.slots = s.kv.slots ∧ t.kv.pair = s.kv.pair ∧ t.kv.opRoot = s.kv.opRoot ∧ t.kv.defs = s.kv.defs ∧ (unasked t).skb = (unasked s).skb ∧
        t.get KV_LAST_UPD_status = c ∧ t.on KV_EVENTS_upd_refused = true)) ∧
      (∀ u i, updCheck s msg true = .inr u → j < 16 → s.on SKB_STATUS_recovering = false → s.on SKB_CTL_accept_en = true →
        s.on TB_STATUS_time_valid = true → slotToTake s = some i →
        let soon := s.afterNs 1000000
        let wanted : T80 := { sec := u.effect % 2 ^ 40, low := 0 }
        let at_ := if t80Le soon wanted then wanted else soon
        let stroke := mkStroke (T80hi at_) (T80lo at_) (w40 (7 * 2 ^ 36 + j))
        (∀ tag, tag < 256 → matchSlot s (stroke tag) = none ∧ limitsBroken s (stroke tag) = false) →
        Gives (exec .keyUpdate s) (fun t => t.on MBX_STATUS_busy = true ∧ t.kv.updWaits = some j ∧ (j, u) ∈ t.kv.slots ∧
          (t.led i).state = 1 ∧ (t.led i).keeper = true ∧ (∃ tag, tag < 256 ∧ (t.led i).stroke = stroke tag) ∧
          t.kv.pair = s.kv.pair ∧ t.kv.opRoot = s.kv.opRoot ∧ t.kv.defs = s.kv.defs ∧
          (∀ h : i < 65536, s.skb.offers = [] → s.on SKB_CTL_mirror_en = false → s.badBurst (burstOf (slotAddr s i)) = false →
            Gives (exec (.ledgerWriteComplete ⟨i, h⟩) t) (fun v => Answered v 0 [v.rd KV_UPD_CTR] ∧ (v.led i).commit = true))))) ∧
    (Asked s 0x0E [x, a] → 1 ≤ x.toNat → x.toNat ≤ 4 → inDram a.toNat 26 = true →
      let b := tokenBytes s a.toNat
      let goal := x.toNat
      (dramUnreadable s a.toNat 26 = true ∨ tokenFormed b goal = false → Gives (exec .lifeCycle s) (fun t => Answered t 3 [] ∧ OnlyMailbox s t)) ∧
      (dramUnreadable s a.toNat 26 = false → tokenFormed b goal = true →
        (tokenSigners (lifeCycle s) goal (b.getD 6 0) = none → Gives (exec .lifeCycle s) (fun t => Answered t 1 [] ∧ OnlyMailbox s t)) ∧
        (∀ who, tokenSigners (lifeCycle s) goal (b.getD 6 0) = some who → (lifeCycle s = 1 → goal = 2 → vkLive s = true) →
          ((b.getD 7 0 ∉ who ∨ tokenAuth s b = false) → Gives (exec .lifeCycle s) (fun t =>
            Answered t 5 [] ∧ OnlyMailbox s t ∧ t.on LCY_EVENTS_token_fail = true)) ∧
          (b.getD 7 0 ∈ who → tokenAuth s b = true → b.getD 6 0 = 1 → Gives (exec .lifeCycle s) (fun t =>
            Answered t 0 [] ∧ OnlyMailbox s t ∧ t.on LCY_STATE_vendor_open = true)) ∧
          (b.getD 7 0 ∈ who → tokenAuth s b = true → b.getD 6 0 = 0 → Gives (exec .lifeCycle s) (fun t =>
            Answered t 0 [] ∧ t.get LCY_STATE_state = goal ∧ goal ∈ t.lcy.fuseA ∧ goal ∈ t.lcy.fuseB ∧ t.on LCY_EVENTS_transition = true ∧
            (3 ≤ goal → t.kv.pair = none ∧ t.kv.opRoot = none ∧ t.kv.defs = []) ∧ (unasked t).skb = (unasked s).skb ∧ t.mem = s.mem)))))

/-! ## The Sketchbook -/

/-- The ledger in DRAM (R35, R36, R148, R149, R152, R158): a completed write leaves the slot's six words at its address and commits the offer, which is
answered; the other slot of its burst keeps its words, or takes those of its on-chip copy; a read-back that verifies is taken, one that does not is replaced by the on-chip copy, and without one the stroke is lost and the
device FATAL; a status write-back writes the two status words; a stroke of the near set is handed over 10 µs before its time.
Ledger recovery (R159, R570): with the ledger empty after a cold reset, or with one slot that DRAM holds and that is not pending, Keeper fixes
t_resume 10 µs on and opens the ledger, unless the unit is a standby.
Where the spec leaves a point open it states the model's choice: log 82, 85. -/
def Obligations.Ledger : Prop :=
  (∀ (s : State) (i : Fin 65536),
    let x := s.led i
    let a := s.get SKB_LEDGER_BASE_base + 6 * i.val
    let at_ := fun (n : Nat) (b : Nat) => a + n ≤ b ∧ b < a + 6
    let j := if i.val % 2 = 0 then i.val + 1 else i.val - 1
    let aj := s.get SKB_LEDGER_BASE_base + 6 * j
    let rest := fun (n : Nat) (t : State) => ∀ b, ¬ at_ n b → t.ld b =
      if aj ≤ b ∧ b < aj + 6 ∧ inFlight s j = false ∧ onChip s j = true then (slotWords (s.led j)).getD (b - aj) 0 else s.ld b
    let stored : Stroke := { hi := s.ld a, lo := s.ld (a + 1), act := s.ld (a + 2), tag := fieldOf (s.ld (a + 3)) 39 32,
                             chk := fieldOf (s.ld (a + 3)) 31 0 }
    (s.badBurst (burstOf a) = false → ∀ o, s.skb.offers.find? (fun o => decide (o.slot = some i.val) && !o.wrote) = some o → o.fromTwin = false →
      (o.mirrored = true → o.acked = true) → (∀ p ∈ s.skb.offers, p.slot.isSome = true) → Gives (exec (.ledgerWriteComplete i) s) (fun t =>
        (∀ q < 6, t.ld (a + q) = (slotWords x).getD q 0) ∧ rest 0 t ∧
        t.led i = { x with commit := true, chip := inNear s i } ∧ (∀ j, j ≠ i.val → t.led j = s.led j) ∧
        (∀ k rd, o.asker = .core k → (s.core k).waiting = .sched rd →
          t.core k = { s.core k with waiting := .schedDone rd (w40 x.seq) o.late } ∧ ∀ j, j ≠ k → t.core j = s.core j) ∧
        (o.asker = .mailbox → mbxCode s = 0x05 → s.on MBX_STATUS_busy = true → Answered t 0 [w40 x.seq]))) ∧
    (slotPending x = true →
      (s.badBurst (burstOf a) = false → strokeOk stored = true → (onChip s i = true → stored = x.stroke) →
        Gives (exec (.ledgerReadback i) s) (fun t => t.led i = { x with stroke := stored, chip := true } ∧
          (∀ j, j ≠ i.val → t.led j = s.led j) ∧ t = { s with skb := t.skb })) ∧
      (s.badBurst (burstOf a) = false → onChip s i = true → stored ≠ x.stroke → Gives (exec (.ledgerReadback i) s) (fun t =>
        t.on SKB_EVENTS_check_fail = true ∧ t.skb = s.skb ∧ (∀ q < 6, t.ld (a + q) = (slotWords x).getD q 0) ∧ rest 0 t)) ∧
      (s.badBurst (burstOf a) = false → onChip s i = false → strokeOk stored = false → s.on TW_CFG_en = false → s.get TW_STATUS_pstate ≠ 3 →
        Gives (exec (.ledgerReadback i) s) (fun t => Finished s t i 4 0 ∧ t.fix.fatal = true ∧ srcStatus t 0 = true ∧ (s.fix.fatal = false → t.skb.armed = false)))) ∧
    (inFlight s i = true → exec (.statusWriteback i) s = .next s) ∧
    (inFlight s i = false → s.badBurst (burstOf a) = false → Gives (exec (.statusWriteback i) s) (fun t =>
      t = { s with mem := t.mem, dramErr := t.dramErr } ∧
      (∀ q, (if onChip s i = true then 0 else 4) ≤ q → q < 6 → t.ld (a + q) = (slotWords x).getD q 0) ∧
      rest (if onChip s i = true then 0 else 4) t)) ∧
    (x.state = 1 → x.commit = true → x.chip = true → inNear s i = true → t80Le (strokeAt x.stroke) (s.afterNs 10000) = true → strokeOk x.stroke = true →
      Gives (exec (.strokeHandoff i) s) (fun t => t.led i = { x with state := 2 } ∧ (∀ j, j ≠ i.val → t.led j = s.led j) ∧ t = { s with skb := t.skb })) ∧
    (x.state = 1 → t80Lt (s.afterNs 10000) (strokeAt x.stroke) = true → exec (.strokeHandoff i) s = .next s)) ∧
  (∀ (s : State),
    let done := fun (t : State) => t.rd SKB_T_RESUME_HI = T80hi (s.afterNs 10000) ∧ t.on SKB_STATUS_recovering = false ∧ t.skb.waits = 2 ∧
      t.skb.cold = false ∧ (twStandby s = false → t.on SKB_CTL_accept_en = true)
    (s.on SKB_STATUS_recovering = false → exec .ledgerRecovery s = .next s) ∧
    (s.on SKB_STATUS_recovering = true → s.skb.offers = [] →
      (s.skb.cold = true → Gives (exec .ledgerRecovery s) (fun t => done t ∧ t.skb.slots = [])) ∧
      (∀ i, s.skb.cold = false → s.dramErr = [] → ledgerSlots s = [i] →
        let x := slotOfWords (s.ldN (slotAddr s i) 6)
        slotPending x = false → Gives (exec .ledgerRecovery s) (fun t => done t ∧ t.led i = x ∧ ∀ j, j ≠ i → t.led j = Slot.free))))

/-- PIN and PUSH strokes (R38, R142, R152 to R155): an edge moves its pin on its tick and never later, a pulse's trailing edge follows after its
width; a pushed word enters its FIFO, or waits behind those that wait for it, or ends with TARGET_ERROR at a disabled one.
Where the spec leaves a point open it states the model's choice: log 86. -/
def Obligations.PinAndPushStrokes : Prop :=
  ∀ (s : State) (i : Fin 65536),
    let x := s.led i
    let p := strokePin x.stroke
    let up := decide (fieldOf x.stroke.act 28 28 = 0)
    let n := pushFifo x.stroke
    let fr := fieldOf x.stroke.act 27 26
    let word := w40 (fieldOf x.stroke.act 25 0)
    let pushed := fun (q : Fifo) => ∃ m, (fr < 2 → m = strokeMaster) ∧ q = fifoPut (s.fifo n) m fr word
    (s.on TW_CFG_en = false → DueStroke s i 1 → s.onTick (strokeAt x.stroke) = true → edgeAhead s p (strokeAt x.stroke) x.seq = false → Gives (exec (.pinStrokeExecute i) s) (fun t =>
      (pinMoves s p = true → t.level p = up) ∧ (∀ r, r ≠ p → t.level r = s.level r) ∧ t.skb.journal = ((x.seq, 0, 0) :: s.skb.journal).take 1024 ∧
      (pinVisible s p = false → t.on SKB_EVENTS_pin_masked = true) ∧
      (isPulse x.stroke = false → Finished s t i 0 0) ∧
      (isPulse x.stroke = true → t.led i = { x with leadDone := true } ∧ ∃ tr, t.skb.trails = s.skb.trails ++ [tr] ∧ tr.slot = i.val ∧ tr.pin = p ∧
        tr.at_ = t80Add (strokeAt x.stroke) (pulseWidth x.stroke : Nat) ∧ tr.level = !up))) ∧
    (s.onTick (strokeAt x.stroke) = false → exec (.pinStrokeExecute i) s = .next s) ∧
    (∀ tr, s.skb.trails.find? (fun t => decide (t.slot = i.val)) = some tr →
      (s.reached tr.at_ = true → edgeAhead s tr.pin tr.at_ tr.seq = false → Gives (exec (.pulseTrailingEdge i) s) (fun t => t.led i = { x with state := 3 } ∧ tr ∉ t.skb.trails ∧
        (pinMoves s tr.pin = true → t.level tr.pin = tr.level) ∧ (∀ r, r ≠ tr.pin → t.level r = s.level r))) ∧
      (s.reached tr.at_ = false ∨ edgeAhead s tr.pin tr.at_ tr.seq = true → exec (.pulseTrailingEdge i) s = .next s)) ∧
    (DueStroke s i 5 →
      ((s.fifo n).en = false → Gives (exec (.pushStrokeExecute i) s) (fun t => Finished s t i 5 (lateReport s x).2 ∧ ∀ j, t.fifo j = s.fifo j)) ∧
      (unitErr s FIFO_IDX = none → (s.fifo n).en = true → s.skb.pushWait.any (pushesTo s n) = false → fifoTakes s n strokeMaster fr = true →
        fifoFramed (s.fifo n) fr = true → Gives (exec (.pushStrokeExecute i) s) (fun t => FinishedNow s t i ∧ pushed (t.fifo n) ∧ ∀ j, j ≠ n → t.fifo j = s.fifo j)) ∧
      (unitErr s FIFO_IDX = none → (s.fifo n).en = true → (s.skb.pushWait.any (pushesTo s n) = true ∨ fifoTakes s n strokeMaster fr = false) →
        Gives (exec (.pushStrokeExecute i) s) (fun t => t.skb.pushWait = s.skb.pushWait ++ [i.val] ∧ t.led i = { x with resume := false } ∧
          (∀ j, j ≠ i.val → t.led j = s.led j) ∧ t = { s with skb := t.skb }))) ∧
    (s.skb.pushWait.find? (pushesTo s n) = some i.val → s.skb.armed = true → s.fix.fatal = false →
      unitErr s FIFO_IDX = none → (s.fifo n).en = true →
      (fifoTakes s n strokeMaster fr = true → fifoFramed (s.fifo n) fr = true → strokeOk x.stroke = true → Gives (exec (.pushStrokeDeferred i) s) (fun t =>
        FinishedNow s t i ∧ pushed (t.fifo n) ∧ i.val ∉ t.skb.pushWait ∧ ∀ j, j ≠ n → t.fifo j = s.fifo j)) ∧
      (fifoTakes s n strokeMaster fr = false → exec (.pushStrokeDeferred i) s = .next s))

/-- Time steps and leap seconds (R134 to R137): a step stroke whose conditions hold moves the counter by its amount on its tick; one that a condition
refuses leaves it, with its result and event. A leap stroke moves the UTC offset by the announced second. -/
def Obligations.TimeStrokes : Prop :=
  ∀ (s : State) (i : Fin 65536),
    let x := s.led i
    let k := x.stroke
    let which := if fieldOf k.act 27 20 = 7 then 0 else 1
    let amount := signedOf 20 (fieldOf k.act 19 0)
    let ns : Int := amount * (if which = 0 then 1000 else 1000000000)
    let r := stepResult s which amount
    let v := fieldOf k.act 19 0
    (DueStroke s i 3 → fieldOf k.act 35 28 = 4 → (fieldOf k.act 27 20 = 7 ∨ fieldOf k.act 27 20 = 8) →
      Gives (exec (.timeStep i) s) (fun t => FinishedNow s t i ∧ t.get TB_STEP_LAST_result = r ∧ t.get TB_STEP_LAST_kind = which + 1 ∧
        t.get TB_STEP_LAST_amount = v ∧ t.rd TB_STEP_T_HI = T80hi s.now ∧
        (r = 0 → t.now = t80OfUnits ((t80Units s.now : Int) + ns * 1024).toNat ∧ t.on TB_EVENTS_step_done = true) ∧
        (r ≠ 0 → t.tb = s.tb) ∧ (r = 2 → t.on TB_EVENTS_step_blocked = true) ∧ (r = 1 ∨ r = 3 → t.on TB_EVENTS_step_refused = true))) ∧
    (DueStroke s i 3 → fieldOf k.act 35 28 = 4 → fieldOf k.act 27 20 = 0x10 →
      (v = 1 → s.on TB_LEAP_leap61 = true → s.on TB_LEAP_leap59 = false → Gives (exec (.leapExec i) s) (fun t => FinishedNow s t i ∧
        t.get TB_UTC_OFS_ofs = (s.get TB_UTC_OFS_ofs + 1) % 2 ^ 16 ∧ t.on TB_STATUS_in_leap = true ∧ t.on TB_LEAP_leap61 = false ∧ t.now = s.now)) ∧
      (v = 1 → s.on TB_LEAP_leap61 = false → s.on TB_LEAP_leap59 = true → Gives (exec (.leapExec i) s) (fun t => FinishedNow s t i ∧
        t.get TB_UTC_OFS_ofs = (s.get TB_UTC_OFS_ofs + 0xFFFF) % 2 ^ 16 ∧ t.on TB_LEAP_leap59 = false ∧ t.now = s.now)) ∧
      (v = 0 ∨ (v = 1 ∧ s.on TB_LEAP_leap61 = false ∧ s.on TB_LEAP_leap59 = false) → Gives (exec (.leapExec i) s) (fun t =>
        FinishedNow s t i ∧ t.get TB_UTC_OFS_ofs = s.get TB_UTC_OFS_ofs ∧ t.tb = s.tb)) ∧
      (1 < v ∨ (v = 1 ∧ s.on TB_LEAP_leap61 = true ∧ s.on TB_LEAP_leap59 = true) → exec (.leapExec i) s = .fault .unpredictable))

/-- The strokes that act on other units, and what ends beside them (R143, R154, R159 to R163, R237 to R241, R261, R375, R377): REGWR, PHASE, KEYUPD and ATTEST strokes,
the attestation's signature and deadline, the re-arming of the executors, and the ToD message, sent once for each PPS edge, 0.9 to 1.1 ms after it.
Where the spec leaves a point open it states the model's choice: log 6, 84, 117, 119. -/
def Obligations.OtherStrokes : Prop :=
  ∀ (s : State) (i : Fin 65536) (serial : BitVec 32),
    let x := s.led i
    let k := x.stroke
    let m : Master := { id := 24, keeper := x.keeper }
    let a := regwrAddr k
    let w := sext 20 (fieldOf k.act 19 0)
    let n := fieldOf k.act 35 34
    let j := fieldOf k.act 15 0
    (DueStroke s i 3 → regwrStep k = false →
      (Writes s m a w → a ≠ SKB_T_RESUME_HI → s.on TW_CFG_en = false → (lateReport s x).1 = 0 → regEffect m a w (touched s a) = .next (plainWrite (touched s a) a w) →
        Gives (exec (.regwrStrokeExecute i) s) (fun t => FinishedNow s t i ∧ t.rd a = writeFields (regFields a) ((touched s a).rd a) w)) ∧
      (∀ e, regErr s m a true = some e → Gives (exec (.regwrStrokeExecute i) s) (fun t => Finished s t i 5 (lateReport s x).2 ∧ t.on MTX_EVENTS_err = true))) ∧
    (DueStroke s i 2 →
      (unitErr s (VARn_CTL n) = none → Gives (exec (.phaseStrokeExecute i) s) (fun t => FinishedNow s t i ∧
        t.rd (VARn_PHASE n) = (sat40 (s.getI (VARn_PHASE_phase n) + signedOf 30 (fieldOf k.act 29 0))).1)) ∧
      (unitErr s (VARn_CTL n) ≠ none → Gives (exec (.phaseStrokeExecute i) s) (fun t => Finished s t i 5 (lateReport s x).2 ∧ t.var = s.var))) ∧
    (DueStroke s i 7 → j ≠ 0xFFFF →
      ((∀ e ∈ s.kv.slots, e.1 ≠ j) → Gives (exec (.keyupdStrokeExecute i) s) (fun t => Finished s t i 5 (lateReport s x).2 ∧ t.kv = s.kv)) ∧
      (∀ u o, s.kv.slots.find? (fun e => decide (e.1 = j)) = some (j, u) → x.twin = false → unitErr s KV_CTL = none → u.ops = [o] →
        (o.code = 1 → o.handle = 2 ∨ o.handle = 3 → Gives (exec (.keyupdStrokeExecute i) s) (fun t => FinishedNow s t i ∧
          (o.handle = 2 → t.kv.pair = some o.secret ∧ t.kv.opRoot = s.kv.opRoot) ∧ (o.handle = 3 → t.kv.opRoot = some o.secret ∧ t.kv.pair = s.kv.pair) ∧
          (∀ e ∈ t.kv.slots, e.1 ≠ j) ∧ t.on KV_EVENTS_upd_done = true)) ∧
        (o.code = 2 → Gives (exec (.keyupdStrokeExecute i) s) (fun t => FinishedNow s t i ∧
          (∃ d, (o.handle, d) ∈ t.kv.defs ∧ d.kind = o.kind ∧ d.parent = o.parent ∧ d.perm = o.perm ∧ d.label = o.label) ∧
          (∀ e ∈ t.kv.slots, e.1 ≠ j) ∧ t.kv.pair = s.kv.pair ∧ t.kv.opRoot = s.kv.opRoot ∧ t.on KV_EVENTS_upd_done = true)))) ∧
    (DueStroke s i 6 → unitErr s GLZ_CTL = none →
      let sn := (s.get GLZ_ATT_SERIAL_serial + 1) % 2 ^ 32
      let ws := attBody s i sn ++ sigWords [] 0
      Gives (exec (.attestStrokeExecute i) s) (fun t => FinishedNow s t i ∧ t.get GLZ_ATT_SERIAL_serial = sn ∧ t.rd GLZ_ATT_LAST = k.hi ∧
        t.on GLZ_STATUS_sign_busy = true ∧ t.glz.recs = s.glz.recs ++ [{ serial := sn, sec := k.hi.toNat, words := ws, sig := 0 }] ∧
        (∀ q < 48, t.ld (attAddr s sn + q) = ws.getD q 0) ∧ (∀ b, b < attAddr s sn ∨ attAddr s sn + 48 ≤ b → t.ld b = s.ld b))) ∧
    (∀ r, s.glz.recs.find? (fun r => decide (r.serial = serial.toNat)) = some r →
      let key := (kopRun s 0 true 4 5 (sha384 (wordBytes (attHead r))) []).1
      let ended := fun (ws : List Word) (t : State) => (∀ q < 48, t.ld (attAddr s r.serial + q) = ws.getD q 0) ∧
        (∀ b, b < attAddr s r.serial ∨ attAddr s r.serial + 48 ≤ b → t.ld b = s.ld b) ∧ ∀ y ∈ t.glz.recs, y.serial ≠ r.serial
      (attLate s r = false → exec (.attestDeadline serial) s = .next s ∧
        Gives (exec (.attestSigned serial) s) (ended (attHead r ++ (if key.code = 0 then sigWords key.data 1 else sigWords [] 2)))) ∧
      (attLate s r = true → exec (.attestSigned serial) s = .next s ∧ Gives (exec (.attestDeadline serial) s) (fun t =>
        ended (attHead r ++ sigWords [] 3) t ∧ t.on GLZ_EVENTS_att_unsigned = true))) ∧
    (s.skb.waits = 2 → s.fix.fatal = false → s.lcy.stopped = false →
      if s.reached (s.getT SKB_T_RESUME_HI SKB_T_RESUME_LO) then
        exec .executorsRearm s = .next { s with skb := { s.skb with armed := true, waits := 0 } }
      else exec .executorsRearm s = .next s) ∧
    (∀ out e, ppsOut s = some out → houseRuns s 11 = true → e ∈ s.skb.slots → strokeClass e.2.stroke = 1 → strokePin e.2.stroke = out →
      isPulse e.2.stroke = true → strokeAt e.2.stroke = ⟨s.now.sec, 0⟩ → (e.2.leadDone = true ∨ e.2.state = 3) →
      let ofs := signedOf 16 (s.get TB_UTC_OFS_ofs)
      let message : TodMsg := { edge := s.now.sec, utc := (s.now.sec : Int) - ofs, offset := ofs, leapSecond := s.on TB_STATUS_in_leap,
                                leap61 := s.on TB_LEAP_leap61, leap59 := s.on TB_LEAP_leap59, baud := if optField s 3 5 5 0 = 1 then 115200 else 9600 }
      if (∀ sent, s.tod = some sent → sent.edge ≠ s.now.sec) ∧ 900000 ≤ s.tb.ns ∧ s.tb.ns ≤ 1100000 then
        exec .todMessage s = .next { s with tod := some message }
      else exec .todMessage s = .next s)

/-! ## The timebase -/

/-- The timebase (R30, R32, R126 to R133, R137, R168, R569): a tick moves the counter by its increment; steering, slewing and loading act as
their registers say; a direct write of a step register has no effect but its event; a unit's copy that differs is FATAL at the comparison that each millisecond makes.
Where the spec leaves a point open it states the model's choice: log 4, 80, 151. -/
def Obligations.Timebase : Prop :=
  ∀ (s : State) (m : Master) (w : Word) (sensor : BitVec 17),
    let total := s.tb.residue + incUnits (s.getI TB_STEER_steer) (slewOfTick s)
    let phi := s.tb.phi + total / 2 ^ 32
    let ns := s.tb.ns + phi / 2 ^ 48
    (s.tb.counting = false → exec .timebaseTick s = .next s) ∧
    (s.tb.counting = true → Gives (exec .timebaseTick s) (fun t => t.tb.residue = total % 2 ^ 32 ∧ t.tb.phi = phi % 2 ^ 48 ∧
      t.tb.ns = ns % 1000000000 ∧ t.tb.sec = (s.tb.sec + ns / 1000000000) % 2 ^ 40 ∧ t.tb.prev = s.now)) ∧
    (palDue s = false → exec (.paletteTick sensor) s = .next s) ∧
    (palDue s = true → Gives (exec (.paletteTick sensor) s) (fun t => t.now = s.now ∧ t.pal.ticks = t80Units s.now / 1024000000)) ∧
    (Writes s m TB_STEER w →
      if s.on UND_CTL_run = true then exec (.tbSteerWrite m w) s = .fault .unpredictable
      else Gives (exec (.tbSteerWrite m w) s) (fun t => t.rd TB_STEER = w ∧ OnlyRegisters s t)) ∧
    (Writes s m TB_SLEW_ADD w → Gives (exec (.tbSlewAddWrite m w) s) (fun t =>
      t.tb.rem = max (-(2 ^ 39) * 1000000000000) (min ((2 ^ 39 - 1) * 1000000000000) (s.tb.rem + w.toInt * 1000000000000)) ∧ t.now = s.now)) ∧
    (Writes s m TB_LOAD_LO w →
      (s.on TB_STATUS_time_valid = true ∨ s.tb.load.isSome = true → Gives (exec (.tbLoadLoWrite m w) s) (fun t =>
        OnlyRegisters s t ∧ t.on TB_EVENTS_load_ignored = true)) ∧
      (s.on TB_STATUS_time_valid = false → s.tb.load = none → w.toNat < 1024000000000 → Gives (exec (.tbLoadLoWrite m w) s) (fun t =>
        t.tb = { s.tb with load := some (s.rd TB_LOAD_HI, w) })) ∧
      (s.on TB_STATUS_time_valid = false → s.tb.load = none → ¬ w.toNat < 1024000000000 → Gives (exec (.tbLoadLoWrite m w) s) (fun t =>
        ∃ hi lo, t.tb = { s.tb with load := some (hi, lo) } ∧ lo.toNat < 1024000000000))) ∧
    (∀ hi, s.tb.load = some (hi, w) → w.toNat < 1024000000000 → Gives (exec .timeLoad s) (fun t =>
      t.now = ⟨hi.toNat, w.toNat⟩ ∧ t.on TB_STATUS_time_valid = true ∧ t.tb.load = none)) ∧
    (s.tb.load = none → exec .timeLoad s = .next s) ∧
    (∀ which, regErr s m (([TB_STEP_US, TB_STEP_S, TB_LEAP_EXEC] : List Nat).getD which.val 0) true = none →
      Gives (exec (.tbDirectStepWrite m which w) s) (fun t => OnlyRegisters s t ∧ t.on TB_EVENTS_direct_ignored = true ∧
        t.rd TB_UTC_OFS = s.rd TB_UTC_OFS)) ∧
    (s.on TB_STATUS_in_leap = true → s.reached s.tb.leapEnd = true → Gives (exec .leapEnd s) (fun t => t.on TB_STATUS_in_leap = false ∧ OnlyRegisters s t)) ∧
    (s.reached s.tb.leapEnd = false → exec .leapEnd s = .next s) ∧
    (∀ unit : BitVec 12,
      let u := unit.toNat
      let off := tabGet (fun _ => (0 : Int)) s.tb.copies u + w.toInt
      let ms := t80Units s.steady / 1024000000
      Gives (exec (.copyCompare ⟨unit, w⟩) s) (fun t =>
        tabGet (fun _ => (0 : Int)) t.tb.copies u = (if unitErr s (u * 256) = none then off else tabGet (fun _ => (0 : Int)) s.tb.copies u) ∧
        (∀ v, v ≠ u → tabGet (fun _ => (0 : Int)) t.tb.copies v = tabGet (fun _ => (0 : Int)) s.tb.copies v) ∧ t.tb.compared = ms ∧ t.now = s.now ∧
        (ms ≠ s.tb.compared → unitErr s (u * 256) = none → off ≠ 0 → t.fix.fatal = true ∧ srcStatus t 1 = true) ∧
        (ms = s.tb.compared ∨ (s.tb.copies = [] ∧ w = 0) → t = { s with tb := t.tb })))

/-! ## The key vault and the tamper monitor -/

/-- The vault's own commands (R362, R366, R369 to R371, R374 to R377): a roll stroke makes the next epoch current, the next master enters the cache
a second before it, the public-key engine ends its operations in order, the DRBG fails and recovers, and an update message is verified into a slot or
refused, and a slot discarded.
Where the spec leaves a point open it states the model's choice: log 6, 114. -/
def Obligations.Vault : Prop :=
  ∀ (s : State) (i : Fin 65536) (m : Master) (j : Fin 16),
    let x := s.led i
    let epoch := s.get KV_NTS_EPOCH_epoch
    let next := s.getT KV_NTS_NEXT_HI KV_NTS_NEXT_LO
    let msg := windowBytes s (updLength 16)
    let free := decide (∀ e ∈ s.kv.slots, e.1 ≠ j.val)
    (DueStroke s i 7 → fieldOf x.stroke.act 15 0 = 0xFFFF →
      (unitErr s KV_CTL = none → Gives (exec (.ntsEpochRoll i) s) (fun t => t.get KV_NTS_EPOCH_epoch = (epoch + 1) % 2 ^ 32 ∧
        t.on KV_EVENTS_epoch_roll = true ∧ (∀ k, k < 48 → (t.core k).evts.testBit 28 = true) ∧
        t.skb.journal = ((x.seq, lateReport s x) :: s.skb.journal).take 1024)) ∧
      (unitErr s KV_CTL ≠ none → Gives (exec (.ntsEpochRoll i) s) (fun t => Finished s t i 5 (lateReport s x).2 ∧ t.get KV_NTS_EPOCH_epoch = epoch))) ∧
    (unitErr s KV_CTL = none → s.on KV_CTL_en = true → next.sec ≠ 0 → next.sec ≤ s.now.sec + 1 → Gives (exec .keyPrederive s) (fun t =>
      t.kv.cache.head? = some (0x010 + (epoch + 1) % 4) ∧ t.get KV_NTS_EPOCH_epoch = epoch)) ∧
    (s.now.sec + 1 < next.sec → exec .keyPrederive s = .next s) ∧
    (s.kv.pke = [] → exec .pkeOpDone s = .next s) ∧
    (∀ r rest, s.kv.pke = r :: rest → Gives (exec .pkeOpDone s) (fun t => t.kv = { s.kv with pke := pkeNext rest } ∧
      t.get PKE_CNT_SIGN_count = (s.get PKE_CNT_SIGN_count + b2n (decide (r.op = 0))) % 2 ^ 32 ∧
      t.get PKE_CNT_VERIFY_count = (s.get PKE_CNT_VERIFY_count + b2n (decide (r.op = 1))) % 2 ^ 32 ∧
      t.get PKE_CNT_ECDH_count = (s.get PKE_CNT_ECDH_count + b2n (decide (r.op = 2))) % 2 ^ 32 ∧
      t.get PKE_CNT_FAIL_count = (s.get PKE_CNT_FAIL_count + b2n r.fails) % 2 ^ 32)) ∧
    (unitErr s KV_CTL = none → Gives (exec .drbgHealthFail s) (fun t => t.on KV_STATUS_drbg_ok = false ∧ t.on KV_EVENTS_drbg_fail = true ∧
      srcStatus t 103 = true ∧ t.kv = s.kv)) ∧
    (unitErr s KV_CTL = none → Gives (exec .drbgRecover s) (fun t => t.on KV_STATUS_drbg_ok = true ∧ OnlyRegisters s t)) ∧
    (exec .drbgReseed s = .next (if 2 ^ 20 ≤ s.kv.drbgUsed then { s with kv := { s.kv with drbgUsed := 0 } } else s)) ∧
    (Writes s m KV_CMD (w40 (j.val * 4 + 1)) →
      (∀ c, updCheck s msg free = .inl c → Gives (exec (.verifyUpdate m j) s) (fun t => t.get KV_LAST_UPD_status = c ∧ t.get KV_LAST_UPD_slot = j.val ∧
        t.on KV_EVENTS_upd_refused = true ∧ t.kv.slots = s.kv.slots ∧ t.kv.pair = s.kv.pair ∧ t.kv.opRoot = s.kv.opRoot ∧ t.kv.defs = s.kv.defs)) ∧
      (∀ u, updCheck s msg free = .inr u → Gives (exec (.verifyUpdate m j) s) (fun t => t.get KV_LAST_UPD_status = 0 ∧ t.get KV_LAST_UPD_slot = j.val ∧
        (j.val, u) ∈ t.kv.slots ∧ t.kv.pair = s.kv.pair ∧ t.kv.opRoot = s.kv.opRoot ∧ t.kv.defs = s.kv.defs))) ∧
    (Writes s m KV_CMD (w40 (j.val * 4 + 2)) → Gives (exec (.discardSlot m j) s) (fun t =>
      (∀ e ∈ t.kv.slots, e.1 ≠ j.val) ∧ (∀ e ∈ s.kv.slots, e.1 ≠ j.val → e ∈ t.kv.slots) ∧ t.kv.pair = s.kv.pair ∧ t.kv.opRoot = s.kv.opRoot))

/-- A tamper alarm of an enabled source (R380, R381): it is latched with its cause, count and slow-clock time, the keys are zeroized, source 104 is
raised, and the service state becomes TAMPERED unless the device is in FAULT; a source not enabled does nothing. A switch alarms at the level
that TMP_CFG names for it, and an alarm that stays is one alarm until it ends.
Where the spec leaves a point open it states the model's choice: log 116, 174. -/
def Obligations.TamperAlarm : Prop :=
  ∀ (s : State) (b : Fin 12) (slow : Word) (stays : TamperInput),
    let here := 4 ≤ b.val ∨ stays.level = (s.get TMP_CFG_sw_pol).testBit b.val
    (here → s.tmpOn.testBit b.val = false →
      (tamperEnabled s b = true → Gives (exec (.tamperAlarm b slow stays) s) (fun t =>
        t.on TMP_STATUS_latched = true ∧ (stays.stays = true → t.on TMP_STATUS_active = true) ∧ t.tmpOn.testBit b.val = stays.stays ∧
        bitAt (t.rd TMP_CAUSE) b = true ∧ t.rd TMP_SLOW = slow ∧
        t.get TMP_COUNT_count = min (s.get TMP_COUNT_count + 1) (2 ^ 32 - 1) ∧ t.on TMP_EVENTS_alarm = true ∧
        t.kv.pair = none ∧ t.kv.opRoot = none ∧ t.kv.defs = [] ∧ t.kv.slots = [] ∧ srcStatus t 104 = true ∧
        (s.get MBX_STATUS_state ≠ 5 → t.get MBX_STATUS_state = 4))) ∧
      (tamperEnabled s b = false → exec (.tamperAlarm b slow stays) s = .next s)) ∧
    (¬ here ∨ s.tmpOn.testBit b.val = true → Gives (exec (.tamperAlarm b slow stays) s) (fun t =>
      (t.tmpOn.testBit b.val = true ↔ here ∧ stays.stays = true) ∧ (∀ c, c ≠ b.val → t.tmpOn.testBit c = s.tmpOn.testBit c) ∧
      t.on TMP_STATUS_active = tamperActive t ∧ OnlyRegisters s { t with tmpOn := s.tmpOn }))

/-! ## Power, clocks, resets and bring-up -/

/-- Local reset and power domains (R467 to R470): a local reset holds each unit it names with its registers at their reset values; a refused one, one of an
absent unit and one without power say so; a domain request is refused or taken, and a change completes with its event, in the order that the domains' needs give. A unit leaves reset
when its 100 ns are over and its clock is good.
Where the spec leaves a point open it states the model's choice: log 97, 98. -/
def Obligations.LocalResetAndDomains : Prop :=
  ∀ (s : State) (m : Master) (unit : BitVec 12) (cluster : Bool) (w : Word) (d : Fin 12),
    let u := unit.toNat
    let word := w40 (b2n cluster * 4096 + u)
    let us := if cluster then clusterUnits u else [u]
    let said := fun (r : Nat) (t : State) => t.get RST_LOCAL_ST_unit = u ∧ t.get RST_LOCAL_ST_result = r
    let needs := (domainNeeds d).all (fun x => (s.get PWR_STATE_on).testBit x)
    (Writes s m RST_LOCAL word →
      (unitDomain u = none → Gives (exec (.localReset m unit cluster) s) (fun t => said 3 t ∧ OnlyRegisters s t)) ∧
      (∀ dom, unitDomain u = some dom →
        (us.any (localRefused s m) = true → Gives (exec (.localReset m unit cluster) s) (fun t => said 1 t ∧ OnlyRegisters s t)) ∧
        (us.any (localRefused s m) = false → domainOn s dom = false → Gives (exec (.localReset m unit cluster) s) (fun t => said 2 t ∧ OnlyRegisters s t)) ∧
        (us.any (localRefused s m) = false → domainOn s dom = true → Gives (exec (.localReset m unit cluster) s) (fun t => said 0 t ∧
          t.on RST_LOCAL_ST_busy = true ∧ (∀ v ∈ us, t.on (UNIT_STATUS_in_reset v) = true ∧ t.on (UNIT_STATUS_fenced v) = false ∧ (v, s.steady) ∈ t.rst.localUnits) ∧
          (cluster = false → u ∉ [0x020, 0x021, 0x022, 0x023, 0x078, 0x0C0, 0x0DA] → (u < 0x088 ∨ 0x08B < u) →
            ∀ a, a / 256 = u → a % 256 < 0xF0 → t.rd a = keepPart 2 a (s.rd a)))))) ∧
    (let due := fun (e : Nat × T80) => s.elapsed (t80Add e.2 102400)
      let left := s.rst.localUnits.filter (fun e => !due e)
      Gives (exec .localResetRelease s) (fun t => t.rst.localUnits = left ∧ t.on RST_LOCAL_ST_busy = !left.isEmpty ∧
        ∀ e ∈ s.rst.localUnits, due e = true → s.on (UNIT_STATUS_fenced e.1) = false → e.1 ∉ s.rst.clockBad →
          t.on (UNIT_STATUS_in_reset e.1) = false)) ∧
    (Writes s m PWR_REQ w →
      (powerRequest s w.toNat = none → Gives (exec (.domainRequest m w) s) (fun t => t.on PWR_EVENTS_refused = true ∧ t.rd PWR_REQ = s.rd PWR_REQ ∧ OnlyRegisters s t)) ∧
      (powerRequest s w.toNat ≠ none → Gives (exec (.domainRequest m w) s) (fun t => OnlyRegisters s t ∧ t.get PWR_STATE_on = s.get PWR_STATE_on ∧
        (∀ x, x < 12 → w.toNat.testBit x = true ∨ x ∈ [0, 1, 2, 5, 11] → (t.get PWR_REQ_on).testBit x = true) ∧
        (∀ x ∈ switched, (t.get PWR_STATE_busy).testBit x = decide ((t.get PWR_REQ_on).testBit x ≠ (s.get PWR_STATE_on).testBit x))))) ∧
    ((s.get PWR_STATE_busy).testBit d = false → exec (.domainChangeDone d) s = .next s) ∧
    ((s.get PWR_STATE_busy).testBit d = true → (s.get PWR_REQ_on).testBit d = true →
      (needs = false → exec (.domainChangeDone d) s = .next s) ∧
      (needs = true → Gives (exec (.domainChangeDone d) s) (fun t => (t.get PWR_STATE_on).testBit d = true ∧ (t.get PWR_STATE_busy).testBit d = false ∧
        t.on PWR_EVENTS_done = true ∧ (7 ≤ s.rst.step → ∀ v ∈ domainUnits d, s.on (UNIT_STATUS_fenced v) = false → v ∉ s.rst.clockBad → t.on (UNIT_STATUS_in_reset v) = false)))) ∧
    ((s.get PWR_STATE_busy).testBit d = true → (s.get PWR_REQ_on).testBit d = false →
      if ∃ x ∈ switched, d.val ∈ domainNeeds x ∧ (s.get PWR_STATE_on).testBit x = true then exec (.domainChangeDone d) s = .next s
      else Gives (exec (.domainChangeDone d) s) (fun t =>
        (t.get PWR_STATE_on).testBit d = false ∧ (t.get PWR_STATE_busy).testBit d = false ∧ t.on PWR_EVENTS_done = true))

/-- The clocks and their monitors, and a low supply (R31, R447, R471 to R473, R478): what each finds shows in CKG or UNIT_STATUS with its event, and a loss
of the oscillator or of the DRAM PLL is FATAL.
Where the spec leaves a point open it states the model's choice: log 103. -/
def Obligations.ClocksAndSupply : Prop :=
  ∀ (s : State) (unit : BitVec 12) (d : Nat),
    let u := unit.toNat
    (unitDomain u = some d → domainOn s d = true →
      Gives (exec (.clockGood unit) s) (fun t => t.on (UNIT_STATUS_clk_on u) = true ∧
        (u ∈ s.rst.clockBad → s.on (UNIT_STATUS_fenced u) = false → (∀ e ∈ s.rst.localUnits, e.1 ≠ u) → t.on (UNIT_STATUS_in_reset u) = false ∧ u ∉ t.rst.clockBad)) ∧
      (u ≠ 0x0F0 → u ≠ 0x005 → Gives (exec (.unitClockBad unit) s) (fun t => t.on (UNIT_STATUS_clk_on u) = false ∧ t.on (UNIT_STATUS_in_reset u) = true ∧
        t.on CKG_EVENTS_unit_clk_bad = true ∧ t.get CKG_CLK_BAD_UNIT_unit = u ∧ u ∈ t.rst.clockBad ∧ srcStatus t 25 = true))) ∧
    (unitDomain u = some d → domainOn s d = false → exec (.clockGood unit) s = .next s ∧ exec (.unitClockBad unit) s = .next s) ∧
    (unitDomain u = some d →
      if s.passed (tabGet (fun _ => ⟨0, 0⟩) s.clkAt u) (s.get PWR_IDLE_idle_ns) = true then
        Gives (exec (.clockIdleStop unit) s) (fun t => t.on (UNIT_STATUS_clk_on u) = false ∧ OnlyRegisters s t)
      else exec (.clockIdleStop unit) s = .next s) ∧
    (unitDomain u = none → exec (.clockGood unit) s = .next s ∧ exec (.unitClockBad unit) s = .next s ∧ exec (.clockIdleStop unit) s = .next s) ∧
    (s.on CKG_STATUS_tb_frozen = false → Gives (exec .oscLost s) (fun t => t.on CKG_STATUS_osc_ok = false ∧ t.on CKG_STATUS_tb_lock = false ∧
      t.on CKG_STATUS_tb_frozen = true ∧ t.on CKG_EVENTS_osc_lost = true ∧ t.fix.fatal = true ∧ srcStatus t 5 = true)) ∧
    (Gives (exec (.pllUnlock 0) s) (fun t => t.on CKG_STATUS_fab_lock = false ∧ t.on CKG_EVENTS_pll_unlock = true)) ∧
    (Gives (exec (.pllUnlock 1) s) (fun t => t.on CKG_STATUS_dram_lock = false ∧ t.on CKG_EVENTS_pll_unlock = true ∧ t.fix.fatal = true ∧ srcStatus t 11 = true ∧
      ∀ v ∈ regionUnits 8, t.on (UNIT_STATUS_in_reset v) = true)) ∧
    (s.on CKG_STATUS_atom_ok = true → Gives (exec .atomInLost s) (fun t => t.on CKG_STATUS_atom_ok = false ∧ t.on CKG_EVENTS_atom_lost = true ∧ OnlyRegisters s t)) ∧
    (s.on CKG_STATUS_atom_ok = false → exec .atomInLost s = .next s) ∧
    (Gives (exec .supplyLow s) (fun t => t.on PWR_EVENTS_supply_low = true ∧ (twActive s = false → OnlyRegisters s t) ∧
      (twActive s = true → t.get TW_STATUS_role = 2 ∧ t.tw.releasing = true)))

/-- The device resets (R457 to R461, R551): what each one keeps and what RST_CAUSE says afterwards. A warm reset keeps the counter and memory, but for the ledger
writes under way; a cold one keeps only the backup memory.
Where the spec leaves a point open it states the model's choice: log 7, 99, 101. -/
def Obligations.DeviceResets : Prop :=
  ∀ (s : State),
    let lost := fun (t : State) => (∀ a, 0x300000 ≤ a → a < 0x310000 → t.ld a = s.ld a) ∧ (∀ a, 0x310000 ≤ a → t.ld a = 0) ∧
      t.tb = State.reset.tb ∧ t.cores = [] ∧ t.skb = State.reset.skb ∧ t.fifos = [] ∧ t.pending = s.pending
    let warm := s.on CKG_STATUS_tb_frozen = false ∧ (8 ≤ s.rst.step ∨ s.rst.cold = false)
    (s.rst.resetN = true → s.rst.pwrGood = true → Gives (exec .resetPinAssert s) (fun t => t.rst.resetN = false ∧ t.on RST_PIN_level = false ∧
      t.get RST_CAUSE_cause = 2 ∧ t.cores = [] ∧ (warm → (s.skb.offers = [] → SameMemory s t) ∧ t.now = s.now ∧ t.rst.cold = false ∧ t.rst.step = 2) ∧
      (s.on CKG_STATUS_tb_frozen = false → s.rst.step < 8 → s.rst.cold = true → lost t ∧ t.rst.cold = true) ∧
      (s.on CKG_STATUS_tb_frozen = true → lost t ∧ t.on RST_CAUSE_osc_cold = true ∧ t.rst.cold = true))) ∧
    (s.rst.resetN = false ∨ s.rst.pwrGood = false → exec .resetPinAssert s = .next s) ∧
    (s.rst.resetN = false → s.rst.pwrGood = true → (∀ at_, s.rst.lowAt = some at_ → s.elapsed (t80Add at_ 255989760000) = true) →
      Gives (exec .resetEscalation s) (fun t => lost t ∧ t.get RST_CAUSE_cause = 3 ∧
      t.on RST_CAUSE_escalated = true ∧ t.rst.cold = true ∧ t.rst.resetN = false)) ∧
    (∀ at_, s.rst.lowAt = some at_ → s.elapsed (t80Add at_ 255989760000) = false → exec .resetEscalation s = .next s) ∧
    (s.rst.resetN = true → exec .resetEscalation s = .next s ∧ exec .resetPinRelease s = .next s) ∧
    (s.rst.resetN = false → Gives (exec .resetPinRelease s) (fun t => t.rst.resetN = true ∧ t.on RST_PIN_level = true ∧ t.on RST_PIN_pending = false ∧
      OnlyRegisters s { t with rst := s.rst } ∧ (s.rst.pwrGood = true → s.rst.cold = false → t.on PRM_STATUS_busy = true))) ∧
    (s.rst.pwrGood = true → Gives (exec .powerGoodFall s) (fun t => lost t ∧ t.rst.pwrGood = false ∧ t.get RST_CAUSE_cause = 1 ∧ t.rst.step = 1) ∧
      Gives (exec .coreUndervoltage s) (fun t => lost t ∧ t.rst.pwrGood = false ∧ t.get RST_CAUSE_cause = 1 ∧ t.rst.step = 1)) ∧
    (s.rst.pwrGood = false → exec .powerGoodFall s = .next s ∧ exec .coreUndervoltage s = .next s)

/-- Bring-up (R21, R22, R378, R462 to R464, R488): Always-on and Backup come up alone, the die links train, each stage's end begins the next, a stage that fails holds the device with its FATAL source,
and the PCIe link comes up.
Where the spec leaves a point open it states the model's choice: log 102, 140, 142, 173. -/
def Obligations.BringUp : Prop :=
  ∀ (s : State) (r : StageResult) (bk : Bool) (slow : Word),
    let ready := s.rst.resetN = true ∧ s.rst.pwrGood = true ∧ s.rst.held = false ∧ s.rst.stopped = false
    let up := fun (d : Nat) (t : State) => ∀ v ∈ domainUnits d, s.on (UNIT_STATUS_fenced v) = false → v ∉ s.rst.clockBad →
      t.on (UNIT_STATUS_in_reset v) = false
    let stage := fun (n : Nat) (P : State → Prop) => ready → s.rst.step = n → Gives (exec (.bringUpStageDone r) s) P
    let failed := fun (n : Nat) (t : State) => t.rst.held = true ∧ t.fix.fatal = true ∧ srcStatus t n = true ∧ t.rst.step = s.rst.step
    (ready → s.rst.step = 1 → s.rst.linkAt < 2 →
      Gives (exec (.dieLinkTrain true) s) (fun t => up 0 t ∧ up 1 t ∧
        t.rst = { s.rst with linkAt := s.rst.linkAt + 1, linkTries := 0 }) ∧
      (s.rst.linkTries < 2 → Gives (exec (.dieLinkTrain false) s) (fun t => up 0 t ∧ up 1 t ∧
        t.rst = { s.rst with linkTries := s.rst.linkTries + 1 })) ∧
      (2 ≤ s.rst.linkTries → Gives (exec (.dieLinkTrain false) s) (fun t => up 0 t ∧ up 1 t ∧ failed 2 t ∧
        t.get RST_CAUSE_link_fail = s.rst.linkAt + 1))) ∧
    (s.rst.pwrGood = false → Gives (exec (.powerGoodRise bk slow) s) (fun t => t.rst.pwrGood = true ∧
      (bk = true → t.on RST_CAUSE_bk_lost = true ∧ t.kv.pair = none ∧ t.on TMP_STATUS_latched = true ∧ bitAt (t.rd TMP_CAUSE) 11 = true) ∧
      (bk = false → s.get KV_UPD_CTR_counter / 4096 = s.get KV_ANCHOR_anchors → t = { s with rst := { s.rst with pwrGood := true } }) ∧
      (s.get KV_UPD_CTR_counter / 4096 ≠ s.get KV_ANCHOR_anchors → t.get KV_UPD_CTR_counter = t.get KV_ANCHOR_anchors * 4096))) ∧
    (s.rst.pwrGood = true → exec (.powerGoodRise bk slow) s = .next s) ∧
    (s.rst.linkAt = 2 → stage 1 (fun t => t.rst.step = 2 ∧ t.on PRM_STATUS_busy = true ∧ up 1 t)) ∧
    (r.fuse = 2 → stage 2 (failed 4)) ∧
    (r.fuse ≠ 2 → stage 2 (fun t => t.rst.step = (if s.rst.cold then 3 else 5) ∧ t.on PRM_STATUS_committed = true ∧
      (copyOk r.copyA = true → t.rst.optRecord = r.copyA) ∧ (copyOk r.copyA = false → copyOk r.copyB = true → t.rst.optRecord = r.copyB) ∧
      (copyOk r.copyA = false → copyOk r.copyB = false → t.rst.optRecord = [] ∧ t.on PRM_STATUS_opt_bad = true))) ∧
    (r.pllOk = false → stage 3 (failed 3)) ∧
    (r.pllOk = true → stage 3 (fun t => t.rst.step = 4 ∧ t.tb.counting = true ∧ t.on CKG_STATUS_tb_lock = true)) ∧
    (stage 4 (fun t => t.rst.step = 5 ∧ t.on MEM_STATUS_ready = true ∧ t.on MEM_STATUS_trained = true)) ∧
    (stage 5 (fun t => t.rst.step = 6 ∧ (t.core 0).halted = false ∧ (t.core 0).keeper = true)) ∧
    (stage 6 (fun t => t.rst.step = 7 ∧ t.on SKB_STATUS_recovering = true ∧ (s.rst.cold = true →
      t.on (MEM_PROTk_BASE_en 0) = true ∧ t.get (MEM_PROTk_BASE_addr 0) = t.get SKB_LEDGER_BASE_base ∧
      t.get (MEM_PROTk_LIMIT_addr 0) = t.get SKB_LEDGER_BASE_base + 393215))) ∧
    (s.get PWR_STATE_busy = 0 → stage 7 (fun t => t.rst.step = 8 ∧ t.house.bringUpDone = true ∧ (s.get MBX_STATUS_state = 0 → t.get MBX_STATUS_state ≠ 0))) ∧
    (s.rst.perstN = false → exec .pciePerstRelease s = .next { s with rst := { s.rst with perstN := true, pcieTraining := decide (7 ≤ s.rst.step) } }) ∧
    (s.rst.pcieTraining = true → s.rst.perstN = true → exec .pcieLinkUp s = .next { s with rst := { s.rst with pcieTraining := false, pcieUp := true } }) ∧
    (s.rst.pcieTraining = false → exec .pcieLinkUp s = .next s)

/-! ## The host, memory and the FIFO ports -/

/-- Host reads and writes (R118, R482 to R484, R486, R493): with the link down nothing happens; a misaligned access is aborted and recorded; mailbox
slots and readable DRAM words are returned whole, in order; written words are stored and nothing else; a read that errs returns no data.
The scrubber (R486, R487), at its rate: it counts what the codes corrected, and an uncorrectable burst is recorded, stays so, and raises source 109.
Where the spec leaves a point open it states the model's choice: log 143, 145. -/
def Obligations.HostAndScrubber : Prop :=
  (∀ (s : State) (bar : Fin 3) (off : BitVec 30) (len : BitVec 13) (data : List (BitVec 64)) (tail : Fin 8),
    let b := off.toNat
    let n := len.toNat / 8
    let i := b / 8
    let a := 0x10000000 + i
    (s.rst.pcieUp = false → exec (.hostRead bar off len) s = .next s ∧ exec (.hostWrite bar off data tail) s = .next s) ∧
    (s.rst.pcieUp = true →
      (len.toNat ≤ 4096 → b + len.toNat ≤ barSize bar → b % 8 ≠ 0 ∨ len.toNat % 8 ≠ 0 → Gives (exec (.hostRead bar off len) s) (fun t =>
        t.host.data = [] ∧ t.host.abort = true ∧ t.on MTX_EVENTS_err = true ∧ t.get MTX_ERR_INFO_kind = 5 ∧
        t.get MTX_CNT_HOST_ALIGN_count = (s.get MTX_CNT_HOST_ALIGN_count + 1) % 2 ^ 32 ∧ OnlyRegisters s t)) ∧
      (8 * data.length + tail.val ≤ 512 → b + 8 * data.length + tail.val ≤ barSize bar → b % 8 ≠ 0 ∨ tail.val ≠ 0 →
        Gives (exec (.hostWrite bar off data tail) s) (fun t => t.on MTX_EVENTS_err = true ∧ t.get MTX_ERR_INFO_kind = 5 ∧
          t.get MTX_CNT_HOST_ALIGN_count = (s.get MTX_CNT_HOST_ALIGN_count + 1) % 2 ^ 32 ∧ OnlyRegisters s t)) ∧
      (bar = 1 → b % 8 = 0 → i < 128 → len.toNat = 8 → unitErr s MBX_DOORBELL = none →
        exec (.hostRead bar off len) s = .next { s with host := { s.host with
          data := [tabGet (fun _ => 0) (if i < 64 then s.mbx.win else s.mbx.resp) (i % 64)], abort := false } }) ∧
      (bar = 1 → b % 8 = 0 → i < 64 → tail = 0 → unitErr s MBX_DOORBELL = none → ∀ d, data = [d] → Gives (exec (.hostWrite bar off data tail) s) (fun t =>
        tabGet (fun _ => 0) t.mbx.win i = d ∧ (∀ j, j ≠ i → tabGet (fun _ => 0) t.mbx.win j = tabGet (fun _ => 0) s.mbx.win j) ∧
        t = { s with mbx := { s.mbx with win := t.mbx.win } })) ∧
      (bar = 2 → b % 8 = 0 → len.toNat % 8 = 0 → len.toNat ≤ 4096 → i + n ≤ 0x3000000 → (∀ j < n, memReadErr s hostMaster (a + j) = none) →
        Gives (exec (.hostRead bar off len) s) (fun t => t.host.data = (List.range n).map (fun j => (s.ld (a + j)).setWidth 64) ∧ t.host.abort = false ∧
          SameMemory s t ∧ OnlyRegisters s t)) ∧
      (∀ e, bar = 2 → b % 8 = 0 → len.toNat = 8 → i < 0x3000000 → memReadErr s hostMaster a = some e → Gives (exec (.hostRead bar off len) s) (fun t =>
        t.host.data = [] ∧ t.host.abort = true ∧ t.on MTX_EVENTS_err = true ∧ t.get MTX_ERR_INFO_kind = e ∧ t.get MTX_ERR_ADDR_addr = a ∧ SameMemory s t)) ∧
      (bar = 2 → b % 8 = 0 → tail = 0 → data.length ≤ 64 → i + data.length ≤ 0x3000000 → (∀ j < data.length, memWriteErr s hostMaster (a + j) = none ∧ ledgerWord s (a + j) = false) →
        Gives (exec (.hostWrite bar off data tail) s) (fun t => (∀ j, (h : j < data.length) → t.ld (a + j) = (data[j]).setWidth 40) ∧
          ∀ c, c < a ∨ a + data.length ≤ c → t.ld c = s.ld c)))) ∧
  (∀ (s : State) (inner : Fin 5) (found : Fin 3),
    let b := s.get MEM_SCRUB_POS_burst
    let top := 2 ^ 32 - 1
    let early := ∃ at_, s.scrubAt = some at_ ∧ s.elapsed (t80Add at_ ((scrubPeriod s : Nat) : Int)) = false
    let only := fun (t : State) => OnlyRegisters s { t with scrubAt := s.scrubAt }
    (s.on MEM_STATUS_ready = false ∨ s.on MEM_SCRUB_en = false ∨ early → exec (.scrubStep inner found) s = .next s) ∧
    (¬ early → unitErr s MEM_STATUS = none → s.on MEM_STATUS_ready = true → s.on MEM_SCRUB_en = true → Gives (exec (.scrubStep inner found) s) (fun t =>
      t.get MEM_SCRUB_POS_burst = (b + 1) % 2 ^ 22 ∧ t.get MEM_CNT_INNER_count = min (s.get MEM_CNT_INNER_count + inner.val) top ∧
      t.on MEM_STATUS_scrubbing = true ∧ SameMemory s t ∧ (b + 1 = 2 ^ 22 → t.on MEM_EVENTS_pass_done = true) ∧
      t.scrubAt = some s.steady ∧ (s.badBurst b = false → found = 0 → only t) ∧
      (s.badBurst b = false → found = 1 → t.get MEM_CNT_CORR_count = min (s.get MEM_CNT_CORR_count + 1) top ∧ t.on MEM_EVENTS_corr = true ∧ only t) ∧
      (s.badBurst b = true ∨ found = 2 → t.get MEM_CNT_UNCORR_count = min (s.get MEM_CNT_UNCORR_count + 1) top ∧ t.on MEM_EVENTS_uncorr = true ∧
        t.badBurst b = true ∧ srcStatus t 109 = true ∧ t.get MEM_ERR_ADDR_addr = 0x10000000 + 12 * b ∧ t.on MEM_ERR_INFO_scrub = true))))

/-- The FIFO ports (R494 to R500, R502): a word that fits its FIFO's framing goes in; one that does not fit its room waits, but the host's is discarded;
a disabled FIFO ignores writes; a broken framing has no effect the spec gives; a read pops the head; a wash discards what stands before its cut.
Where the spec leaves a point open it states the model's choice: log 47. -/
def Obligations.FifoPorts : Prop :=
  ∀ (s : State) (m : Master) (n : Fin 256) (w : Word),
    let q := s.fifo n
    let mine := q.owner = none ∨ q.owner = some m.id.val
    let others := fun (t : State) => ∀ j, j ≠ n.val → t.fifo j = s.fifo j
    let washed := fun (x : Fifo) => x.closed = (if q.packet && q.begun then q.closed.take 1 else []) ∧ x.cut = false ∧ x.nWash = (q.nWash + 1) % 2 ^ 32
    (unitErr s FIFO_IDX = none → s.fifoWait = [] →
      (∀ p ∈ ([(.fifoDataWrite m n w, 0), (.fifoFirstWrite m n w, 1), (.fifoLastWrite m n w, 2), (.fifoOnlyWrite m n w, 3)] : List (Instr × Nat)),
        (q.en = false → Gives (exec p.1 s) (fun t => (∀ j, t.fifo j = s.fifo j) ∧ OnlyRegisters s t)) ∧
        (q.en = true → mine → fifoFramed q p.2 = false → exec p.1 s = .fault .unpredictable) ∧
        (q.en = true → mine → fifoFramed q p.2 = true → fifoTakes s n m.id p.2 = true → Gives (exec p.1 s) (fun t =>
          t.fifo n = fifoPut q m.id p.2 w ∧ others t ∧ t.fifoWait = [])) ∧
        (q.en = true → mine → fifoFramed q p.2 = true → fifoTakes s n m.id p.2 = false →
          (m.id ≠ 20 → Gives (exec p.1 s) (fun t => t.fifo n = q ∧ others t ∧ t.fifoWait = [{ fifo := n.val, master := m.id.val, frame := p.2, word := w, core := none }])) ∧
          (m.id = 20 → q.owner = none → Gives (exec p.1 s) (fun t => t.fifo n = { q with nHostDrop := (q.nHostDrop + 1) % 2 ^ 32 } ∧ others t ∧
            t.on FIFO_EVENTS_host_drop = true)))) ∧
      (Gives (exec (.fifoWashWrite m n w) s) (fun t => others t ∧ (q.en = false → t.fifo n = q) ∧ (q.en = true → q.owner = none → washed (t.fifo n)) ∧
        (q.en = true → q.owner ≠ none → t.fifo n = { q with cut := true }))) ∧
      (ringFresh (startClock s FIFO_IDX) n = startClock s FIFO_IDX → (∀ p < 4, s.get (BRGg_AUX_FIFO_txdone p) ≠ n.val) → m.id = 20 →
        (q.en = false ∨ q.closed = [] → Gives (exec (.fifoDataRead m n) s) (fun t => t.host.data = [BitVec.ofNat 64 (2 ^ 63)] ∧ t.host.abort = false ∧
          ∀ j, t.fifo j = s.fifo j)) ∧
        (∀ x p rest, q.en = true → q.closed = (x :: p) :: rest → Gives (exec (.fifoDataRead m n) s) (fun t => t.host.data = [x.setWidth 64] ∧
          t.host.abort = false ∧ (t.fifo n).closed = (if p = [] then rest else p :: rest) ∧ others t)))) ∧
    (∀ k, unitErr s FIFO_IDX = some k → Gives (exec (.fifoDataWrite m n w) s) (fun t => t.get MTX_ERR_ADDR_addr = 0x500000 + n.val * 256 ∧ t.on MTX_EVENTS_err = true ∧
      OnlyRegisters s t)) ∧
    (q.cut = true → q.owner = none → Gives (exec (.fifoCutReached n) s) (fun t => washed (t.fifo n) ∧ others t)) ∧
    (q.cut = false → exec (.fifoCutReached n) s = .next s) ∧
    (Writes s m FIFO_CFG w → s.fifoWait = [] → s.get FIFO_IDX_fifo = n.val →
      let base := fieldOf w 21 6
      let depth := fieldOf w 5 2
      let new := { q with base := base, depthLog := depth, packet := bitAt w 1, en := bitAt w 0 }
      (fifoUsed q = 0 → bitAt w 0 = true → base % 2 ^ depth = 0 → base + 2 ^ depth ≤ 65536 →
        (∀ e ∈ s.fifos, e.1 ≠ n.val → e.2.en = true → fifoOverlap e.2 new = false) → Gives (exec (.fifoCfgWrite m w) s) (fun t => t.fifo n = new ∧ others t)) ∧
      (fifoUsed q = 0 → bitAt w 0 = true → base % 2 ^ depth ≠ 0 ∨ 65536 < base + 2 ^ depth → exec (.fifoCfgWrite m w) s = .fault .unpredictable) ∧
      (q.en = true → 0 < fifoUsed q → bitAt w 0 = true → Gives (exec (.fifoCfgWrite m w) s) (fun t => (∀ j, t.fifo j = s.fifo j) ∧
        t.on FIFO_EVENTS_cfg_ignored = true)) ∧
      (fifoUsed q = 0 → bitAt w 0 = false → Gives (exec (.fifoCfgWrite m w) s) (fun t => (t.fifo n).en = false ∧ (t.fifo n).closed = [] ∧ others t)))

/-! ## Faults, life cycle and counters -/

/-- Fault sources (R506 to R512, R516, R517): a NOTE or DEGRADE source shows its status bit, a unit fault also fences its unit, and an essential unit's
makes the device FATAL; a FATAL source stops the executors and takes the service state to FAULT; forces and software sources act only for those who may. -/
def Obligations.FaultSources : Prop :=
  ∀ (s : State) (m : Master) (n : Fin 224) (f : Fin 12) (unit : BitVec 12) (w : Word),
    let u := unit.toNat
    let known := unitDomain u ≠ none ∧ (n.val = 25 ∨ unitFaultSource u = n.val)
    let src := fieldOf w 7 0
    let may := m.id = 20 ∨ m.keeper = true
    let allowed := s.get LCY_STATE_state ≠ 2 ∨ s.get MBX_STATUS_state = 2 ∨ s.get MBX_STATUS_state = 3
    let fenced := fun (t : State) => t.on (UNIT_STATUS_fenced u) = true ∧ t.on (UNIT_STATUS_in_reset u) = true ∧ t.on (UNIT_FAULT_fault u) = true
    (srcClass s n < 2 → n.val < 16 ∨ 25 < n.val → Gives (exec (.faultDetected n unit) s) (fun t => srcStatus t n = true)) ∧
    (2 ≤ srcClass s n → exec (.faultDetected n unit) s = .next s) ∧
    (16 ≤ n.val → n.val ≤ 25 →
      (known → Gives (exec (.faultDetected n unit) s) (fun t => srcStatus t n = true ∧ (s.fix.fatal = false → fenced t) ∧
        (essentialUnit u = true → t.fix.fatal = true))) ∧
      (¬ known → exec (.faultDetected n unit) s = .next s)) ∧
    (Gives (exec (.fatalEntry f) s) (fun t => t.fix.fatal = true ∧ srcStatus t f = true ∧ (s.fix.fatal = false →
      t.get FIX_FIRST_SRC_source = f.val ∧ t.on FIX_FIRST_SRC_valid = true ∧ t.rd FIX_FIRST_T_HI = T80hi s.now ∧ t.skb.armed = false ∧
      t.get MBX_STATUS_state = 5))) ∧
    (Writes s m FIX_FORCE w →
      (may → allowed → srcClass s src ≠ 3 → Gives (exec (.fixForceWrite m w) s) (fun t => srcStatus t src = true)) ∧
      (may → ¬ allowed → Gives (exec (.fixForceWrite m w) s) (fun t => t.on FIX_EVENTS_force_refused = true ∧ OnlyRegisters s t ∧ ∀ j, j < 280 → srcStatus t j = srcStatus s j)) ∧
      (¬ may → Gives (exec (.fixForceWrite m w) s) (fun t => OnlyRegisters s t ∧ ∀ j, j < 280 → srcStatus t j = srcStatus s j))) ∧
    (Writes s m FIX_RAISE w →
      (224 ≤ src → Gives (exec (.fixRaiseWrite m w) s) (fun t => srcStatus t src = true)) ∧
      (src < 224 → Gives (exec (.fixRaiseWrite m w) s) (fun t => OnlyRegisters s t ∧ ∀ j, j < 280 → srcStatus t j = srcStatus s j))) ∧
    (Writes s m (UNIT_FAULT_FORCE u) w →
      (bitAt w 0 = true → may → allowed → Gives (exec (.unitFaultForceWrite m unit w) s) (fun t => srcStatus t (unitFaultSource u) = true ∧
        (s.fix.fatal = false → fenced t))) ∧
      (bitAt w 0 = false → Gives (exec (.unitFaultForceWrite m unit w) s) (fun t => OnlyRegisters s t ∧ ∀ j, j < 280 → srcStatus t j = srcStatus s j)))

/-- Event counts, the JTAG port and the Tally reader (R515, R523, R524, R534 to R542): a count is cleared by its read and no other is; an open pin-driving JTAG
instruction stops the executors; a sweep begins with its time, or is skipped, and ends with its serial, bank and CRC.
Where the spec leaves a point open it states the model's choice: log 48. -/
def Obligations.CountersAndJtag : Prop :=
  ∀ (s : State) (m : Master) (unit : BitVec 12) (i : Fin 8) (hold en : Bool),
    let u := unit.toNat
    let off := u * 256 + s.get (UNIT_EVC_SEL_offset u)
    let bit := s.get (UNIT_EVC_SEL_bit u)
    let serial := (s.get TLY_STATUS_serial + 1) % 2 ^ 32
    let bank := fun (t : State) => if serial % 2 = 0 then t.tly.bank0 else t.tly.bank1
    let begun := fun (t : State) => t.on TLY_STATUS_busy = true ∧ t.tly.start = s.steady ∧ t.get TLY_STATUS_serial = s.get TLY_STATUS_serial ∧
      (bank t).take 3 = [w40 serial, T80hi s.now, T80lo s.now]
    (Reads s m (UNIT_EVC u) → Gives (exec (.eventCountRead m unit) s) (fun t => t.evCount off bit = 0 ∧
      (∀ a j, evKey a j ≠ evKey off bit → t.evCount a j = s.evCount a j) ∧ OnlyRegisters s t)) ∧
    (3 ≤ i.val → (s.get LCY_STATE_state ≠ 2 ∨ s.on LCY_JTAG_ext_en = true) → Gives (exec (.jtagInstructionLoad i) s) (fun t =>
      t.lcy.jtagDrive = true ∧ t.lcy.stopped = true ∧ t.skb.armed = false ∧ t.on LCY_EVENTS_jtag_drive = true)) ∧
    (i.val < 3 ∨ (s.get LCY_STATE_state = 2 ∧ s.on LCY_JTAG_ext_en = false) →
      exec (.jtagInstructionLoad i) s = .next { s with lcy := { s.lcy with jtagDrive := false } }) ∧
    (Writes s m TLY_CTL (w40 (4 + 2 * b2n hold + b2n en)) →
      (s.on TLY_STATUS_busy = false → hold = false → Gives (exec (.tallyStart m hold en) s) (fun t => begun t ∧ t.on TLY_CTL_en = en)) ∧
      (s.on TLY_STATUS_busy = true ∨ hold = true → Gives (exec (.tallyStart m hold en) s) (fun t => t.on TLY_EVENTS_skipped = true ∧
        t.on TLY_CTL_en = en ∧ t.on TLY_CTL_hold = hold ∧ t.tly.bank0 = s.tly.bank0 ∧ t.tly.bank1 = s.tly.bank1))) ∧
    (s.on TLY_CTL_en = true → unitErr s TLY_CTL = none → s.reached s.tly.nextAt = true → s.on TLY_STATUS_busy = false → s.on TLY_CTL_hold = false →
      Gives (exec .tallySweepStart s) begun) ∧
    (s.on TLY_CTL_en = false ∨ s.reached s.tly.nextAt = false → exec .tallySweepStart s = .next s) ∧
    (s.on TLY_STATUS_busy = true → s.tly.next = 1536 → Gives (exec .tallySweepDone s) (fun t =>
      t.on TLY_STATUS_busy = false ∧ t.get TLY_STATUS_serial = serial ∧ t.get TLY_STATUS_bank = serial % 2 ∧ t.on TLY_EVENTS_sweep_done = true ∧
      bank t = (bank s).set 5 (w40 (crc32c (((bank s).take 5 ++ (bank s).drop 12).flatMap bytesOf))))) ∧
    (s.on TLY_STATUS_busy = false → exec .tallySweepDone s = .next s) ∧
    (Reads s m TLY_BUF_DATA → Gives (exec (.tlyBufRead m) s) (fun t => t.get TLY_BUF_IDX_word = (s.get TLY_BUF_IDX_word + 1) % 2 ^ 11 ∧
      t.tly = s.tly ∧ OnlyRegisters s t))

/-! ## Registers -/

/-- Register accesses (R12, R15, R164, R493): a performed write of a register whose write does no more than its field types say leaves it so and every other
register as it was; a reserved bit or value has no effect the spec gives; a read of a HI register latches the LO register of the same instant.
An access that a register's unit or its privilege rule turns away changes nothing but the matrix's record, its counts and the unit's own Tally (R25, R92, R104,
R480, R493), whichever command makes it. -/
def Obligations.RegisterAccess : Prop :=
  (∀ (s : State) (m : Master) (a : BitVec 16) (i : Fin 30) (w : Word),
    let n := a.toNat
    let hi := hiRegs.getD i.val TB_TIME_HI
    (Writes s m n w → regEffect m n w (touched s n) = .next (plainWrite (touched s n) n w) → Gives (exec (.registerWrite m a w) s) (fun t =>
      t.rd n = writeFields (regFields n) ((touched s n).rd n) w ∧ (∀ b, b ≠ n → b % 256 < 0xF0 → t.rd b = s.rd b) ∧ OnlyRegisters s t)) ∧
    (regErr s m n true = none → reservedBitsZero (regFields n) w = false → exec (.registerWrite m a w) s = .fault .unpredictable) ∧
    (regErr s m n true = none → reservedBitsZero (regFields n) w = true → legalValues (regFields n) w = false →
      exec (.registerWrite m a w) s = .fault .reservedValue) ∧
    (Reads s m hi → Gives (exec (.hiWordRead m i) s) (fun t => OnlyRegisters s t ∧
      (if hiLive hi then t.rd hi = T80hi s.now ∧ t.rd (hi + 1) = T80lo s.now else t.rd hi = s.rd hi ∧ t.rd (hi + 1) = s.lo (hi + 1)) ∧
      (m.id = 20 → t.host.data = [(t.rd hi).setWidth 64] ∧ t.host.abort = false)))) ∧
  (∀ (s : State) (m : Master) (w : Word) (a : BitVec 16) (unit : BitVec 12) (n : Fin 24) (v : Fin 4) (k : Fin 20) (d : Fin 2) (j : Fin 8) (q : Fin 24) (x : Bool) (e : Nat),
    ∀ p ∈ ([(.registerWrite m a w, a.toNat), (.tbSteerWrite m w, TB_STEER), (.tbSlewAddWrite m w, TB_SLEW_ADD), (.tbLoadLoWrite m w, TB_LOAD_LO),
        (.localReset m unit x, RST_LOCAL), (.domainRequest m w, PWR_REQ), (.fifoCfgWrite m w, FIFO_CFG), (.fixForceWrite m w, FIX_FORCE),
        (.fixRaiseWrite m w, FIX_RAISE), (.unitFaultForceWrite m unit w, UNIT_FAULT_FORCE unit.toNat), (.tallyStart m x x, TLY_CTL),
        (.relock m v, VARn_CMD v), (.glide m v, VARn_CMD v), (.clearBm m v, VARn_CMD v), (.varPhaseWrite m v w, VARn_PHASE v),
        (.outCfgWrite m k w, OUTk_CFG k), (.outDivWrite m k w, OUTk_DIV k), (.twCmdSwap m, TW_CMD), (.repair m, TW_CMD), (.endPairing m, TW_CMD),
        (.clearDisagreeing m n, PAL_CMD), (.restartQualification m n, PAL_CMD), (.slewAfterStep m n, PAL_CMD), (.setSourceFault m n, PAL_CMD),
        (.clearSourceFault m n, PAL_CMD), (.stepToWideOffset m n, PAL_CMD), (.reseedAndClear m, STZ_CMD), (.writeBackCaches m, STZ_CMD),
        (.atlRtDataWrite m w, ATL_RT_DATA), (.restartLearning m, UND_CMD), (.recomputePredictions m, UND_CMD), (.undTempExtWrite m w, UND_TEMP_EXT),
        (.eventEntryWrite m j w, GLZ_EVTk_VAL j), (.upstreamIdCommit m q w, GLZ_Sn_UP_LO q), (.pairRun m w, GNS_CH_CTL),
        (.calNow m d w, TDCn_CAL d)] : List (Instr × Nat)),
    regErr s m p.2 true = some e → e < 8 → Gives (exec p.1 s) (fun t => OnlyRegisters s t ∧ t.on MTX_EVENTS_err = true ∧ t.get MTX_ERR_ADDR_addr = 0x400000 + p.2 ∧
      t.get MTX_ERR_INFO_kind = e ∧ t.get MTX_ERR_INFO_master = m.id.val ∧ t.on MTX_ERR_INFO_write = true ∧
      ∀ b, b / 256 ≠ 0x0E1 → b % 256 < 0xF0 → t.rd b = s.rd b))

/-! ## The Palette, the Underpainting and the Glaze -/

/-- The Palette's slots and their commands (R169, R173 to R176, R179 to R181, R187, R190, R191, R196): a sample joins its slot; a slot without samples fails; a rank,
a qualification and a drift end their waits, which count the time since without the timebase's steps; PAL_CMD acts as R196 says; a switch completes 250 µs after its decision.
Where the spec leaves a point open it states the model's choice: log 68, 156, 161, 162. -/
def Obligations.PaletteSlots : Prop :=
  ∀ (s : State) (m : Master) (i : Fin 11) (n : Fin 24) (w : Word),
    let k := sampleSlots.getD i.val 9
    let p := s.slot n
    let st := s.get (PAL_Sn_STATUS_sstate n)
    let others := fun (j : Nat) (t : State) => ∀ r, r ≠ j → t.slot r = s.slot r
    let cmd := fun (op : Nat) => Writes s m PAL_CMD (palCmdWord op n)
    (Writes s m (PAL_Sn_SAMPLE k) w →
      (w ≠ 0x7FFFFFFFFF → w ≠ 0x8000000000 → Gives (exec (.palSampleWrite m i w) s) (fun t => others k t ∧ t.on (PAL_Sn_STATUS_range k) = false ∧
        t.slot k = { s.slot k with pend := (s.slot k).pend ++ [w.toInt], lastAt := some s.steady })) ∧
      (w = 0x7FFFFFFFFF ∨ w = 0x8000000000 → Gives (exec (.palSampleWrite m i w) s) (fun t => others k t ∧ t.on (PAL_Sn_STATUS_range k) = true ∧
        t.slot k = { s.slot k with lastAt := some s.steady }))) ∧
    (programSlot n = true → s.on (PAL_Sn_CFG_enable n) = true → 2 ≤ st →
      (slotActive s n = false → Gives (exec (.sampleTimeout n) s) (fun t => t.get (PAL_Sn_STATUS_sstate n) = 1 ∧ t.get (PAL_Sn_STATUS_fail n) % 2 = 1 ∧
        t.on PAL_EVENTS_slot_fail = true ∧ OnlyRegisters s t)) ∧
      (slotActive s n = true → exec (.sampleTimeout n) s = .next s)) ∧
    (s.get (PAL_Sn_ADV_qrank n) < s.get (PAL_Sn_STATUS_eff_rank n) →
      (s.passed p.rankAt 10000000000 = true → Gives (exec (.rankHoldExpiry n) s) (fun t =>
        t.get (PAL_Sn_STATUS_eff_rank n) = s.get (PAL_Sn_ADV_qrank n) ∧ OnlyRegisters s t)) ∧
      (s.passed p.rankAt 10000000000 = false → exec (.rankHoldExpiry n) s = .next s)) ∧
    (st = 2 → s.passed p.qualEnd 0 = true → Gives (exec (.qualificationTimerExpiry n) s) (fun t => t.on (PAL_Sn_STATUS_ever_qualified n) = true ∧
      t.on PAL_EVENTS_qualified = true ∧ (t.get (PAL_Sn_STATUS_sstate n) = 3 ∨ t.get (PAL_Sn_STATUS_sstate n) = 5) ∧
      (slotKind s n = 0 → t.get (PAL_Sn_STATUS_sstate n) = 3))) ∧
    (st ≠ 2 ∨ s.passed p.qualEnd 0 = false → exec (.qualificationTimerExpiry n) s = .next s) ∧
    (∀ from_, p.clearFrom = some from_ → st = 4 → s.passed from_ (s.get PAL_XC_CFG_xc_win * 1000000000) = true → Gives (exec (.driftClearExpiry n) s) (fun t =>
      t.get (PAL_Sn_STATUS_sstate n) = 2 ∧ (t.slot n).qualEnd = secsAfter s.steady (s.get (PAL_Sn_CFG_wtr n)) ∧ (t.slot n).clearFrom = none ∧ others n t)) ∧
    (p.clearFrom = none ∨ st ≠ 4 → exec (.driftClearExpiry n) s = .next s) ∧
    (∀ from_, p.clearFrom = some from_ → s.passed from_ (s.get PAL_XC_CFG_xc_win * 1000000000) = false → exec (.driftClearExpiry n) s = .next s) ∧
    (cmd 1 → (st = 5 → Gives (exec (.clearDisagreeing m n) s) (fun t => t.get (PAL_Sn_STATUS_sstate n) = 3 ∧ (t.slot n).cleared = true ∧ others n t)) ∧
      (st ≠ 5 → Gives (exec (.clearDisagreeing m n) s) (fun t => OnlyRegisters s t ∧ t.get (PAL_Sn_STATUS_sstate n) = st))) ∧
    (cmd 2 → (st = 0 → Gives (exec (.restartQualification m n) s) (fun t => OnlyRegisters s t ∧ t.get (PAL_Sn_STATUS_sstate n) = 0)) ∧
      (st ≠ 0 → Gives (exec (.restartQualification m n) s) (fun t => t.on (PAL_Sn_STATUS_ever_qualified n) = false ∧ others n t ∧
        (st = 1 → t.get (PAL_Sn_STATUS_sstate n) = 1) ∧
        (st ≠ 1 → t.get (PAL_Sn_STATUS_sstate n) = 2 ∧ (t.slot n).qualEnd = secsAfter s.steady (s.get (PAL_Sn_CFG_first_qual n)))))) ∧
    (cmd 3 → (s.on PAL_STATE_step_hold = false → Gives (exec (.slewAfterStep m n) s) (fun t => OnlyRegisters s t)) ∧
      (∀ j, s.on PAL_STATE_step_hold = true → s.pal.wide = false → selSlot s = some j → (sat40 ((s.slot j).x.tdiv 1000000000000)).2 = false →
        Gives (exec (.slewAfterStep m n) s) (fun t => t.on PAL_STATE_step_hold = false ∧ t.now = s.now ∧
          t.tb.rem = max (-(2 ^ 39) * 1000000000000) (min ((2 ^ 39 - 1) * 1000000000000) (s.tb.rem - (s.slot j).x.tdiv 1000000000000 * 1000000000000))))) ∧
    (cmd 4 → Gives (exec (.setSourceFault m n) s) (fun t => t.slot n = { p with cmdFault := true } ∧ others n t)) ∧
    (cmd 5 → Gives (exec (.clearSourceFault m n) s) (fun t => t.slot n = { p with cmdFault := false } ∧ others n t)) ∧
    (cmd 6 →
      let may := slotKind s n = 2 ∧ st = 5 ∧ s.on (PAL_Sn_STATUS_range n) = true ∧ s.on PAL_WIDE_CTL_valid = true ∧ s.get PAL_WIDE_CTL_slot = n.val ∧
        s.get TB_STEP_THRESH_thresh ≠ 0 ∧ s.on PAL_STATE_switching = false
      (may → Gives (exec (.stepToWideOffset m n) s) (fun t => t.on PAL_STATE_step_hold = true ∧ t.on PAL_EVENTS_step_wanted = true ∧ t.pal = { s.pal with wide := true, stepUs := some (-(s.getI PAL_WIDE_OFS_ofs)) })) ∧
      (¬ may → Gives (exec (.stepToWideOffset m n) s) (fun t => OnlyRegisters s t ∧ t.on PAL_STATE_step_hold = s.on PAL_STATE_step_hold))) ∧
    (s.pal.sw = none → exec .switchComplete s = .next s) ∧
    (∀ x, s.pal.sw = some x →
      (s.reached (t80Add x.t0 (250000 * 1024)) = true → Gives (exec .switchComplete s) (fun t => t.pal.sw = none ∧ t.on PAL_STATE_switching = false ∧
        t.on PAL_EVENTS_switch_done = true ∧ t.on PAL_STATE_sel_valid = true ∧ t.get PAL_STATE_sel_slot = x.to_ % 32 ∧
        ∀ j, j < 24 → t.on (PAL_Sn_STATUS_selected j) = decide (j = x.to_))) ∧
      (s.reached (t80Add x.t0 (250000 * 1024)) = false → exec .switchComplete s = .next s))

/-- The Underpainting's and the Glaze's commands (R206 to R210, R216, R229, R243): learning takes one sample a second (the mean of the ticks it gathered) while its
conditions hold, the model is refitted once an hour and predictions are made once a second, learning restarts, the external temperature goes stale, and event entries and upstream identities change as they are written.
Where the spec leaves a point open it states the model's choice: log 70, 156, 168. -/
def Obligations.LearningAndEntries : Prop :=
  ∀ (s : State) (m : Master) (w : Word) (i : Fin 11) (k : Fin 8) (n : Fin 24),
    let a := if i.val < 6 then UND_M_Y0 + i.val else UND_LRN_Y + (i.val - 6)
    let stage := s.get UND_STATUS_stage
    let due := fun (e : LearnPt) => s.passed e.at_ (s.get UND_HOLD_CFG_hold_avg * 1000000000)
    let secs := s.und.secs + (s.und.waiting.filter due).length
    let takes := s.und.lrnN ≠ 0 ∧ s.on UND_CTL_learn_en = true ∧ s.get PAL_STATE_state = 2 ∧ s.get UND_STATUS_mode = 2 ∧
      (s.on UND_STATUS_temp_valid = true ∨ s.on UND_CTL_temp_en = false) ∧
      ∃ j, selSlot s = some j ∧ (s.on PAL_STATE_time_traceable = true ∨ s.get (PAL_Sn_STATUS_eff_rank j) ≤ 3)
    let base := if s.get UND_STATUS_mode = 4 then s.get UND_B_ENTRY_b else s.get GLZ_B_b
    let newSecond := s.steady.sec ≠ s.und.lrnSec
    let newHour := s.steady.sec / 3600 ≠ s.und.fitHour
    let mean := fun (x : Int) (sum : Int) => x = sum / (s.und.lrnN : Int) ∨ x = sum / (s.und.lrnN : Int) + 1
    (¬ newSecond → exec .learningSample s = .next s) ∧
    (newSecond → 0 < s.get UND_HOLD_CFG_hold_avg → Gives (exec .learningSample s) (fun t => t.und.secs = secs ∧ t.und.lrnSec = s.steady.sec ∧
      t.und.lrnSum = 0 ∧ t.und.lrnTemp = 0 ∧ t.und.lrnN = 0 ∧
      t.und.fit = (s.und.fit ++ s.und.waiting.filter due).filter (fun e => decide (t80Diff s.steady e.at_ ≤ ((604800 * unitsPerSec : Nat) : Int))) ∧
      t.get UND_STATUS_learn_h = min (secs / 3600) 0xFFFFF ∧ t.get UND_STATUS_stage = max stage (stageOf (min (secs / 3600) 0xFFFFF)) ∧
      (takes → ∃ e : LearnPt, t.und.waiting = s.und.waiting.filter (fun e => !due e) ++ [e] ∧ e.at_ = s.steady ∧
        mean e.y (s.und.lrnSum * (loopUnit : Nat)) ∧ mean e.temp s.und.lrnTemp) ∧
      (¬ takes → t.und.waiting = s.und.waiting.filter (fun e => !due e)))) ∧
    (newHour → s.on UND_CTL_learn_en = true → s.und.fit ≠ [] → stage ≠ 0 → Gives (exec .modelUpdate s) (fun t =>
      OnlyRegisters { s with und := { s.und with fitHour := s.steady.sec / 3600 } } t ∧
      t.rd UND_M_T0_HI = T80hi (midMs s) ∧ t.get UND_STATUS_stage = stage)) ∧
    (¬ newHour ∨ s.on UND_CTL_learn_en = false ∨ s.und.fit = [] ∨ stage = 0 → exec .modelUpdate s = .next s) ∧
    (s.steady.sec = s.und.predSec → exec .predictionUpdate s = .next s) ∧
    (s.steady.sec ≠ s.und.predSec → Gives (exec .predictionUpdate s) (fun t => OnlyRegisters { s with und := { s.und with predSec := s.steady.sec } } t ∧
      t.rd UND_PRED_H = w40 (growthAt s (s.get UND_PRED_Q_horizon)) ∧
      (t.get UND_PRED_TIME_hours = 0 ∨ addE base (growthAt s (t.get UND_PRED_TIME_hours)) ≤ s.get PAL_HOLD_LIMIT_limit))) ∧
    (Writes s m UND_CMD 1 → Gives (exec (.restartLearning m) s) (fun t => t.get UND_STATUS_stage = 0 ∧ t.get UND_STATUS_learn_h = 0 ∧
      t.und = { s.und with waiting := [], fit := [], secs := 0, locked := false })) ∧
    (Writes s m UND_CMD 2 → Gives (exec (.recomputePredictions m) s) (fun t => t.und = { s.und with recompute := true })) ∧
    (Writes s m UND_TEMP_EXT w → Gives (exec (.undTempExtWrite m w) s) (fun t => t.rd UND_TEMP_EXT = w ∧ t.und = { s.und with extAt := some s.steady })) ∧
    (∀ at_, s.und.extAt = some at_ → s.passed at_ 10000000000 = true → Gives (exec .tempStale s) (fun t =>
      t.und = { s.und with extAt := none } ∧ t.on UND_EVENTS_temp_stale = true)) ∧
    (s.und.extAt = none → exec .tempStale s = .next s) ∧
    (∀ at_, s.und.extAt = some at_ → s.passed at_ 10000000000 = false → exec .tempStale s = .next s) ∧
    (Writes s m a w →
      (s.on UND_CTL_learn_en = true → Gives (exec (.undModelWrite m i w) s) (fun t => t.on UND_EVENTS_cfg_ignored = true ∧ t.rd a = s.rd a)) ∧
      (s.on UND_CTL_learn_en = false → Gives (exec (.undModelWrite m i w) s) (fun t => t.rd a = w ∧ t.get UND_STATUS_stage = 2 ∧ OnlyRegisters s t))) ∧
    (Writes s m (GLZ_EVTk_VAL k) w → Gives (exec (.eventEntryWrite m k w) s) (fun t => t.rd (GLZ_EVTk_VAL k) = w ∧ t.glz.evtNew.testBit k = decide (w ≠ 0) ∧
      ∀ j, j < 8 → j ≠ k.val → t.rd (GLZ_EVTk_VAL j) = s.rd (GLZ_EVTk_VAL j))) ∧
    (s.get (GLZ_EVTk_VAL_term k) ≠ 0 → s.get (GLZ_EVTk_LIFE_life k) = 0 → Gives (exec (.eventEntryExpiry k) s) (fun t => t.rd (GLZ_EVTk_VAL k) = 0 ∧
      t.glz.evtNew.testBit k = false)) ∧
    (s.get (GLZ_EVTk_LIFE_life k) ≠ 0 → exec (.eventEntryExpiry k) s = .next s) ∧
    (Writes s m (GLZ_Sn_UP_LO n) w → Gives (exec (.upstreamIdCommit m n w) s) (fun t => t.rd (GLZ_Sn_UP_LO n) = w ∧
      tabGet (fun _ => ((0 : Word), (0 : Word))) t.glz.ups n = (s.rd (GLZ_Sn_UP_HI n), w) ∧
      (∀ j, j ≠ n.val → tabGet (fun _ => ((0 : Word), (0 : Word))) t.glz.ups j = tabGet (fun _ => (0, 0)) s.glz.ups j)))

/-! ## The Varnish -/

/-- The Varnish PLLs (R245, R249 to R254, R258 to R261, R269): enabling starts a hop or a search with the outputs gated, a lock, its loss, a time-out, and the loss
and return of the input move the PLL between its states, RELOCK, GLIDE and CLEAR_BM act as their rules say.
Where the spec leaves a point open it states the model's choice: log 15, 16, 156. -/
def Obligations.VarnishPlls : Prop :=
  ∀ (s : State) (m : Master) (n : Fin 4) (w : Word) (band : BitVec 6) (err : BitVec 20),
    let a := VARn_CTL n
    let v := s.varSt n
    let st := varState s n
    let started := fun (t : State) => (varState t n = 1 ∨ varState t n = 2) ∧ t.on (VARn_STATUS_gated n) = true ∧ (t.varSt n).entered = s.steady
    let toAcquire := fun (t : State) => varState t n = 3 ∧ t.varSt n = { v with acqAt := s.steady } ∧ ∀ j, j ≠ n.val → t.varSt j = s.varSt j
    let enters := fun (x : Nat) (t : State) => varState t n = x ∧ t.on (VARn_STATUS_gated n) = true
    (Writes s m a (w ||| 1) → s.on (VARn_CTL_en n) = false →
      let s1 := plainWrite (touched s a) a (w ||| 1)
      (ratioOk s1 n = true → Gives (exec (.pllEnable m n w) s) (fun t => started t ∧ t.on (VARn_CTL_en n) = true ∧
        (bitAt w 1 = false → varState t n = 1) ∧ (t.varSt n).nInt = s.get (VARn_N_INT_n_int n) ∧ (t.varSt n).nNum = s.get (VARn_N_NUM_n_num n) ∧
        (t.varSt n).nDen = s.get (VARn_N_DEN_n_den n))) ∧
      (ratioOk s1 n = false → exec (.pllEnable m n w) s = .fault .unpredictable)) ∧
    (Writes s m a (putField w 0 0 0) → Gives (exec (.pllDisable m n w) s) (fun t => t.on (VARn_CTL_en n) = false ∧
      (s.on (VARn_CTL_en n) = true → enters 0 t) ∧ (s.on (VARn_CTL_en n) = false → varState t n = st))) ∧
    (Writes s m (VARn_CMD n) 1 →
      (s.on (VARn_CTL_en n) = false → Gives (exec (.relock m n) s) (fun t => varState t n = st ∧ t.var = s.var)) ∧
      (s.on (VARn_CTL_en n) = true → ratioOk s n = true → Gives (exec (.relock m n) s) (fun t => started t ∧ (t.varSt n).g = 0 ∧ (t.varSt n).gTarget = 0 ∧
        (t.varSt n).off = 0 ∧ (t.varSt n).realign = false)) ∧
      (s.on (VARn_CTL_en n) = true → ratioOk s n = false → exec (.relock m n) s = .fault .unpredictable)) ∧
    (Writes s m (VARn_CMD n) 2 →
      let target := s.getI (VARn_GLIDE_target n)
      (varLocked s n = true → target.natAbs ≤ 200000000 → Gives (exec (.glide m n) s) (fun t => varState t n = 5 ∧ t.varSt n = { v with gTarget := target })) ∧
      (varLocked s n = false ∨ 200000000 < target.natAbs → Gives (exec (.glide m n) s) (fun t => varState t n = st ∧ t.var = s.var ∧
        t.on (VARn_EVENTS_cmd_refused n) = true))) ∧
    (Writes s m (VARn_CMD n) 3 → Gives (exec (.clearBm m n) s) (fun t => varState t n = st ∧ ∀ j, j < 16 → t.rd (VARn_BM n j) = 0)) ∧
    (st = 1 → Gives (exec (.bandFound n band) s) (fun t => toAcquire t ∧ t.get (VARn_STATUS_band n) = band.toNat)) ∧
    (st ≠ 1 → exec (.bandFound n band) s = .next s) ∧
    (st = 2 → s.passed v.entered 60000 = true → Gives (exec (.hopSettled n) s) toAcquire) ∧
    (st ≠ 2 ∨ s.passed v.entered 60000 = false → exec (.hopSettled n) s = .next s) ∧
    (st = 3 → err.toInt.natAbs ≤ s.get (VARn_LOCK_lock_win n) → s.passed v.acqAt (s.get (VARn_LOCK_lock_cnt n) * v.d) = true → Gives (exec (.lockDeclared n err) s) (fun t => varState t n = 4 ∧
      t.on (VARn_STATUS_gated n) = false ∧ t.on (VARn_EVENTS_lock n) = true ∧ t.get (VARn_ERR_err n) = err.toNat ∧ (t.varSt n).ungateAt = s.afterNs 1000 ∧ (t.varSt n).lockedAt = s.steady)) ∧
    (s.get (VARn_LOCK_lock_win n) < err.toInt.natAbs ∨ s.passed v.acqAt (s.get (VARn_LOCK_lock_cnt n) * v.d) = false → exec (.lockDeclared n err) s = .next s) ∧
    (st ≠ 3 → exec (.lockDeclared n err) s = .next s ∧ exec (.acquireTimeout n) s = .next s) ∧
    (varLocked s n = true → s.get (VARn_UNLOCK_unlock_win n) < err.toInt.natAbs → s.passed v.lockedAt (s.get (VARn_UNLOCK_unlock_cnt n) * v.d) = true → Gives (exec (.lockLost n err) s) (fun t => enters 2 t ∧
      t.on (VARn_EVENTS_unlock n) = true ∧ t.get (VARn_ERR_err n) = err.toNat ∧ (t.varSt n).gTarget = v.g)) ∧
    (varLocked s n = false ∨ err.toInt.natAbs ≤ s.get (VARn_UNLOCK_unlock_win n) ∨ s.passed v.lockedAt (s.get (VARn_UNLOCK_unlock_cnt n) * v.d) = false →
      exec (.lockLost n err) s = .next s) ∧
    (st = 3 →
      (v.bySearch = false → s.passed v.entered 200000 = true → Gives (exec (.acquireTimeout n) s) (fun t => enters 1 t ∧
        (∀ j, v.used = some j → j < 16 → t.on (VARn_BM_valid n j) = false) ∧ t.on (VARn_EVENTS_bm_miss n) = true)) ∧
      (v.bySearch = true → s.passed v.entered 8000000 = true → v.searches = 0 → Gives (exec (.acquireTimeout n) s) (fun t =>
        enters 1 t ∧ (t.varSt n).searches = 1)) ∧
      (v.bySearch = true → s.passed v.entered 8000000 = true → v.searches ≠ 0 → Gives (exec (.acquireTimeout n) s) (fun t =>
        enters 7 t ∧ srcStatus t (58 + n.val) = true))) ∧
    (Gives (exec (.inputLoss n) s) (fun t => t.on (VARn_STATUS_input_ok n) = false ∧ (t.varSt n).lossAt = s.steady ∧
      (st ∈ [0, 6, 7] → varState t n = st) ∧ (st ∉ [0, 6, 7] → enters 6 t ∧ t.on (VARn_EVENTS_input_lost n) = true))) ∧
    (s.passed v.lossAt 10000 = false → exec (.inputGood n) s = .next s) ∧
    (s.passed v.lossAt 10000 = true → Gives (exec (.inputGood n) s) (fun t => t.on (VARn_STATUS_input_ok n) = true ∧ (st = 6 → enters 2 t) ∧ (st ≠ 6 → varState t n = st))) ∧
    (st = 5 → v.g = v.gTarget → Gives (exec (.glideTargetReached n) s) (fun t => varState t n = 4 ∧ t.on (VARn_EVENTS_glide_done n) = true ∧
      (v.g ≠ 0 → t.varSt n = v) ∧
      (v.g = 0 → t.varSt n = { v with realign := true, off := offGrid v.off (gridCycles s n), alignAt := s.afterNs 1000 }))) ∧
    (st ≠ 5 ∨ v.g ≠ v.gTarget → exec (.glideTargetReached n) s = .next s)

/-- The outputs and the phase of a PLL (R247, R256, R260, R261, R264, R265, R269): phase steps end, alignment is restored, a gated output opens once its PLL has been locked
for a microsecond, with its first
rising edge where it is aligned, and writes of VARn_PHASE, OUTk_CFG and OUTk_DIV take effect or are ignored by mode.
Where the spec leaves a point open it states the model's choice: log 15, 169. -/
def Obligations.Outputs : Prop :=
  ∀ (s : State) (m : Master) (n : Fin 4) (k : Fin 20) (w : Word),
    let v := s.varSt n
    let win := psCycles v ((s.get (VARn_LOCK_lock_win n) : Nat) : Int)
    let inWin := v.off ≤ win ∧ -win ≤ v.off
    let driving := mayDrive s && (!s.fix.fatal || decide (fieldOf w 21 20 = 0))
    let base : Rat := if outAligned s k = true then 0 else
      ((s.varSt (outVar k)).theta.floor : Rat) - unitCycles (s.varSt (outVar k)) ((s.get (OUTk_CFG_trim k) : Nat) : Int)
    let based := s.setOut k { s.out k with base := base }
    let old := s.rd (OUTk_CFG k)
    let mo := fieldOf old 13 12
    let mn := fieldOf w 13 12
    (v.stepOpen = true → s.rd (VARn_STEP_REM n) = 0 → Gives (exec (.phaseStepDone n) s) (fun t => t.on (VARn_STATUS_stepping n) = false ∧
      t.on (VARn_EVENTS_step_done n) = true ∧ t.varSt n = { v with stepOpen := false, raised := 0 } ∧ ∀ j, j ≠ n.val → t.varSt j = s.varSt j)) ∧
    (v.stepOpen = false ∨ s.rd (VARn_STEP_REM n) ≠ 0 → exec (.phaseStepDone n) s = .next s) ∧
    (v.realign = true → varLocked s n = true → inWin → Gives (exec (.alignRestored n) s) (fun t => t.varSt n = { v with realign := false } ∧
      ∀ j ∈ clusterOuts n, s.get (OUTk_CFG_mode j) = 1 → s.on (OUTk_STATUS_gated j) = false → t.on (OUTk_STATUS_aligned j) = outAligned t j)) ∧
    (v.realign = false ∨ varLocked s n = false ∨ ¬ inWin → exec (.alignRestored n) s = .next s) ∧
    (s.get (OUTk_CFG_mode k) = 1 → s.on (OUTk_STATUS_gated k) = true → varLocked s (outVar k) = true → s.reached (s.varSt (outVar k)).ungateAt = true →
      s.on (OUTk_STATUS_safe_forced k) = false →
      (outAligned s k = false ∨ clockRises based k = true → Gives (exec (.outputUngate k) s) (fun t => t.on (OUTk_STATUS_gated k) = false ∧
        t.on (OUTk_STATUS_aligned k) = outAligned s k ∧ t.out k = { s.out k with base := base, run := true, stop := false } ∧
        ∀ j, j ≠ k.val → t.out j = s.out j)) ∧
      (outAligned s k = true → clockRises based k = false → exec (.outputUngate k) s = .next based)) ∧
    (varLocked s (outVar k) = false ∨ s.reached (s.varSt (outVar k)).ungateAt = false → exec (.outputUngate k) s = .next s) ∧
    (Writes s m (VARn_PHASE n) w →
      (s.on (VARn_CTL_en n) = true → Gives (exec (.varPhaseWrite m n w) s) (fun t => t.rd (VARn_PHASE n) = s.rd (VARn_PHASE n) ∧ t.on (VARn_EVENTS_cfg_ignored n) = true)) ∧
      (s.on (VARn_CTL_en n) = false → Gives (exec (.varPhaseWrite m n w) s) (fun t => t.rd (VARn_PHASE n) = w ∧ OnlyRegisters s t))) ∧
    (Writes s m (OUTk_CFG k) w →
      (outFormatOk k w = false → exec (.outCfgWrite m k w) s = .fault .reservedValue) ∧
      (outFormatOk k w = true → (mo = 1 ∧ mn = 2) ∨ (mo = 2 ∧ mn = 1) → Gives (exec (.outCfgWrite m k w) s) (fun t => t.rd (OUTk_CFG k) = old ∧
        t.on (OUTk_EVENTS_cfg_ignored k) = true)) ∧
      (outFormatOk k w = true → mo = 0 → Gives (exec (.outCfgWrite m k w) s) (fun t => t.rd (OUTk_CFG k) = w ∧
        (mn = 1 → t.on (OUTk_STATUS_gated k) = true ∧ t.on (OUTk_STATUS_driving k) = driving ∧ t.out k = { s.out k with leave := false, drive := none }) ∧
        (mn = 2 → t.level k = false ∧ t.out k = { OutSt.reset with fine := (s.out k).fine, drive := some driving }))) ∧
      (outFormatOk k w = true → mo ≠ 0 → mo = mn → Gives (exec (.outCfgWrite m k w) s) (fun t => t.rd (OUTk_CFG k) = old ∧ t.outs = s.outs ∧
        (putField old 13 12 0 ≠ putField w 13 12 0 → t.on (OUTk_EVENTS_cfg_ignored k) = true))) ∧
      (outFormatOk k w = true → mo ≠ 0 → mn = 0 → Gives (exec (.outCfgWrite m k w) s) (fun t => t.rd (OUTk_CFG k) = putField old 13 12 0 ∧
        t.on (OUTk_STATUS_gated k) = false ∧
        (mo = 1 → (s.out k).run = true → t.out k = { s.out k with stop := true, leave := true }) ∧
        (mo ≠ 1 ∨ (s.out k).run = false → t.level k = false ∧ t.out k = { OutSt.reset with fine := (s.out k).fine, drive := some false })))) ∧
    (Writes s m (OUTk_DIV k) w →
      (s.get (OUTk_CFG_mode k) = 0 → Gives (exec (.outDivWrite m k w) s) (fun t => t.rd (OUTk_DIV k) = w ∧ OnlyRegisters s t)) ∧
      (s.get (OUTk_CFG_mode k) ≠ 0 → Gives (exec (.outDivWrite m k w) s) (fun t => t.rd (OUTk_DIV k) = s.rd (OUTk_DIV k) ∧
        (s.rd (OUTk_DIV k) ≠ w → t.on (OUTk_EVENTS_cfg_ignored k) = true))))

/-! ## Time-interval measurement and the GNSS baseband -/

/-- The measurement channels (R171, R272, R275, R277, R278, R281, R284, R286 to R288, R290, R292): a reference is lost; an edge is held off, missed, or
stamped to within half a unit; windows and gates end; records drain, one channel
after another; calibrations start, swap the lines and expire; configuration is taken only
while the channel is off.
Where the spec leaves a point open it states the model's choice: log 15, 16, 156, 164 to 166. -/
def Obligations.MeasurementChannels : Prop :=
  ∀ (s : State) (m : Master) (r : Fin 8) (n : Fin 16) (c : Fin 2) (off : Fin 7) (rise : Bool) (code : BitVec 11) (hits : List Nat) (w : Word),
    let ch := s.chan n
    let others := fun (t : State) => ∀ j, j ≠ n.val → t.chan j = s.chan j
    let mode := s.get (TDCn_CFG_mode n)
    let gateUnits : Int := ((s.get (TDCn_GATE_gate_ms n) * 1024000000 : Nat) : Int)
    (∀ last, s.on (REFINn_CFG_en r) = true → (s.refin r).last = some last → s.on (REFINn_STATUS_los r) = false → 0 < s.get (REFINn_NOM_nom_hz r) →
      let late := 3 * ((s.get (REFINn_CFG_div r) * unitsPerSec : Nat) : Int) < 2 * t80Diff s.steady last * (s.get (REFINn_NOM_nom_hz r) : Int)
      (late → Gives (exec (.refinLos r) s) (fun t => t.on (REFINn_STATUS_los r) = true ∧ t.on (REFINn_STATUS_los_event r) = true ∧
        t.on (REFINn_STATUS_active r) = false)) ∧
      (¬ late → exec (.refinLos r) s = .next s)) ∧
    (s.on (REFINn_CFG_en r) = false → exec (.refinLos r) s = .next s) ∧
    let edge := s.putB (TDCn_STATUS_input n) rise
    let pass := if 2 ≤ n.val ∧ n.val ≤ 9 then refinEdge edge (n.val - 2) rise else if n.val = 1 then atomEdge edge rise else (true, edge)
    (pass.1 = false ∨ s.on (TDCn_CFG_en n) = false → exec (.tdcEdge n rise code) s = .next pass.2) ∧
    (pass.1 = true → s.on (TDCn_CFG_en n) = true →
      let e := tdcStamp pass.2 n code.toNat
      let x := e.1 - 16 * s.tb.steps
      let within := fun (o : Option Int) (d : Int) => ∃ y, o = some y ∧ x - y < d
      let held := within (if rise then ch.lastRise else ch.lastFall) ((s.get (TDCn_HOLDOFF_holdoff n) * 16384 : Nat) : Int)
      let dead := within ch.lastRise 52429 ∨ within ch.lastFall 52429
      (held → Gives (exec (.tdcEdge n rise code) s) (fun t => t.tdc = pass.2.tdc ∧ t.get (TDCn_CNT_HELD_count n) = (s.get (TDCn_CNT_HELD_count n) + 1) % 2 ^ 32)) ∧
      (¬ held → dead → Gives (exec (.tdcEdge n rise code) s) (fun t => t.tdc = pass.2.tdc ∧ t.on (TDCn_EVENTS_missed n) = true ∧
        t.get (TDCn_CNT_MISSED_count n) = (s.get (TDCn_CNT_MISSED_count n) + 1) % 2 ^ 32)) ∧
      (¬ held → ¬ dead → Gives (exec (.tdcEdge n rise code) s) (fun t => (if rise then (t.chan n).lastRise else (t.chan n).lastFall) = some x ∧
        (∃ u : Int, -8 ≤ 16 * u - e.1 ∧ 16 * u - e.1 ≤ 8 ∧ t.rd (TDCn_LAST_HI n) = T80hi (t80OfUnits u.toNat) ∧
          t.lo (TDCn_LAST_LO n) = T80lo (t80OfUnits u.toNat)) ∧
        (10 ≤ n.val → n.val ≤ 13 → s.on (TDCn_CFG_route_fifo n) = true → ch.queue.length < 32 →
          (mode = 0 → edgeSelected (s.get (TDCn_CFG_edge n)) rise = true → (t.chan n).queue.length = ch.queue.length + 1) ∧
          (mode = 1 → edgeSelected (s.get (TDCn_CFG_start_edge n)) rise = true → ch.opens = [] → (t.chan n).opens.length = 1 ∧ (t.chan n).queue = ch.queue) ∧
          (∀ o, mode = 1 → edgeSelected (s.get (TDCn_CFG_start_edge n)) rise = false → ch.opens = [o] →
            (t.chan n).opens = [] ∧ (t.chan n).queue.length = ch.queue.length + 1))))) ∧
    (mode = 2 → Gives (exec (.pairWindowClose n) s) (fun t => others t ∧ (t.chan n).opens = ch.opens.filter (fun e => !pairGone s n e) ∧
      (t.chan n).queue = ch.queue ∧ t.get (TDCn_CNT_UNMATCHED_count n) =
        (s.get (TDCn_CNT_UNMATCHED_count n) + (ch.opens.filter (fun e => pairGone s n e && e.start)).length) % 2 ^ 32)) ∧
    (mode ≠ 2 → exec (.pairWindowClose n) s = .next s) ∧
    (∀ g, ch.gateEnd = some g → s.on (TDCn_CFG_en n) = true → mode = 3 →
      (16 * (t80Units g : Int) ≤ stampFloor s n → Gives (exec (.freqGateEnd n) s) (fun t => others t ∧ (t.chan n).gateEnd = some (t80Add g gateUnits) ∧ (t.chan n).gateCount = 0 ∧
        (t.chan n).gateFirst = none ∧ (s.on (TDCn_CFG_route_fifo n) = true → ch.queue.length < 32 → ∃ v w1 : Word,
          (t.chan n).queue = ch.queue ++ [[v, w1]] ∧ w1.toNat % 2 ^ 26 = min ch.gateCount 0x3FFFFFF ∧ (ch.gateCount < 2 → v = 0)))) ∧
      (stampFloor s n < 16 * (t80Units g : Int) → exec (.freqGateEnd n) s = .next s)) ∧
    (ch.queue = [] → exec (.tdcRecordDrain n) s = .next s) ∧
    (drainTurn s n = false → exec (.tdcRecordDrain n) s = .next s) ∧
    (∀ v w1 rest, ch.queue = [v, w1] :: rest →
      let f := s.get (TDCn_CFG_fifo n)
      let drained := fun (t : State) => State.setChan { t with tdcTurn := n.val } n { ch with queue := rest, ovf := false }
      let sent := fifoPacket s f 23 [v, w1 ||| w40 (b2n ch.ovf * 2 ^ 33)]
      (drainTurn s n = true → (s.fifo f).en = false → exec (.tdcRecordDrain n) s = .next (drained s)) ∧
      (∀ s', drainTurn s n = true → (s.fifo f).en = true → sent = some s' → exec (.tdcRecordDrain n) s = .next (drained s')) ∧
      ((s.fifo f).en = true → sent = none → exec (.tdcRecordDrain n) s = .next s) ∧
      ((∀ j, j < 16 → j ≠ n.val → (s.chan j).queue = []) → (s.fifo f).en = false ∨ sent.isSome = true → drainTurn s n = true)) ∧
    (s.on (TDCn_CFG_en c) = true → s.on (TDCn_STATUS_calibrating c) = false → calDue s c = true →
      Gives (exec (.calStart c) s) (fun t => t.on (TDCn_STATUS_calibrating c) = true ∧ OnlyRegisters s t)) ∧
    (s.on (TDCn_CFG_en c) = false ∨ s.on (TDCn_STATUS_calibrating c) = true ∨ calDue s c = false → exec (.calStart c) s = .next s) ∧
    (Writes s m (TDCn_CAL c) w → Gives (exec (.calNow m c w) s) (fun t => OnlyRegisters s t ∧ t.get (TDCn_CAL_period_s c) = fieldOf w 15 4 ∧
      t.get (TDCn_CAL_hits c) = fieldOf w 3 2 ∧ (bitAt w 0 = true → t.on (TDCn_STATUS_calibrating c) = true) ∧
      (bitAt w 0 = false → t.on (TDCn_STATUS_calibrating c) = s.on (TDCn_STATUS_calibrating c)))) ∧
    (s.on (TDCn_STATUS_calibrating c) = true →
      let total := 2 ^ (20 + 2 * s.get (TDCn_CAL_hits c))
      (hits.length ≤ 1280 → hits.sum = total → swapFree s c = true → Gives (exec (.calLineSwap c hits) s) (fun t => t.on (TDCn_STATUS_calibrating c) = false ∧ t.on (TDCn_STATUS_cal_valid c) = true ∧
        t.on (TDCn_EVENTS_cal_done c) = true ∧ t.on (TDCn_STATUS_line c) = !s.on (TDCn_STATUS_line c) ∧ (t.chan c).calAt = some s.steady ∧ (t.chan c).calTemp = s.und.sensor ∧ (t.chan c).swap = true ∧
        ∀ k, k < hits.length → tabGet (fun _ => 0) (if t.on (TDCn_STATUS_line c) then (t.chan c).lineB else (t.chan c).lineA) k =
          ((2 * (hits.take k).sum + hits.getD k 0) * 16384 + total) / (2 * total))) ∧
      (1280 < hits.length ∨ hits.sum ≠ total ∨ swapFree s c = false → exec (.calLineSwap c hits) s = .next s)) ∧
    (s.on (TDCn_STATUS_calibrating c) = false → exec (.calLineSwap c hits) s = .next s) ∧
    (∀ at_, (s.chan c).calAt = some at_ → s.on (TDCn_STATUS_cal_valid c) = true → s.get (TDCn_CAL_period_s c) ≠ 0 →
      ((4 * s.get (TDCn_CAL_period_s c) * unitsPerSec : Nat) : Int) < t80Diff s.steady at_ →
        Gives (exec (.calExpired c) s) (fun t => t.on (TDCn_STATUS_cal_valid c) = false ∧ t.on (TDCn_EVENTS_cal_lost c) = true ∧ t.tdc = s.tdc)) ∧
    ((s.chan c).calAt = none → exec (.calExpired c) s = .next s) ∧
    (2 ≤ n.val → s.on (TDCn_CFG_en n) = true → s.on (TDCn_STATUS_dll_lock n) = false → Gives (exec (.dllLock n) s) (fun t =>
      t.on (TDCn_STATUS_dll_lock n) = true ∧ t.on (TDCn_STATUS_cal_valid n) = true ∧ OnlyRegisters s t)) ∧
    (2 ≤ n.val → s.on (TDCn_STATUS_dll_lock n) = true → Gives (exec (.tdcDllUnlock n) s) (fun t => t.on (TDCn_STATUS_dll_lock n) = false ∧
      t.on (TDCn_STATUS_cal_valid n) = false ∧ t.tdc = s.tdc)) ∧
    (n.val < 2 → exec (.dllLock n) s = .next s ∧ exec (.tdcDllUnlock n) s = .next s) ∧
    (Writes s m (TDCn_CFG n) w →
      let reserved := fieldOf w 16 15 = 3 ∨ fieldOf w 14 13 = 3 ∨ (fieldOf w 12 11 = 1 ∧ fieldOf w 14 13 = 2) ∨
        (1 ≤ n.val ∧ n.val ≤ 9 ∧ fieldOf w 12 11 ≠ 0) ∨ (10 ≤ n.val ∧ bitAt w 18 = true)
      (reserved → exec (.tdcCfgWrite m n 0 w) s = .fault .reservedValue) ∧
      (¬ reserved → s.on (TDCn_CFG_en n) = false → Gives (exec (.tdcCfgWrite m n 0 w) s) (fun t => others t ∧ t.rd (TDCn_CFG n) = w)) ∧
      (¬ reserved → s.on (TDCn_CFG_en n) = true → Gives (exec (.tdcCfgWrite m n 0 w) s) (fun t => others t ∧ (∀ j, 1 ≤ j → bitAt (t.rd (TDCn_CFG n)) j =
          bitAt (s.rd (TDCn_CFG n)) j) ∧ t.on (TDCn_CFG_en n) = bitAt w 0 ∧ (t.chan n).queue = ch.queue ∧
        (bitAt w 0 = false → (t.chan n).opens = [] ∧ (t.chan n).gateEnd = none) ∧
        (w.toNat / 2 ≠ (s.rd (TDCn_CFG n)).toNat / 2 → t.on (TDCn_EVENTS_cfg_ignored n) = true)))) ∧
    (off.val ≠ 0 → Writes s m (TDCn_CFG n + off) w →
      (s.on (TDCn_CFG_en n) = true ∧ off.val ≠ 5 → Gives (exec (.tdcCfgWrite m n off w) s) (fun t => OnlyRegisters s t ∧ t.rd (TDCn_CFG n + off) = s.rd (TDCn_CFG n + off) ∧
        t.on (TDCn_EVENTS_cfg_ignored n) = true)) ∧
      (s.on (TDCn_CFG_en n) = false ∧ off.val ≠ 5 → Gives (exec (.tdcCfgWrite m n off w) s) (fun t => OnlyRegisters s t ∧ t.rd (TDCn_CFG n + off) = w)) ∧
      (off.val = 5 → Gives (exec (.tdcCfgWrite m n off w) s) (fun t => OnlyRegisters s t ∧ t.rd (TDCn_SKEW n) = s.rd (TDCn_SKEW n))))

/-- The GNSS baseband and its navigation function (R295 to R300, R302 to R304, R306 to R308, R313 to R318): streams fail and clear, pairs run, lock, lose lock and give
their records, the bank sweeps and its peaks are compared, kept data moves on, and a solution, a survey, the spoofing alarms and sentinel mode act as their rules say.
Where the spec leaves a point open it states the model's choice: log 16, 104, 156, 170 to 172. -/
def Obligations.Gnss : Prop :=
  ∀ (s : State) (m : Master) (i : Fin 4) (cause : Fin 3) (sat rms : BitVec 8) (glitch : BitVec 32) (p : Fin 128) (ca cb : BitVec 7) (lb doa : Bool)
    (x : PairMeas) (count : Fin 33) (ms : Fin 1000) (sym : BitVec 32) (peaks : List BankPeak) (fix : GnsFix) (px py pz w : Word) (unc : BitVec 32),
    let st := pairState s p
    let dual := bitAt (s.pairCtl p) 2
    let pack := fun (t : State) (f : Nat) (ws : List Word) => match fifoPacket s f 22 ws with
      | some s' => t.fifos = s'.fifos
      | none => t.fifos = s.fifos ∧ t.on GNS_EVENTS_overflow = true
    let q := s.get GNS_CH_IDX_pair
    let old := s.pairCtl q
    let pairs := fun (t : State) (k : Nat) => ∀ j, j ≠ k → t.pairCtl j = s.pairCtl j ∧ t.pairStat j = s.pairStat j
    let entry := s.gns.entry
    let at_ := s.get GNS_KEEP_ADDR_addr
    let kept := fun (t : State) (a : Nat) => tabGet (fun _ => (0 : Word)) t.gnsKeep a
    let nav := houseRuns s 3 = true
    let alarm := s.on GNS_NAV_STATUS_doa_alarm || s.on GNS_NAV_STATUS_peak_alarm
    let asleep := s.on GNS_NAV_STATUS_asleep
    (domainOn s 4 = false → exec (.streamFault i cause sat rms glitch) s = .next s ∧ exec (.streamClear i sat rms) s = .next s) ∧
    (domainOn s 4 = true → Gives (exec (.streamFault i cause sat rms glitch) s) (fun t => t.on (GSTm_STATUS_ok i) = false ∧ (t.get GNS_STATUS_str_ok).testBit i = false ∧
      (tabGet (fun _ => none) s.gns.faultAt i = none → t.on GNS_EVENTS_str_fault = true) ∧
      tabGet (fun _ => none) t.gns.faultAt i = some s.steady ∧ ∀ j, j < 128 →
        if pairState s j = 2 ∧ signalL5 (pairSignal s j) = decide (i.val % 2 = 1) then
          (i.val < 2 → pairState t j = 3 ∧ (t.gpair j).lostBy = some i.val) ∧ (2 ≤ i.val → pairState t j = 2 ∧ bitAt (t.pairStat j) 4 = false)
        else t.pairStat j = s.pairStat j)) ∧
    let faultAt := tabGet (fun _ => none) s.gns.faultAt i
    let quiet := faultAt = none ∨ ∃ at_, faultAt = some at_ ∧ s.passed at_ 10000000 = true
    ((s.get GNS_CTL_str_en).testBit i = false ∨ ¬ quiet → exec (.streamClear i sat rms) s = .next s) ∧
    (domainOn s 4 = true → (s.get GNS_CTL_str_en).testBit i = true → quiet → Gives (exec (.streamClear i sat rms) s) (fun t => t.on (GSTm_STATUS_ok i) = true ∧
      (t.get GNS_STATUS_str_ok).testBit i = true ∧ tabGet (fun _ => none) t.gns.faultAt i = none ∧ (nav → ∀ j, j < 128 → pairState s j = 3 → bitAt (s.pairCtl j) 0 = true →
        (s.gpair j).lostBy = some i.val → pairState t j = 1 ∧ bitAt (t.pairCtl j) 1 = true))) ∧
    (Writes s m GNS_CH_CTL w →
      (bitAt old 0 = false → bitAt w 0 = true → signalOk (fieldOf w 11 3) = false → exec (.pairRun m w) s = .fault .reservedValue) ∧
      (bitAt old 0 = false → bitAt w 0 = true → signalOk (fieldOf w 11 3) = true → Gives (exec (.pairRun m w) s) (fun t => t.pairCtl q = w ∧ pairState t q = 1 ∧ pairs t q ∧
        (t.gpair q).pullAt = if bitAt w 1 || (tabGet (fun _ => none) s.gns.top (fieldOf w 11 3)).isSome then some s.steady else none)) ∧
      (bitAt old 0 = false → bitAt w 0 = false → Gives (exec (.pairRun m w) s) (fun t => t.pairCtl q = w ∧ t.pairStat q = s.pairStat q ∧ pairs t q)) ∧
      (bitAt old 0 = true → bitAt w 0 = false → Gives (exec (.pairRun m w) s) (fun t => t.pairCtl q = putField old 0 0 0 ∧ pairState t q = 0 ∧ pairs t q)) ∧
      (bitAt old 0 = true → bitAt w 0 = true → signalOk (pairSignal s q) = true → Gives (exec (.pairRun m w) s) (fun t => t.pairCtl q = old ∧
        t.pairStat q = s.pairStat q ∧ pairs t q))) ∧
    let sig := pairSignal s p
    let pulled := st = 1 ∧ s.on GNS_CTL_en = true ∧ (s.get GNS_STATUS_str_ok).testBit (streamA sig) = true ∧
      ∃ at_, (s.gpair p).pullAt = some at_ ∧ t80Diff s.steady at_ ≤ ((50 * nsU 1000000 : Nat) : Int)
    (pulled → Gives (exec (.pairPullInDone p ca cb lb) s) (fun t => pairs t p ∧ t.on GNS_EVENTS_ch_lock = true ∧ (t.gpair p).lockAt = s.steady ∧
      t.pairStat p = w40 ((if dual then cb.toNat else 0) * 2 ^ 17 + ca.toNat * 2 ^ 10 + b2n (dual && lb) * 2 ^ 4 + 2 ^ 3 + 2))) ∧
    (¬ pulled → exec (.pairPullInDone p ca cb lb) s = .next s) ∧
    (st = 2 → s.passed (s.gpair p).lockAt 100000000 = true → Gives (exec (.pairLost p) s) (fun t => pairState t p = 3 ∧ pairs t p ∧
      t.on GNS_EVENTS_ch_lost = true ∧ (t.gpair p).lostBy = none ∧ (t.gpair p).symbols = true)) ∧
    (st = 2 → s.passed (s.gpair p).lockAt 100000000 = false → exec (.pairLost p) s = .next s) ∧
    (st = 2 → Gives (exec (.pairLockBLoss p) s) (fun t => t.pairStat p = putField (s.pairStat p) 4 4 0 ∧ pairs t p)) ∧
    let epoch := msNow s % 1000 % max 1 (s.get GNS_EPOCH_epoch_ms) = 0 ∧ (s.gpair p).recAt ≠ some (msNow s)
    let c := atCentre s p x
    (st = 2 → epoch → Gives (exec (.measRecord p x) s) (fun t => pairs t p ∧ pairState t p = 2 ∧ bitAt (t.pairStat p) 3 = x.lockA ∧
        bitAt (t.pairStat p) 4 = (dual && x.lockB) ∧ (t.gpair p).recAt = some (msNow s) ∧ (x.lockA = true → (t.gpair p).lockAt = s.steady) ∧
        ∃ w0 w3 : Word, fieldOf w0 39 31 = sig ∧ fieldOf w0 30 24 = p.val ∧ fieldOf w0 9 0 = msNow s % 1000 ∧ fieldOf w3 39 24 = c.dphi.toNat ∧
          bitAt w3 1 = x.slip ∧ bitAt w3 0 = (x.lockA && (dual && x.lockB) && x.whole) ∧
          pack t (s.get GNS_FIFO_meas_fifo) [w0, c.code, c.carrier, w3])) ∧
    (st = 2 → ¬ epoch → exec (.measRecord p x) s = .next s) ∧
    (st ≠ 2 → exec (.pairLost p) s = .next s ∧ exec (.pairLockBLoss p) s = .next s ∧ exec (.measRecord p x) s = .next s) ∧
    let giveSymbols := (st = 2 ∧ count.val = 32) ∨ (st = 3 ∧ (s.gpair p).symbols = true ∧ count.val ≠ 0)
    (giveSymbols → Gives (exec (.symbolRecord p count ms sym) s) (fun t => pairs t p ∧ t.pairStat p = putField (s.pairStat p) 5 5 1 ∧
      (t.gpair p).symbols = false ∧
      pack t (s.get GNS_FIFO_sym_fifo) [w40 (sig * 2 ^ 31 + p.val * 2 ^ 24 + count.val * 2 ^ 10 + ms.val), w40 (sym.toNat % 2 ^ count.val)])) ∧
    (¬ giveSymbols → exec (.symbolRecord p count ms sym) s = .next s) ∧
    let cells := s.gns.cells + entryCells s entry
    let esig := fieldOf (bankEntry s entry) 34 26
    let best := entryPeaks s entry peaks
    let again := (secondaries s esig best).any (fun k => (tabGet (fun _ => []) s.gns.second entry).any (fun (e : Nat × BankPeak) =>
      decide (e.1 = esig) && decide (codeApart esig e.2.code.toNat k.code.toNat ≤ 32) && decide ((peakHz e.2 - peakHz k).natAbs ≤ 10)))
    (s.on GNS_STATUS_sweeping = false → exec (.bankEntryEnd peaks) s = .next s ∧ exec .sweepDone s = .next s) ∧
    (s.passed s.gns.sweepAt (dwellNs s cells) = false → exec (.bankEntryEnd peaks) s = .next s) ∧
    (s.on GNS_STATUS_sweeping = true → entry < 256 → s.passed s.gns.sweepAt (dwellNs s cells) = true → Gives (exec (.bankEntryEnd peaks) s) (fun t =>
      t.gns.entry = nextEntry s 256 (entry + 1) ∧ t.gns.cells = cells ∧
      tabGet (fun _ => none) t.gns.top esig = best.find? (fun k => decide (k.stream.val < 2)) ∧
      (nav → t.gns.flagged = s.gns.flagged.filter (fun x => again == false || decide (x ≠ esig)) ++ if again = true then [esig] else []) ∧
      (¬ nav → t.gns.flagged = s.gns.flagged) ∧
      (best = [] → t.fifos = s.fifos) ∧
      (∀ k, best = [k] → pack t (s.get GNS_FIFO_peak_fifo) [w40 (esig * 2 ^ 31 + k.stream.val * 2 ^ 29 + 1 * 2 ^ 26 + k.code.toNat * 2 ^ 8),
        w40 (k.doppler.toNat * 2 ^ 28 + k.level.toNat * 2 ^ 20 + s.get GNS_BANK_SWEEPS_sweeps % 2 ^ 20)]))) ∧
    let swept := dwellNs s s.gns.cells
    (s.on GNS_STATUS_sweeping = true → 256 ≤ entry → s.gns.restart = none → s.gns.cells ≠ 0 → s.passed s.gns.sweepAt swept = true →
      Gives (exec .sweepDone s) (fun t => t.on GNS_EVENTS_sweep_done = true ∧
        t.get GNS_BANK_SWEEPS_sweeps = (s.get GNS_BANK_SWEEPS_sweeps + 1) % 2 ^ 32 ∧
        t.gns = { s.gns with entry := nextEntry s 256 0, cells := 0, restart := none, sweepAt := t80Add s.gns.sweepAt (nsU swept : Nat) })) ∧
    (∀ at_, s.gns.restart = some at_ → s.passed at_ 0 = true → Gives (exec .bankRestart s) (fun t =>
      t.gns = { s.gns with entry := nextEntry s 256 0, cells := 0, restart := none, sweepAt := at_ } ∧
      t.on GNS_STATUS_sweeping = (s.on GNS_CTL_en && s.on GNS_CTL_bank_en))) ∧
    (∀ at_, s.gns.restart = some at_ → s.passed at_ 0 = false → exec .bankRestart s = .next s) ∧
    (s.gns.restart = none → exec .bankRestart s = .next s) ∧
    (Writes s m GNS_KEEP_DATA w → Gives (exec (.keepDataAccess m true w) s) (fun t => kept t at_ = w ∧ (∀ a, a ≠ at_ → kept t a = kept s a) ∧
      t.get GNS_KEEP_ADDR_addr = (at_ + 1) % 2 ^ 14)) ∧
    (Reads s m GNS_KEEP_DATA → Gives (exec (.keepDataAccess m false w) s) (fun t => t.gnsKeep = s.gnsKeep ∧ t.get GNS_KEEP_ADDR_addr = (at_ + 1) % 2 ^ 14)) ∧
    (houseRuns s 3 = false → exec (.timingSolution fix) s = .next s ∧ exec (.spoofAlarm doa) s = .next s ∧ exec .spoofClear s = .next s ∧
      exec .sentinelSleep s = .next s ∧ exec .sentinelWake s = .next s ∧ exec (.surveyEnd px py pz unc) s = .next s) ∧
    let solved : State := { s with gns := { s.gns with solved := some s.tb.sec, orbits := fix.orbits.val, aims := fix.aims } }
    let heard := doaSecond (doaSecond solved false) true
    let usable := navUsable s fix
    let used := navUsed s usable
    let judged : State := { heard with gns := { heard.gns with signals := usable } }
    let alarmed := alarm || spoofDue judged true || spoofDue judged false
    let onTime := s.gns.solved ≠ some s.tb.sec ∧ s.tb.ns ≤ 200000000
    let bound := fix.space.toNat + ionoPart used fix.iono.toNat + fix.tropo.toNat + fix.noise.toNat + fix.projected.toNat + fix.realise.toNat
    (domainOn s 4 = false ∨ ¬ onTime → exec (.timingSolution fix) s = .next s) ∧
    (nav → domainOn s 4 = true → onTime → asleep = true → exec (.timingSolution fix) s = .next solved) ∧
    (nav → domainOn s 4 = true → onTime → asleep = false →
      (alarmed = true ∨ used = [] ∨ (s.get GNS_STATUS_str_ok).testBit 0 = false → Gives (exec (.timingSolution fix) s) (fun t => t.get GNS_NAV_STATUS_fix = 0 ∧
        t.get GNS_NAV_STATUS_used = used.length % 128 ∧ t.get (PAL_Sn_ADV_qrank 9) = 15 ∧ (t.slot 9).pend = (s.slot 9).pend)) ∧
      (alarmed = false → (s.get GNS_STATUS_str_ok).testBit 0 = true → s.on GNS_POS_CFG_pos_valid = true → 4 ≤ used.length →
        Gives (exec (.timingSolution fix) s) (fun t =>
          t.get GNS_NAV_STATUS_fix = 2 ∧ t.get GNS_NAV_STATUS_used = used.length % 128 ∧ t.get (PAL_Sn_ADV_qrank 9) = 2 ∧ t.rd (PAL_Sn_BOUND 9) = w40 bound ∧
          (fix.sample ≠ 0x7FFFFFFFFF → fix.sample ≠ 0x8000000000 → fix.tai.toNat = s.now.sec → s.on TB_STATUS_time_valid = true →
            (t.slot 9).pend = (s.slot 9).pend ++ [fix.sample.toInt])))) ∧
    (∀ from_, s.gns.surveyAt = some from_ → s.on GNS_NAV_STATUS_surveying = true → nav → s.passed from_ (s.get GNS_SURVEY_survey_s * 1000000000) = true →
      Gives (exec (.surveyEnd px py pz unc) s) (fun t => t.rd GNS_POS_X = px ∧ t.rd GNS_POS_Y = py ∧ t.rd GNS_POS_Z = pz ∧ t.get GNS_POS_CFG_pos_unc = unc.toNat ∧
        t.on GNS_POS_CFG_pos_valid = true ∧ t.on GNS_NAV_STATUS_surveying = false ∧ t.gns = { s.gns with surveyAt := none })) ∧
    (s.gns.surveyAt = none → exec (.surveyEnd px py pz unc) s = .next s) ∧
    (nav → spoofDue s doa = true → Gives (exec (.spoofAlarm doa) s) (fun t => t.get (PAL_Sn_ADV_qrank 9) = 15 ∧ (t.slot 9).cmdFault = true ∧ t.gns.clearFrom = none ∧
      srcStatus t 111 = true ∧ (doa = true → t.on GNS_NAV_STATUS_doa_alarm = true) ∧ (doa = false → t.on GNS_NAV_STATUS_peak_alarm = true))) ∧
    (spoofDue s doa = false → exec (.spoofAlarm doa) s = .next s) ∧
    (∀ from_, s.gns.clearFrom = some from_ → alarm = true → nav → s.passed from_ (s.get GNS_SPOOF_HOLD_hold_s * 1000000000) = true →
      Gives (exec .spoofClear s) (fun t => t.on GNS_NAV_STATUS_doa_alarm = false ∧ t.on GNS_NAV_STATUS_peak_alarm = false ∧ (t.slot 9).cmdFault = false)) ∧
    (s.gns.clearFrom = none → exec .spoofClear s = .next s) ∧
    let other := s.get PAL_STATE_state = 2 ∧ s.on PAL_STATE_sel_valid = true ∧ s.get PAL_STATE_sel_slot ≠ 9
    let sleepDue := s.gns.sentinel = false ∨ s.passed s.gns.sentAt (s.get GNS_SENT_awake_s * 1000000000) = true
    (nav → s.get GNS_SENT_period_s ≠ 0 → asleep = false → sleepDue → other ∨ twStandby s = true → Gives (exec .sentinelSleep s) (fun t =>
      t.on GNS_NAV_STATUS_asleep = true ∧ t.on GNS_CTL_en = false ∧ t.on GNS_CTL_fe_en = false ∧ t.gns.sentinel = true ∧ t.gns.sentAt = s.steady ∧
      (∀ j, j < 128 → pairState t j = 0) ∧ (s.on PAL_STATE_switching = false → t.on (PAL_Sn_CFG_lockout 9) = true ∧ t.on (PAL_Sn_CFG_enable 9) = false))) ∧
    (s.get GNS_SENT_period_s = 0 ∨ asleep = true ∨ ¬ sleepDue → exec .sentinelSleep s = .next s) ∧
    let streamsOk := Nat.land (s.get GNS_CTL_str_en) (s.get GNS_STATUS_str_ok) = s.get GNS_CTL_str_en
    let woken := fun (t : State) => t.on GNS_NAV_STATUS_asleep = false ∧ t.on GNS_CTL_fe_en = true ∧ t.gns.sentAt = s.steady ∧
      (streamsOk → t.gns.wake = 2 ∧ t.on GNS_CTL_en = true ∧ t.on GNS_CTL_bank_en = true) ∧
      (¬ streamsOk → t.gns.wake = 1 ∧ t.on GNS_CTL_en = s.on GNS_CTL_en)
    (nav → asleep = true → sentinelLeave s = false →
      (s.passed s.gns.sentAt (s.get GNS_SENT_period_s * 1000000000) = true → Gives (exec .sentinelWake s) (fun t => woken t ∧ t.gns.sentinel = s.gns.sentinel)) ∧
      (s.passed s.gns.sentAt (s.get GNS_SENT_period_s * 1000000000) = false → exec .sentinelWake s = .next s)) ∧
    (nav → sentinelLeave s = true → Gives (exec .sentinelWake s) (fun t => t.gns.sentinel = false ∧ t.on GNS_NAV_STATUS_asleep = false ∧
      (asleep = true → woken t) ∧ (s.on PAL_STATE_switching = false → t.on (PAL_Sn_CFG_lockout 9) = false)))

/-! ## The line ports, the sitter table and the services on them -/

/-- The line ports (R156, R174, R232, R322, R323, R325 to R332, R342, R355): a LAUNCH stroke, which waits while its line is taken, the reception of a frame up to its buffer and descriptor,
and where the NTP service runs its answer; the departure of the next frame, the stamp queue, links and configuration.
Where the spec leaves a point open it states the model's choice: log 106, 107, 108, 146, 148, 156. -/
def Obligations.LinePorts : Prop :=
  ∀ (s : State) (m : Master) (p sub i : Fin 4) (n : Fin 65536) (bytes : List (BitVec 8)) (good : Bool) (age : BitVec 24) (off : BitVec 14) (skew : BitVec 20) (w : Word),
    let on := unitErr s (LPp_CFG p) = none ∧ s.on (LPp_CFG_en p) = true
    let up := (s.get (LPp_STATUS_link p)).testBit sub = true
    let bs := bytes.map BitVec.toNat
    let takes := s.on (BRGg_CTL_rx_en p) = true ∧ unitErr s (BRGg_CTL p) = none ∧ unitErr s FIFO_IDX = none ∧ addressed s p bs = true
    let stamp := t80Add s.now (-(age.toNat : Int) + s.getI (LPp_RX_OFS_val p))
    let counted := fun (t : State) (f : Fld) => t.get f = (s.get f + 1) % 2 ^ 32
    let s0 := hostFrame s p
    let leave := t80Add s0.now ((off.toNat : Int) + s0.getI (LPp_TX_OFS_val p))
    let q := (s.port p).tsq
    let old := fun (e : Nat × Word × T80) => stampAged s p e.2.2
    let k := (s.led n).stroke
    let g := fieldOf k.act 34 33
    let desc := groupBase g + fieldOf k.act 15 0
    (¬ (on ∧ up) → exec (.lpFrameReceive p sub bytes good age) s = .next s) ∧
    (on → up → good = false → Gives (exec (.lpFrameReceive p sub bytes good age) s) (fun t => OnlyRegisters s t ∧ counted t (LPp_CNT_FCS_count p))) ∧
    (on → up → good = true → (parseFrame bs = none ∨ ¬ takes → Gives (exec (.lpFrameReceive p sub bytes good age) s) (fun t => OnlyRegisters s t ∧
      counted t (LPp_CNT_RX_count p)))) ∧
    (∀ r, on → up → good = true → parseFrame bs = some r → takes → (r.cls = 7 ∨ (r.cls ≤ 4 ∧ s.on (LPp_STATUS_cal_valid p) = false) →
      Gives (exec (.lpFrameReceive p sub bytes good age) s) (fun t => OnlyRegisters s t ∧ counted t (LPp_CNT_RX_count p) ∧ counted t (LPp_CNT_RX_DISCARD_count p)))) ∧
    (∀ r, on → up → good = true → parseFrame bs = some r → takes → r.cls ≠ 7 → (r.cls ≤ 4 → s.on (LPp_STATUS_cal_valid p) = true) → s.on TST_CTL_stamp_en = false →
      let ff := if r.cls = 6 then s.get (BRGg_AUX_FIFO_host_free p) else s.get (BRGg_AUX_FIFO_free p)
      let ring := if r.cls = 6 then s.get (BRGg_AUX_FIFO_host_rx p) else ringFifo s p r.cls
      let pop := fifoPop (s.fifo ff)
      (pop.1 = none → Gives (exec (.lpFrameReceive p sub bytes good age) s) (fun t => OnlyRegisters s t ∧ counted t (LPp_CNT_RX_NOBUF_count p))) ∧
      (∀ b, pop.1 = some b → s.get (BRGg_RX_CFG_buf_bytes p) < bs.length ∨ fifoPacket s ring (16 + p) [0, 0, 0, 0] = none →
        Gives (exec (.lpFrameReceive p sub bytes good age) s) (fun t => OnlyRegisters s t ∧ counted t (LPp_CNT_RX_NOBUF_count p))) ∧
      (∀ b, pop.1 = some b → bs.length ≤ s.get (BRGg_RX_CFG_buf_bytes p) → fifoPacket s ring (16 + p) [0, 0, 0, 0] ≠ none →
        Gives (exec (.lpFrameReceive p sub bytes good age) s) (fun t => tabGet (fun _ => ⟨0, 0⟩) (t.port p).given (fieldOf b 31 0) = steadyOf s stamp ∧
          (serves s r.cls = false → ∃ w3 : Word, ∀ s',
            fifoPacket (s.setFifo ff pop.2) ring (16 + p) [w40 (fieldOf b 31 0), w40 (bs.length + sub.val * 2 ^ 14 + r.cls * 2 ^ 16 + r.l4 * 2 ^ 19 +
              b2n r.ipv6 * 2 ^ 30 + b2n r.vlan * 2 ^ 31), w40 (s40Of stamp), w3] = some s' → t.fifos = s'.fifos) ∧
          (serves s 2 = true → r.cls = 2 → ring ≠ ff → (s.fifo ring).closed = [] → (s.fifo ring).packet = true → (s.fifo ring).begun = false → s.on STZ_CTL_en = false →
            r.l4 + 48 ≤ bs.length → (∀ g : Fin 4, g ≠ p → s.on (BRGg_CTL_rx_en g) = false) → stampAged s p (steadyOf s stamp) = false →
            (∀ j, j ≤ bs.length / 5 → plainMemory (fieldOf b 31 0 + j) ∧ memReadErr s (groupMaster p true) (fieldOf b 31 0 + j) = none ∧
              memWriteErr s (groupMaster p true) (fieldOf b 31 0 + j) = none) →
            (t.fifo ring).closed = [] ∧ ∃ x : TxFrame, (t.port p).txq = (s.port p).txq ++ [x] ∧
              let req := bs.drop r.l4
              let ans := x.bytes.drop r.l4
              ans.length = 48 + (if s.on GLZ_CTL_ntp_ef_en then 16 else 0) ∧ ans.getD 0 0 % 64 = req.getD 0 0 / 8 % 8 * 8 + 4 ∧
              ans.getD 0 0 / 64 = s.get GLZ_ADV_li ∧ ans.getD 1 0 = s.get GLZ_ADV_stratum ∧ ans.getD 2 0 = req.getD 2 0 ∧ ans.getD 3 0 = 226 ∧
              octets ans 4 4 = [0, 0, 0, 0] ∧ octets ans 8 4 = beBytes 4 (rootDispersion (serviceBound s p false)) ∧
              octets ans 24 8 = octets req 40 8 ∧ x.ctl = sub.val * 2 ^ 14 + boundCheck s p ∧
              x.arm = w40 (2 ^ 39 + 2 ^ 37 + (r.l4 + 40) * 2 ^ 26 + (r.l4 - 2) * 2 ^ 10))))) ∧
    (¬ on ∨ s.fix.fatal = true → exec (.lpFrameDeparture p off) s = .next s) ∧
    (on → s.fix.fatal = false →
      (txChoose s0 p leave = none → exec (.lpFrameDeparture p off) s = .next s0) ∧
      (∀ f x, txChoose s0 p leave = some (f, x) →
        let s1 := (txWords s0 p f).2
        let ws := (txWords s0 p f).1
        let line := fieldOf (ws.getD 1 0) 15 14
        (txReserved ws = true → exec (.lpFrameDeparture p off) s = .fault .unpredictable) ∧
        (txReserved ws = false → (s1.get (LPp_STATUS_link p)).testBit line = false → Gives (exec (.lpFrameDeparture p off) s) (fun t =>
          (t.port p).last = (s1.port p).last ∧ (t.port p).txq.length + 1 = (s1.port p).txq.length)) ∧
        (txReserved ws = false → (s1.get (LPp_STATUS_link p)).testBit line = true → x = 1 → Gives (exec (.lpFrameDeparture p off) s) (fun t =>
          (t.port p).last = (s1.port p).last ∧ t.on (LPp_EVENTS_hold_missed p) = true)) ∧
        (txReserved ws = false → (s1.get (LPp_STATUS_link p)).testBit line = true → x ≠ 1 →
          let stale := bitAt (ws.getD 1 0) 17 = true ∧ fieldOf (ws.getD 1 0) 25 18 ≠ s1.get (BRGg_BSEQ_bseq p)
          (stale → Gives (exec (.lpFrameDeparture p off) s) (fun t => (t.port p).last = (s1.port p).last ∧ t.on (LPp_EVENTS_stale_bound p) = true)) ∧
          (¬ stale → Gives (exec (.lpFrameDeparture p off) s) (fun t => ∃ out : List Nat, (t.port p).last = some (line, out) ∧ 60 ≤ out.length ∧
            (f.bytes ≠ [] → bitAt f.arm 39 = false → f.lineage = none → out = f.bytes ++ List.replicate (60 - f.bytes.length) 0)))))) ∧
    (Reads s m (LPp_TSQ_ID p) → Gives (exec (.tsqPop m p) s) (fun t => (t.port p).tsq = (q.dropWhile old).tail ∧
      (q.takeWhile old ≠ [] → t.on (LPp_EVENTS_tsq_aged p) = true) ∧
      match (q.dropWhile old).head? with
      | none => t.rd (LPp_TSQ_ID p) = 0
      | some (id, x, _) => t.rd (LPp_TSQ_ID p) = w40 (2 ^ 39 + id) ∧ t.rd (LPp_TSQ_STAMP p) = x)) ∧
    (on → (s.get (LPp_CFG_sub_en p)).testBit sub = true → Gives (exec (.lpAlignLock p sub skew) s) (fun t => (t.get (LPp_STATUS_link p)).testBit sub = true ∧
      (t.get (LPp_STATUS_rx_lock p)).testBit sub = true ∧ t.on (LPp_STATUS_cal_valid p) = true ∧ t.get (LPp_SKEW_skew p sub) = skew.toNat ∧
      (¬ up → t.on (LPp_EVENTS_link_change p) = true) ∧ (t.slot (14 + p)).portFault = !syncELive t p)) ∧
    (¬ on ∨ (s.get (LPp_CFG_sub_en p)).testBit sub = false → exec (.lpAlignLock p sub skew) s = .next s) ∧
    (on → Gives (exec (.lpLinkLoss p sub) s) (fun t => (t.get (LPp_STATUS_link p)).testBit sub = false ∧ t.on (LPp_STATUS_cal_valid p) = false ∧
      (∀ j, j ≠ sub.val → (t.get (LPp_STATUS_link p)).testBit j = (s.get (LPp_STATUS_link p)).testBit j) ∧ (up → t.on (LPp_EVENTS_link_change p) = true) ∧
      (t.slot (14 + p)).portFault = !syncELive t p)) ∧
    (¬ on → exec (.lpLinkLoss p sub) s = .next s) ∧
    (Writes s m (LPp_CFG p) w → let en := s.on (LPp_CFG_en p)
      (en = true → bitAt w 0 = false → putField w 0 0 1 = s.rd (LPp_CFG p) → Gives (exec (.lpCfgWrite m p 0 w) s) (fun t => t.rd (LPp_CFG p) = w ∧
        t.get (LPp_STATUS_link p) = 0)) ∧
      (en = true → bitAt w 0 = true ∨ putField w 0 0 1 ≠ s.rd (LPp_CFG p) → Gives (exec (.lpCfgWrite m p 0 w) s) (fun t => OnlyRegisters s t ∧
        t.rd (LPp_CFG p) = s.rd (LPp_CFG p) ∧ t.on (LPp_EVENTS_cfg_ignored p) = true)) ∧
      (en = false → bitAt w 0 = true → lpCfgOk w = false → exec (.lpCfgWrite m p 0 w) s = .fault .reservedValue) ∧
      (en = false → bitAt w 0 = false ∨ lpCfgOk w = true → Gives (exec (.lpCfgWrite m p 0 w) s) (fun t => OnlyRegisters s t ∧ t.rd (LPp_CFG p) = w))) ∧
    (let a := ([LPp_CFG p, LPp_TX_OFS p, LPp_RX_OFS p, LPp_RX_AGE p] : List Nat).getD i.val 0
     i.val ≠ 0 → Writes s m a w → Gives (exec (.lpCfgWrite m p i w) s) (fun t => OnlyRegisters s t ∧ if s.on (LPp_CFG_en p) then
      t.rd a = s.rd a ∧ t.on (LPp_EVENTS_cfg_ignored p) = true else t.rd a = w)) ∧
    (strokeDue s n 4 = false → launchWaits s n = false → exec (.launchStrokeExecute n off) s = .next s) ∧
    (strokeDue s n 4 = true ∨ launchWaits s n = true → strokeOk k = true →
      let answers := unitErr s (BRGg_CTL g) = none ∧ unitErr s (LPp_CFG g) = none
      let lateNs := (lateReport s (s.led n)).2
      (¬ answers → Gives (exec (.launchStrokeExecute n off) s) (fun t => Finished s t n 5 lateNs)) ∧
      (answers → fieldOf k.act 23 16 ≠ s.get (BRGg_GEN_gen g) ∨ (s.led n).twin = true → Gives (exec (.launchStrokeExecute n off) s) (fun t => Finished s t n 6 lateNs)) ∧
      (answers → fieldOf k.act 23 16 = s.get (BRGg_GEN_gen g) → (s.led n).twin = false →
        let words := [s.ld desc, s.ld (desc + 1), s.ld (desc + 2), s.ld (desc + 3)]
        let at_ := t80Add s.now ((off.toNat : Int) + s.getI (LPp_TX_OFS_val g))
        let late := t80Diff at_ (strokeAt k)
        let frame := fieldOf (s.ld desc) 31 0
        let line := fieldOf (words.getD 1 0) 15 14
        (∀ j, j < 4 → memReadErr s (groupMaster g true) (desc + j) = none) →
        (∀ j, j ≤ fieldOf (s.ld (desc + 1)) 13 0 / 5 → memReadErr s (groupMaster g true) (frame + j) = none) →
        let ws := [words.getD 0 0, putField (words.getD 1 0) 17 16 0, words.getD 2 0, words.getD 3 0]
        let waits := (s.skb.pushWait).filter (fun j => decide (j ≠ n.val))
        let leaves := s.on (LPp_CFG_en g) = true ∧ (s.get (LPp_STATUS_link g)).testBit line = true
        (txReserved ws = true → exec (.launchStrokeExecute n off) s = .fault .unpredictable) ∧
        (txReserved ws = false → leaves → lineBusy s g line at_ = true →
          exec (.launchStrokeExecute n off) s = .next { s with skb := { s.skb with pushWait := waits ++ [n.val] } }) ∧
        (txReserved ws = false → ¬ leaves ∨ lineBusy s g line at_ = false → Gives (exec (.launchStrokeExecute n off) s) (fun t =>
          (leaves → ∃ out : List Nat, (t.port g).last = some (line, out) ∧ 60 ≤ out.length) ∧ (¬ leaves → (t.port g).last = (s.port g).last) ∧
          if late < (blockPeriod s g : Int) then Finished s t n 0 0 else Finished s t n 1 (min 0xFFFFFFFF ((late.toNat + 1023) / 1024))))))

/-- The sitter table and the services on the line ports (R334, R335, R337, R338, R340, R341, R352, R353, R357): STZ command words, cache takeovers and write-backs, the table's clearing,
and the PTP and ESMC messages sent and missed.
Where the spec leaves a point open it states the model's choice: log 9, 109, 110, 148, 156. -/
def Obligations.SittersAndServices : Prop :=
  ∀ (s : State) (m : Master) (g p : Fin 4) (n : BitVec 20) (kind : Fin 3) (c : PtpCfg) (i : Fin 6) (event : Bool),
    let f := s.get STZ_CMD_FIFO_fifo
    let pop := fifoPop (s.fifo f)
    let on := s.on STZ_CTL_en = true ∧ unitErr s STZ_CTL = none ∧ unitErr s FIFO_IDX = none
    let held := s.stz.cache.find? (fun e => decide (e.1 = n.toNat))
    let at_ := s.get STZ_BASE_base + 12 * n.toNat
    let base := s.get STZ_BASE_base
    let ptp := houseRuns s 6 = true
    let sends := ptp ∧ s.on (LPp_CFG_en p) = true ∧ unitErr s (LPp_CFG p) = none
    let seq := tabGet (fun _ => 0) s.ptp.seqs (4 * p)
    let joins := fun (t : State) (x : TxFrame) => t.port p = { s.port p with txq := (s.port p).txq ++ [x] } ∧ ∀ j, j ≠ p.val → t.port j = s.port j
    (¬ on → exec .stzCmdWord s = .next s) ∧
    (on → pop.1 = none → exec .stzCmdWord s = .next s) ∧
    (∀ w, on → pop.1 = some w →
      let k := fieldOf w 37 18
      let j := 3 * fieldOf w 17 16
      let ws := stzWords s k
      (fieldOf w 39 38 = 0 ∨ fieldOf w 39 38 = 3 → exec .stzCmdWord s = .fault .reservedValue) ∧
      (fieldOf w 39 38 = 1 → Gives (exec .stzCmdWord s) (fun t => t.fifo f = pop.2 ∧ ∀ x, x < 12 → (stzWords t k).getD x 0 =
        if x = j + 2 then putField (ws.getD (j + 2) 0) 11 0 (min 4095 (fieldOf (ws.getD (j + 2) 0) 11 0 + 1)) else ws.getD x 0)) ∧
      (fieldOf w 39 38 = 2 → Gives (exec .stzCmdWord s) (fun t => t.fifo f = pop.2 ∧ ∀ x, x < 12 → (stzWords t k).getD x 0 =
        if x = j + 1 then putField (ws.getD (j + 1) 0) 5 2 (fieldOf w 15 12) else ws.getD x 0))) ∧
    (∀ b, held = some (n.toNat, b) →
      let saved := fun (t : State) => b.dirtyAt ≠ none → ∀ x, (h : x < b.words.length) → t.ld (at_ + x) = b.words[x]
      (b.group ≠ g.val → Gives (exec (.sitterCacheTakeover g n) s) (fun t => saved t ∧
        t.stz.cache.find? (fun e => decide (e.1 = n.toNat)) = some (n.toNat, { group := g, dirtyAt := none, words := b.words }) ∧
        t.get (BRGg_SC_TAKEOVERS_count g) = (s.get (BRGg_SC_TAKEOVERS_count g) + 1) % 2 ^ 32)) ∧
      (unitErr s MEM_STATUS = none → Gives (exec (.sitterWriteback n) s) (fun t => saved t ∧
        t.stz.cache.find? (fun e => decide (e.1 = n.toNat)) = some (n.toNat, { b with dirtyAt := none })))) ∧
    ((∀ e ∈ s.stz.cache, e.1 = n.toNat → e.2.group = g.val) → exec (.sitterCacheTakeover g n) s = .next s) ∧
    (held = none ∨ unitErr s MEM_STATUS ≠ none → exec (.sitterWriteback n) s = .next s) ∧
    (Writes s m STZ_CMD 1 → Gives (exec (.reseedAndClear m) s) (fun t => t.stz = { cache := [], keySerial := s.stz.keySerial + 1, cleared := false } ∧
      t.on STZ_STATUS_clearing = true ∧ t.on STZ_STATUS_ready = false ∧ SameMemory s t)) ∧
    (Writes s m STZ_CMD 2 → Gives (exec (.writeBackCaches m) s) (fun t => ∀ e ∈ t.stz.cache, e.2.dirtyAt = none)) ∧
    (s.on STZ_STATUS_clearing = false → exec .stzTableClearDone s = .next s) ∧
    (s.on STZ_STATUS_clearing = true → Gives (exec .stzTableClearDone s) (fun t => t.on STZ_STATUS_clearing = false ∧
      t.on STZ_STATUS_ready = s.on STZ_CTL_en ∧ t.stz.cleared = true ∧
      ∀ a, t.ld a = if base ≤ a ∧ a < base + 12582912 then memDefault a else s.ld a)) ∧
    (¬ sends ∨ unitErr s (BRGg_CTL p) ≠ none → exec (.ptpMessageSend p kind c) s = .next s) ∧
    (sends → unitErr s (BRGg_CTL p) = none → c.auth ≠ none → (kind = 0 ∧ c.twoStep = false → exec (.ptpMessageSend p kind c) s = .next s) ∧
      Gives (exec (.ptpMessageSend p kind c) s) (fun t => ∀ j, j ≠ p.val → t.port j = s.port j)) ∧
    (sends → unitErr s (BRGg_CTL p) = none → c.auth = none → Gives (exec (.ptpMessageSend p kind c) s) (fun t => ∃ x : TxFrame, joins t x ∧ x.stampId = none ∧
      x.sync = (decide (kind = 0) && c.twoStep) ∧ (c.header.length < 2048 → (bitAt x.arm 39 = true ↔ kind = 0 ∧ c.twoStep = false)) ∧
      (kind = 0 → tabGet (fun _ => 0) t.ptp.seqs (4 * p) = (seq + 1) % 65536) ∧ (kind = 2 → t.ptp = s.ptp) ∧
      (kind = 1 → x.ctl = 2 ^ 17 + s.get (BRGg_BSEQ_bseq p) * 2 ^ 18))) ∧
    (houseRuns s 6 = false → exec (.announceReceiptTimeout i) s = .next s ∧ exec (.esmcPduTimeout p) s = .next s) ∧
    (let heard := tabGet (fun _ => ⟨0, 0⟩) s.ptp.announce (18 + i)
     (s.ptp.clients.find? (fun e => decide (e.1 = i.val)) = none → exec (.announceReceiptTimeout i) s = .next s) ∧
     (∀ j (x : PtpClient), s.ptp.clients.find? (fun e => decide (e.1 = i.val)) = some (j, x) →
      (ptp → s.passed heard (x.announceMs * 1000000) = true → Gives (exec (.announceReceiptTimeout i) s) (fun t =>
        t.get (PAL_Sn_ADV_qrank (18 + i)) = 15 ∧ t.get (PAL_Sn_ADV_qsrc (18 + i)) = 3)) ∧
      (s.passed heard (x.announceMs * 1000000) = false → exec (.announceReceiptTimeout i) s = .next s))) ∧
    let sentBefore := tabGet (fun _ => (0, ⟨0, 0⟩)) s.ptp.esmcSent p
    let esmcDue := if event then sentBefore.1 ≠ s.get GLZ_ADV_ql_rank
      else (sentBefore.2.low = 0 ∧ sentBefore.2.sec = 0) ∨ s.passed sentBefore.2 1000000000 = true
    (¬ sends ∨ ¬ esmcDue → exec (.esmcPduSend p event) s = .next s) ∧
    (sends → esmcDue → Gives (exec (.esmcPduSend p event) s) (fun t => ∃ x : TxFrame, joins t x ∧ x.bytes.take 6 = [0x01, 0x80, 0xC2, 0, 0, 2] ∧
      x.bytes.getD 20 0 = (if event then 0x18 else 0x10) ∧ x.stampId = none ∧ x.sync = false ∧
      tabGet (fun _ => (0, ⟨0, 0⟩)) t.ptp.esmcSent p = (s.get GLZ_ADV_ql_rank, if event then sentBefore.2 else s.steady))) ∧
    (let heard := tabGet (fun _ => ⟨0, 0⟩) s.ptp.esmcHeard p
     (ptp → s.passed heard 5000000000 = true → Gives (exec (.esmcPduTimeout p) s) (fun t => t.get (PAL_Sn_ADV_qrank (14 + p)) = 15)) ∧
     (s.passed heard 5000000000 = false → exec (.esmcPduTimeout p) s = .next s))

/-! ## Spans and the Studio bus -/

/-- The span ports and the House function on them (R387, R390 to R399, R402, R403, R408): frames received and leaving (on a block boundary, while the line is
free), the lock, configuration, the exchange sent and
processed, and the end of a cross-colour window.
Where the spec leaves a point open it states the model's choice: log 40, 42, 43, 106, 120, 151, 156. -/
def Obligations.SpanPorts : Prop :=
  ∀ (s : State) (m : Master) (p : Fin 4) (i : Fin 3) (bytes : List (BitVec 8)) (good : Bool) (age : BitVec 24) (off : BitVec 14) (w : Word),
    let live := spanLive s p = true
    let bs := bytes.map BitVec.toNat
    let up := s.on (SPp_STATUS_link p) = true
    let counted := fun (t : State) (f : Fld) => t.get f = (s.get f + 1) % 2 ^ 32
    let quiet := s.on TST_CTL_stamp_en = false
    let stamp := t80Add s.now (-(age.toNat : Int) + s.getI (SPp_RX_OFS_val p))
    let rx := if 0x10 ≤ bs.getD 15 0 ∧ bs.getD 15 0 ≤ 0x1F then s.get (SPp_FIFO_rx_atel p) else s.get (SPp_FIFO_rx_span p)
    let receive := exec (.spFrameReceive p bytes good age) s
    let start := t80Add s.now (off.toNat : Int)
    let depart := exec (.spFrameDeparture p off) s
    let a := ([SPp_CFG p, SPp_TX_OFS p, SPp_RX_OFS p] : List Nat).getD i.val 0
    let house := houseRuns s 7 = true
    let s1 := drainStamps p 16 s
    let x := s1.span p
    let per := exchangePeriod s1 p
    let hold := t80OfUnits ((t80Units s1.now / per + 1) * per)
    (¬ (live ∧ up) → receive = .next s) ∧
    (live → up → good = false → Gives receive (fun t => OnlyRegisters s t ∧ counted t (SPp_CNT_FCS_count p))) ∧
    (live → up → good = true → spanTakes s p bs = false → Gives receive (fun t => OnlyRegisters s t ∧ counted t (SPp_CNT_RX_count p) ∧
      counted t (SPp_CNT_DISCARD_count p))) ∧
    (live → up → good = true → spanTakes s p bs = true → quiet →
      let pack := T80hi stamp :: T80lo stamp :: w40 (b2n (!s.on (SPp_STATUS_cal_valid p)) * 2 ^ 39 + bs.length) :: frameWords bs
      Gives receive (fun t => counted t (SPp_CNT_RX_count p) ∧ match pushPacket s rx pack with
        | some u => t.fifos = u.fifos
        | none => t.fifos = s.fifos ∧ counted t (SPp_CNT_RX_DROP_count p) ∧ t.on (SPp_EVENTS_rx_drop p) = true)) ∧
    (¬ live ∨ takePacket s (s.get (SPp_FIFO_tx p)) = none → depart = .next s) ∧
    (∀ ws u, live → takePacket s (s.get (SPp_FIFO_tx p)) = some (ws, u) →
      let w0 := ws.getD 0 0
      let len := fieldOf w0 13 0
      let tag := fieldOf w0 29 14
      let held := bitAt w0 39 = true
      let at_ := t80Of (ws.getD 1 0) (ws.getD 2 0)
      let formed := 60 ≤ len ∧ len ≤ 1514 ∧ 3 + (len + 4) / 5 ≤ ws.length
      let fine := held → t80Normal at_ = true
      let stale := bitAt w0 38 = true ∧ fieldOf w0 37 30 ≠ s.get (SPp_BSEQ_bseq p)
      let missed := held ∧ t80Lt (t80Add at_ (nsU 1000 : Nat)) start = true
      (¬ formed → depart = .fault .unpredictable) ∧
      (formed → ¬ fine → Gives depart (fun t => t.mem = s.mem)) ∧
      (formed → fine → held → t80Lt start at_ = true → depart = .next s) ∧
      let busy := (t80Units start : Int) - s.tb.steps < (s.span p).busy
      (formed → spBoundary s p ≤ off.toNat → depart = .next s) ∧
      (formed → fine → ¬ (held ∧ t80Lt start at_ = true) → up → ¬ missed → busy → depart = .next s) ∧
      (formed → fine → off.toNat < spBoundary s p → ¬ (held ∧ t80Lt start at_ = true) → ¬ up ∨ missed ∨ ¬ busy → quiet →
        match txRecord u p (if ¬ up then 3 else if missed then 1 else if stale then 2 else 0) tag
            (if up ∧ ¬ missed ∧ ¬ stale then t80Add start (s.getI (SPp_TX_OFS_val p)) else ⟨0, 0⟩) with
        | none => depart = .next s
        | some v => Gives depart (fun t => t.fifos = v.fifos ∧ (up → missed → t.on (SPp_EVENTS_hold_missed p) = true) ∧
            (up → ¬ missed → stale → t.on (SPp_EVENTS_stale_bound p) = true) ∧
            (up → ¬ missed → ¬ stale → counted t (SPp_CNT_TX_count p) ∧ (t.span p).last = wordsBytes len (ws.drop 3) ∧
              (t.span p).busy = (t80Units start : Int) - s.tb.steps + (spLineTime s p len : Nat))))) ∧
    (live → Gives (exec (.spAlignLock p) s) (fun t => OnlyRegisters s t ∧ t.on (SPp_STATUS_link p) = true ∧ t.on (SPp_STATUS_rx_lock p) = true ∧
      t.on (SPp_STATUS_cal_valid p) = true ∧ t.on (SPp_STATUS_an_done p) = (s.on (SPp_CFG_an_en p) && !s.on (SPp_CFG_mode p)) ∧
      (¬ up → t.on (SPp_EVENTS_link_change p) = true))) ∧
    (¬ live → exec (.spAlignLock p) s = .next s) ∧
    (Writes s m a w → Gives (exec (.spCfgWrite m p i w) s) (fun t => OnlyRegisters s t ∧ if s.on (SPp_CFG_en p) then
      t.rd a = s.rd a ∧ t.on (SPp_EVENTS_cfg_ignored p) = true else t.rd a = w)) ∧
    (¬ house ∨ ¬ live ∨ s.on KV_STATUS_tampered = true ∨ nodePos s = none → exec (.exchangeSend p) s = .next s) ∧
    (∀ pos, house → live → s.on KV_STATUS_tampered = false → nodePos s = some pos →
      let body := exchangeBody s1 p (addE (s1.get (SPp_BMAX_b p)) (emitTerm s1 (24 + p))) pos
      let sent := { x with heldTo := some hold, launched := (x.nextSeq :: x.launched).take 64, nextSeq := (x.nextSeq + 1) % 2 ^ 32 }
      let goes := fun (icv : List Nat) =>
        let fr := spanFrame s1 p (body ++ icv)
        let w0 := w40 (2 ^ 39 + 2 ^ 38 + s1.get (SPp_BSEQ_bseq p) * 2 ^ 30 + x.nextSeq % 0x8000 * 2 ^ 14 + fr.length)
        match pushPacket s1 (s1.get (SPp_FIFO_tx p)) (w0 :: T80hi hold :: T80lo hold :: frameWords fr) with
        | none => exec (.exchangeSend p) s = .next s1
        | some u => Gives (exec (.exchangeSend p) s) (fun t => t.span p = sent ∧ t.fifos = u.fifos)
      (x.heldTo = some hold → exec (.exchangeSend p) s = .next s1) ∧
      (x.heldTo ≠ some hold → spanAuth s1 p = false → goes (List.replicate 16 0)) ∧
      (∀ k, x.heldTo ≠ some hold → spanAuth s1 p = true → peerUid s1 p ≠ 0 → linkKey s1 "SPAN" (peerUid s1 p) = some k → goes (icvOf k body)) ∧
      (x.heldTo ≠ some hold → spanAuth s1 p = true → peerUid s1 p = 0 ∨ linkKey s1 "SPAN" (peerUid s1 p) = none → Gives (exec (.exchangeSend p) s) (fun t =>
        (t.sp = s1.sp ∧ t.fifos = s1.fifos) ∨ t.span p = sent))) ∧
    (¬ house ∨ unitErr s (SPp_CFG p) ≠ none → exec (.exchangeProcess p) s = .next s) ∧
    (house → unitErr s (SPp_CFG p) = none → takePacket s1 (s1.get (SPp_FIFO_rx_span p)) = none → exec (.exchangeProcess p) s = .next s1) ∧
    (∀ ws u, house → unitErr s (SPp_CFG p) = none → takePacket s1 (s1.get (SPp_FIFO_rx_span p)) = some (ws, u) →
      let b := (wordsBytes (fieldOf (ws.getD 2 0) 13 0) (ws.drop 3)).drop 14
      let n := fun (k l : Nat) => beNum (octets b k l)
      let formed := b.getD 0 0 = 1 ∧ b.getD 1 0 = 1 ∧ n 2 2 = 112 ∧ 112 ≤ b.length
      let icv := octets b 96 16
      let authentic := (spanAuth u p = false ∧ icv = List.replicate 16 0) ∨
        (spanAuth u p = true ∧ ∃ k, linkKey u "SPAN" (n 4 8) = some k ∧ icv = icvOf k (b.take 96))
      let add := fun (t : State) (f : Fld) => t.get f = (u.get f + 1) % 2 ^ 32
      let mine : SpStamp := { seq := n 12 4, at_ := t80Of (ws.getD 0 0) (ws.getD 1 0), uncal := bitAt (ws.getD 2 0) 39 }
      let same := peerUid u p = n 4 8 ∧ b.getD 92 0 = u.get (SPp_RATE_rate p) ∧ n 84 4 = u.get (SPp_LAMBDA_RX_pm p) ∧ n 88 4 = u.get (SPp_LAMBDA_TX_pm p)
      (¬ formed → Gives (exec (.exchangeProcess p) s) (fun t => OnlyRegisters u t ∧ add t (SPp_CNT_DISCARD_count p))) ∧
      (formed → ¬ authentic → Gives (exec (.exchangeProcess p) s) (fun t => OnlyRegisters u t ∧ add t (SPp_CNT_AUTH_count p) ∧
        t.on (SPp_LINK_ST_auth_fail p) = true)) ∧
      (formed → authentic → Gives (exec (.exchangeProcess p) s) (fun t => t.on (SPp_LINK_ST_auth_fail p) = false ∧ (t.span p).peerLast = some (n 12 4) ∧
        t.get (SPp_PEER_HI_val p) = n 4 4 ∧ t.get (SPp_PEER_LO_val p) = n 8 4 ∧ (t.span p).recv.head? = some mine ∧
        ((u.span p).sent = [] → add t (SPp_CNT_UNPAIRED_count p) ∧ t.on (SPp_LINK_ST_peer_ok p) = false))) ∧
      (∀ t2 t3 pos, formed → authentic → same → u.get (SPp_LAMBDA_RX_pm p) ≠ 0 → u.get (SPp_LAMBDA_TX_pm p) ≠ 0 → n 26 4 ≠ 0xFFFFFFFF → n 40 4 ≠ 0xFFFFFFFF →
        ((mine :: (u.span p).recv).take 16).find? (fun e => decide (e.seq = n 26 4)) = some t2 → (u.span p).sent.find? (fun e => decide (e.seq = n 40 4)) = some t3 →
        nodePos u = some pos → t2.uncal = false → t3.uncal = false → (t80Diff t3.at_ t2.at_).natAbs ≤ nsU 10000000 →
        let rtt := t80Diff t2.at_ (t80Be b 16) + t80Diff (t80Be b 30) t3.at_
        0 ≤ rtt → rtt ≤ (nsU 20000000 : Int) → Gives (exec (.exchangeProcess p) s) (fun t => t.rd (SPp_RTT p) = w40 rtt.toNat ∧
          add t (SPp_CNT_SAMPLES_count p) ∧ t.on (SPp_LINK_ST_peer_ok p) = true ∧ t.rd (PAL_Sn_BOUND (10 + p)) = w40 (n 44 5)))) ∧
    ((s.span p).xcFrom = none ∨ ¬ house → exec (.xcWindowEnd p) s = .next s) ∧
    (∀ from_, (s.span p).xcFrom = some from_ → house →
      (s.elapsed (secsAfter from_ (s.get (SPp_XC_xc_win p))) = false → exec (.xcWindowEnd p) s = .next s) ∧
      (s.elapsed (secsAfter from_ (s.get (SPp_XC_xc_win p))) = true → Gives (exec (.xcWindowEnd p) s) (fun t =>
        t.span p = { s.span p with xc := [], xcFrom := some s.steady } ∧ (xcPartner s p = none → t.regs = s.regs))))

/-- The Studio bus (R424 to R429): an attempt sends the frame, backs off after a collision or gives the frame up after sixteen,
and waits out the gap after any frame; a received frame is counted and, when
it is for this node, given to the FIFO of its type.
Where the spec leaves a point open it states the model's choice: log 128, 156, 174. -/
def Obligations.StudioBus : Prop :=
  ∀ (s : State) (outcome : Fin 3) (deferred own : Bool) (dst src kind : BitVec 8) (payload : List (BitVec 8)) (err : Fin 5),
    let may := stbMay s = true
    let n := s.stb.attempts + 1
    let counter := fun (t : State) (i : Nat) => t.rd (0x0D910 + i) = w40 (((s.rd (0x0D910 + i)).toNat + 1) % 2 ^ 32)
    let gap := fun (ns : Nat) => t80Add s.steady (nsU (ns + 960) : Nat)
    let oct := fun (ws : List Word) => stbOctets (fieldOf (ws.getD 0 0) 10 0)
    let free := s.elapsed s.stb.gapTo = true
    let attempt := fun (o : Out) (s1 : State) (q : Nat) (ws : List Word) => Gives o (fun t => t.fifos = s1.fifos ∧ (deferred = true → counter t 22) ∧
      if outcome = 0 then t.stb = { s.stb with cur := none, attempts := 0, backoff := none, last := ws, gapTo := gap ((8 + oct ws) * 80) } ∧ counter t 0
      else counter t 19 ∧ (outcome = 2 → counter t 20) ∧ t.stb.last = s.stb.last ∧ t.stb.gapTo = gap 320 ∧
        if 16 ≤ n then t.stb.cur = none ∧ t.on STB_EVENTS_excess = true ∧ counter t 21
        else t.stb.cur = some (q, ws) ∧ t.stb.attempts = n ∧ ∃ r, r < 2 ^ min n 10 ∧ t.stb.backoff = some (t80Add s.steady (nsU (r * 5120) : Nat)))
    let bs := payload.map BitVec.toNat
    let on := s.on STB_CFG_en = true ∧ unitErr s STB_CFG = none ∧ own = false
    let node := s.get STB_CFG_node
    let receive := exec (.stbFrameReceive dst src kind payload err own) s
    let fifo := if kind = 0 then s.get STB_RX_FIFO_rx_atel else if kind = 1 then s.get STB_RX_FIFO_rx_twin else s.get STB_RX_FIFO_rx_other
    (¬ may ∨ s.stb.cur ≠ none ∨ ¬ free ∨ stbNext s = none → exec (.stbFrameTransmit outcome deferred) s = .next s) ∧
    (∀ q ws s1, may → free → s.stb.cur = none → stbNext s = some (q, ws, s1) →
      let w0 := ws.getD 0 0
      let formed := fieldOf w0 23 16 < 128 ∧ fieldOf w0 10 0 ≤ 1500 ∧ fieldOf w0 31 24 = 0 ∧ fieldOf w0 15 11 = 0
      (¬ formed → exec (.stbFrameTransmit outcome deferred) s = .fault .unpredictable) ∧
      (formed → attempt (exec (.stbFrameTransmit outcome deferred) s) s1 q ws)) ∧
    (¬ may ∨ ¬ free ∨ s.stb.cur = none ∨ s.stb.backoff = none → exec (.stbBackoffExpiry outcome deferred) s = .next s) ∧
    (∀ q ws at_, may → s.stb.cur = some (q, ws) → s.stb.backoff = some at_ →
      (s.elapsed at_ = false → exec (.stbBackoffExpiry outcome deferred) s = .next s) ∧
      (free → s.elapsed at_ = true → attempt (exec (.stbBackoffExpiry outcome deferred) s) s q ws)) ∧
    (¬ on → receive = .next s) ∧
    (on → err.val ≠ 0 → Gives receive (fun t => OnlyRegisters { s with stb := { s.stb with gapTo := gap 0 } } t ∧ counter t (13 + err.val))) ∧
    (on → err.val = 0 → 1500 < payload.length → Gives receive (fun t => OnlyRegisters { s with stb := { s.stb with gapTo := gap 0 } } t ∧ counter t 16)) ∧
    (on → err.val = 0 → payload.length ≤ 1500 → Gives receive (fun t => counter t 1 ∧ t.stb.gapTo = gap 0 ∧ t.stb.cur = s.stb.cur ∧ (dst = 0xFF → counter t 10) ∧ counter t (if kind = 0 then 11 else if kind = 1 then 12 else 13) ∧
      (src.toNat = node → t.on STB_CFG_tx_en = false ∧ t.on STB_EVENTS_dup_node = true ∧ counter t 23) ∧
      (dst ≠ 0xFF → dst.toNat ≠ node → t.fifos = s.fifos) ∧
      (dst = 0xFF ∨ dst.toNat = node →
        match pushPacket s fifo (w40 (dst.toNat * 2 ^ 32 + src.toNat * 2 ^ 24 + kind.toNat * 2 ^ 16 + bs.length) :: frameWords bs) with
        | some u => t.fifos = u.fifos ∧ t.on STB_EVENTS_rx_frame = true ∧ (houseRuns s 9 = true → ∃ at_, t.stb.stamps.head? = some (src.toNat, at_) ∧
            t80Le s.now at_ = true ∧ t80Le at_ (t80Add s.now (nsU 1000 : Nat)) = true)
        | none => t.fifos = s.fifos ∧ t.on STB_EVENTS_rx_ovf = true ∧ counter t 18)))

/-! ## The Atelier -/

/-- The Atelier function (R390, R407, R410 to R422, R430): hellos, adjacencies, the root and its claims, addresses asked for and granted, management frames, the relay of
time, routes, and a span link's loss.
Where the spec leaves a point open it states the model's choice: log 43 to 46, 125 to 127, 156. -/
def Obligations.Atelier : Prop :=
  ∀ (s : State) (m : Master) (port : Fin 5) (node : Fin 32) (p : Fin 4) (w : Word),
    let live := atlLive s = true
    let seq := fun (t : State) (k : Nat) => tabGet (fun _ => 0) t.atl.seqs (min k 4)
    let sent := fun (u t : State) (k : Nat) => seq t k = (seq u k + 1) % 2 ^ 32
    let counted := fun (u t : State) (f : Fld) => t.get f = (u.get f + 1) % 2 ^ 32
    let receive := fun (kind : Nat) (o : Out) (Q : AtlFrame → State → Prop) => (¬ live → o = .next s) ∧ (live → match atlTake s port with
      | none => o = .next s
      | some (none, u) => o = .next u
      | some (some fr, u) => if fr.kind = kind then Q fr u else o = .next s)
    let k := if port.val < 4 then port.val else 16 + node.val
    let route := fun (u : State) (a : Nat) => tabGet (fun _ => (0 : Word)) u.atl.routes a
    let routed := fun (o : Out) (u : State) (dst ttl : Nat) (whole : List Word) (start : Bool) =>
      let own := u.on ATL_STATE_addr_valid = true ∧ dst = u.get ATL_ADDR_addr
      let r := route u dst
      (dst ≠ 0xFFFF → own ∨ (bitAt r 39 = true ∧ fieldOf r 38 36 = 5) → Gives o (fun t => match pushPacket u (u.get ATL_FIFO_mgmt_rx) whole with
        | some v => t.fifos = v.fifos
        | none => t.fifos = u.fifos ∧ counted u t ATL_CNT_MGMT_DROP_count)) ∧
      (dst ≠ 0xFFFF → ¬ own → bitAt r 39 = true → fieldOf r 38 36 ≠ 5 → Gives o (fun t => if start = false ∧ ttl ≤ 1 then counted u t ATL_CNT_MGMT_DROP_count
        else counted u t ATL_CNT_MGMT_FWD_count ∧ sent u t (fieldOf r 38 36))) ∧
      (dst ≠ 0xFFFF → ¬ own → bitAt r 39 = false → isRoot u = true ∨ u.atl.parent = none → Gives o (fun t => counted u t ATL_CNT_MGMT_DROP_count ∧ t.fifos = u.fifos)) ∧
      (∀ q, dst ≠ 0xFFFF → ¬ own → bitAt r 39 = false → isRoot u = false → u.atl.parent = some q → Gives o (fun t =>
        if start = false ∧ ttl ≤ 1 then counted u t ATL_CNT_MGMT_DROP_count else counted u t ATL_CNT_MGMT_FWD_count ∧ sent u t q)) ∧
      (dst = 0xFFFF → Gives o (fun t => treeKeys u = [] → match pushPacket u (u.get ATL_FIFO_mgmt_rx) whole with
        | some v => t.fifos = v.fifos
        | none => t.fifos = u.fifos ∧ counted u t ATL_CNT_MGMT_DROP_count))
    let asks := fun (o : Out) => (s.atl.parent = none → o = .next s) ∧ (∀ q, s.atl.parent = some q → Gives o (fun t => t.atl.regAt = some s.steady ∧
      t.atl.regFull = false ∧ sent s t q))
    (¬ live → if houseRuns s 8 ∧ unitErr s ATL_CTL = none then Gives (exec .atlHelloSend s) (fun t => t.atl.root = none ∧ t.atl.nodes = [])
      else exec .atlHelloSend s = .next s) ∧
    (∀ at_, live → s.atl.helloAt = some at_ → s.elapsed (t80Add at_ (nsU 10000000 : Nat)) = false → exec .atlHelloSend s = .next s) ∧
    (live → (∀ at_, s.atl.helloAt = some at_ → s.elapsed (t80Add at_ (nsU 10000000 : Nat)) = true) → Gives (exec .atlHelloSend s) (fun t =>
      t.atl.helloAt = some s.steady ∧ t.atl.root ≠ none ∧ ∀ j, j < 4 → if spanLive s j = true ∧ s.on (SPp_STATUS_link j) = true then sent s t j else seq t j = seq s j)) ∧
    receive 0x10 (exec (.atlHelloReceive port) s) (fun fr u => Gives (exec (.atlHelloReceive port) s) (fun t => ∃ n : Neigh, neigh t fr.key = some n ∧
      n.uid = fr.uid ∧ n.rootUid = beNum (octets fr.body 8 8) ∧ n.rootCand = beNum (octets fr.body 16 5) ∧ n.cost = beNum (octets fr.body 25 5) ∧ n.at_ = s.steady ∧
      (beNum (octets fr.body 0 8) = ownUid → n.adjacent = true) ∧ ∀ j, j ≠ fr.key → neigh t j = neigh u j)) ∧
    (neigh s k = none ∨ ¬ live → exec (.adjacencyTimeout port node) s = .next s) ∧
    (∀ n, live → neigh s k = some n →
      (s.elapsed (t80Add n.at_ (nsU 35000000 : Nat)) = true → Gives (exec (.adjacencyTimeout port node) s) (fun t => neigh t k = none)) ∧
      (s.elapsed (t80Add n.at_ (nsU 35000000 : Nat)) = false → exec (.adjacencyTimeout port node) s = .next s)) ∧
    (let due := live ∧ isRoot s = true ∧ s.elapsed (t80Add s.atl.countAt (nsU 100000000 : Nat)) = true
     (due → exec .rootSeqAdvance s = .next { s with atl := { s.atl with rootSeq := (s.atl.rootSeq + 1) % 2 ^ 32, countAt := s.steady, rootAt := s.steady } }) ∧
     (¬ due → exec .rootSeqAdvance s = .next s)) ∧
    (s.atl.root = none → exec .rootTimeout s = .next s) ∧
    (∀ r, s.atl.root = some r →
      let late := live ∧ r ≠ ownUid ∧ s.elapsed (t80Add s.atl.rootAt (nsU (100000000 * s.get ATL_TIMING_root_to) : Nat)) = true
      (late → Gives (exec .rootTimeout s) (fun t => t.atl.dropped.find? (fun d => decide (d.1 = r)) = some (r, s.atl.rootSeq) ∧ t.atl.root ≠ none ∧
        t.on ATL_EVENTS_root_change = true)) ∧
      (¬ late → exec .rootTimeout s = .next s)) ∧
    (s.atl.better = none → exec .claimHoldExpiry s = .next s) ∧
    (∀ r from_, s.atl.better = some (r, from_) →
      let held := live ∧ s.elapsed (secsAfter from_ (s.get ATL_TIMING_claim_hold)) = true
      let heard := r = ownUid ∨ ∃ c ∈ claims s, c.2.1 = r
      (held → heard → Gives (exec .claimHoldExpiry s) (fun t => t.atl.root ≠ none ∧ t.atl.rootFrom = s.steady ∧ t.on ATL_EVENTS_root_change = true ∧
        t.atl.registered = false)) ∧
      (held → ¬ heard → Gives (exec .claimHoldExpiry s) (fun t => t = { s with atl := { s.atl with better := none } })) ∧
      (¬ held → exec .claimHoldExpiry s = .next s)) ∧
    (let due := live ∧ isRoot s = false ∧ s.atl.registered = false ∧ s.atl.regAt = none ∧
       s.elapsed (t80Add s.atl.parentFrom (nsU (10000000 * s.get ATL_TIMING_stable_ms) : Nat)) = true
     (due → asks (exec .registerSend s)) ∧ (¬ due → exec .registerSend s = .next s)) ∧
    (s.atl.regAt = none → exec .registerRetry s = .next s) ∧
    (∀ at_, s.atl.regAt = some at_ →
     let due := live ∧ isRoot s = false ∧ s.atl.registered = false ∧
       s.elapsed (t80Add at_ (nsU (if s.atl.regFull then 10000000000 else 200000000) : Nat)) = true
     (due → asks (exec .registerRetry s)) ∧ (¬ due → exec .registerRetry s = .next s)) ∧
    receive 0x11 (exec (.registerReceive port) s) (fun fr u =>
      let uid := beNum (octets fr.body 0 8)
      let want := beNum (octets fr.body 8 2)
      Gives (exec (.registerReceive port) s) (fun t => (uid, fr.key, secsAfter s.steady 1) ∈ t.atl.seen ∧
        (isRoot u = true → (∀ g ∈ u.atl.grants, g.1 ≠ uid ∧ g.2 ≠ want) → 0 < want → want < 0xFFFF → u.atl.grants.length < 4096 →
          t.atl.grants = u.atl.grants ++ [(uid, want)]) ∧
        (isRoot u = true → (∃ g ∈ u.atl.grants, g.1 = uid) → t.atl.grants = u.atl.grants) ∧
        (∀ q, isRoot u = false → u.atl.parent = some q → 1 < fr.ttl → sent u t q))) ∧
    receive 0x12 (exec (.grantReceive port) s) (fun fr u =>
      let uid := beNum (octets fr.body 0 8)
      let a := beNum (octets fr.body 8 2)
      let full := fr.body.getD 10 0 = 1
      let known := u.atl.seen.find? (fun e => decide (e.1 = uid) && !u.elapsed e.2.2)
      (uid = ownUid → full → Gives (exec (.grantReceive port) s) (fun t => t.atl.regFull = true ∧ t.atl.regAt = some s.steady ∧
        counted u t ATL_CNT_REG_REFUSED_count)) ∧
      (uid = ownUid → ¬ full → Gives (exec (.grantReceive port) s) (fun t => t.atl.registered = true ∧ t.atl.regAt = none ∧ t.get ATL_ADDR_addr = a ∧
        t.on ATL_STATE_addr_valid = true)) ∧
      (uid ≠ ownUid → known = none ∨ fr.ttl ≤ 1 → exec (.grantReceive port) s = .next u) ∧
      (∀ e j at_, uid ≠ ownUid → known = some (e, j, at_) → 1 < fr.ttl → Gives (exec (.grantReceive port) s) (fun t => sent u t j ∧
        (¬ full → t.on ATL_EVENTS_rt_full = true ∨ route t a = w40 (2 ^ 39 + min j 4 * 2 ^ 36 + (if j < 4 then 0 else j - 16) * 2 ^ 8)) ∧
        (full → t.atl.routes = u.atl.routes)))) ∧
    receive 0x14 (exec (.mgmtFrameReceive port) s) (fun fr u => routed (exec (.mgmtFrameReceive port) s) u fr.dst fr.ttl (frameWords fr.whole) false) ∧
    (¬ live ∨ takePacket s (s.get ATL_FIFO_mgmt_tx) = none → exec .mgmtSend s = .next s) ∧
    (∀ ws u, live → takePacket s (s.get ATL_FIFO_mgmt_tx) = some (ws, u) →
      let len := fieldOf (ws.getD 0 0) 26 16
      (1400 < len → exec .mgmtSend s = .fault .unpredictable) ∧
      (len ≤ 1400 → ∃ whole, routed (exec .mgmtSend s) u (fieldOf (ws.getD 0 0) 15 0) 128 whole true)) ∧
    (let due := live ∧ isRoot s = true ∧ nsU 20000000 ≤ s.now.low ∧ s.atl.relayed ≠ some s.now.sec
     (due → Gives (exec .relaySend s) (fun t => t.atl.relayed = some s.now.sec ∧ (spanChildren s = [] → t.fifos = s.fifos) ∧
       (∀ q, spanChildren s = [q] → sent s t q))) ∧
     (¬ due → exec .relaySend s = .next s)) ∧
    receive 0x13 (exec (.relayReceive port) s) (fun fr u =>
      ((u.span fr.key).theta = none ∨ u.atl.parent ≠ some fr.key ∨ 4 ≤ fr.key → exec (.relayReceive port) s = .next u) ∧
      ((u.span fr.key).theta ≠ none → u.atl.parent = some fr.key → fr.key < 4 → Gives (exec (.relayReceive port) s) (fun t =>
        (u.on ATL_CTL_relay_en = true → t.atl.relayCount = u.atl.relayCount + 1 ∧ t.rd (PAL_Sn_BOUND 23) = w40 (beNum (octets fr.body 15 5))) ∧
        (u.on ATL_CTL_relay_en = false → t.atl.relayCount = u.atl.relayCount ∧ t.pal = u.pal)))) ∧
    (Writes s m ATL_RT_DATA w →
      let a := s.get ATL_RT_IDX_addr
      (bitAt w 39 = true → 4096 ≤ routeCount s → Gives (exec (.atlRtDataWrite m w) s) (fun t => t.on ATL_EVENTS_rt_full = true ∧ t.atl = s.atl)) ∧
      (bitAt w 39 = false ∨ routeCount s < 4096 → Gives (exec (.atlRtDataWrite m w) s) (fun t => route t a = w ∧ ∀ b, b ≠ a → route t b = route s b))) ∧
    (spanLive s p = false → exec (.spLinkLoss p) s = .next s) ∧
    (spanLive s p = true → Gives (exec (.spLinkLoss p) s) (fun t => t.on (SPp_STATUS_link p) = false ∧ t.on (SPp_STATUS_cal_valid p) = false ∧
      t.on (SPp_STATUS_rx_lock p) = false ∧ (s.on (SPp_STATUS_link p) = true → t.on (SPp_EVENTS_link_change p) = true) ∧
      (s.on (SPp_STATUS_cal_valid p) = true → t.on (SPp_EVENTS_cal_lost p) = true) ∧ (houseRuns s 7 = true → (t.slot (10 + p)).cmdFault = true) ∧
      (live → neigh t p = none)))

/-! ## The twin -/

/-- The twin link (R34, R36, R146, R434 to R442, R445, R450, R454, R456): which frames count and how they are acknowledged, pairing and its end, mirrored strokes, notes, state
and ledger slots, GIVE and SWAP, resending, lanes and time-outs.
Where the spec leaves a point open it states the model's choice: log 88, 89, 91, 105, 152, 153, 156. -/
def Obligations.TwinLink : Prop :=
  ∀ (s : State) (m : Master) (h : TwHdr) (p : TwHello) (hi lo act gen : Word) (tag offerer : BitVec 8) (chk seq : BitVec 32) (setter : BitVec 64)
    (keeper refused shared done : Bool) (report : Fin 8) (items : List (Nat × Word)) (words : List Word) (lane : Fin 2),
    let en := s.on TW_CFG_en = true
    let good := en ∧ h.lineOk = true ∧ s.tw.keyCopy = true ∧ h.tagOk = true
    let heard := s.inc TW_CNT_RX_count
    let base := swapSettled (takeAck { heard with tw := { heard.tw with lastRx := s.steady, lastDep := t80Of h.hi h.lo, silent := false } } h.ack.toNat)
    let u : State := { base with tw := { base.tw with rxSeq := h.seq.toNat } }
    let next := h.seq.toNat = (base.tw.rxSeq + 1) % 65536
    let frame := fun (inSequence : Prop) (o : Out) (Q : Prop) => (¬ en → o = .next s) ∧ (en → h.lineOk = false → o = .next (s.inc TW_CNT_CRC_count)) ∧
      (en → h.lineOk = true → s.tw.keyCopy = false ∨ h.tagOk = false → o = .next (s.inc TW_CNT_AUTH_count)) ∧
      (good → ¬ inSequence → o = .next base) ∧ (good → inSequence → Q)
    let standby := twStandby u = true
    let st := s.get TW_STATUS_pstate
    let pstate := u.get TW_STATUS_pstate
    let k : Stroke := { hi := hi, lo := lo, act := act, tag := tag.toNat, chk := chk.toNat }
    let x := slotOfWords words
    let at_ := t80Of hi lo
    let ended := fun (t : State) => (st = 2 ∨ st = 3 → t.get TW_STATUS_pstate = 4 ∧ t.on SKB_CTL_mirror_en = false ∧ t.on TW_STATUS_ready = false) ∧
      (st = 3 → t.on TW_EVENTS_sync_lost = true) ∧ (st ≠ 2 → st ≠ 3 → t.get TW_STATUS_pstate = st)
    frame False (exec (.twinIdleRx h) s) True ∧
    frame True (exec (.twinHelloRx h p) s) (
      let refuses := p.house ≠ Config.houseVersion ∨ p.lc.val ≠ u.get LCY_STATE_state ∨ p.tampered = true ∨ u.on TMP_STATUS_latched = true
      (pstate ≠ 1 → exec (.twinHelloRx h p) s = .next u) ∧
      (pstate = 1 → refuses → Gives (exec (.twinHelloRx h p) s) (fun t => t.on TW_EVENTS_mismatch = true ∧ t.get TW_STATUS_pstate = 1 ∧
        t.get TW_PEER_HI_val = p.uid.toNat / 2 ^ 32 ∧ t.get TW_PEER_LO_val = p.uid.toNat % 2 ^ 32)) ∧
      (pstate = 1 → ¬ refuses → Gives (exec (.twinHelloRx h p) s) (fun t => t.get TW_PEER_HI_val = p.uid.toNat / 2 ^ 32 ∧ t.tw.helloRx = true ∧
        (p.claim.val = 1 → u.on TW_STATUS_own = false → t.get TW_STATUS_role = 2 ∧ t.on TW_STATUS_peer_own = true) ∧
        (u.tw.helloTx = false ∨ (∃ f ∈ u.tw.unacked, f.kind = 1) → t.get TW_STATUS_pstate = 1) ∧
        (u.tw.helloTx = true → (∀ f ∈ u.tw.unacked, f.kind ≠ 1) → standby → t.get TW_STATUS_pstate = 2 ∧ t.on SKB_CTL_accept_en = false)))) ∧
    frame next (exec (.twinStrokeRx h hi lo act tag chk seq offerer keeper) s) (
      let o := exec (.twinStrokeRx h hi lo act tag chk seq offerer keeper) s
      let takes := standby ∧ (pstate = 2 ∨ pstate = 3)
      let late := strictClass k = true ∧ t80Lt (strokeAt k) (u.afterNs 100) = true
      (¬ takes → o = .next u) ∧
      (takes → strokeOk k = false → Gives o (fun t => srcStatus t 0 = true ∧ t.fix.fatal = true ∧ t.skb.slots = u.skb.slots)) ∧
      (takes → strokeOk k = true → late → Gives o (fun t => t.skb = u.skb ∧ t.tw.sent = (3, [w40 (2 ^ 32 + seq.toNat)]) :: u.tw.sent)) ∧
      (takes → strokeOk k = true → ¬ late → mirrorSlot u seq.toNat = none → o = .next u) ∧
      (∀ i, takes → strokeOk k = true → ¬ late → mirrorSlot u seq.toNat = some i → Gives o (fun t =>
        t.led i = { Slot.free with state := 1, keeper := keeper, seq := seq.toNat, offerer := offerer.toNat, chip := true, twin := true, stroke := k } ∧
        (∀ j, j ≠ i → t.led j = u.led j) ∧ t.get SKB_SEQ_seq = seqLater (u.get SKB_SEQ_seq) seq.toNat ∧ t.skb.offers.length = u.skb.offers.length + 1))) ∧
    frame next (exec (.twinStrokeAckRx h seq refused) s) (
      let waits := u.skb.offers.find? (fun o => o.mirrored && !o.acked && (match o.slot with | none => false | some i => decide ((u.led i).seq = seq.toNat)))
      (waits = none → exec (.twinStrokeAckRx h seq refused) s = .next u) ∧
      (∀ o i, waits = some o → o.slot = some i → (∀ q ∈ u.skb.offers, q.slot ≠ none) → Gives (exec (.twinStrokeAckRx h seq refused) s) (fun t =>
        (refused = true → t.led i = o.old) ∧ (refused = false → o.wrote = true → t.led i = { u.led i with commit := true }) ∧
        (refused = false → o.wrote = false → t.led i = u.led i ∧ { o with acked := true } ∈ t.skb.offers)))) ∧
    frame next (exec (.twinNoteRx h seq report) s) (
      let noted := u.skb.slots.find? (fun e => decide (e.2.seq = seq.toNat) && slotPending e.2 && !shadowStroke e.2.stroke)
      (¬ standby ∨ noted = none → exec (.twinNoteRx h seq report) s = .next u) ∧
      (∀ e, standby → noted = some e → exec (.twinNoteRx h seq report) s = .next (u.setLed e.1 { e.2 with state := 3 }))) ∧
    frame next (exec (.twinStateRx h gen setter shared items) s) (
      (¬ standby → exec (.twinStateRx h gen setter shared items) s = .next u) ∧
      (standby → Gives (exec (.twinStateRx h gen setter shared items) s) (fun t => t.rd TW_GEN = gen ∧ t.get TW_GEN_UID_HI_val = setter.toNat / 2 ^ 32 ∧
        t.get TW_GEN_UID_LO_val = setter.toNat % 2 ^ 32 ∧ t.on TW_STATUS_peer_own = true ∧
        (∀ a w, items = [(a, w)] → tabGet (fun _ => 0) t.tw.mirror a = w ∧ (a = GLZ_B → t.rd (PAL_Sn_BOUND 23) = w))))) ∧
    frame next (exec (.twinRefillRx h words done) s) (
      let o := exec (.twinRefillRx h words done) s
      let takes := standby ∧ pstate = 2
      let sound := slotPending x = false ∨ strokeOk x.stroke = true
      (¬ takes → o = .next u) ∧
      (takes → ¬ sound → Gives o (fun t => srcStatus t 0 = true ∧ t.fix.fatal = true ∧ t.skb.slots = u.skb.slots)) ∧
      (takes → sound → Gives o (fun t => (done = true → t.get TW_STATUS_pstate = 3 ∧ t.on TW_EVENTS_paired = true) ∧ (done = false → t.get TW_STATUS_pstate = 2) ∧
        (x.state = 0 → done = false → t.skb.slots = u.skb.slots) ∧ (done = true → t.skb.unresolved = []) ∧ (∀ i, x.state ≠ 0 → mirrorSlot u x.seq = some i →
          t.led i = { x with state := if x.state = 2 then 1 else x.state, chip := true, twin := true })))) ∧
    frame next (exec (.twinGiveRx h hi lo seq) s) (
      let late := u.on TW_STATUS_give_missing = true ∧ u.tw.driveAt ≠ none
      (late → exec (.twinGiveRx h hi lo seq) s = .next u) ∧
      (¬ late → Gives (exec (.twinGiveRx h hi lo seq) s) (fun t => t.tw = { u.tw with give := some at_ } ∧
        t.rd TW_T_STOP_HI = T80hi at_ ∧ t.lo TW_T_STOP_LO = T80lo at_ ∧ ∀ i, t.led i =
          if u.tw.driveAt ≠ none ∧ slotPending (u.led i) = true ∧ (u.led i).twin = true ∧ shadowStroke (u.led i).stroke = false ∧ t80Lt (strokeAt (u.led i).stroke) at_ = true
          then { u.led i with state := 3 } else u.led i))) ∧
    frame next (exec (.twinSwapRx h hi lo) s) (
      (standby → Gives (exec (.twinSwapRx h hi lo) s) (fun t => t.tw.swapAt = some at_ ∧ t.tw.swapping = false ∧ t.tw.sent = (9, [hi, lo]) :: u.tw.sent)) ∧
      (swapLegal u = true → Gives (exec (.twinSwapRx h hi lo) s) (fun t => t.tw.swapAt ≠ none ∧ t.tw.swapAck = false ∧ t.tw.swapMbx = false)) ∧
      (¬ standby → swapLegal u = false → exec (.twinSwapRx h hi lo) s = .next u)) ∧
    frame next (exec (.twinSwapAckRx h hi lo) s) (
      if u.tw.swapAt = some at_ ∧ twActive u = true ∧ u.elapsed (t80Add u.tw.swapSent ((nsU 1000000 : Nat) : Int)) = false then exec (.twinSwapAckRx h hi lo) s = .next { u with tw := { u.tw with swapAck := true } }
      else exec (.twinSwapAckRx h hi lo) s = .next u) ∧
    (s.tw.unacked = [] → exec .twinResend s = .next s) ∧
    (∀ f rest, s.tw.unacked = f :: rest →
      let due := f.sends < 4 ∧ s.elapsed (t80Add (if t80Lt s.tw.progressAt f.at_ then f.at_ else s.tw.progressAt) ((nsU 500 : Nat) : Int)) = true
      (due → Gives (exec .twinResend s) (fun t => t.tw.unacked = s.tw.unacked.map (fun g => { g with sends := g.sends + 1, at_ := s.steady }) ∧ t.tw.progressAt = s.steady ∧
        t.get TW_CNT_RETX_count = (s.get TW_CNT_RETX_count + s.tw.unacked.length) % 2 ^ 32)) ∧
      (¬ due → exec .twinResend s = .next s)) ∧
    (let quiet := s.elapsed (t80Add s.tw.lastRx ((nsU 2000 : Nat) : Int)) = true
     (quiet → Gives (exec .twinLinkTimeout s) ended) ∧
     (¬ quiet → s.tw.unacked = [] → s.skb.offers = [] → exec .twinLinkTimeout s = .next s)) ∧
    ((s.get TW_STATUS_lane_ok).testBit lane = true → Gives (exec (.twinLaneLoss lane) s) (fun t => t.on TW_EVENTS_lane_fail = true ∧ srcStatus t 105 = true ∧
      ∀ j, j < 2 → (t.get TW_STATUS_lane_ok).testBit j = ((s.get TW_STATUS_lane_ok).testBit j && decide (j ≠ lane.val)))) ∧
    ((s.get TW_STATUS_lane_ok).testBit lane = false → exec (.twinLaneLoss lane) s = .next s) ∧
    (Gives (exec (.twinLaneLock lane) s) (fun t => (t.get TW_STATUS_lane_ok).testBit lane = true ∧
      (en → st = 0 → t.get TW_STATUS_pstate = 1 ∧ t.tw.helloRx = false ∧ t.tw.rxSeq = 0 ∧ (t.tw.sent.head?.map (fun f => f.1)) = some 1) ∧
      (¬ en ∨ st ≠ 0 → OnlyRegisters s t ∧ t.get TW_STATUS_pstate = st))) ∧
    (let due := st = 4 ∧ s.elapsed (t80Add s.tw.quietFrom ((nsU 10000000 : Nat) : Int)) = true ∧ s.elapsed (t80Add s.tw.lastRx ((nsU 2000 : Nat) : Int)) = false
     (due → Gives (exec .lapsedQuietExpiry s) (fun t => t.get TW_STATUS_pstate = 1 ∧ t.tw.helloRx = false)) ∧ (¬ due → exec .lapsedQuietExpiry s = .next s)) ∧
    let helloDue := st = 1 ∧ s.elapsed (secsAfter s.tw.helloAt 1) = true
    (helloDue → Gives (exec .twinHelloSend s) (fun t => t.tw.helloTx = true ∧ t.tw.helloAt = s.steady ∧ (en → t.tw.sent = (1, helloWords s) :: s.tw.sent))) ∧
    (¬ helloDue → exec .twinHelloSend s = .next s) ∧
    (let due := en ∧ s.tw.silent = false ∧ s.on TW_STATUS_peer_own = true ∧ s.elapsed (t80Add s.tw.lastRx ((nsU 10000 : Nat) : Int)) = true
     (due → Gives (exec .twinSilent s) (fun t => OnlyRegisters { s with tw := { s.tw with silent := true } } t ∧ t.on TW_EVENTS_silent = true)) ∧ (¬ due → exec .twinSilent s = .next s)) ∧
    (Writes s m TW_CMD 2 → Gives (exec (.repair m) s) (fun t => t.on TW_STATUS_take_fail = false ∧ t.get TW_STATUS_pstate = if st = 4 then 1 else st)) ∧
    (Writes s m TW_CMD 3 → Gives (exec (.endPairing m) s) ended)

/-- Control of the outputs (R432, R433, R447 to R451, R453 to R455): giving up, taking control when the peer's line is released, drivers that enable one by one, and their check, planned swaps
from their request to their instant, and the claim at power-on.
Where the spec leaves a point open it states the model's choice: log 87, 90, 92 to 95, 153, 156. -/
def Obligations.TwinControl : Prop :=
  ∀ (s : State) (m : Master) (ns : BitVec 8) (k : Fin 20) (mismatch : Bool),
    let active := twActive s = true
    let gaveUp := fun (at_ : T80) (t : State) => t.tw.releasing = true ∧ t.get TW_STATUS_role = 2 ∧ t.on TW_EVENTS_gave_up = true ∧ t.skb.armed = false ∧
      t.rd TW_T_STOP_HI = T80hi at_ ∧ t.lo TW_T_STOP_LO = T80lo at_ ∧ t.tw.gapFrom = s.steady ∧ t.tw.waitOut = [] ∧ t.tw.checks = [] ∧
      t.get TW_STATUS_pstate ≠ 2 ∧ t.get TW_STATUS_pstate ≠ 3 ∧
      ∀ j, j < 20 → if s.on (OUTk_STATUS_driving j) = true ∧ s.level j = true ∧ s.get (OUTk_CFG_mode j) ≠ 2 then (t.out j).giveAt = some s.steady
        else t.on (OUTk_STATUS_driving j) = false
    let back := s.tw.swapping && s.tw.swapAt.isSome
    let may := twStandby s = true ∧ s.on TW_STATUS_own = false ∧ s.fix.fatal = false ∧ s.on TMP_STATUS_latched = false ∧
      (s.on TW_STATUS_ready = true ∨ s.on TW_CFG_take_unsync = true ∨ back = true)
    let up := s.level k
    let differed := up = true ∨ ∃ at_, (s.out k).highAt = some at_ ∧ t80Le s.tw.gapFrom at_ = true
    let drives := k.val ∈ s.tw.waitOut ∧ s.on TW_STATUS_own = true ∧ (up = false ∨ s.elapsed (t80Add s.tw.gapFrom ((nsU 100 : Nat) : Int)) = true)
    let checks := s.tw.checks.filter (fun c => decide (c.1 ≠ k.val))
    let swapSet := fun (mbx : Bool) (t : State) => t.tw.swapAck = false ∧ t.tw.swapMbx = mbx ∧ t.tw.swapping = true ∧ (t.tw.sent.head?.map (fun f => f.1)) = some 8 ∧
      ∃ ms : Nat, t.tw.swapAt = some (t80OfUnits (ms * 1024000000)) ∧ t80Units s.now + 2 * 1024000000 ≤ ms * 1024000000
    let ending := s.tw.swapMbx = true ∧ mbxCode s = 0x0B ∧ s.on MBX_STATUS_busy = true
    (active → Gives (exec .giveUp s) (gaveUp s.now) ∧ Gives (exec .heartbeatLost s) (fun t => gaveUp s.now t ∧ srcStatus t 110 = true)) ∧
    (¬ active → exec .giveUp s = .next s ∧ Gives (exec .heartbeatLost s) (fun t => srcStatus t 110 = true ∧ t.get TW_STATUS_role = s.get TW_STATUS_role)) ∧
    (¬ may → exec (.peerOwnRelease ns) s = .next (s.putB TW_STATUS_peer_own false)) ∧
    (may → Gives (exec (.peerOwnRelease ns) s) (fun t => t.on TW_STATUS_own = true ∧ t.on TW_STATUS_peer_own = false ∧ t.get TW_STATUS_role = 1 ∧
      t.get TW_STATUS_pstate = 4 ∧ t.rd TW_GEN = s.rd TW_GEN + 1 ∧ t.on TW_EVENTS_takeover = true ∧ t.on SKB_CTL_accept_en = true ∧ t.tw.driveAt = some s.steady ∧
      (∀ j, j < 20 → (j ∈ t.tw.waitOut ↔ s.get (OUTk_CFG_mode j) ≠ 0)) ∧ (s.on TW_STATUS_ready = false → back = false → srcStatus t 107 = true) ∧
      t.skb.armed = (!s.lcy.stopped && decide (s.skb.waits = 0)) ∧ (back = true → t.tw.swapAt = none ∧ t.on TW_EVENTS_swap_failed = true))) ∧
    (∀ marked : Bool, (marked = true ↔ differed) → drives → Gives (exec (.outputDriverEnable k up marked) s) (fun t => t.on (OUTk_STATUS_driving k) = true ∧
      t.tw = { s.tw with waitOut := s.tw.waitOut.filter (fun j => decide (j ≠ k.val)), checks := s.tw.checks ++ [(k.val, s.steady)] } ∧
      (differed → (t.get TW_GAP_pins).testBit k = true) ∧ (¬ differed → t.get TW_GAP_pins = s.get TW_GAP_pins))) ∧
    (∀ high marked : Bool, ¬ (drives ∧ high = up ∧ (marked = true ↔ differed)) → exec (.outputDriverEnable k high marked) s = .next s) ∧
    (s.tw.driveAt = none → exec .giveTimeout s = .next s) ∧
    (∀ d, s.tw.driveAt = some d →
      let due := s.tw.give = none ∧ s.on TW_STATUS_give_missing = false ∧ s.elapsed (t80Add d ((nsU 1000 : Nat) : Int)) = true
      (due → Gives (exec .giveTimeout s) (fun t => t.on TW_STATUS_give_missing = true ∧ t.rd TW_T_STOP_HI = T80hi s.tw.lastDep ∧ t.lo TW_T_STOP_LO = T80lo s.tw.lastDep ∧
        t.tw = s.tw)) ∧
      (¬ due → exec .giveTimeout s = .next s)) ∧
    let check := s.tw.checks.find? (fun c => decide (c.1 = k.val))
    (check = none → exec (.takeoverOutputCheck k mismatch) s = .next s) ∧
    (∀ j at_, check = some (j, at_) →
      let close := t80Add at_ ((nsU 1000 : Nat) : Int)
      let hit := mismatch = true ∧ t80Le s.steady close = true
      (¬ hit → s.elapsed close = false → exec (.takeoverOutputCheck k mismatch) s = .next s) ∧
      (hit → s.tw.swapAt = none → Gives (exec (.takeoverOutputCheck k mismatch) s) (fun t => t.on TW_STATUS_take_fail = true ∧ t.on TW_EVENTS_take_fail = true ∧
        srcStatus t 108 = true ∧ t.tw.checks = checks ∧ bitAt (t.rd MBX_IRQ) 2 = true ∧
        (s.get (OUTk_CFG_mode k) ≠ 0 → t.on (OUTk_STATUS_safe_forced k) = true ∧ t.level k = false))) ∧
      (hit → s.tw.swapAt ≠ none → Gives (exec (.takeoverOutputCheck k mismatch) s) (fun t => t.on TW_STATUS_take_fail = true ∧
        t.on TW_EVENTS_swap_failed = true ∧ t.tw.swapAt = none ∧ (active → t.get TW_STATUS_role = 2 ∧ t.tw.releasing = true ∧ t.skb.armed = false))) ∧
      (¬ hit → s.elapsed close = true → s.tw.swapAt ≠ none → checks = [] → s.tw.waitOut = [] → Gives (exec (.takeoverOutputCheck k mismatch) s) (fun t =>
        t.tw = { s.tw with checks := [], swapAt := none } ∧ t.on TW_EVENTS_swap_done = true)) ∧
      (¬ hit → s.elapsed close = true → s.tw.swapAt = none ∨ checks ≠ [] ∨ s.tw.waitOut ≠ [] →
        exec (.takeoverOutputCheck k mismatch) s = .next { s with tw := { s.tw with checks := checks } })) ∧
    (s.tw.swapAt = none → exec .swapInstant s = .next s ∧ exec .swapAckTimeout s = .next s) ∧
    (∀ at_, s.tw.swapAt = some at_ →
      (active → s.tw.swapAck = true → s.reached at_ = true → Gives (exec .swapInstant s) (gaveUp at_)) ∧
      (¬ active ∨ s.tw.swapAck = false ∨ s.reached at_ = false → exec .swapInstant s = .next s) ∧
      (let due := active ∧ s.tw.swapAck = false ∧ s.elapsed (t80Add s.tw.swapSent ((nsU 1000000 : Nat) : Int)) = true
       (due → Gives (exec .swapAckTimeout s) (fun t => t.tw = { s.tw with swapAt := none, swapping := false, swapMbx := false } ∧ OnlyMailbox { s with tw := t.tw } t ∧
         (ending → Answered t 7 []))) ∧
       (¬ due → exec .swapAckTimeout s = .next s))) ∧
    (s.tw.readyFrom = none → exec .revertiveWtrExpiry s = .next s) ∧
    (∀ from_, s.tw.readyFrom = some from_ →
      let due := s.on TW_CFG_revertive = true ∧ s.on TW_CFG_home = true ∧ twStandby s = true ∧ s.on TW_STATUS_ready = true ∧
        s.elapsed (secsAfter from_ (s.get TW_CFG_wtr_s)) = true
      (due → Gives (exec .revertiveWtrExpiry s) (fun t => t.tw.readyFrom = some s.steady ∧ t.tw.sent = (8, [0, 0]) :: s.tw.sent)) ∧
      (¬ due → exec .revertiveWtrExpiry s = .next s)) ∧
    (let waited := (s.on TW_CFG_home = true ∧ s.tw.helloRx = true) ∨ s.elapsed (secsAfter s.tw.enAt (if s.on TW_CFG_home then 2 else 3)) = true
     let claims := s.on TW_CFG_en = true ∧ s.get TW_STATUS_role = 0 ∧ s.on TW_STATUS_own = false ∧ s.on TW_STATUS_peer_own = false ∧ s.fix.fatal = false ∧ waited
     (claims → Gives (exec .powerOnPinClaim s) (fun t => t.tb = s.tb ∧ t.tw = s.tw ∧ t.fifos = s.fifos ∧ SameMemory s t ∧
       t.skb.unresolved = [] ∧ (∀ i, (t.led i).stroke = (s.led i).stroke ∧ (t.led i).state = (s.led i).state) ∧ (∀ c : CoreId, (t.core c).evts.testBit 29 = true) ∧ t.on TW_STATUS_own = true ∧ t.get TW_STATUS_role = 1 ∧
       ∀ j, j < 20 → s.get (OUTk_CFG_mode j) ≠ 0 → s.on (OUTk_STATUS_safe_forced j) = false → t.on (OUTk_STATUS_driving j) = true)) ∧
     (¬ claims → exec .powerOnPinClaim s = .next s)) ∧
    (let yields := s.on TW_CFG_en = true ∧ s.on TW_STATUS_own = true ∧ s.on TW_CFG_home = false
     (yields → Gives (exec .ownershipConflict s) (fun t => t.tb = s.tb ∧ t.tw = s.tw ∧ t.skb = s.skb ∧ t.fifos = s.fifos ∧ SameMemory s t ∧
       (s.get TW_STATUS_role ≠ 2 → ∀ c : CoreId, (t.core c).evts.testBit 29 = true) ∧ t.on TW_STATUS_own = false ∧ t.on TW_STATUS_peer_own = true ∧ t.get TW_STATUS_role = 2 ∧
       ∀ j, j < 20 → t.on (OUTk_STATUS_driving j) = false)) ∧
     (¬ yields → exec .ownershipConflict s = .next (s.putB TW_STATUS_peer_own true))) ∧
    (Writes s m TW_CMD 1 → (swapLegal s = true → Gives (exec (.twCmdSwap m) s) (swapSet false)) ∧
      (swapLegal s = false → Gives (exec (.twCmdSwap m) s) (fun t => t = touched s TW_CMD))) ∧
    (Asked s 0x0B [] → (swapLegal s = true → Gives (exec .plannedSwap s) (fun t => swapSet true t ∧ t.on MBX_STATUS_busy = true)) ∧
      (swapLegal s = false → Gives (exec .plannedSwap s) (fun t => Answered t 1 [] ∧ OnlyMailbox s t)))

/-! ## The invariant of memory -/

/-- Memory keeps its canonical form: every step from a state whose memory lists its addresses in rising order, and no word that equals what an unlisted
address reads as (log 7), leads to such a state. -/
def Obligations.MemoryStaysCanonical : Prop :=
  ∀ s t : State, Memory.wf s.mem → step s = .next t → Memory.wf t.mem

/-- The state after reset has its memory in canonical form. -/
def Obligations.ResetMemoryCanonical : Prop := Memory.wf State.reset.mem
end

