-- ==== Sys2Proof/Laws/State.lean ====
section
/-! SUPPORT. What each named update leaves alone, one lemma per field, so that no proof unfolds a record update. -/

namespace Sys2Proof.Machine

/-! ### State.wr -/

@[simp] theorem State.wr_pending (s : State) (a : Nat) (w : Word) : (s.wr a w).pending = s.pending := rfl
@[simp] theorem State.wr_freeCtr (s : State) (a : Nat) (w : Word) : (s.wr a w).freeCtr = s.freeCtr := rfl
@[simp] theorem State.wr_lat (s : State) (a : Nat) (w : Word) : (s.wr a w).lat = s.lat := rfl
@[simp] theorem State.wr_evc (s : State) (a : Nat) (w : Word) : (s.wr a w).evc = s.evc := rfl
@[simp] theorem State.wr_mem (s : State) (a : Nat) (w : Word) : (s.wr a w).mem = s.mem := rfl
@[simp] theorem State.wr_dramErr (s : State) (a : Nat) (w : Word) : (s.wr a w).dramErr = s.dramErr := rfl
@[simp] theorem State.wr_fifos (s : State) (a : Nat) (w : Word) : (s.wr a w).fifos = s.fifos := rfl
@[simp] theorem State.wr_fifoWait (s : State) (a : Nat) (w : Word) : (s.wr a w).fifoWait = s.fifoWait := rfl
@[simp] theorem State.wr_clkAt (s : State) (a : Nat) (w : Word) : (s.wr a w).clkAt = s.clkAt := rfl
@[simp] theorem State.wr_fix (s : State) (a : Nat) (w : Word) : (s.wr a w).fix = s.fix := rfl
@[simp] theorem State.wr_rst (s : State) (a : Nat) (w : Word) : (s.wr a w).rst = s.rst := rfl
@[simp] theorem State.wr_host (s : State) (a : Nat) (w : Word) : (s.wr a w).host = s.host := rfl
@[simp] theorem State.wr_tly (s : State) (a : Nat) (w : Word) : (s.wr a w).tly = s.tly := rfl
@[simp] theorem State.wr_lcy (s : State) (a : Nat) (w : Word) : (s.wr a w).lcy = s.lcy := rfl
@[simp] theorem State.wr_cores (s : State) (a : Nat) (w : Word) : (s.wr a w).cores = s.cores := rfl
@[simp] theorem State.wr_mbx (s : State) (a : Nat) (w : Word) : (s.wr a w).mbx = s.mbx := rfl
@[simp] theorem State.wr_house (s : State) (a : Nat) (w : Word) : (s.wr a w).house = s.house := rfl
@[simp] theorem State.wr_tb (s : State) (a : Nat) (w : Word) : (s.wr a w).tb = s.tb := rfl
@[simp] theorem State.wr_skb (s : State) (a : Nat) (w : Word) : (s.wr a w).skb = s.skb := rfl
@[simp] theorem State.wr_pal (s : State) (a : Nat) (w : Word) : (s.wr a w).pal = s.pal := rfl
@[simp] theorem State.wr_und (s : State) (a : Nat) (w : Word) : (s.wr a w).und = s.und := rfl
@[simp] theorem State.wr_glz (s : State) (a : Nat) (w : Word) : (s.wr a w).glz = s.glz := rfl
@[simp] theorem State.wr_timed (s : State) (a : Nat) (w : Word) : (s.wr a w).timed = s.timed := rfl
@[simp] theorem State.wr_var (s : State) (a : Nat) (w : Word) : (s.wr a w).var = s.var := rfl
@[simp] theorem State.wr_outs (s : State) (a : Nat) (w : Word) : (s.wr a w).outs = s.outs := rfl
@[simp] theorem State.wr_pins (s : State) (a : Nat) (w : Word) : (s.wr a w).pins = s.pins := rfl
@[simp] theorem State.wr_tw (s : State) (a : Nat) (w : Word) : (s.wr a w).tw = s.tw := rfl
@[simp] theorem State.wr_tdc (s : State) (a : Nat) (w : Word) : (s.wr a w).tdc = s.tdc := rfl
@[simp] theorem State.wr_tdcTurn (s : State) (a : Nat) (w : Word) : (s.wr a w).tdcTurn = s.tdcTurn := rfl
@[simp] theorem State.wr_gns (s : State) (a : Nat) (w : Word) : (s.wr a w).gns = s.gns := rfl
@[simp] theorem State.wr_gnsKeep (s : State) (a : Nat) (w : Word) : (s.wr a w).gnsKeep = s.gnsKeep := rfl
@[simp] theorem State.wr_tmpOn (s : State) (a : Nat) (w : Word) : (s.wr a w).tmpOn = s.tmpOn := rfl
@[simp] theorem State.wr_scrubAt (s : State) (a : Nat) (w : Word) : (s.wr a w).scrubAt = s.scrubAt := rfl
@[simp] theorem State.wr_lp (s : State) (a : Nat) (w : Word) : (s.wr a w).lp = s.lp := rfl
@[simp] theorem State.wr_tod (s : State) (a : Nat) (w : Word) : (s.wr a w).tod = s.tod := rfl
@[simp] theorem State.wr_stz (s : State) (a : Nat) (w : Word) : (s.wr a w).stz = s.stz := rfl
@[simp] theorem State.wr_ptp (s : State) (a : Nat) (w : Word) : (s.wr a w).ptp = s.ptp := rfl
@[simp] theorem State.wr_kv (s : State) (a : Nat) (w : Word) : (s.wr a w).kv = s.kv := rfl
@[simp] theorem State.wr_sp (s : State) (a : Nat) (w : Word) : (s.wr a w).sp = s.sp := rfl
@[simp] theorem State.wr_atl (s : State) (a : Nat) (w : Word) : (s.wr a w).atl = s.atl := rfl
@[simp] theorem State.wr_stb (s : State) (a : Nat) (w : Word) : (s.wr a w).stb = s.stb := rfl

/-! ### State.put -/

@[simp] theorem State.put_pending (s : State) (f : Fld) (v : Nat) : (s.put f v).pending = s.pending := rfl
@[simp] theorem State.put_freeCtr (s : State) (f : Fld) (v : Nat) : (s.put f v).freeCtr = s.freeCtr := rfl
@[simp] theorem State.put_lat (s : State) (f : Fld) (v : Nat) : (s.put f v).lat = s.lat := rfl
@[simp] theorem State.put_evc (s : State) (f : Fld) (v : Nat) : (s.put f v).evc = s.evc := rfl
@[simp] theorem State.put_mem (s : State) (f : Fld) (v : Nat) : (s.put f v).mem = s.mem := rfl
@[simp] theorem State.put_dramErr (s : State) (f : Fld) (v : Nat) : (s.put f v).dramErr = s.dramErr := rfl
@[simp] theorem State.put_fifos (s : State) (f : Fld) (v : Nat) : (s.put f v).fifos = s.fifos := rfl
@[simp] theorem State.put_fifoWait (s : State) (f : Fld) (v : Nat) : (s.put f v).fifoWait = s.fifoWait := rfl
@[simp] theorem State.put_clkAt (s : State) (f : Fld) (v : Nat) : (s.put f v).clkAt = s.clkAt := rfl
@[simp] theorem State.put_fix (s : State) (f : Fld) (v : Nat) : (s.put f v).fix = s.fix := rfl
@[simp] theorem State.put_rst (s : State) (f : Fld) (v : Nat) : (s.put f v).rst = s.rst := rfl
@[simp] theorem State.put_host (s : State) (f : Fld) (v : Nat) : (s.put f v).host = s.host := rfl
@[simp] theorem State.put_tly (s : State) (f : Fld) (v : Nat) : (s.put f v).tly = s.tly := rfl
@[simp] theorem State.put_lcy (s : State) (f : Fld) (v : Nat) : (s.put f v).lcy = s.lcy := rfl
@[simp] theorem State.put_cores (s : State) (f : Fld) (v : Nat) : (s.put f v).cores = s.cores := rfl
@[simp] theorem State.put_mbx (s : State) (f : Fld) (v : Nat) : (s.put f v).mbx = s.mbx := rfl
@[simp] theorem State.put_house (s : State) (f : Fld) (v : Nat) : (s.put f v).house = s.house := rfl
@[simp] theorem State.put_tb (s : State) (f : Fld) (v : Nat) : (s.put f v).tb = s.tb := rfl
@[simp] theorem State.put_skb (s : State) (f : Fld) (v : Nat) : (s.put f v).skb = s.skb := rfl
@[simp] theorem State.put_pal (s : State) (f : Fld) (v : Nat) : (s.put f v).pal = s.pal := rfl
@[simp] theorem State.put_und (s : State) (f : Fld) (v : Nat) : (s.put f v).und = s.und := rfl
@[simp] theorem State.put_glz (s : State) (f : Fld) (v : Nat) : (s.put f v).glz = s.glz := rfl
@[simp] theorem State.put_timed (s : State) (f : Fld) (v : Nat) : (s.put f v).timed = s.timed := rfl
@[simp] theorem State.put_var (s : State) (f : Fld) (v : Nat) : (s.put f v).var = s.var := rfl
@[simp] theorem State.put_outs (s : State) (f : Fld) (v : Nat) : (s.put f v).outs = s.outs := rfl
@[simp] theorem State.put_pins (s : State) (f : Fld) (v : Nat) : (s.put f v).pins = s.pins := rfl
@[simp] theorem State.put_tw (s : State) (f : Fld) (v : Nat) : (s.put f v).tw = s.tw := rfl
@[simp] theorem State.put_tdc (s : State) (f : Fld) (v : Nat) : (s.put f v).tdc = s.tdc := rfl
@[simp] theorem State.put_tdcTurn (s : State) (f : Fld) (v : Nat) : (s.put f v).tdcTurn = s.tdcTurn := rfl
@[simp] theorem State.put_gns (s : State) (f : Fld) (v : Nat) : (s.put f v).gns = s.gns := rfl
@[simp] theorem State.put_gnsKeep (s : State) (f : Fld) (v : Nat) : (s.put f v).gnsKeep = s.gnsKeep := rfl
@[simp] theorem State.put_tmpOn (s : State) (f : Fld) (v : Nat) : (s.put f v).tmpOn = s.tmpOn := rfl
@[simp] theorem State.put_scrubAt (s : State) (f : Fld) (v : Nat) : (s.put f v).scrubAt = s.scrubAt := rfl
@[simp] theorem State.put_lp (s : State) (f : Fld) (v : Nat) : (s.put f v).lp = s.lp := rfl
@[simp] theorem State.put_tod (s : State) (f : Fld) (v : Nat) : (s.put f v).tod = s.tod := rfl
@[simp] theorem State.put_stz (s : State) (f : Fld) (v : Nat) : (s.put f v).stz = s.stz := rfl
@[simp] theorem State.put_ptp (s : State) (f : Fld) (v : Nat) : (s.put f v).ptp = s.ptp := rfl
@[simp] theorem State.put_kv (s : State) (f : Fld) (v : Nat) : (s.put f v).kv = s.kv := rfl
@[simp] theorem State.put_sp (s : State) (f : Fld) (v : Nat) : (s.put f v).sp = s.sp := rfl
@[simp] theorem State.put_atl (s : State) (f : Fld) (v : Nat) : (s.put f v).atl = s.atl := rfl
@[simp] theorem State.put_stb (s : State) (f : Fld) (v : Nat) : (s.put f v).stb = s.stb := rfl

/-! ### State.putB -/

@[simp] theorem State.putB_pending (s : State) (f : Fld) (b : Bool) : (s.putB f b).pending = s.pending := rfl
@[simp] theorem State.putB_freeCtr (s : State) (f : Fld) (b : Bool) : (s.putB f b).freeCtr = s.freeCtr := rfl
@[simp] theorem State.putB_lat (s : State) (f : Fld) (b : Bool) : (s.putB f b).lat = s.lat := rfl
@[simp] theorem State.putB_evc (s : State) (f : Fld) (b : Bool) : (s.putB f b).evc = s.evc := rfl
@[simp] theorem State.putB_mem (s : State) (f : Fld) (b : Bool) : (s.putB f b).mem = s.mem := rfl
@[simp] theorem State.putB_dramErr (s : State) (f : Fld) (b : Bool) : (s.putB f b).dramErr = s.dramErr := rfl
@[simp] theorem State.putB_fifos (s : State) (f : Fld) (b : Bool) : (s.putB f b).fifos = s.fifos := rfl
@[simp] theorem State.putB_fifoWait (s : State) (f : Fld) (b : Bool) : (s.putB f b).fifoWait = s.fifoWait := rfl
@[simp] theorem State.putB_clkAt (s : State) (f : Fld) (b : Bool) : (s.putB f b).clkAt = s.clkAt := rfl
@[simp] theorem State.putB_fix (s : State) (f : Fld) (b : Bool) : (s.putB f b).fix = s.fix := rfl
@[simp] theorem State.putB_rst (s : State) (f : Fld) (b : Bool) : (s.putB f b).rst = s.rst := rfl
@[simp] theorem State.putB_host (s : State) (f : Fld) (b : Bool) : (s.putB f b).host = s.host := rfl
@[simp] theorem State.putB_tly (s : State) (f : Fld) (b : Bool) : (s.putB f b).tly = s.tly := rfl
@[simp] theorem State.putB_lcy (s : State) (f : Fld) (b : Bool) : (s.putB f b).lcy = s.lcy := rfl
@[simp] theorem State.putB_cores (s : State) (f : Fld) (b : Bool) : (s.putB f b).cores = s.cores := rfl
@[simp] theorem State.putB_mbx (s : State) (f : Fld) (b : Bool) : (s.putB f b).mbx = s.mbx := rfl
@[simp] theorem State.putB_house (s : State) (f : Fld) (b : Bool) : (s.putB f b).house = s.house := rfl
@[simp] theorem State.putB_tb (s : State) (f : Fld) (b : Bool) : (s.putB f b).tb = s.tb := rfl
@[simp] theorem State.putB_skb (s : State) (f : Fld) (b : Bool) : (s.putB f b).skb = s.skb := rfl
@[simp] theorem State.putB_pal (s : State) (f : Fld) (b : Bool) : (s.putB f b).pal = s.pal := rfl
@[simp] theorem State.putB_und (s : State) (f : Fld) (b : Bool) : (s.putB f b).und = s.und := rfl
@[simp] theorem State.putB_glz (s : State) (f : Fld) (b : Bool) : (s.putB f b).glz = s.glz := rfl
@[simp] theorem State.putB_timed (s : State) (f : Fld) (b : Bool) : (s.putB f b).timed = s.timed := rfl
@[simp] theorem State.putB_var (s : State) (f : Fld) (b : Bool) : (s.putB f b).var = s.var := rfl
@[simp] theorem State.putB_outs (s : State) (f : Fld) (b : Bool) : (s.putB f b).outs = s.outs := rfl
@[simp] theorem State.putB_pins (s : State) (f : Fld) (b : Bool) : (s.putB f b).pins = s.pins := rfl
@[simp] theorem State.putB_tw (s : State) (f : Fld) (b : Bool) : (s.putB f b).tw = s.tw := rfl
@[simp] theorem State.putB_tdc (s : State) (f : Fld) (b : Bool) : (s.putB f b).tdc = s.tdc := rfl
@[simp] theorem State.putB_tdcTurn (s : State) (f : Fld) (b : Bool) : (s.putB f b).tdcTurn = s.tdcTurn := rfl
@[simp] theorem State.putB_gns (s : State) (f : Fld) (b : Bool) : (s.putB f b).gns = s.gns := rfl
@[simp] theorem State.putB_gnsKeep (s : State) (f : Fld) (b : Bool) : (s.putB f b).gnsKeep = s.gnsKeep := rfl
@[simp] theorem State.putB_tmpOn (s : State) (f : Fld) (b : Bool) : (s.putB f b).tmpOn = s.tmpOn := rfl
@[simp] theorem State.putB_scrubAt (s : State) (f : Fld) (b : Bool) : (s.putB f b).scrubAt = s.scrubAt := rfl
@[simp] theorem State.putB_lp (s : State) (f : Fld) (b : Bool) : (s.putB f b).lp = s.lp := rfl
@[simp] theorem State.putB_tod (s : State) (f : Fld) (b : Bool) : (s.putB f b).tod = s.tod := rfl
@[simp] theorem State.putB_stz (s : State) (f : Fld) (b : Bool) : (s.putB f b).stz = s.stz := rfl
@[simp] theorem State.putB_ptp (s : State) (f : Fld) (b : Bool) : (s.putB f b).ptp = s.ptp := rfl
@[simp] theorem State.putB_kv (s : State) (f : Fld) (b : Bool) : (s.putB f b).kv = s.kv := rfl
@[simp] theorem State.putB_sp (s : State) (f : Fld) (b : Bool) : (s.putB f b).sp = s.sp := rfl
@[simp] theorem State.putB_atl (s : State) (f : Fld) (b : Bool) : (s.putB f b).atl = s.atl := rfl
@[simp] theorem State.putB_stb (s : State) (f : Fld) (b : Bool) : (s.putB f b).stb = s.stb := rfl

/-! ### State.putI -/

@[simp] theorem State.putI_pending (s : State) (f : Fld) (v : Int) : (s.putI f v).pending = s.pending := rfl
@[simp] theorem State.putI_freeCtr (s : State) (f : Fld) (v : Int) : (s.putI f v).freeCtr = s.freeCtr := rfl
@[simp] theorem State.putI_lat (s : State) (f : Fld) (v : Int) : (s.putI f v).lat = s.lat := rfl
@[simp] theorem State.putI_evc (s : State) (f : Fld) (v : Int) : (s.putI f v).evc = s.evc := rfl
@[simp] theorem State.putI_mem (s : State) (f : Fld) (v : Int) : (s.putI f v).mem = s.mem := rfl
@[simp] theorem State.putI_dramErr (s : State) (f : Fld) (v : Int) : (s.putI f v).dramErr = s.dramErr := rfl
@[simp] theorem State.putI_fifos (s : State) (f : Fld) (v : Int) : (s.putI f v).fifos = s.fifos := rfl
@[simp] theorem State.putI_fifoWait (s : State) (f : Fld) (v : Int) : (s.putI f v).fifoWait = s.fifoWait := rfl
@[simp] theorem State.putI_clkAt (s : State) (f : Fld) (v : Int) : (s.putI f v).clkAt = s.clkAt := rfl
@[simp] theorem State.putI_fix (s : State) (f : Fld) (v : Int) : (s.putI f v).fix = s.fix := rfl
@[simp] theorem State.putI_rst (s : State) (f : Fld) (v : Int) : (s.putI f v).rst = s.rst := rfl
@[simp] theorem State.putI_host (s : State) (f : Fld) (v : Int) : (s.putI f v).host = s.host := rfl
@[simp] theorem State.putI_tly (s : State) (f : Fld) (v : Int) : (s.putI f v).tly = s.tly := rfl
@[simp] theorem State.putI_lcy (s : State) (f : Fld) (v : Int) : (s.putI f v).lcy = s.lcy := rfl
@[simp] theorem State.putI_cores (s : State) (f : Fld) (v : Int) : (s.putI f v).cores = s.cores := rfl
@[simp] theorem State.putI_mbx (s : State) (f : Fld) (v : Int) : (s.putI f v).mbx = s.mbx := rfl
@[simp] theorem State.putI_house (s : State) (f : Fld) (v : Int) : (s.putI f v).house = s.house := rfl
@[simp] theorem State.putI_tb (s : State) (f : Fld) (v : Int) : (s.putI f v).tb = s.tb := rfl
@[simp] theorem State.putI_skb (s : State) (f : Fld) (v : Int) : (s.putI f v).skb = s.skb := rfl
@[simp] theorem State.putI_pal (s : State) (f : Fld) (v : Int) : (s.putI f v).pal = s.pal := rfl
@[simp] theorem State.putI_und (s : State) (f : Fld) (v : Int) : (s.putI f v).und = s.und := rfl
@[simp] theorem State.putI_glz (s : State) (f : Fld) (v : Int) : (s.putI f v).glz = s.glz := rfl
@[simp] theorem State.putI_timed (s : State) (f : Fld) (v : Int) : (s.putI f v).timed = s.timed := rfl
@[simp] theorem State.putI_var (s : State) (f : Fld) (v : Int) : (s.putI f v).var = s.var := rfl
@[simp] theorem State.putI_outs (s : State) (f : Fld) (v : Int) : (s.putI f v).outs = s.outs := rfl
@[simp] theorem State.putI_pins (s : State) (f : Fld) (v : Int) : (s.putI f v).pins = s.pins := rfl
@[simp] theorem State.putI_tw (s : State) (f : Fld) (v : Int) : (s.putI f v).tw = s.tw := rfl
@[simp] theorem State.putI_tdc (s : State) (f : Fld) (v : Int) : (s.putI f v).tdc = s.tdc := rfl
@[simp] theorem State.putI_tdcTurn (s : State) (f : Fld) (v : Int) : (s.putI f v).tdcTurn = s.tdcTurn := rfl
@[simp] theorem State.putI_gns (s : State) (f : Fld) (v : Int) : (s.putI f v).gns = s.gns := rfl
@[simp] theorem State.putI_gnsKeep (s : State) (f : Fld) (v : Int) : (s.putI f v).gnsKeep = s.gnsKeep := rfl
@[simp] theorem State.putI_tmpOn (s : State) (f : Fld) (v : Int) : (s.putI f v).tmpOn = s.tmpOn := rfl
@[simp] theorem State.putI_scrubAt (s : State) (f : Fld) (v : Int) : (s.putI f v).scrubAt = s.scrubAt := rfl
@[simp] theorem State.putI_lp (s : State) (f : Fld) (v : Int) : (s.putI f v).lp = s.lp := rfl
@[simp] theorem State.putI_tod (s : State) (f : Fld) (v : Int) : (s.putI f v).tod = s.tod := rfl
@[simp] theorem State.putI_stz (s : State) (f : Fld) (v : Int) : (s.putI f v).stz = s.stz := rfl
@[simp] theorem State.putI_ptp (s : State) (f : Fld) (v : Int) : (s.putI f v).ptp = s.ptp := rfl
@[simp] theorem State.putI_kv (s : State) (f : Fld) (v : Int) : (s.putI f v).kv = s.kv := rfl
@[simp] theorem State.putI_sp (s : State) (f : Fld) (v : Int) : (s.putI f v).sp = s.sp := rfl
@[simp] theorem State.putI_atl (s : State) (f : Fld) (v : Int) : (s.putI f v).atl = s.atl := rfl
@[simp] theorem State.putI_stb (s : State) (f : Fld) (v : Int) : (s.putI f v).stb = s.stb := rfl

/-! ### State.inc -/

@[simp] theorem State.inc_pending (s : State) (f : Fld) : (s.inc f).pending = s.pending := rfl
@[simp] theorem State.inc_freeCtr (s : State) (f : Fld) : (s.inc f).freeCtr = s.freeCtr := rfl
@[simp] theorem State.inc_lat (s : State) (f : Fld) : (s.inc f).lat = s.lat := rfl
@[simp] theorem State.inc_evc (s : State) (f : Fld) : (s.inc f).evc = s.evc := rfl
@[simp] theorem State.inc_mem (s : State) (f : Fld) : (s.inc f).mem = s.mem := rfl
@[simp] theorem State.inc_dramErr (s : State) (f : Fld) : (s.inc f).dramErr = s.dramErr := rfl
@[simp] theorem State.inc_fifos (s : State) (f : Fld) : (s.inc f).fifos = s.fifos := rfl
@[simp] theorem State.inc_fifoWait (s : State) (f : Fld) : (s.inc f).fifoWait = s.fifoWait := rfl
@[simp] theorem State.inc_clkAt (s : State) (f : Fld) : (s.inc f).clkAt = s.clkAt := rfl
@[simp] theorem State.inc_fix (s : State) (f : Fld) : (s.inc f).fix = s.fix := rfl
@[simp] theorem State.inc_rst (s : State) (f : Fld) : (s.inc f).rst = s.rst := rfl
@[simp] theorem State.inc_host (s : State) (f : Fld) : (s.inc f).host = s.host := rfl
@[simp] theorem State.inc_tly (s : State) (f : Fld) : (s.inc f).tly = s.tly := rfl
@[simp] theorem State.inc_lcy (s : State) (f : Fld) : (s.inc f).lcy = s.lcy := rfl
@[simp] theorem State.inc_cores (s : State) (f : Fld) : (s.inc f).cores = s.cores := rfl
@[simp] theorem State.inc_mbx (s : State) (f : Fld) : (s.inc f).mbx = s.mbx := rfl
@[simp] theorem State.inc_house (s : State) (f : Fld) : (s.inc f).house = s.house := rfl
@[simp] theorem State.inc_tb (s : State) (f : Fld) : (s.inc f).tb = s.tb := rfl
@[simp] theorem State.inc_skb (s : State) (f : Fld) : (s.inc f).skb = s.skb := rfl
@[simp] theorem State.inc_pal (s : State) (f : Fld) : (s.inc f).pal = s.pal := rfl
@[simp] theorem State.inc_und (s : State) (f : Fld) : (s.inc f).und = s.und := rfl
@[simp] theorem State.inc_glz (s : State) (f : Fld) : (s.inc f).glz = s.glz := rfl
@[simp] theorem State.inc_timed (s : State) (f : Fld) : (s.inc f).timed = s.timed := rfl
@[simp] theorem State.inc_var (s : State) (f : Fld) : (s.inc f).var = s.var := rfl
@[simp] theorem State.inc_outs (s : State) (f : Fld) : (s.inc f).outs = s.outs := rfl
@[simp] theorem State.inc_pins (s : State) (f : Fld) : (s.inc f).pins = s.pins := rfl
@[simp] theorem State.inc_tw (s : State) (f : Fld) : (s.inc f).tw = s.tw := rfl
@[simp] theorem State.inc_tdc (s : State) (f : Fld) : (s.inc f).tdc = s.tdc := rfl
@[simp] theorem State.inc_tdcTurn (s : State) (f : Fld) : (s.inc f).tdcTurn = s.tdcTurn := rfl
@[simp] theorem State.inc_gns (s : State) (f : Fld) : (s.inc f).gns = s.gns := rfl
@[simp] theorem State.inc_gnsKeep (s : State) (f : Fld) : (s.inc f).gnsKeep = s.gnsKeep := rfl
@[simp] theorem State.inc_tmpOn (s : State) (f : Fld) : (s.inc f).tmpOn = s.tmpOn := rfl
@[simp] theorem State.inc_scrubAt (s : State) (f : Fld) : (s.inc f).scrubAt = s.scrubAt := rfl
@[simp] theorem State.inc_lp (s : State) (f : Fld) : (s.inc f).lp = s.lp := rfl
@[simp] theorem State.inc_tod (s : State) (f : Fld) : (s.inc f).tod = s.tod := rfl
@[simp] theorem State.inc_stz (s : State) (f : Fld) : (s.inc f).stz = s.stz := rfl
@[simp] theorem State.inc_ptp (s : State) (f : Fld) : (s.inc f).ptp = s.ptp := rfl
@[simp] theorem State.inc_kv (s : State) (f : Fld) : (s.inc f).kv = s.kv := rfl
@[simp] theorem State.inc_sp (s : State) (f : Fld) : (s.inc f).sp = s.sp := rfl
@[simp] theorem State.inc_atl (s : State) (f : Fld) : (s.inc f).atl = s.atl := rfl
@[simp] theorem State.inc_stb (s : State) (f : Fld) : (s.inc f).stb = s.stb := rfl

/-! ### State.putT -/

@[simp] theorem State.putT_pending (s : State) (h l : Nat) (x : T80) : (s.putT h l x).pending = s.pending := rfl
@[simp] theorem State.putT_freeCtr (s : State) (h l : Nat) (x : T80) : (s.putT h l x).freeCtr = s.freeCtr := rfl
@[simp] theorem State.putT_evc (s : State) (h l : Nat) (x : T80) : (s.putT h l x).evc = s.evc := rfl
@[simp] theorem State.putT_mem (s : State) (h l : Nat) (x : T80) : (s.putT h l x).mem = s.mem := rfl
@[simp] theorem State.putT_dramErr (s : State) (h l : Nat) (x : T80) : (s.putT h l x).dramErr = s.dramErr := rfl
@[simp] theorem State.putT_fifos (s : State) (h l : Nat) (x : T80) : (s.putT h l x).fifos = s.fifos := rfl
@[simp] theorem State.putT_fifoWait (s : State) (h l : Nat) (x : T80) : (s.putT h l x).fifoWait = s.fifoWait := rfl
@[simp] theorem State.putT_clkAt (s : State) (h l : Nat) (x : T80) : (s.putT h l x).clkAt = s.clkAt := rfl
@[simp] theorem State.putT_fix (s : State) (h l : Nat) (x : T80) : (s.putT h l x).fix = s.fix := rfl
@[simp] theorem State.putT_rst (s : State) (h l : Nat) (x : T80) : (s.putT h l x).rst = s.rst := rfl
@[simp] theorem State.putT_host (s : State) (h l : Nat) (x : T80) : (s.putT h l x).host = s.host := rfl
@[simp] theorem State.putT_tly (s : State) (h l : Nat) (x : T80) : (s.putT h l x).tly = s.tly := rfl
@[simp] theorem State.putT_lcy (s : State) (h l : Nat) (x : T80) : (s.putT h l x).lcy = s.lcy := rfl
@[simp] theorem State.putT_cores (s : State) (h l : Nat) (x : T80) : (s.putT h l x).cores = s.cores := rfl
@[simp] theorem State.putT_mbx (s : State) (h l : Nat) (x : T80) : (s.putT h l x).mbx = s.mbx := rfl
@[simp] theorem State.putT_house (s : State) (h l : Nat) (x : T80) : (s.putT h l x).house = s.house := rfl
@[simp] theorem State.putT_tb (s : State) (h l : Nat) (x : T80) : (s.putT h l x).tb = s.tb := rfl
@[simp] theorem State.putT_skb (s : State) (h l : Nat) (x : T80) : (s.putT h l x).skb = s.skb := rfl
@[simp] theorem State.putT_pal (s : State) (h l : Nat) (x : T80) : (s.putT h l x).pal = s.pal := rfl
@[simp] theorem State.putT_und (s : State) (h l : Nat) (x : T80) : (s.putT h l x).und = s.und := rfl
@[simp] theorem State.putT_glz (s : State) (h l : Nat) (x : T80) : (s.putT h l x).glz = s.glz := rfl
@[simp] theorem State.putT_timed (s : State) (h l : Nat) (x : T80) : (s.putT h l x).timed = s.timed := rfl
@[simp] theorem State.putT_var (s : State) (h l : Nat) (x : T80) : (s.putT h l x).var = s.var := rfl
@[simp] theorem State.putT_outs (s : State) (h l : Nat) (x : T80) : (s.putT h l x).outs = s.outs := rfl
@[simp] theorem State.putT_pins (s : State) (h l : Nat) (x : T80) : (s.putT h l x).pins = s.pins := rfl
@[simp] theorem State.putT_tw (s : State) (h l : Nat) (x : T80) : (s.putT h l x).tw = s.tw := rfl
@[simp] theorem State.putT_tdc (s : State) (h l : Nat) (x : T80) : (s.putT h l x).tdc = s.tdc := rfl
@[simp] theorem State.putT_tdcTurn (s : State) (h l : Nat) (x : T80) : (s.putT h l x).tdcTurn = s.tdcTurn := rfl
@[simp] theorem State.putT_gns (s : State) (h l : Nat) (x : T80) : (s.putT h l x).gns = s.gns := rfl
@[simp] theorem State.putT_gnsKeep (s : State) (h l : Nat) (x : T80) : (s.putT h l x).gnsKeep = s.gnsKeep := rfl
@[simp] theorem State.putT_tmpOn (s : State) (h l : Nat) (x : T80) : (s.putT h l x).tmpOn = s.tmpOn := rfl
@[simp] theorem State.putT_scrubAt (s : State) (h l : Nat) (x : T80) : (s.putT h l x).scrubAt = s.scrubAt := rfl
@[simp] theorem State.putT_lp (s : State) (h l : Nat) (x : T80) : (s.putT h l x).lp = s.lp := rfl
@[simp] theorem State.putT_tod (s : State) (h l : Nat) (x : T80) : (s.putT h l x).tod = s.tod := rfl
@[simp] theorem State.putT_stz (s : State) (h l : Nat) (x : T80) : (s.putT h l x).stz = s.stz := rfl
@[simp] theorem State.putT_ptp (s : State) (h l : Nat) (x : T80) : (s.putT h l x).ptp = s.ptp := rfl
@[simp] theorem State.putT_kv (s : State) (h l : Nat) (x : T80) : (s.putT h l x).kv = s.kv := rfl
@[simp] theorem State.putT_sp (s : State) (h l : Nat) (x : T80) : (s.putT h l x).sp = s.sp := rfl
@[simp] theorem State.putT_atl (s : State) (h l : Nat) (x : T80) : (s.putT h l x).atl = s.atl := rfl
@[simp] theorem State.putT_stb (s : State) (h l : Nat) (x : T80) : (s.putT h l x).stb = s.stb := rfl

/-! ### State.st -/

@[simp] theorem State.st_pending (s : State) (a : Nat) (w : Word) : (s.st a w).pending = s.pending := rfl
@[simp] theorem State.st_freeCtr (s : State) (a : Nat) (w : Word) : (s.st a w).freeCtr = s.freeCtr := rfl
@[simp] theorem State.st_regs (s : State) (a : Nat) (w : Word) : (s.st a w).regs = s.regs := rfl
@[simp] theorem State.st_lat (s : State) (a : Nat) (w : Word) : (s.st a w).lat = s.lat := rfl
@[simp] theorem State.st_evc (s : State) (a : Nat) (w : Word) : (s.st a w).evc = s.evc := rfl
@[simp] theorem State.st_dramErr (s : State) (a : Nat) (w : Word) : (s.st a w).dramErr = s.dramErr := rfl
@[simp] theorem State.st_fifos (s : State) (a : Nat) (w : Word) : (s.st a w).fifos = s.fifos := rfl
@[simp] theorem State.st_fifoWait (s : State) (a : Nat) (w : Word) : (s.st a w).fifoWait = s.fifoWait := rfl
@[simp] theorem State.st_clkAt (s : State) (a : Nat) (w : Word) : (s.st a w).clkAt = s.clkAt := rfl
@[simp] theorem State.st_fix (s : State) (a : Nat) (w : Word) : (s.st a w).fix = s.fix := rfl
@[simp] theorem State.st_rst (s : State) (a : Nat) (w : Word) : (s.st a w).rst = s.rst := rfl
@[simp] theorem State.st_host (s : State) (a : Nat) (w : Word) : (s.st a w).host = s.host := rfl
@[simp] theorem State.st_tly (s : State) (a : Nat) (w : Word) : (s.st a w).tly = s.tly := rfl
@[simp] theorem State.st_lcy (s : State) (a : Nat) (w : Word) : (s.st a w).lcy = s.lcy := rfl
@[simp] theorem State.st_cores (s : State) (a : Nat) (w : Word) : (s.st a w).cores = s.cores := rfl
@[simp] theorem State.st_mbx (s : State) (a : Nat) (w : Word) : (s.st a w).mbx = s.mbx := rfl
@[simp] theorem State.st_house (s : State) (a : Nat) (w : Word) : (s.st a w).house = s.house := rfl
@[simp] theorem State.st_tb (s : State) (a : Nat) (w : Word) : (s.st a w).tb = s.tb := rfl
@[simp] theorem State.st_skb (s : State) (a : Nat) (w : Word) : (s.st a w).skb = s.skb := rfl
@[simp] theorem State.st_pal (s : State) (a : Nat) (w : Word) : (s.st a w).pal = s.pal := rfl
@[simp] theorem State.st_und (s : State) (a : Nat) (w : Word) : (s.st a w).und = s.und := rfl
@[simp] theorem State.st_glz (s : State) (a : Nat) (w : Word) : (s.st a w).glz = s.glz := rfl
@[simp] theorem State.st_timed (s : State) (a : Nat) (w : Word) : (s.st a w).timed = s.timed := rfl
@[simp] theorem State.st_var (s : State) (a : Nat) (w : Word) : (s.st a w).var = s.var := rfl
@[simp] theorem State.st_outs (s : State) (a : Nat) (w : Word) : (s.st a w).outs = s.outs := rfl
@[simp] theorem State.st_pins (s : State) (a : Nat) (w : Word) : (s.st a w).pins = s.pins := rfl
@[simp] theorem State.st_tw (s : State) (a : Nat) (w : Word) : (s.st a w).tw = s.tw := rfl
@[simp] theorem State.st_tdc (s : State) (a : Nat) (w : Word) : (s.st a w).tdc = s.tdc := rfl
@[simp] theorem State.st_tdcTurn (s : State) (a : Nat) (w : Word) : (s.st a w).tdcTurn = s.tdcTurn := rfl
@[simp] theorem State.st_gns (s : State) (a : Nat) (w : Word) : (s.st a w).gns = s.gns := rfl
@[simp] theorem State.st_gnsKeep (s : State) (a : Nat) (w : Word) : (s.st a w).gnsKeep = s.gnsKeep := rfl
@[simp] theorem State.st_tmpOn (s : State) (a : Nat) (w : Word) : (s.st a w).tmpOn = s.tmpOn := rfl
@[simp] theorem State.st_scrubAt (s : State) (a : Nat) (w : Word) : (s.st a w).scrubAt = s.scrubAt := rfl
@[simp] theorem State.st_lp (s : State) (a : Nat) (w : Word) : (s.st a w).lp = s.lp := rfl
@[simp] theorem State.st_tod (s : State) (a : Nat) (w : Word) : (s.st a w).tod = s.tod := rfl
@[simp] theorem State.st_stz (s : State) (a : Nat) (w : Word) : (s.st a w).stz = s.stz := rfl
@[simp] theorem State.st_ptp (s : State) (a : Nat) (w : Word) : (s.st a w).ptp = s.ptp := rfl
@[simp] theorem State.st_kv (s : State) (a : Nat) (w : Word) : (s.st a w).kv = s.kv := rfl
@[simp] theorem State.st_sp (s : State) (a : Nat) (w : Word) : (s.st a w).sp = s.sp := rfl
@[simp] theorem State.st_atl (s : State) (a : Nat) (w : Word) : (s.st a w).atl = s.atl := rfl
@[simp] theorem State.st_stb (s : State) (a : Nat) (w : Word) : (s.st a w).stb = s.stb := rfl

/-! ### State.setFifo -/

@[simp] theorem State.setFifo_pending (s : State) (n : Nat) (q : Fifo) : (s.setFifo n q).pending = s.pending := rfl
@[simp] theorem State.setFifo_freeCtr (s : State) (n : Nat) (q : Fifo) : (s.setFifo n q).freeCtr = s.freeCtr := rfl
@[simp] theorem State.setFifo_regs (s : State) (n : Nat) (q : Fifo) : (s.setFifo n q).regs = s.regs := rfl
@[simp] theorem State.setFifo_lat (s : State) (n : Nat) (q : Fifo) : (s.setFifo n q).lat = s.lat := rfl
@[simp] theorem State.setFifo_evc (s : State) (n : Nat) (q : Fifo) : (s.setFifo n q).evc = s.evc := rfl
@[simp] theorem State.setFifo_mem (s : State) (n : Nat) (q : Fifo) : (s.setFifo n q).mem = s.mem := rfl
@[simp] theorem State.setFifo_dramErr (s : State) (n : Nat) (q : Fifo) : (s.setFifo n q).dramErr = s.dramErr := rfl
@[simp] theorem State.setFifo_fifoWait (s : State) (n : Nat) (q : Fifo) : (s.setFifo n q).fifoWait = s.fifoWait := rfl
@[simp] theorem State.setFifo_clkAt (s : State) (n : Nat) (q : Fifo) : (s.setFifo n q).clkAt = s.clkAt := rfl
@[simp] theorem State.setFifo_fix (s : State) (n : Nat) (q : Fifo) : (s.setFifo n q).fix = s.fix := rfl
@[simp] theorem State.setFifo_rst (s : State) (n : Nat) (q : Fifo) : (s.setFifo n q).rst = s.rst := rfl
@[simp] theorem State.setFifo_host (s : State) (n : Nat) (q : Fifo) : (s.setFifo n q).host = s.host := rfl
@[simp] theorem State.setFifo_tly (s : State) (n : Nat) (q : Fifo) : (s.setFifo n q).tly = s.tly := rfl
@[simp] theorem State.setFifo_lcy (s : State) (n : Nat) (q : Fifo) : (s.setFifo n q).lcy = s.lcy := rfl
@[simp] theorem State.setFifo_cores (s : State) (n : Nat) (q : Fifo) : (s.setFifo n q).cores = s.cores := rfl
@[simp] theorem State.setFifo_mbx (s : State) (n : Nat) (q : Fifo) : (s.setFifo n q).mbx = s.mbx := rfl
@[simp] theorem State.setFifo_house (s : State) (n : Nat) (q : Fifo) : (s.setFifo n q).house = s.house := rfl
@[simp] theorem State.setFifo_tb (s : State) (n : Nat) (q : Fifo) : (s.setFifo n q).tb = s.tb := rfl
@[simp] theorem State.setFifo_skb (s : State) (n : Nat) (q : Fifo) : (s.setFifo n q).skb = s.skb := rfl
@[simp] theorem State.setFifo_pal (s : State) (n : Nat) (q : Fifo) : (s.setFifo n q).pal = s.pal := rfl
@[simp] theorem State.setFifo_und (s : State) (n : Nat) (q : Fifo) : (s.setFifo n q).und = s.und := rfl
@[simp] theorem State.setFifo_glz (s : State) (n : Nat) (q : Fifo) : (s.setFifo n q).glz = s.glz := rfl
@[simp] theorem State.setFifo_timed (s : State) (n : Nat) (q : Fifo) : (s.setFifo n q).timed = s.timed := rfl
@[simp] theorem State.setFifo_var (s : State) (n : Nat) (q : Fifo) : (s.setFifo n q).var = s.var := rfl
@[simp] theorem State.setFifo_outs (s : State) (n : Nat) (q : Fifo) : (s.setFifo n q).outs = s.outs := rfl
@[simp] theorem State.setFifo_pins (s : State) (n : Nat) (q : Fifo) : (s.setFifo n q).pins = s.pins := rfl
@[simp] theorem State.setFifo_tw (s : State) (n : Nat) (q : Fifo) : (s.setFifo n q).tw = s.tw := rfl
@[simp] theorem State.setFifo_tdc (s : State) (n : Nat) (q : Fifo) : (s.setFifo n q).tdc = s.tdc := rfl
@[simp] theorem State.setFifo_tdcTurn (s : State) (n : Nat) (q : Fifo) : (s.setFifo n q).tdcTurn = s.tdcTurn := rfl
@[simp] theorem State.setFifo_gns (s : State) (n : Nat) (q : Fifo) : (s.setFifo n q).gns = s.gns := rfl
@[simp] theorem State.setFifo_gnsKeep (s : State) (n : Nat) (q : Fifo) : (s.setFifo n q).gnsKeep = s.gnsKeep := rfl
@[simp] theorem State.setFifo_tmpOn (s : State) (n : Nat) (q : Fifo) : (s.setFifo n q).tmpOn = s.tmpOn := rfl
@[simp] theorem State.setFifo_scrubAt (s : State) (n : Nat) (q : Fifo) : (s.setFifo n q).scrubAt = s.scrubAt := rfl
@[simp] theorem State.setFifo_lp (s : State) (n : Nat) (q : Fifo) : (s.setFifo n q).lp = s.lp := rfl
@[simp] theorem State.setFifo_tod (s : State) (n : Nat) (q : Fifo) : (s.setFifo n q).tod = s.tod := rfl
@[simp] theorem State.setFifo_stz (s : State) (n : Nat) (q : Fifo) : (s.setFifo n q).stz = s.stz := rfl
@[simp] theorem State.setFifo_ptp (s : State) (n : Nat) (q : Fifo) : (s.setFifo n q).ptp = s.ptp := rfl
@[simp] theorem State.setFifo_kv (s : State) (n : Nat) (q : Fifo) : (s.setFifo n q).kv = s.kv := rfl
@[simp] theorem State.setFifo_sp (s : State) (n : Nat) (q : Fifo) : (s.setFifo n q).sp = s.sp := rfl
@[simp] theorem State.setFifo_atl (s : State) (n : Nat) (q : Fifo) : (s.setFifo n q).atl = s.atl := rfl
@[simp] theorem State.setFifo_stb (s : State) (n : Nat) (q : Fifo) : (s.setFifo n q).stb = s.stb := rfl

/-! ### State.setCore -/

@[simp] theorem State.setCore_pending (s : State) (k : Nat) (c : Core) : (s.setCore k c).pending = s.pending := rfl
@[simp] theorem State.setCore_freeCtr (s : State) (k : Nat) (c : Core) : (s.setCore k c).freeCtr = s.freeCtr := rfl
@[simp] theorem State.setCore_regs (s : State) (k : Nat) (c : Core) : (s.setCore k c).regs = s.regs := rfl
@[simp] theorem State.setCore_lat (s : State) (k : Nat) (c : Core) : (s.setCore k c).lat = s.lat := rfl
@[simp] theorem State.setCore_evc (s : State) (k : Nat) (c : Core) : (s.setCore k c).evc = s.evc := rfl
@[simp] theorem State.setCore_mem (s : State) (k : Nat) (c : Core) : (s.setCore k c).mem = s.mem := rfl
@[simp] theorem State.setCore_dramErr (s : State) (k : Nat) (c : Core) : (s.setCore k c).dramErr = s.dramErr := rfl
@[simp] theorem State.setCore_fifos (s : State) (k : Nat) (c : Core) : (s.setCore k c).fifos = s.fifos := rfl
@[simp] theorem State.setCore_fifoWait (s : State) (k : Nat) (c : Core) : (s.setCore k c).fifoWait = s.fifoWait := rfl
@[simp] theorem State.setCore_clkAt (s : State) (k : Nat) (c : Core) : (s.setCore k c).clkAt = s.clkAt := rfl
@[simp] theorem State.setCore_fix (s : State) (k : Nat) (c : Core) : (s.setCore k c).fix = s.fix := rfl
@[simp] theorem State.setCore_rst (s : State) (k : Nat) (c : Core) : (s.setCore k c).rst = s.rst := rfl
@[simp] theorem State.setCore_host (s : State) (k : Nat) (c : Core) : (s.setCore k c).host = s.host := rfl
@[simp] theorem State.setCore_tly (s : State) (k : Nat) (c : Core) : (s.setCore k c).tly = s.tly := rfl
@[simp] theorem State.setCore_lcy (s : State) (k : Nat) (c : Core) : (s.setCore k c).lcy = s.lcy := rfl
@[simp] theorem State.setCore_mbx (s : State) (k : Nat) (c : Core) : (s.setCore k c).mbx = s.mbx := rfl
@[simp] theorem State.setCore_house (s : State) (k : Nat) (c : Core) : (s.setCore k c).house = s.house := rfl
@[simp] theorem State.setCore_tb (s : State) (k : Nat) (c : Core) : (s.setCore k c).tb = s.tb := rfl
@[simp] theorem State.setCore_skb (s : State) (k : Nat) (c : Core) : (s.setCore k c).skb = s.skb := rfl
@[simp] theorem State.setCore_pal (s : State) (k : Nat) (c : Core) : (s.setCore k c).pal = s.pal := rfl
@[simp] theorem State.setCore_und (s : State) (k : Nat) (c : Core) : (s.setCore k c).und = s.und := rfl
@[simp] theorem State.setCore_glz (s : State) (k : Nat) (c : Core) : (s.setCore k c).glz = s.glz := rfl
@[simp] theorem State.setCore_timed (s : State) (k : Nat) (c : Core) : (s.setCore k c).timed = s.timed := rfl
@[simp] theorem State.setCore_var (s : State) (k : Nat) (c : Core) : (s.setCore k c).var = s.var := rfl
@[simp] theorem State.setCore_outs (s : State) (k : Nat) (c : Core) : (s.setCore k c).outs = s.outs := rfl
@[simp] theorem State.setCore_pins (s : State) (k : Nat) (c : Core) : (s.setCore k c).pins = s.pins := rfl
@[simp] theorem State.setCore_tw (s : State) (k : Nat) (c : Core) : (s.setCore k c).tw = s.tw := rfl
@[simp] theorem State.setCore_tdc (s : State) (k : Nat) (c : Core) : (s.setCore k c).tdc = s.tdc := rfl
@[simp] theorem State.setCore_tdcTurn (s : State) (k : Nat) (c : Core) : (s.setCore k c).tdcTurn = s.tdcTurn := rfl
@[simp] theorem State.setCore_gns (s : State) (k : Nat) (c : Core) : (s.setCore k c).gns = s.gns := rfl
@[simp] theorem State.setCore_gnsKeep (s : State) (k : Nat) (c : Core) : (s.setCore k c).gnsKeep = s.gnsKeep := rfl
@[simp] theorem State.setCore_tmpOn (s : State) (k : Nat) (c : Core) : (s.setCore k c).tmpOn = s.tmpOn := rfl
@[simp] theorem State.setCore_scrubAt (s : State) (k : Nat) (c : Core) : (s.setCore k c).scrubAt = s.scrubAt := rfl
@[simp] theorem State.setCore_lp (s : State) (k : Nat) (c : Core) : (s.setCore k c).lp = s.lp := rfl
@[simp] theorem State.setCore_tod (s : State) (k : Nat) (c : Core) : (s.setCore k c).tod = s.tod := rfl
@[simp] theorem State.setCore_stz (s : State) (k : Nat) (c : Core) : (s.setCore k c).stz = s.stz := rfl
@[simp] theorem State.setCore_ptp (s : State) (k : Nat) (c : Core) : (s.setCore k c).ptp = s.ptp := rfl
@[simp] theorem State.setCore_kv (s : State) (k : Nat) (c : Core) : (s.setCore k c).kv = s.kv := rfl
@[simp] theorem State.setCore_sp (s : State) (k : Nat) (c : Core) : (s.setCore k c).sp = s.sp := rfl
@[simp] theorem State.setCore_atl (s : State) (k : Nat) (c : Core) : (s.setCore k c).atl = s.atl := rfl
@[simp] theorem State.setCore_stb (s : State) (k : Nat) (c : Core) : (s.setCore k c).stb = s.stb := rfl

/-! ### State.setVar -/

@[simp] theorem State.setVar_pending (s : State) (n : Nat) (v : VarSt) : (s.setVar n v).pending = s.pending := rfl
@[simp] theorem State.setVar_freeCtr (s : State) (n : Nat) (v : VarSt) : (s.setVar n v).freeCtr = s.freeCtr := rfl
@[simp] theorem State.setVar_regs (s : State) (n : Nat) (v : VarSt) : (s.setVar n v).regs = s.regs := rfl
@[simp] theorem State.setVar_lat (s : State) (n : Nat) (v : VarSt) : (s.setVar n v).lat = s.lat := rfl
@[simp] theorem State.setVar_evc (s : State) (n : Nat) (v : VarSt) : (s.setVar n v).evc = s.evc := rfl
@[simp] theorem State.setVar_mem (s : State) (n : Nat) (v : VarSt) : (s.setVar n v).mem = s.mem := rfl
@[simp] theorem State.setVar_dramErr (s : State) (n : Nat) (v : VarSt) : (s.setVar n v).dramErr = s.dramErr := rfl
@[simp] theorem State.setVar_fifos (s : State) (n : Nat) (v : VarSt) : (s.setVar n v).fifos = s.fifos := rfl
@[simp] theorem State.setVar_fifoWait (s : State) (n : Nat) (v : VarSt) : (s.setVar n v).fifoWait = s.fifoWait := rfl
@[simp] theorem State.setVar_clkAt (s : State) (n : Nat) (v : VarSt) : (s.setVar n v).clkAt = s.clkAt := rfl
@[simp] theorem State.setVar_fix (s : State) (n : Nat) (v : VarSt) : (s.setVar n v).fix = s.fix := rfl
@[simp] theorem State.setVar_rst (s : State) (n : Nat) (v : VarSt) : (s.setVar n v).rst = s.rst := rfl
@[simp] theorem State.setVar_host (s : State) (n : Nat) (v : VarSt) : (s.setVar n v).host = s.host := rfl
@[simp] theorem State.setVar_tly (s : State) (n : Nat) (v : VarSt) : (s.setVar n v).tly = s.tly := rfl
@[simp] theorem State.setVar_lcy (s : State) (n : Nat) (v : VarSt) : (s.setVar n v).lcy = s.lcy := rfl
@[simp] theorem State.setVar_cores (s : State) (n : Nat) (v : VarSt) : (s.setVar n v).cores = s.cores := rfl
@[simp] theorem State.setVar_mbx (s : State) (n : Nat) (v : VarSt) : (s.setVar n v).mbx = s.mbx := rfl
@[simp] theorem State.setVar_house (s : State) (n : Nat) (v : VarSt) : (s.setVar n v).house = s.house := rfl
@[simp] theorem State.setVar_tb (s : State) (n : Nat) (v : VarSt) : (s.setVar n v).tb = s.tb := rfl
@[simp] theorem State.setVar_skb (s : State) (n : Nat) (v : VarSt) : (s.setVar n v).skb = s.skb := rfl
@[simp] theorem State.setVar_pal (s : State) (n : Nat) (v : VarSt) : (s.setVar n v).pal = s.pal := rfl
@[simp] theorem State.setVar_und (s : State) (n : Nat) (v : VarSt) : (s.setVar n v).und = s.und := rfl
@[simp] theorem State.setVar_glz (s : State) (n : Nat) (v : VarSt) : (s.setVar n v).glz = s.glz := rfl
@[simp] theorem State.setVar_timed (s : State) (n : Nat) (v : VarSt) : (s.setVar n v).timed = s.timed := rfl
@[simp] theorem State.setVar_outs (s : State) (n : Nat) (v : VarSt) : (s.setVar n v).outs = s.outs := rfl
@[simp] theorem State.setVar_pins (s : State) (n : Nat) (v : VarSt) : (s.setVar n v).pins = s.pins := rfl
@[simp] theorem State.setVar_tw (s : State) (n : Nat) (v : VarSt) : (s.setVar n v).tw = s.tw := rfl
@[simp] theorem State.setVar_tdc (s : State) (n : Nat) (v : VarSt) : (s.setVar n v).tdc = s.tdc := rfl
@[simp] theorem State.setVar_tdcTurn (s : State) (n : Nat) (v : VarSt) : (s.setVar n v).tdcTurn = s.tdcTurn := rfl
@[simp] theorem State.setVar_gns (s : State) (n : Nat) (v : VarSt) : (s.setVar n v).gns = s.gns := rfl
@[simp] theorem State.setVar_gnsKeep (s : State) (n : Nat) (v : VarSt) : (s.setVar n v).gnsKeep = s.gnsKeep := rfl
@[simp] theorem State.setVar_tmpOn (s : State) (n : Nat) (v : VarSt) : (s.setVar n v).tmpOn = s.tmpOn := rfl
@[simp] theorem State.setVar_scrubAt (s : State) (n : Nat) (v : VarSt) : (s.setVar n v).scrubAt = s.scrubAt := rfl
@[simp] theorem State.setVar_lp (s : State) (n : Nat) (v : VarSt) : (s.setVar n v).lp = s.lp := rfl
@[simp] theorem State.setVar_tod (s : State) (n : Nat) (v : VarSt) : (s.setVar n v).tod = s.tod := rfl
@[simp] theorem State.setVar_stz (s : State) (n : Nat) (v : VarSt) : (s.setVar n v).stz = s.stz := rfl
@[simp] theorem State.setVar_ptp (s : State) (n : Nat) (v : VarSt) : (s.setVar n v).ptp = s.ptp := rfl
@[simp] theorem State.setVar_kv (s : State) (n : Nat) (v : VarSt) : (s.setVar n v).kv = s.kv := rfl
@[simp] theorem State.setVar_sp (s : State) (n : Nat) (v : VarSt) : (s.setVar n v).sp = s.sp := rfl
@[simp] theorem State.setVar_atl (s : State) (n : Nat) (v : VarSt) : (s.setVar n v).atl = s.atl := rfl
@[simp] theorem State.setVar_stb (s : State) (n : Nat) (v : VarSt) : (s.setVar n v).stb = s.stb := rfl

/-! ### State.setOut -/

@[simp] theorem State.setOut_pending (s : State) (k : Nat) (x : OutSt) : (s.setOut k x).pending = s.pending := rfl
@[simp] theorem State.setOut_freeCtr (s : State) (k : Nat) (x : OutSt) : (s.setOut k x).freeCtr = s.freeCtr := rfl
@[simp] theorem State.setOut_regs (s : State) (k : Nat) (x : OutSt) : (s.setOut k x).regs = s.regs := rfl
@[simp] theorem State.setOut_lat (s : State) (k : Nat) (x : OutSt) : (s.setOut k x).lat = s.lat := rfl
@[simp] theorem State.setOut_evc (s : State) (k : Nat) (x : OutSt) : (s.setOut k x).evc = s.evc := rfl
@[simp] theorem State.setOut_mem (s : State) (k : Nat) (x : OutSt) : (s.setOut k x).mem = s.mem := rfl
@[simp] theorem State.setOut_dramErr (s : State) (k : Nat) (x : OutSt) : (s.setOut k x).dramErr = s.dramErr := rfl
@[simp] theorem State.setOut_fifos (s : State) (k : Nat) (x : OutSt) : (s.setOut k x).fifos = s.fifos := rfl
@[simp] theorem State.setOut_fifoWait (s : State) (k : Nat) (x : OutSt) : (s.setOut k x).fifoWait = s.fifoWait := rfl
@[simp] theorem State.setOut_clkAt (s : State) (k : Nat) (x : OutSt) : (s.setOut k x).clkAt = s.clkAt := rfl
@[simp] theorem State.setOut_fix (s : State) (k : Nat) (x : OutSt) : (s.setOut k x).fix = s.fix := rfl
@[simp] theorem State.setOut_rst (s : State) (k : Nat) (x : OutSt) : (s.setOut k x).rst = s.rst := rfl
@[simp] theorem State.setOut_host (s : State) (k : Nat) (x : OutSt) : (s.setOut k x).host = s.host := rfl
@[simp] theorem State.setOut_tly (s : State) (k : Nat) (x : OutSt) : (s.setOut k x).tly = s.tly := rfl
@[simp] theorem State.setOut_lcy (s : State) (k : Nat) (x : OutSt) : (s.setOut k x).lcy = s.lcy := rfl
@[simp] theorem State.setOut_cores (s : State) (k : Nat) (x : OutSt) : (s.setOut k x).cores = s.cores := rfl
@[simp] theorem State.setOut_mbx (s : State) (k : Nat) (x : OutSt) : (s.setOut k x).mbx = s.mbx := rfl
@[simp] theorem State.setOut_house (s : State) (k : Nat) (x : OutSt) : (s.setOut k x).house = s.house := rfl
@[simp] theorem State.setOut_tb (s : State) (k : Nat) (x : OutSt) : (s.setOut k x).tb = s.tb := rfl
@[simp] theorem State.setOut_skb (s : State) (k : Nat) (x : OutSt) : (s.setOut k x).skb = s.skb := rfl
@[simp] theorem State.setOut_pal (s : State) (k : Nat) (x : OutSt) : (s.setOut k x).pal = s.pal := rfl
@[simp] theorem State.setOut_und (s : State) (k : Nat) (x : OutSt) : (s.setOut k x).und = s.und := rfl
@[simp] theorem State.setOut_glz (s : State) (k : Nat) (x : OutSt) : (s.setOut k x).glz = s.glz := rfl
@[simp] theorem State.setOut_timed (s : State) (k : Nat) (x : OutSt) : (s.setOut k x).timed = s.timed := rfl
@[simp] theorem State.setOut_var (s : State) (k : Nat) (x : OutSt) : (s.setOut k x).var = s.var := rfl
@[simp] theorem State.setOut_pins (s : State) (k : Nat) (x : OutSt) : (s.setOut k x).pins = s.pins := rfl
@[simp] theorem State.setOut_tw (s : State) (k : Nat) (x : OutSt) : (s.setOut k x).tw = s.tw := rfl
@[simp] theorem State.setOut_tdc (s : State) (k : Nat) (x : OutSt) : (s.setOut k x).tdc = s.tdc := rfl
@[simp] theorem State.setOut_tdcTurn (s : State) (k : Nat) (x : OutSt) : (s.setOut k x).tdcTurn = s.tdcTurn := rfl
@[simp] theorem State.setOut_gns (s : State) (k : Nat) (x : OutSt) : (s.setOut k x).gns = s.gns := rfl
@[simp] theorem State.setOut_gnsKeep (s : State) (k : Nat) (x : OutSt) : (s.setOut k x).gnsKeep = s.gnsKeep := rfl
@[simp] theorem State.setOut_tmpOn (s : State) (k : Nat) (x : OutSt) : (s.setOut k x).tmpOn = s.tmpOn := rfl
@[simp] theorem State.setOut_scrubAt (s : State) (k : Nat) (x : OutSt) : (s.setOut k x).scrubAt = s.scrubAt := rfl
@[simp] theorem State.setOut_lp (s : State) (k : Nat) (x : OutSt) : (s.setOut k x).lp = s.lp := rfl
@[simp] theorem State.setOut_tod (s : State) (k : Nat) (x : OutSt) : (s.setOut k x).tod = s.tod := rfl
@[simp] theorem State.setOut_stz (s : State) (k : Nat) (x : OutSt) : (s.setOut k x).stz = s.stz := rfl
@[simp] theorem State.setOut_ptp (s : State) (k : Nat) (x : OutSt) : (s.setOut k x).ptp = s.ptp := rfl
@[simp] theorem State.setOut_kv (s : State) (k : Nat) (x : OutSt) : (s.setOut k x).kv = s.kv := rfl
@[simp] theorem State.setOut_sp (s : State) (k : Nat) (x : OutSt) : (s.setOut k x).sp = s.sp := rfl
@[simp] theorem State.setOut_atl (s : State) (k : Nat) (x : OutSt) : (s.setOut k x).atl = s.atl := rfl
@[simp] theorem State.setOut_stb (s : State) (k : Nat) (x : OutSt) : (s.setOut k x).stb = s.stb := rfl

/-! ### State.setLevel -/

@[simp] theorem State.setLevel_pending (s : State) (p : Nat) (b : Bool) : (s.setLevel p b).pending = s.pending := rfl
@[simp] theorem State.setLevel_freeCtr (s : State) (p : Nat) (b : Bool) : (s.setLevel p b).freeCtr = s.freeCtr := rfl
@[simp] theorem State.setLevel_regs (s : State) (p : Nat) (b : Bool) : (s.setLevel p b).regs = s.regs := rfl
@[simp] theorem State.setLevel_lat (s : State) (p : Nat) (b : Bool) : (s.setLevel p b).lat = s.lat := rfl
@[simp] theorem State.setLevel_evc (s : State) (p : Nat) (b : Bool) : (s.setLevel p b).evc = s.evc := rfl
@[simp] theorem State.setLevel_mem (s : State) (p : Nat) (b : Bool) : (s.setLevel p b).mem = s.mem := rfl
@[simp] theorem State.setLevel_dramErr (s : State) (p : Nat) (b : Bool) : (s.setLevel p b).dramErr = s.dramErr := rfl
@[simp] theorem State.setLevel_fifos (s : State) (p : Nat) (b : Bool) : (s.setLevel p b).fifos = s.fifos := rfl
@[simp] theorem State.setLevel_fifoWait (s : State) (p : Nat) (b : Bool) : (s.setLevel p b).fifoWait = s.fifoWait := rfl
@[simp] theorem State.setLevel_clkAt (s : State) (p : Nat) (b : Bool) : (s.setLevel p b).clkAt = s.clkAt := rfl
@[simp] theorem State.setLevel_fix (s : State) (p : Nat) (b : Bool) : (s.setLevel p b).fix = s.fix := rfl
@[simp] theorem State.setLevel_rst (s : State) (p : Nat) (b : Bool) : (s.setLevel p b).rst = s.rst := rfl
@[simp] theorem State.setLevel_host (s : State) (p : Nat) (b : Bool) : (s.setLevel p b).host = s.host := rfl
@[simp] theorem State.setLevel_tly (s : State) (p : Nat) (b : Bool) : (s.setLevel p b).tly = s.tly := rfl
@[simp] theorem State.setLevel_lcy (s : State) (p : Nat) (b : Bool) : (s.setLevel p b).lcy = s.lcy := rfl
@[simp] theorem State.setLevel_cores (s : State) (p : Nat) (b : Bool) : (s.setLevel p b).cores = s.cores := rfl
@[simp] theorem State.setLevel_mbx (s : State) (p : Nat) (b : Bool) : (s.setLevel p b).mbx = s.mbx := rfl
@[simp] theorem State.setLevel_house (s : State) (p : Nat) (b : Bool) : (s.setLevel p b).house = s.house := rfl
@[simp] theorem State.setLevel_tb (s : State) (p : Nat) (b : Bool) : (s.setLevel p b).tb = s.tb := rfl
@[simp] theorem State.setLevel_skb (s : State) (p : Nat) (b : Bool) : (s.setLevel p b).skb = s.skb := rfl
@[simp] theorem State.setLevel_pal (s : State) (p : Nat) (b : Bool) : (s.setLevel p b).pal = s.pal := rfl
@[simp] theorem State.setLevel_und (s : State) (p : Nat) (b : Bool) : (s.setLevel p b).und = s.und := rfl
@[simp] theorem State.setLevel_glz (s : State) (p : Nat) (b : Bool) : (s.setLevel p b).glz = s.glz := rfl
@[simp] theorem State.setLevel_timed (s : State) (p : Nat) (b : Bool) : (s.setLevel p b).timed = s.timed := rfl
@[simp] theorem State.setLevel_var (s : State) (p : Nat) (b : Bool) : (s.setLevel p b).var = s.var := rfl
@[simp] theorem State.setLevel_outs (s : State) (p : Nat) (b : Bool) : (s.setLevel p b).outs = s.outs := rfl
@[simp] theorem State.setLevel_tw (s : State) (p : Nat) (b : Bool) : (s.setLevel p b).tw = s.tw := rfl
@[simp] theorem State.setLevel_tdc (s : State) (p : Nat) (b : Bool) : (s.setLevel p b).tdc = s.tdc := rfl
@[simp] theorem State.setLevel_tdcTurn (s : State) (p : Nat) (b : Bool) : (s.setLevel p b).tdcTurn = s.tdcTurn := rfl
@[simp] theorem State.setLevel_gns (s : State) (p : Nat) (b : Bool) : (s.setLevel p b).gns = s.gns := rfl
@[simp] theorem State.setLevel_gnsKeep (s : State) (p : Nat) (b : Bool) : (s.setLevel p b).gnsKeep = s.gnsKeep := rfl
@[simp] theorem State.setLevel_tmpOn (s : State) (p : Nat) (b : Bool) : (s.setLevel p b).tmpOn = s.tmpOn := rfl
@[simp] theorem State.setLevel_scrubAt (s : State) (p : Nat) (b : Bool) : (s.setLevel p b).scrubAt = s.scrubAt := rfl
@[simp] theorem State.setLevel_lp (s : State) (p : Nat) (b : Bool) : (s.setLevel p b).lp = s.lp := rfl
@[simp] theorem State.setLevel_tod (s : State) (p : Nat) (b : Bool) : (s.setLevel p b).tod = s.tod := rfl
@[simp] theorem State.setLevel_stz (s : State) (p : Nat) (b : Bool) : (s.setLevel p b).stz = s.stz := rfl
@[simp] theorem State.setLevel_ptp (s : State) (p : Nat) (b : Bool) : (s.setLevel p b).ptp = s.ptp := rfl
@[simp] theorem State.setLevel_kv (s : State) (p : Nat) (b : Bool) : (s.setLevel p b).kv = s.kv := rfl
@[simp] theorem State.setLevel_sp (s : State) (p : Nat) (b : Bool) : (s.setLevel p b).sp = s.sp := rfl
@[simp] theorem State.setLevel_atl (s : State) (p : Nat) (b : Bool) : (s.setLevel p b).atl = s.atl := rfl
@[simp] theorem State.setLevel_stb (s : State) (p : Nat) (b : Bool) : (s.setLevel p b).stb = s.stb := rfl

/-! ### State.setLed -/

@[simp] theorem State.setLed_pending (s : State) (i : Nat) (x : Slot) : (s.setLed i x).pending = s.pending := rfl
@[simp] theorem State.setLed_freeCtr (s : State) (i : Nat) (x : Slot) : (s.setLed i x).freeCtr = s.freeCtr := rfl
@[simp] theorem State.setLed_regs (s : State) (i : Nat) (x : Slot) : (s.setLed i x).regs = s.regs := rfl
@[simp] theorem State.setLed_lat (s : State) (i : Nat) (x : Slot) : (s.setLed i x).lat = s.lat := rfl
@[simp] theorem State.setLed_evc (s : State) (i : Nat) (x : Slot) : (s.setLed i x).evc = s.evc := rfl
@[simp] theorem State.setLed_mem (s : State) (i : Nat) (x : Slot) : (s.setLed i x).mem = s.mem := rfl
@[simp] theorem State.setLed_dramErr (s : State) (i : Nat) (x : Slot) : (s.setLed i x).dramErr = s.dramErr := rfl
@[simp] theorem State.setLed_fifos (s : State) (i : Nat) (x : Slot) : (s.setLed i x).fifos = s.fifos := rfl
@[simp] theorem State.setLed_fifoWait (s : State) (i : Nat) (x : Slot) : (s.setLed i x).fifoWait = s.fifoWait := rfl
@[simp] theorem State.setLed_clkAt (s : State) (i : Nat) (x : Slot) : (s.setLed i x).clkAt = s.clkAt := rfl
@[simp] theorem State.setLed_fix (s : State) (i : Nat) (x : Slot) : (s.setLed i x).fix = s.fix := rfl
@[simp] theorem State.setLed_rst (s : State) (i : Nat) (x : Slot) : (s.setLed i x).rst = s.rst := rfl
@[simp] theorem State.setLed_host (s : State) (i : Nat) (x : Slot) : (s.setLed i x).host = s.host := rfl
@[simp] theorem State.setLed_tly (s : State) (i : Nat) (x : Slot) : (s.setLed i x).tly = s.tly := rfl
@[simp] theorem State.setLed_lcy (s : State) (i : Nat) (x : Slot) : (s.setLed i x).lcy = s.lcy := rfl
@[simp] theorem State.setLed_cores (s : State) (i : Nat) (x : Slot) : (s.setLed i x).cores = s.cores := rfl
@[simp] theorem State.setLed_mbx (s : State) (i : Nat) (x : Slot) : (s.setLed i x).mbx = s.mbx := rfl
@[simp] theorem State.setLed_house (s : State) (i : Nat) (x : Slot) : (s.setLed i x).house = s.house := rfl
@[simp] theorem State.setLed_tb (s : State) (i : Nat) (x : Slot) : (s.setLed i x).tb = s.tb := rfl
@[simp] theorem State.setLed_pal (s : State) (i : Nat) (x : Slot) : (s.setLed i x).pal = s.pal := rfl
@[simp] theorem State.setLed_und (s : State) (i : Nat) (x : Slot) : (s.setLed i x).und = s.und := rfl
@[simp] theorem State.setLed_glz (s : State) (i : Nat) (x : Slot) : (s.setLed i x).glz = s.glz := rfl
@[simp] theorem State.setLed_timed (s : State) (i : Nat) (x : Slot) : (s.setLed i x).timed = s.timed := rfl
@[simp] theorem State.setLed_var (s : State) (i : Nat) (x : Slot) : (s.setLed i x).var = s.var := rfl
@[simp] theorem State.setLed_outs (s : State) (i : Nat) (x : Slot) : (s.setLed i x).outs = s.outs := rfl
@[simp] theorem State.setLed_pins (s : State) (i : Nat) (x : Slot) : (s.setLed i x).pins = s.pins := rfl
@[simp] theorem State.setLed_tw (s : State) (i : Nat) (x : Slot) : (s.setLed i x).tw = s.tw := rfl
@[simp] theorem State.setLed_tdc (s : State) (i : Nat) (x : Slot) : (s.setLed i x).tdc = s.tdc := rfl
@[simp] theorem State.setLed_tdcTurn (s : State) (i : Nat) (x : Slot) : (s.setLed i x).tdcTurn = s.tdcTurn := rfl
@[simp] theorem State.setLed_gns (s : State) (i : Nat) (x : Slot) : (s.setLed i x).gns = s.gns := rfl
@[simp] theorem State.setLed_gnsKeep (s : State) (i : Nat) (x : Slot) : (s.setLed i x).gnsKeep = s.gnsKeep := rfl
@[simp] theorem State.setLed_tmpOn (s : State) (i : Nat) (x : Slot) : (s.setLed i x).tmpOn = s.tmpOn := rfl
@[simp] theorem State.setLed_scrubAt (s : State) (i : Nat) (x : Slot) : (s.setLed i x).scrubAt = s.scrubAt := rfl
@[simp] theorem State.setLed_lp (s : State) (i : Nat) (x : Slot) : (s.setLed i x).lp = s.lp := rfl
@[simp] theorem State.setLed_tod (s : State) (i : Nat) (x : Slot) : (s.setLed i x).tod = s.tod := rfl
@[simp] theorem State.setLed_stz (s : State) (i : Nat) (x : Slot) : (s.setLed i x).stz = s.stz := rfl
@[simp] theorem State.setLed_ptp (s : State) (i : Nat) (x : Slot) : (s.setLed i x).ptp = s.ptp := rfl
@[simp] theorem State.setLed_kv (s : State) (i : Nat) (x : Slot) : (s.setLed i x).kv = s.kv := rfl
@[simp] theorem State.setLed_sp (s : State) (i : Nat) (x : Slot) : (s.setLed i x).sp = s.sp := rfl
@[simp] theorem State.setLed_atl (s : State) (i : Nat) (x : Slot) : (s.setLed i x).atl = s.atl := rfl
@[simp] theorem State.setLed_stb (s : State) (i : Nat) (x : Slot) : (s.setLed i x).stb = s.stb := rfl

/-! ### State.setSlot -/

@[simp] theorem State.setSlot_pending (s : State) (n : Nat) (p : PalSlot) : (s.setSlot n p).pending = s.pending := rfl
@[simp] theorem State.setSlot_freeCtr (s : State) (n : Nat) (p : PalSlot) : (s.setSlot n p).freeCtr = s.freeCtr := rfl
@[simp] theorem State.setSlot_regs (s : State) (n : Nat) (p : PalSlot) : (s.setSlot n p).regs = s.regs := rfl
@[simp] theorem State.setSlot_lat (s : State) (n : Nat) (p : PalSlot) : (s.setSlot n p).lat = s.lat := rfl
@[simp] theorem State.setSlot_evc (s : State) (n : Nat) (p : PalSlot) : (s.setSlot n p).evc = s.evc := rfl
@[simp] theorem State.setSlot_mem (s : State) (n : Nat) (p : PalSlot) : (s.setSlot n p).mem = s.mem := rfl
@[simp] theorem State.setSlot_dramErr (s : State) (n : Nat) (p : PalSlot) : (s.setSlot n p).dramErr = s.dramErr := rfl
@[simp] theorem State.setSlot_fifos (s : State) (n : Nat) (p : PalSlot) : (s.setSlot n p).fifos = s.fifos := rfl
@[simp] theorem State.setSlot_fifoWait (s : State) (n : Nat) (p : PalSlot) : (s.setSlot n p).fifoWait = s.fifoWait := rfl
@[simp] theorem State.setSlot_clkAt (s : State) (n : Nat) (p : PalSlot) : (s.setSlot n p).clkAt = s.clkAt := rfl
@[simp] theorem State.setSlot_fix (s : State) (n : Nat) (p : PalSlot) : (s.setSlot n p).fix = s.fix := rfl
@[simp] theorem State.setSlot_rst (s : State) (n : Nat) (p : PalSlot) : (s.setSlot n p).rst = s.rst := rfl
@[simp] theorem State.setSlot_host (s : State) (n : Nat) (p : PalSlot) : (s.setSlot n p).host = s.host := rfl
@[simp] theorem State.setSlot_tly (s : State) (n : Nat) (p : PalSlot) : (s.setSlot n p).tly = s.tly := rfl
@[simp] theorem State.setSlot_lcy (s : State) (n : Nat) (p : PalSlot) : (s.setSlot n p).lcy = s.lcy := rfl
@[simp] theorem State.setSlot_cores (s : State) (n : Nat) (p : PalSlot) : (s.setSlot n p).cores = s.cores := rfl
@[simp] theorem State.setSlot_mbx (s : State) (n : Nat) (p : PalSlot) : (s.setSlot n p).mbx = s.mbx := rfl
@[simp] theorem State.setSlot_house (s : State) (n : Nat) (p : PalSlot) : (s.setSlot n p).house = s.house := rfl
@[simp] theorem State.setSlot_tb (s : State) (n : Nat) (p : PalSlot) : (s.setSlot n p).tb = s.tb := rfl
@[simp] theorem State.setSlot_skb (s : State) (n : Nat) (p : PalSlot) : (s.setSlot n p).skb = s.skb := rfl
@[simp] theorem State.setSlot_und (s : State) (n : Nat) (p : PalSlot) : (s.setSlot n p).und = s.und := rfl
@[simp] theorem State.setSlot_glz (s : State) (n : Nat) (p : PalSlot) : (s.setSlot n p).glz = s.glz := rfl
@[simp] theorem State.setSlot_timed (s : State) (n : Nat) (p : PalSlot) : (s.setSlot n p).timed = s.timed := rfl
@[simp] theorem State.setSlot_var (s : State) (n : Nat) (p : PalSlot) : (s.setSlot n p).var = s.var := rfl
@[simp] theorem State.setSlot_outs (s : State) (n : Nat) (p : PalSlot) : (s.setSlot n p).outs = s.outs := rfl
@[simp] theorem State.setSlot_pins (s : State) (n : Nat) (p : PalSlot) : (s.setSlot n p).pins = s.pins := rfl
@[simp] theorem State.setSlot_tw (s : State) (n : Nat) (p : PalSlot) : (s.setSlot n p).tw = s.tw := rfl
@[simp] theorem State.setSlot_tdc (s : State) (n : Nat) (p : PalSlot) : (s.setSlot n p).tdc = s.tdc := rfl
@[simp] theorem State.setSlot_tdcTurn (s : State) (n : Nat) (p : PalSlot) : (s.setSlot n p).tdcTurn = s.tdcTurn := rfl
@[simp] theorem State.setSlot_gns (s : State) (n : Nat) (p : PalSlot) : (s.setSlot n p).gns = s.gns := rfl
@[simp] theorem State.setSlot_gnsKeep (s : State) (n : Nat) (p : PalSlot) : (s.setSlot n p).gnsKeep = s.gnsKeep := rfl
@[simp] theorem State.setSlot_tmpOn (s : State) (n : Nat) (p : PalSlot) : (s.setSlot n p).tmpOn = s.tmpOn := rfl
@[simp] theorem State.setSlot_scrubAt (s : State) (n : Nat) (p : PalSlot) : (s.setSlot n p).scrubAt = s.scrubAt := rfl
@[simp] theorem State.setSlot_lp (s : State) (n : Nat) (p : PalSlot) : (s.setSlot n p).lp = s.lp := rfl
@[simp] theorem State.setSlot_tod (s : State) (n : Nat) (p : PalSlot) : (s.setSlot n p).tod = s.tod := rfl
@[simp] theorem State.setSlot_stz (s : State) (n : Nat) (p : PalSlot) : (s.setSlot n p).stz = s.stz := rfl
@[simp] theorem State.setSlot_ptp (s : State) (n : Nat) (p : PalSlot) : (s.setSlot n p).ptp = s.ptp := rfl
@[simp] theorem State.setSlot_kv (s : State) (n : Nat) (p : PalSlot) : (s.setSlot n p).kv = s.kv := rfl
@[simp] theorem State.setSlot_sp (s : State) (n : Nat) (p : PalSlot) : (s.setSlot n p).sp = s.sp := rfl
@[simp] theorem State.setSlot_atl (s : State) (n : Nat) (p : PalSlot) : (s.setSlot n p).atl = s.atl := rfl
@[simp] theorem State.setSlot_stb (s : State) (n : Nat) (p : PalSlot) : (s.setSlot n p).stb = s.stb := rfl

/-! ### State.later -/

@[simp] theorem State.later_pending (s : State) (n : Nat) (e : Timed) : (s.later n e).pending = s.pending := rfl
@[simp] theorem State.later_freeCtr (s : State) (n : Nat) (e : Timed) : (s.later n e).freeCtr = s.freeCtr := rfl
@[simp] theorem State.later_regs (s : State) (n : Nat) (e : Timed) : (s.later n e).regs = s.regs := rfl
@[simp] theorem State.later_lat (s : State) (n : Nat) (e : Timed) : (s.later n e).lat = s.lat := rfl
@[simp] theorem State.later_evc (s : State) (n : Nat) (e : Timed) : (s.later n e).evc = s.evc := rfl
@[simp] theorem State.later_mem (s : State) (n : Nat) (e : Timed) : (s.later n e).mem = s.mem := rfl
@[simp] theorem State.later_dramErr (s : State) (n : Nat) (e : Timed) : (s.later n e).dramErr = s.dramErr := rfl
@[simp] theorem State.later_fifos (s : State) (n : Nat) (e : Timed) : (s.later n e).fifos = s.fifos := rfl
@[simp] theorem State.later_fifoWait (s : State) (n : Nat) (e : Timed) : (s.later n e).fifoWait = s.fifoWait := rfl
@[simp] theorem State.later_clkAt (s : State) (n : Nat) (e : Timed) : (s.later n e).clkAt = s.clkAt := rfl
@[simp] theorem State.later_fix (s : State) (n : Nat) (e : Timed) : (s.later n e).fix = s.fix := rfl
@[simp] theorem State.later_rst (s : State) (n : Nat) (e : Timed) : (s.later n e).rst = s.rst := rfl
@[simp] theorem State.later_host (s : State) (n : Nat) (e : Timed) : (s.later n e).host = s.host := rfl
@[simp] theorem State.later_tly (s : State) (n : Nat) (e : Timed) : (s.later n e).tly = s.tly := rfl
@[simp] theorem State.later_lcy (s : State) (n : Nat) (e : Timed) : (s.later n e).lcy = s.lcy := rfl
@[simp] theorem State.later_cores (s : State) (n : Nat) (e : Timed) : (s.later n e).cores = s.cores := rfl
@[simp] theorem State.later_mbx (s : State) (n : Nat) (e : Timed) : (s.later n e).mbx = s.mbx := rfl
@[simp] theorem State.later_house (s : State) (n : Nat) (e : Timed) : (s.later n e).house = s.house := rfl
@[simp] theorem State.later_tb (s : State) (n : Nat) (e : Timed) : (s.later n e).tb = s.tb := rfl
@[simp] theorem State.later_skb (s : State) (n : Nat) (e : Timed) : (s.later n e).skb = s.skb := rfl
@[simp] theorem State.later_pal (s : State) (n : Nat) (e : Timed) : (s.later n e).pal = s.pal := rfl
@[simp] theorem State.later_und (s : State) (n : Nat) (e : Timed) : (s.later n e).und = s.und := rfl
@[simp] theorem State.later_glz (s : State) (n : Nat) (e : Timed) : (s.later n e).glz = s.glz := rfl
@[simp] theorem State.later_var (s : State) (n : Nat) (e : Timed) : (s.later n e).var = s.var := rfl
@[simp] theorem State.later_outs (s : State) (n : Nat) (e : Timed) : (s.later n e).outs = s.outs := rfl
@[simp] theorem State.later_pins (s : State) (n : Nat) (e : Timed) : (s.later n e).pins = s.pins := rfl
@[simp] theorem State.later_tw (s : State) (n : Nat) (e : Timed) : (s.later n e).tw = s.tw := rfl
@[simp] theorem State.later_tdc (s : State) (n : Nat) (e : Timed) : (s.later n e).tdc = s.tdc := rfl
@[simp] theorem State.later_tdcTurn (s : State) (n : Nat) (e : Timed) : (s.later n e).tdcTurn = s.tdcTurn := rfl
@[simp] theorem State.later_gns (s : State) (n : Nat) (e : Timed) : (s.later n e).gns = s.gns := rfl
@[simp] theorem State.later_gnsKeep (s : State) (n : Nat) (e : Timed) : (s.later n e).gnsKeep = s.gnsKeep := rfl
@[simp] theorem State.later_tmpOn (s : State) (n : Nat) (e : Timed) : (s.later n e).tmpOn = s.tmpOn := rfl
@[simp] theorem State.later_scrubAt (s : State) (n : Nat) (e : Timed) : (s.later n e).scrubAt = s.scrubAt := rfl
@[simp] theorem State.later_lp (s : State) (n : Nat) (e : Timed) : (s.later n e).lp = s.lp := rfl
@[simp] theorem State.later_tod (s : State) (n : Nat) (e : Timed) : (s.later n e).tod = s.tod := rfl
@[simp] theorem State.later_stz (s : State) (n : Nat) (e : Timed) : (s.later n e).stz = s.stz := rfl
@[simp] theorem State.later_ptp (s : State) (n : Nat) (e : Timed) : (s.later n e).ptp = s.ptp := rfl
@[simp] theorem State.later_kv (s : State) (n : Nat) (e : Timed) : (s.later n e).kv = s.kv := rfl
@[simp] theorem State.later_sp (s : State) (n : Nat) (e : Timed) : (s.later n e).sp = s.sp := rfl
@[simp] theorem State.later_atl (s : State) (n : Nat) (e : Timed) : (s.later n e).atl = s.atl := rfl
@[simp] theorem State.later_stb (s : State) (n : Nat) (e : Timed) : (s.later n e).stb = s.stb := rfl

/-! ### Tally counters and event bits: registers and event counts only -/

/-- Two states that differ at most in their registers, latches and event counts. -/
def RegsOnly (s t : State) : Prop := t = { s with regs := t.regs, lat := t.lat, evc := t.evc, clkAt := t.clkAt }

theorem RegsOnly.refl (s : State) : RegsOnly s s := rfl

theorem RegsOnly.trans {s t u : State} (h : RegsOnly s t) (k : RegsOnly t u) : RegsOnly s u := by
  unfold RegsOnly at *; rw [k, h]

theorem wr_regsOnly (s : State) (a : Nat) (w : Word) : RegsOnly s (s.wr a w) := rfl

theorem put_regsOnly (s : State) (f : Fld) (v : Nat) : RegsOnly s (s.put f v) := rfl

theorem tallyOne_regsOnly (s : State) (u c i : Nat) : RegsOnly s (tallyOne s u c i) := by
  unfold tallyOne; split <;> rfl

theorem tally_regsOnly (s : State) (u c : Nat) : RegsOnly s (tally s u c) := by
  unfold tally; split
  · rfl
  · exact (((tallyOne_regsOnly _ _ _ _).trans (tallyOne_regsOnly _ _ _ _)).trans (tallyOne_regsOnly _ _ _ _)).trans
      (tallyOne_regsOnly _ _ _ _)

theorem event_regsOnly (s : State) (a i : Nat) : RegsOnly s (s.event a i) := by
  unfold State.event; dsimp only; split
  · exact RegsOnly.trans (by rfl) (tally_regsOnly _ _ _)
  · rfl

theorem startClock_regsOnly (s : State) (a : Nat) : RegsOnly s (startClock s a) := by
  unfold startClock; dsimp only; split
  · rfl
  · split
    · rfl
    · exact RegsOnly.trans (by rfl) (tally_regsOnly _ _ _)

theorem incSat_regsOnly (s : State) (f : Fld) : RegsOnly s (s.incSat f) := by
  unfold State.incSat; split <;> rfl

theorem RegsOnly.pending {s t : State} (h : RegsOnly s t) : t.pending = s.pending := by unfold RegsOnly at h; rw [h]
theorem RegsOnly.freeCtr {s t : State} (h : RegsOnly s t) : t.freeCtr = s.freeCtr := by unfold RegsOnly at h; rw [h]
theorem RegsOnly.mem {s t : State} (h : RegsOnly s t) : t.mem = s.mem := by unfold RegsOnly at h; rw [h]
theorem RegsOnly.dramErr {s t : State} (h : RegsOnly s t) : t.dramErr = s.dramErr := by unfold RegsOnly at h; rw [h]
theorem RegsOnly.fifos {s t : State} (h : RegsOnly s t) : t.fifos = s.fifos := by unfold RegsOnly at h; rw [h]
theorem RegsOnly.fifoWait {s t : State} (h : RegsOnly s t) : t.fifoWait = s.fifoWait := by unfold RegsOnly at h; rw [h]
theorem RegsOnly.fix {s t : State} (h : RegsOnly s t) : t.fix = s.fix := by unfold RegsOnly at h; rw [h]
theorem RegsOnly.rst {s t : State} (h : RegsOnly s t) : t.rst = s.rst := by unfold RegsOnly at h; rw [h]
theorem RegsOnly.host {s t : State} (h : RegsOnly s t) : t.host = s.host := by unfold RegsOnly at h; rw [h]
theorem RegsOnly.tly {s t : State} (h : RegsOnly s t) : t.tly = s.tly := by unfold RegsOnly at h; rw [h]
theorem RegsOnly.lcy {s t : State} (h : RegsOnly s t) : t.lcy = s.lcy := by unfold RegsOnly at h; rw [h]
theorem RegsOnly.cores {s t : State} (h : RegsOnly s t) : t.cores = s.cores := by unfold RegsOnly at h; rw [h]
theorem RegsOnly.mbx {s t : State} (h : RegsOnly s t) : t.mbx = s.mbx := by unfold RegsOnly at h; rw [h]
theorem RegsOnly.house {s t : State} (h : RegsOnly s t) : t.house = s.house := by unfold RegsOnly at h; rw [h]
theorem RegsOnly.tb {s t : State} (h : RegsOnly s t) : t.tb = s.tb := by unfold RegsOnly at h; rw [h]
theorem RegsOnly.skb {s t : State} (h : RegsOnly s t) : t.skb = s.skb := by unfold RegsOnly at h; rw [h]
theorem RegsOnly.pal {s t : State} (h : RegsOnly s t) : t.pal = s.pal := by unfold RegsOnly at h; rw [h]
theorem RegsOnly.und {s t : State} (h : RegsOnly s t) : t.und = s.und := by unfold RegsOnly at h; rw [h]
theorem RegsOnly.glz {s t : State} (h : RegsOnly s t) : t.glz = s.glz := by unfold RegsOnly at h; rw [h]
theorem RegsOnly.timed {s t : State} (h : RegsOnly s t) : t.timed = s.timed := by unfold RegsOnly at h; rw [h]
theorem RegsOnly.var {s t : State} (h : RegsOnly s t) : t.var = s.var := by unfold RegsOnly at h; rw [h]
theorem RegsOnly.outs {s t : State} (h : RegsOnly s t) : t.outs = s.outs := by unfold RegsOnly at h; rw [h]
theorem RegsOnly.pins {s t : State} (h : RegsOnly s t) : t.pins = s.pins := by unfold RegsOnly at h; rw [h]
theorem RegsOnly.tw {s t : State} (h : RegsOnly s t) : t.tw = s.tw := by unfold RegsOnly at h; rw [h]
theorem RegsOnly.tdc {s t : State} (h : RegsOnly s t) : t.tdc = s.tdc := by unfold RegsOnly at h; rw [h]
theorem RegsOnly.tdcTurn {s t : State} (h : RegsOnly s t) : t.tdcTurn = s.tdcTurn := by unfold RegsOnly at h; rw [h]
theorem RegsOnly.gns {s t : State} (h : RegsOnly s t) : t.gns = s.gns := by unfold RegsOnly at h; rw [h]
theorem RegsOnly.gnsKeep {s t : State} (h : RegsOnly s t) : t.gnsKeep = s.gnsKeep := by unfold RegsOnly at h; rw [h]
theorem RegsOnly.tmpOn {s t : State} (h : RegsOnly s t) : t.tmpOn = s.tmpOn := by unfold RegsOnly at h; rw [h]
theorem RegsOnly.scrubAt {s t : State} (h : RegsOnly s t) : t.scrubAt = s.scrubAt := by unfold RegsOnly at h; rw [h]
theorem RegsOnly.lp {s t : State} (h : RegsOnly s t) : t.lp = s.lp := by unfold RegsOnly at h; rw [h]
theorem RegsOnly.tod {s t : State} (h : RegsOnly s t) : t.tod = s.tod := by unfold RegsOnly at h; rw [h]
theorem RegsOnly.stz {s t : State} (h : RegsOnly s t) : t.stz = s.stz := by unfold RegsOnly at h; rw [h]
theorem RegsOnly.ptp {s t : State} (h : RegsOnly s t) : t.ptp = s.ptp := by unfold RegsOnly at h; rw [h]
theorem RegsOnly.kv {s t : State} (h : RegsOnly s t) : t.kv = s.kv := by unfold RegsOnly at h; rw [h]
theorem RegsOnly.sp {s t : State} (h : RegsOnly s t) : t.sp = s.sp := by unfold RegsOnly at h; rw [h]
theorem RegsOnly.atl {s t : State} (h : RegsOnly s t) : t.atl = s.atl := by unfold RegsOnly at h; rw [h]
theorem RegsOnly.stb {s t : State} (h : RegsOnly s t) : t.stb = s.stb := by unfold RegsOnly at h; rw [h]

@[simp] theorem tally_pending (s : State) (u c : Nat) : (tally s u c).pending = s.pending := (tally_regsOnly s u c).pending
@[simp] theorem tally_freeCtr (s : State) (u c : Nat) : (tally s u c).freeCtr = s.freeCtr := (tally_regsOnly s u c).freeCtr
@[simp] theorem tally_mem (s : State) (u c : Nat) : (tally s u c).mem = s.mem := (tally_regsOnly s u c).mem
@[simp] theorem tally_dramErr (s : State) (u c : Nat) : (tally s u c).dramErr = s.dramErr := (tally_regsOnly s u c).dramErr
@[simp] theorem tally_fifos (s : State) (u c : Nat) : (tally s u c).fifos = s.fifos := (tally_regsOnly s u c).fifos
@[simp] theorem tally_fifoWait (s : State) (u c : Nat) : (tally s u c).fifoWait = s.fifoWait := (tally_regsOnly s u c).fifoWait
@[simp] theorem tally_fix (s : State) (u c : Nat) : (tally s u c).fix = s.fix := (tally_regsOnly s u c).fix
@[simp] theorem tally_rst (s : State) (u c : Nat) : (tally s u c).rst = s.rst := (tally_regsOnly s u c).rst
@[simp] theorem tally_host (s : State) (u c : Nat) : (tally s u c).host = s.host := (tally_regsOnly s u c).host
@[simp] theorem tally_tly (s : State) (u c : Nat) : (tally s u c).tly = s.tly := (tally_regsOnly s u c).tly
@[simp] theorem tally_lcy (s : State) (u c : Nat) : (tally s u c).lcy = s.lcy := (tally_regsOnly s u c).lcy
@[simp] theorem tally_cores (s : State) (u c : Nat) : (tally s u c).cores = s.cores := (tally_regsOnly s u c).cores
@[simp] theorem tally_mbx (s : State) (u c : Nat) : (tally s u c).mbx = s.mbx := (tally_regsOnly s u c).mbx
@[simp] theorem tally_house (s : State) (u c : Nat) : (tally s u c).house = s.house := (tally_regsOnly s u c).house
@[simp] theorem tally_tb (s : State) (u c : Nat) : (tally s u c).tb = s.tb := (tally_regsOnly s u c).tb
@[simp] theorem tally_skb (s : State) (u c : Nat) : (tally s u c).skb = s.skb := (tally_regsOnly s u c).skb
@[simp] theorem tally_pal (s : State) (u c : Nat) : (tally s u c).pal = s.pal := (tally_regsOnly s u c).pal
@[simp] theorem tally_und (s : State) (u c : Nat) : (tally s u c).und = s.und := (tally_regsOnly s u c).und
@[simp] theorem tally_glz (s : State) (u c : Nat) : (tally s u c).glz = s.glz := (tally_regsOnly s u c).glz
@[simp] theorem tally_timed (s : State) (u c : Nat) : (tally s u c).timed = s.timed := (tally_regsOnly s u c).timed
@[simp] theorem tally_var (s : State) (u c : Nat) : (tally s u c).var = s.var := (tally_regsOnly s u c).var
@[simp] theorem tally_outs (s : State) (u c : Nat) : (tally s u c).outs = s.outs := (tally_regsOnly s u c).outs
@[simp] theorem tally_pins (s : State) (u c : Nat) : (tally s u c).pins = s.pins := (tally_regsOnly s u c).pins
@[simp] theorem tally_tw (s : State) (u c : Nat) : (tally s u c).tw = s.tw := (tally_regsOnly s u c).tw
@[simp] theorem tally_tdc (s : State) (u c : Nat) : (tally s u c).tdc = s.tdc := (tally_regsOnly s u c).tdc
@[simp] theorem tally_tdcTurn (s : State) (u c : Nat) : (tally s u c).tdcTurn = s.tdcTurn := (tally_regsOnly s u c).tdcTurn
@[simp] theorem tally_gns (s : State) (u c : Nat) : (tally s u c).gns = s.gns := (tally_regsOnly s u c).gns
@[simp] theorem tally_gnsKeep (s : State) (u c : Nat) : (tally s u c).gnsKeep = s.gnsKeep := (tally_regsOnly s u c).gnsKeep
@[simp] theorem tally_tmpOn (s : State) (u c : Nat) : (tally s u c).tmpOn = s.tmpOn := (tally_regsOnly s u c).tmpOn
@[simp] theorem tally_scrubAt (s : State) (u c : Nat) : (tally s u c).scrubAt = s.scrubAt := (tally_regsOnly s u c).scrubAt
@[simp] theorem tally_lp (s : State) (u c : Nat) : (tally s u c).lp = s.lp := (tally_regsOnly s u c).lp
@[simp] theorem tally_tod (s : State) (u c : Nat) : (tally s u c).tod = s.tod := (tally_regsOnly s u c).tod
@[simp] theorem tally_stz (s : State) (u c : Nat) : (tally s u c).stz = s.stz := (tally_regsOnly s u c).stz
@[simp] theorem tally_ptp (s : State) (u c : Nat) : (tally s u c).ptp = s.ptp := (tally_regsOnly s u c).ptp
@[simp] theorem tally_kv (s : State) (u c : Nat) : (tally s u c).kv = s.kv := (tally_regsOnly s u c).kv
@[simp] theorem tally_sp (s : State) (u c : Nat) : (tally s u c).sp = s.sp := (tally_regsOnly s u c).sp
@[simp] theorem tally_atl (s : State) (u c : Nat) : (tally s u c).atl = s.atl := (tally_regsOnly s u c).atl
@[simp] theorem tally_stb (s : State) (u c : Nat) : (tally s u c).stb = s.stb := (tally_regsOnly s u c).stb

@[simp] theorem State.event_pending (s : State) (a i : Nat) : (s.event a i).pending = s.pending := (event_regsOnly s a i).pending
@[simp] theorem State.event_freeCtr (s : State) (a i : Nat) : (s.event a i).freeCtr = s.freeCtr := (event_regsOnly s a i).freeCtr
@[simp] theorem State.event_mem (s : State) (a i : Nat) : (s.event a i).mem = s.mem := (event_regsOnly s a i).mem
@[simp] theorem State.event_dramErr (s : State) (a i : Nat) : (s.event a i).dramErr = s.dramErr := (event_regsOnly s a i).dramErr
@[simp] theorem State.event_fifos (s : State) (a i : Nat) : (s.event a i).fifos = s.fifos := (event_regsOnly s a i).fifos
@[simp] theorem State.event_fifoWait (s : State) (a i : Nat) : (s.event a i).fifoWait = s.fifoWait := (event_regsOnly s a i).fifoWait
@[simp] theorem State.event_fix (s : State) (a i : Nat) : (s.event a i).fix = s.fix := (event_regsOnly s a i).fix
@[simp] theorem State.event_rst (s : State) (a i : Nat) : (s.event a i).rst = s.rst := (event_regsOnly s a i).rst
@[simp] theorem State.event_host (s : State) (a i : Nat) : (s.event a i).host = s.host := (event_regsOnly s a i).host
@[simp] theorem State.event_tly (s : State) (a i : Nat) : (s.event a i).tly = s.tly := (event_regsOnly s a i).tly
@[simp] theorem State.event_lcy (s : State) (a i : Nat) : (s.event a i).lcy = s.lcy := (event_regsOnly s a i).lcy
@[simp] theorem State.event_cores (s : State) (a i : Nat) : (s.event a i).cores = s.cores := (event_regsOnly s a i).cores
@[simp] theorem State.event_mbx (s : State) (a i : Nat) : (s.event a i).mbx = s.mbx := (event_regsOnly s a i).mbx
@[simp] theorem State.event_house (s : State) (a i : Nat) : (s.event a i).house = s.house := (event_regsOnly s a i).house
@[simp] theorem State.event_tb (s : State) (a i : Nat) : (s.event a i).tb = s.tb := (event_regsOnly s a i).tb
@[simp] theorem State.event_skb (s : State) (a i : Nat) : (s.event a i).skb = s.skb := (event_regsOnly s a i).skb
@[simp] theorem State.event_pal (s : State) (a i : Nat) : (s.event a i).pal = s.pal := (event_regsOnly s a i).pal
@[simp] theorem State.event_und (s : State) (a i : Nat) : (s.event a i).und = s.und := (event_regsOnly s a i).und
@[simp] theorem State.event_glz (s : State) (a i : Nat) : (s.event a i).glz = s.glz := (event_regsOnly s a i).glz
@[simp] theorem State.event_timed (s : State) (a i : Nat) : (s.event a i).timed = s.timed := (event_regsOnly s a i).timed
@[simp] theorem State.event_var (s : State) (a i : Nat) : (s.event a i).var = s.var := (event_regsOnly s a i).var
@[simp] theorem State.event_outs (s : State) (a i : Nat) : (s.event a i).outs = s.outs := (event_regsOnly s a i).outs
@[simp] theorem State.event_pins (s : State) (a i : Nat) : (s.event a i).pins = s.pins := (event_regsOnly s a i).pins
@[simp] theorem State.event_tw (s : State) (a i : Nat) : (s.event a i).tw = s.tw := (event_regsOnly s a i).tw
@[simp] theorem State.event_tdc (s : State) (a i : Nat) : (s.event a i).tdc = s.tdc := (event_regsOnly s a i).tdc
@[simp] theorem State.event_tdcTurn (s : State) (a i : Nat) : (s.event a i).tdcTurn = s.tdcTurn := (event_regsOnly s a i).tdcTurn
@[simp] theorem State.event_gns (s : State) (a i : Nat) : (s.event a i).gns = s.gns := (event_regsOnly s a i).gns
@[simp] theorem State.event_gnsKeep (s : State) (a i : Nat) : (s.event a i).gnsKeep = s.gnsKeep := (event_regsOnly s a i).gnsKeep
@[simp] theorem State.event_tmpOn (s : State) (a i : Nat) : (s.event a i).tmpOn = s.tmpOn := (event_regsOnly s a i).tmpOn
@[simp] theorem State.event_scrubAt (s : State) (a i : Nat) : (s.event a i).scrubAt = s.scrubAt := (event_regsOnly s a i).scrubAt
@[simp] theorem State.event_lp (s : State) (a i : Nat) : (s.event a i).lp = s.lp := (event_regsOnly s a i).lp
@[simp] theorem State.event_tod (s : State) (a i : Nat) : (s.event a i).tod = s.tod := (event_regsOnly s a i).tod
@[simp] theorem State.event_stz (s : State) (a i : Nat) : (s.event a i).stz = s.stz := (event_regsOnly s a i).stz
@[simp] theorem State.event_ptp (s : State) (a i : Nat) : (s.event a i).ptp = s.ptp := (event_regsOnly s a i).ptp
@[simp] theorem State.event_kv (s : State) (a i : Nat) : (s.event a i).kv = s.kv := (event_regsOnly s a i).kv
@[simp] theorem State.event_sp (s : State) (a i : Nat) : (s.event a i).sp = s.sp := (event_regsOnly s a i).sp
@[simp] theorem State.event_atl (s : State) (a i : Nat) : (s.event a i).atl = s.atl := (event_regsOnly s a i).atl
@[simp] theorem State.event_stb (s : State) (a i : Nat) : (s.event a i).stb = s.stb := (event_regsOnly s a i).stb

@[simp] theorem State.ev_pending (s : State) (f : Fld) : (s.ev f).pending = s.pending := (event_regsOnly s f.addr f.lo).pending
@[simp] theorem State.ev_freeCtr (s : State) (f : Fld) : (s.ev f).freeCtr = s.freeCtr := (event_regsOnly s f.addr f.lo).freeCtr
@[simp] theorem State.ev_mem (s : State) (f : Fld) : (s.ev f).mem = s.mem := (event_regsOnly s f.addr f.lo).mem
@[simp] theorem State.ev_dramErr (s : State) (f : Fld) : (s.ev f).dramErr = s.dramErr := (event_regsOnly s f.addr f.lo).dramErr
@[simp] theorem State.ev_fifos (s : State) (f : Fld) : (s.ev f).fifos = s.fifos := (event_regsOnly s f.addr f.lo).fifos
@[simp] theorem State.ev_fifoWait (s : State) (f : Fld) : (s.ev f).fifoWait = s.fifoWait := (event_regsOnly s f.addr f.lo).fifoWait
@[simp] theorem State.ev_fix (s : State) (f : Fld) : (s.ev f).fix = s.fix := (event_regsOnly s f.addr f.lo).fix
@[simp] theorem State.ev_rst (s : State) (f : Fld) : (s.ev f).rst = s.rst := (event_regsOnly s f.addr f.lo).rst
@[simp] theorem State.ev_host (s : State) (f : Fld) : (s.ev f).host = s.host := (event_regsOnly s f.addr f.lo).host
@[simp] theorem State.ev_tly (s : State) (f : Fld) : (s.ev f).tly = s.tly := (event_regsOnly s f.addr f.lo).tly
@[simp] theorem State.ev_lcy (s : State) (f : Fld) : (s.ev f).lcy = s.lcy := (event_regsOnly s f.addr f.lo).lcy
@[simp] theorem State.ev_cores (s : State) (f : Fld) : (s.ev f).cores = s.cores := (event_regsOnly s f.addr f.lo).cores
@[simp] theorem State.ev_mbx (s : State) (f : Fld) : (s.ev f).mbx = s.mbx := (event_regsOnly s f.addr f.lo).mbx
@[simp] theorem State.ev_house (s : State) (f : Fld) : (s.ev f).house = s.house := (event_regsOnly s f.addr f.lo).house
@[simp] theorem State.ev_tb (s : State) (f : Fld) : (s.ev f).tb = s.tb := (event_regsOnly s f.addr f.lo).tb
@[simp] theorem State.ev_skb (s : State) (f : Fld) : (s.ev f).skb = s.skb := (event_regsOnly s f.addr f.lo).skb
@[simp] theorem State.ev_pal (s : State) (f : Fld) : (s.ev f).pal = s.pal := (event_regsOnly s f.addr f.lo).pal
@[simp] theorem State.ev_und (s : State) (f : Fld) : (s.ev f).und = s.und := (event_regsOnly s f.addr f.lo).und
@[simp] theorem State.ev_glz (s : State) (f : Fld) : (s.ev f).glz = s.glz := (event_regsOnly s f.addr f.lo).glz
@[simp] theorem State.ev_timed (s : State) (f : Fld) : (s.ev f).timed = s.timed := (event_regsOnly s f.addr f.lo).timed
@[simp] theorem State.ev_var (s : State) (f : Fld) : (s.ev f).var = s.var := (event_regsOnly s f.addr f.lo).var
@[simp] theorem State.ev_outs (s : State) (f : Fld) : (s.ev f).outs = s.outs := (event_regsOnly s f.addr f.lo).outs
@[simp] theorem State.ev_pins (s : State) (f : Fld) : (s.ev f).pins = s.pins := (event_regsOnly s f.addr f.lo).pins
@[simp] theorem State.ev_tw (s : State) (f : Fld) : (s.ev f).tw = s.tw := (event_regsOnly s f.addr f.lo).tw
@[simp] theorem State.ev_tdc (s : State) (f : Fld) : (s.ev f).tdc = s.tdc := (event_regsOnly s f.addr f.lo).tdc
@[simp] theorem State.ev_tdcTurn (s : State) (f : Fld) : (s.ev f).tdcTurn = s.tdcTurn := (event_regsOnly s f.addr f.lo).tdcTurn
@[simp] theorem State.ev_gns (s : State) (f : Fld) : (s.ev f).gns = s.gns := (event_regsOnly s f.addr f.lo).gns
@[simp] theorem State.ev_gnsKeep (s : State) (f : Fld) : (s.ev f).gnsKeep = s.gnsKeep := (event_regsOnly s f.addr f.lo).gnsKeep
@[simp] theorem State.ev_tmpOn (s : State) (f : Fld) : (s.ev f).tmpOn = s.tmpOn := (event_regsOnly s f.addr f.lo).tmpOn
@[simp] theorem State.ev_scrubAt (s : State) (f : Fld) : (s.ev f).scrubAt = s.scrubAt := (event_regsOnly s f.addr f.lo).scrubAt
@[simp] theorem State.ev_lp (s : State) (f : Fld) : (s.ev f).lp = s.lp := (event_regsOnly s f.addr f.lo).lp
@[simp] theorem State.ev_tod (s : State) (f : Fld) : (s.ev f).tod = s.tod := (event_regsOnly s f.addr f.lo).tod
@[simp] theorem State.ev_stz (s : State) (f : Fld) : (s.ev f).stz = s.stz := (event_regsOnly s f.addr f.lo).stz
@[simp] theorem State.ev_ptp (s : State) (f : Fld) : (s.ev f).ptp = s.ptp := (event_regsOnly s f.addr f.lo).ptp
@[simp] theorem State.ev_kv (s : State) (f : Fld) : (s.ev f).kv = s.kv := (event_regsOnly s f.addr f.lo).kv
@[simp] theorem State.ev_sp (s : State) (f : Fld) : (s.ev f).sp = s.sp := (event_regsOnly s f.addr f.lo).sp
@[simp] theorem State.ev_atl (s : State) (f : Fld) : (s.ev f).atl = s.atl := (event_regsOnly s f.addr f.lo).atl
@[simp] theorem State.ev_stb (s : State) (f : Fld) : (s.ev f).stb = s.stb := (event_regsOnly s f.addr f.lo).stb

@[simp] theorem startClock_pending (s : State) (a : Nat) : (startClock s a).pending = s.pending := (startClock_regsOnly s a).pending
@[simp] theorem startClock_freeCtr (s : State) (a : Nat) : (startClock s a).freeCtr = s.freeCtr := (startClock_regsOnly s a).freeCtr
@[simp] theorem startClock_mem (s : State) (a : Nat) : (startClock s a).mem = s.mem := (startClock_regsOnly s a).mem
@[simp] theorem startClock_dramErr (s : State) (a : Nat) : (startClock s a).dramErr = s.dramErr := (startClock_regsOnly s a).dramErr
@[simp] theorem startClock_fifos (s : State) (a : Nat) : (startClock s a).fifos = s.fifos := (startClock_regsOnly s a).fifos
@[simp] theorem startClock_fifoWait (s : State) (a : Nat) : (startClock s a).fifoWait = s.fifoWait := (startClock_regsOnly s a).fifoWait
@[simp] theorem startClock_fix (s : State) (a : Nat) : (startClock s a).fix = s.fix := (startClock_regsOnly s a).fix
@[simp] theorem startClock_rst (s : State) (a : Nat) : (startClock s a).rst = s.rst := (startClock_regsOnly s a).rst
@[simp] theorem startClock_host (s : State) (a : Nat) : (startClock s a).host = s.host := (startClock_regsOnly s a).host
@[simp] theorem startClock_tly (s : State) (a : Nat) : (startClock s a).tly = s.tly := (startClock_regsOnly s a).tly
@[simp] theorem startClock_lcy (s : State) (a : Nat) : (startClock s a).lcy = s.lcy := (startClock_regsOnly s a).lcy
@[simp] theorem startClock_cores (s : State) (a : Nat) : (startClock s a).cores = s.cores := (startClock_regsOnly s a).cores
@[simp] theorem startClock_mbx (s : State) (a : Nat) : (startClock s a).mbx = s.mbx := (startClock_regsOnly s a).mbx
@[simp] theorem startClock_house (s : State) (a : Nat) : (startClock s a).house = s.house := (startClock_regsOnly s a).house
@[simp] theorem startClock_tb (s : State) (a : Nat) : (startClock s a).tb = s.tb := (startClock_regsOnly s a).tb
@[simp] theorem startClock_skb (s : State) (a : Nat) : (startClock s a).skb = s.skb := (startClock_regsOnly s a).skb
@[simp] theorem startClock_pal (s : State) (a : Nat) : (startClock s a).pal = s.pal := (startClock_regsOnly s a).pal
@[simp] theorem startClock_und (s : State) (a : Nat) : (startClock s a).und = s.und := (startClock_regsOnly s a).und
@[simp] theorem startClock_glz (s : State) (a : Nat) : (startClock s a).glz = s.glz := (startClock_regsOnly s a).glz
@[simp] theorem startClock_timed (s : State) (a : Nat) : (startClock s a).timed = s.timed := (startClock_regsOnly s a).timed
@[simp] theorem startClock_var (s : State) (a : Nat) : (startClock s a).var = s.var := (startClock_regsOnly s a).var
@[simp] theorem startClock_outs (s : State) (a : Nat) : (startClock s a).outs = s.outs := (startClock_regsOnly s a).outs
@[simp] theorem startClock_pins (s : State) (a : Nat) : (startClock s a).pins = s.pins := (startClock_regsOnly s a).pins
@[simp] theorem startClock_tw (s : State) (a : Nat) : (startClock s a).tw = s.tw := (startClock_regsOnly s a).tw
@[simp] theorem startClock_tdc (s : State) (a : Nat) : (startClock s a).tdc = s.tdc := (startClock_regsOnly s a).tdc
@[simp] theorem startClock_tdcTurn (s : State) (a : Nat) : (startClock s a).tdcTurn = s.tdcTurn := (startClock_regsOnly s a).tdcTurn
@[simp] theorem startClock_gns (s : State) (a : Nat) : (startClock s a).gns = s.gns := (startClock_regsOnly s a).gns
@[simp] theorem startClock_gnsKeep (s : State) (a : Nat) : (startClock s a).gnsKeep = s.gnsKeep := (startClock_regsOnly s a).gnsKeep
@[simp] theorem startClock_tmpOn (s : State) (a : Nat) : (startClock s a).tmpOn = s.tmpOn := (startClock_regsOnly s a).tmpOn
@[simp] theorem startClock_scrubAt (s : State) (a : Nat) : (startClock s a).scrubAt = s.scrubAt := (startClock_regsOnly s a).scrubAt
@[simp] theorem startClock_lp (s : State) (a : Nat) : (startClock s a).lp = s.lp := (startClock_regsOnly s a).lp
@[simp] theorem startClock_tod (s : State) (a : Nat) : (startClock s a).tod = s.tod := (startClock_regsOnly s a).tod
@[simp] theorem startClock_stz (s : State) (a : Nat) : (startClock s a).stz = s.stz := (startClock_regsOnly s a).stz
@[simp] theorem startClock_ptp (s : State) (a : Nat) : (startClock s a).ptp = s.ptp := (startClock_regsOnly s a).ptp
@[simp] theorem startClock_kv (s : State) (a : Nat) : (startClock s a).kv = s.kv := (startClock_regsOnly s a).kv
@[simp] theorem startClock_sp (s : State) (a : Nat) : (startClock s a).sp = s.sp := (startClock_regsOnly s a).sp
@[simp] theorem startClock_atl (s : State) (a : Nat) : (startClock s a).atl = s.atl := (startClock_regsOnly s a).atl
@[simp] theorem startClock_stb (s : State) (a : Nat) : (startClock s a).stb = s.stb := (startClock_regsOnly s a).stb

@[simp] theorem State.incSat_pending (s : State) (f : Fld) : (s.incSat f).pending = s.pending := (incSat_regsOnly s f).pending
@[simp] theorem State.incSat_freeCtr (s : State) (f : Fld) : (s.incSat f).freeCtr = s.freeCtr := (incSat_regsOnly s f).freeCtr
@[simp] theorem State.incSat_mem (s : State) (f : Fld) : (s.incSat f).mem = s.mem := (incSat_regsOnly s f).mem
@[simp] theorem State.incSat_dramErr (s : State) (f : Fld) : (s.incSat f).dramErr = s.dramErr := (incSat_regsOnly s f).dramErr
@[simp] theorem State.incSat_fifos (s : State) (f : Fld) : (s.incSat f).fifos = s.fifos := (incSat_regsOnly s f).fifos
@[simp] theorem State.incSat_fifoWait (s : State) (f : Fld) : (s.incSat f).fifoWait = s.fifoWait := (incSat_regsOnly s f).fifoWait
@[simp] theorem State.incSat_fix (s : State) (f : Fld) : (s.incSat f).fix = s.fix := (incSat_regsOnly s f).fix
@[simp] theorem State.incSat_rst (s : State) (f : Fld) : (s.incSat f).rst = s.rst := (incSat_regsOnly s f).rst
@[simp] theorem State.incSat_host (s : State) (f : Fld) : (s.incSat f).host = s.host := (incSat_regsOnly s f).host
@[simp] theorem State.incSat_tly (s : State) (f : Fld) : (s.incSat f).tly = s.tly := (incSat_regsOnly s f).tly
@[simp] theorem State.incSat_lcy (s : State) (f : Fld) : (s.incSat f).lcy = s.lcy := (incSat_regsOnly s f).lcy
@[simp] theorem State.incSat_cores (s : State) (f : Fld) : (s.incSat f).cores = s.cores := (incSat_regsOnly s f).cores
@[simp] theorem State.incSat_mbx (s : State) (f : Fld) : (s.incSat f).mbx = s.mbx := (incSat_regsOnly s f).mbx
@[simp] theorem State.incSat_house (s : State) (f : Fld) : (s.incSat f).house = s.house := (incSat_regsOnly s f).house
@[simp] theorem State.incSat_tb (s : State) (f : Fld) : (s.incSat f).tb = s.tb := (incSat_regsOnly s f).tb
@[simp] theorem State.incSat_skb (s : State) (f : Fld) : (s.incSat f).skb = s.skb := (incSat_regsOnly s f).skb
@[simp] theorem State.incSat_pal (s : State) (f : Fld) : (s.incSat f).pal = s.pal := (incSat_regsOnly s f).pal
@[simp] theorem State.incSat_und (s : State) (f : Fld) : (s.incSat f).und = s.und := (incSat_regsOnly s f).und
@[simp] theorem State.incSat_glz (s : State) (f : Fld) : (s.incSat f).glz = s.glz := (incSat_regsOnly s f).glz
@[simp] theorem State.incSat_timed (s : State) (f : Fld) : (s.incSat f).timed = s.timed := (incSat_regsOnly s f).timed
@[simp] theorem State.incSat_var (s : State) (f : Fld) : (s.incSat f).var = s.var := (incSat_regsOnly s f).var
@[simp] theorem State.incSat_outs (s : State) (f : Fld) : (s.incSat f).outs = s.outs := (incSat_regsOnly s f).outs
@[simp] theorem State.incSat_pins (s : State) (f : Fld) : (s.incSat f).pins = s.pins := (incSat_regsOnly s f).pins
@[simp] theorem State.incSat_tw (s : State) (f : Fld) : (s.incSat f).tw = s.tw := (incSat_regsOnly s f).tw
@[simp] theorem State.incSat_tdc (s : State) (f : Fld) : (s.incSat f).tdc = s.tdc := (incSat_regsOnly s f).tdc
@[simp] theorem State.incSat_tdcTurn (s : State) (f : Fld) : (s.incSat f).tdcTurn = s.tdcTurn := (incSat_regsOnly s f).tdcTurn
@[simp] theorem State.incSat_gns (s : State) (f : Fld) : (s.incSat f).gns = s.gns := (incSat_regsOnly s f).gns
@[simp] theorem State.incSat_gnsKeep (s : State) (f : Fld) : (s.incSat f).gnsKeep = s.gnsKeep := (incSat_regsOnly s f).gnsKeep
@[simp] theorem State.incSat_tmpOn (s : State) (f : Fld) : (s.incSat f).tmpOn = s.tmpOn := (incSat_regsOnly s f).tmpOn
@[simp] theorem State.incSat_scrubAt (s : State) (f : Fld) : (s.incSat f).scrubAt = s.scrubAt := (incSat_regsOnly s f).scrubAt
@[simp] theorem State.incSat_lp (s : State) (f : Fld) : (s.incSat f).lp = s.lp := (incSat_regsOnly s f).lp
@[simp] theorem State.incSat_tod (s : State) (f : Fld) : (s.incSat f).tod = s.tod := (incSat_regsOnly s f).tod
@[simp] theorem State.incSat_stz (s : State) (f : Fld) : (s.incSat f).stz = s.stz := (incSat_regsOnly s f).stz
@[simp] theorem State.incSat_ptp (s : State) (f : Fld) : (s.incSat f).ptp = s.ptp := (incSat_regsOnly s f).ptp
@[simp] theorem State.incSat_kv (s : State) (f : Fld) : (s.incSat f).kv = s.kv := (incSat_regsOnly s f).kv
@[simp] theorem State.incSat_sp (s : State) (f : Fld) : (s.incSat f).sp = s.sp := (incSat_regsOnly s f).sp
@[simp] theorem State.incSat_atl (s : State) (f : Fld) : (s.incSat f).atl = s.atl := (incSat_regsOnly s f).atl
@[simp] theorem State.incSat_stb (s : State) (f : Fld) : (s.incSat f).stb = s.stb := (incSat_regsOnly s f).stb

end Sys2Proof.Machine
end

