-- ==== Sys2Proof/Laws/Tab.lean ====
section
/-! SUPPORT. Reading a table after writing it, and its canonical form. -/

namespace Sys2Proof.Machine

variable {α : Type} (d : Nat → α)

theorem tabGet_tabDel_self (t : Tab α) (k : Nat) : tabGet d (tabDel t k) k = d k := by
  induction t with
  | nil => rfl
  | cons e t ih => obtain ⟨a, x⟩ := e; by_cases h : a = k <;> simp [tabDel, tabGet, h, ih]

theorem tabGet_tabDel_ne (t : Tab α) {k j : Nat} (h : j ≠ k) : tabGet d (tabDel t k) j = tabGet d t j := by
  induction t with
  | nil => rfl
  | cons e t ih =>
    obtain ⟨a, x⟩ := e
    by_cases ha : a = k
    · subst ha; simp [tabDel, tabGet, ih, Ne.symm h]
    · simp [tabDel, tabGet, ha, ih]

theorem tabGet_tabIns_ne (t : Tab α) {k j : Nat} (v : α) (h : j ≠ k) : tabGet d (tabIns t k v) j = tabGet d t j := by
  induction t with
  | nil => simp [tabIns, tabGet, Ne.symm h]
  | cons e t ih =>
    obtain ⟨a, x⟩ := e
    unfold tabIns; split
    · simp [tabGet, Ne.symm h]
    · simp [tabGet, ih]

theorem tabGet_tabIns_tabDel (t : Tab α) (k : Nat) (v : α) : tabGet d (tabIns (tabDel t k) k v) k = v := by
  induction t with
  | nil => simp [tabDel, tabIns, tabGet]
  | cons e t ih =>
    obtain ⟨a, x⟩ := e
    by_cases ha : a = k
    · simpa [tabDel, ha] using ih
    · simp only [tabDel, ha, if_false, tabIns]; split
      · simp [tabGet]
      · simp [tabGet, ha, ih]

variable [DecidableEq α]

/-- What was written is read back. -/
@[simp] theorem tabGet_tabSet_self (t : Tab α) (k : Nat) (v : α) : tabGet d (tabSet d t k v) k = v := by
  unfold tabSet; split
  · next h => rw [tabGet_tabDel_self, h]
  · exact tabGet_tabIns_tabDel d t k v

/-- A write leaves every other key alone. -/
theorem tabGet_tabSet_ne (t : Tab α) {k j : Nat} (v : α) (h : j ≠ k) : tabGet d (tabSet d t k v) j = tabGet d t j := by
  unfold tabSet; split
  · exact tabGet_tabDel_ne d t h
  · rw [tabGet_tabIns_ne d _ v h, tabGet_tabDel_ne d t h]

/-! ### Canonical form -/

omit [DecidableEq α]

theorem tabWfFrom_mono {lo lo' : Nat} (h : lo' ≤ lo) {t : Tab α} (w : tabWfFrom d lo t) : tabWfFrom d lo' t := by
  cases t with
  | nil => trivial
  | cons e t => exact ⟨le_trans h w.1, w.2⟩

theorem tabWfFrom_tabDel {lo : Nat} {t : Tab α} (k : Nat) (w : tabWfFrom d lo t) : tabWfFrom d lo (tabDel t k) := by
  induction t generalizing lo with
  | nil => trivial
  | cons e t ih =>
    obtain ⟨a, x⟩ := e
    unfold tabDel; split
    · exact tabWfFrom_mono d (Nat.le_succ_of_le w.1) (ih w.2.2)
    · exact ⟨w.1, w.2.1, ih w.2.2⟩

theorem tabWfFrom_tabIns_tabDel {lo : Nat} {t : Tab α} {k : Nat} {v : α} (hk : lo ≤ k) (hv : v ≠ d k) (w : tabWfFrom d lo t) :
    tabWfFrom d lo (tabIns (tabDel t k) k v) := by
  induction t generalizing lo with
  | nil => exact ⟨hk, hv, trivial⟩
  | cons e t ih =>
    obtain ⟨a, x⟩ := e
    by_cases ha : a = k
    · rw [tabDel, if_pos ha]; exact ih hk (tabWfFrom_mono d (Nat.le_succ_of_le w.1) w.2.2)
    · rw [tabDel, if_neg ha, tabIns]; split
      · next h => exact ⟨hk, hv, h, w.2.1, tabWfFrom_tabDel d k w.2.2⟩
      · exact ⟨w.1, w.2.1, ih (by omega) w.2.2⟩

/-- A write keeps the canonical form. -/
theorem tabWf_tabSet [DecidableEq α] {t : Tab α} (k : Nat) (v : α) (w : tabWf d t) : tabWf d (tabSet d t k v) := by
  unfold tabSet; split
  · exact tabWfFrom_tabDel d k w
  · next h => exact tabWfFrom_tabIns_tabDel d (Nat.zero_le k) h w

/-- Keeping some of a table's entries keeps its form. -/
theorem tabWf_tabFilter (p : Nat → α → Bool) {t : Tab α} (w : tabWf d t) : tabWf d (tabFilter p t) := by
  suffices h : ∀ lo, tabWfFrom d lo t → tabWfFrom d lo (tabFilter p t) from h 0 w
  clear w
  induction t with
  | nil => intros; trivial
  | cons e t ih =>
    obtain ⟨a, x⟩ := e
    intro lo w
    unfold tabFilter
    rw [List.filter_cons]; split
    · exact ⟨w.1, w.2.1, ih _ w.2.2⟩
    · exact tabWfFrom_mono d (Nat.le_succ_of_le w.1) (ih _ w.2.2)

end Sys2Proof.Machine
end

