-- ==== Sys2Proof/Laws/Ops.lean ====
section
/-! SUPPORT. What the shared operations do: registers and fields, event bits and Tally counters, memory words, and the
performed register access. -/

namespace Sys2Proof.Machine

/-! ### Fields of a word -/

theorem putField_toNat (w : Word) {hi lo : Nat} (v : Nat) (h : lo ≤ hi) (h40 : hi < 40) :
    (putField w hi lo v).toNat =
      w.toNat % 2 ^ lo + (v % 2 ^ (hi + 1 - lo)) * 2 ^ lo + (w.toNat >>> (hi + 1)) * 2 ^ (hi + 1) := by
  have hw := w.isLt
  unfold putField w40
  rw [BitVec.toNat_ofNat, Nat.mod_eq_of_lt]
  have e1 : 2 ^ (hi + 1) = 2 ^ (hi + 1 - lo) * 2 ^ lo := by rw [← pow_add]; congr 1; omega
  have e2 : 2 ^ 40 = 2 ^ (40 - (hi + 1)) * 2 ^ (hi + 1) := by rw [← pow_add]; congr 1; omega
  have l1 := Nat.mod_lt w.toNat (Nat.two_pow_pos lo)
  have l2 := Nat.mod_lt v (Nat.two_pow_pos (hi + 1 - lo))
  have l3 : w.toNat >>> (hi + 1) < 2 ^ (40 - (hi + 1)) := by
    rw [Nat.shiftRight_eq_div_pow, Nat.div_lt_iff_lt_mul (Nat.two_pow_pos _), ← e2]; exact hw
  have a1 : v % 2 ^ (hi + 1 - lo) + 1 ≤ 2 ^ (hi + 1 - lo) := l2
  have a2 : w.toNat >>> (hi + 1) + 1 ≤ 2 ^ (40 - (hi + 1)) := l3
  have b1 := Nat.mul_le_mul_right (2 ^ lo) a1
  have b2 := Nat.mul_le_mul_right (2 ^ (hi + 1)) a2
  rw [Nat.add_mul, ← e1] at b1
  rw [Nat.add_mul, ← e2] at b2
  omega

theorem putField_testBit (w : Word) {hi lo : Nat} (v : Nat) (h : lo ≤ hi) (h40 : hi < 40) (i : Nat) :
    (putField w hi lo v).toNat.testBit i =
      if lo ≤ i ∧ i ≤ hi then v.testBit (i - lo) else w.toNat.testBit i := by
  rw [putField_toNat w v h h40]
  have l1 := Nat.mod_lt w.toNat (Nat.two_pow_pos lo)
  have l2 := Nat.mod_lt v (Nat.two_pow_pos (hi + 1 - lo))
  have e1 : hi + 1 = (hi + 1 - lo) + lo := by omega
  have hm : w.toNat % 2 ^ lo + (v % 2 ^ (hi + 1 - lo)) * 2 ^ lo < 2 ^ (hi + 1) := by
    have b := Nat.mul_le_mul_right (2 ^ lo) (Nat.succ_le_of_lt l2)
    rw [Nat.succ_mul, ← pow_add, ← e1] at b
    omega
  have c1 : w.toNat % 2 ^ lo + (v % 2 ^ (hi + 1 - lo)) * 2 ^ lo + (w.toNat >>> (hi + 1)) * 2 ^ (hi + 1)
      = 2 ^ (hi + 1) * (w.toNat >>> (hi + 1)) + (2 ^ lo * (v % 2 ^ (hi + 1 - lo)) + w.toNat % 2 ^ lo) := by ring
  rw [c1, Nat.testBit_two_pow_mul_add _ (by rw [mul_comm, add_comm]; exact hm), Nat.testBit_two_pow_mul_add _ l1]
  by_cases h1 : i < hi + 1
  · by_cases h2 : i < lo
    · rw [if_pos h1, if_pos h2, if_neg (by omega), Nat.testBit_mod_two_pow]; simp [h2]
    · rw [if_pos h1, if_neg h2, if_pos (by omega), Nat.testBit_mod_two_pow]
      simp; omega
  · rw [if_neg h1, if_neg (by omega), Nat.testBit_shiftRight]; congr 1; omega

theorem fieldOf_testBit (w : Word) (hi lo i : Nat) :
    (fieldOf w hi lo).testBit i = (decide (i < hi + 1 - lo) && w.toNat.testBit (lo + i)) := by
  unfold fieldOf bitsOf; rw [Nat.testBit_mod_two_pow, Nat.testBit_shiftRight]

theorem fieldOf_putField_self (w : Word) {hi lo : Nat} (v : Nat) (h : lo ≤ hi) (h40 : hi < 40) :
    fieldOf (putField w hi lo v) hi lo = v % 2 ^ (hi + 1 - lo) := by
  apply Nat.eq_of_testBit_eq; intro i
  rw [fieldOf_testBit, putField_testBit w v h h40, Nat.testBit_mod_two_pow]
  by_cases hi' : i < hi + 1 - lo
  · simp [hi']; intro _; omega
  · simp [hi']

theorem fieldOf_putField_ne (w : Word) {hi lo hi' lo' : Nat} (v : Nat) (h : lo ≤ hi) (h40 : hi < 40)
    (hne : hi' < lo ∨ hi < lo') : fieldOf (putField w hi lo v) hi' lo' = fieldOf w hi' lo' := by
  apply Nat.eq_of_testBit_eq; intro i
  rw [fieldOf_testBit, fieldOf_testBit, putField_testBit w v h h40]
  by_cases hi2 : i < hi' + 1 - lo'
  · simp only [hi2, decide_true, Bool.true_and]; rw [if_neg (by omega)]
  · simp [hi2]

theorem fieldOf_lt (w : Word) (hi lo : Nat) : fieldOf w hi lo < 2 ^ (hi + 1 - lo) := Nat.mod_lt _ (Nat.two_pow_pos _)

theorem bitAt_or_self (w : Word) {i : Nat} (h : i < 40) : bitAt (w ||| w40 (2 ^ i)) i = true := by
  unfold bitAt w40
  rw [BitVec.toNat_or, Nat.testBit_or, BitVec.toNat_ofNat, Nat.mod_eq_of_lt (Nat.pow_lt_pow_right (by decide) h)]
  simp

/-! ### Registers -/

@[simp] theorem rd_wr_self (s : State) (a : Nat) (w : Word) : (s.wr a w).rd a = w := tabGet_tabSet_self _ _ _ _

theorem rd_wr_ne (s : State) {a b : Nat} (w : Word) (h : b ≠ a) : (s.wr a w).rd b = s.rd b := tabGet_tabSet_ne _ _ _ h

theorem rd_put_ne (s : State) (f : Fld) {b : Nat} (v : Nat) (h : b ≠ f.addr) : (s.put f v).rd b = s.rd b := rd_wr_ne s _ h

/-- A field that lies inside a word. -/
def Fld.ok (f : Fld) : Prop := f.lo ≤ f.hi ∧ f.hi < 40

theorem get_put_self (s : State) (f : Fld) (v : Nat) (h : f.ok) : (s.put f v).get f = v % 2 ^ (f.hi + 1 - f.lo) := by
  unfold State.get State.put; rw [rd_wr_self]; exact fieldOf_putField_self _ _ h.1 h.2

theorem get_put_addr (s : State) (f g : Fld) (v : Nat) (h : g.addr ≠ f.addr) : (s.put f v).get g = s.get g := by
  unfold State.get; rw [rd_put_ne _ _ _ h]

theorem get_put_bits (s : State) (f g : Fld) (v : Nat) (hf : f.ok) (h : g.hi < f.lo ∨ f.hi < g.lo) :
    (s.put f v).get g = s.get g := by
  by_cases ha : g.addr = f.addr
  · unfold State.get State.put; rw [ha, rd_wr_self]; exact fieldOf_putField_ne _ _ hf.1 hf.2 h
  · exact get_put_addr s f g v ha

theorem on_putB_self (s : State) (f : Fld) (b : Bool) (h : f.ok) : (s.putB f b).on f = b := by
  unfold State.on State.putB; rw [get_put_self s f _ h]
  cases b
  · simp [b2n]
  · have : 2 ≤ 2 ^ (f.hi + 1 - f.lo) := by
      calc 2 = 2 ^ 1 := rfl
        _ ≤ _ := Nat.pow_le_pow_right (by decide) (by have := h.1; omega)
    simp only [b2n, if_true]; rw [Nat.mod_eq_of_lt (by omega)]; decide

theorem get_wr_ne (s : State) {a : Nat} (w : Word) (g : Fld) (h : g.addr ≠ a) : (s.wr a w).get g = s.get g := by
  unfold State.get; rw [rd_wr_ne _ _ h]

/-- A register read through a state that differs from `s` in nothing the registers show. -/
theorem rd_of_regs {s t : State} (h : t.regs = s.regs) (a : Nat) : t.rd a = s.rd a := by unfold State.rd; rw [h]

theorem get_of_regs {s t : State} (h : t.regs = s.regs) (f : Fld) : t.get f = s.get f := by unfold State.get; rw [rd_of_regs h]

/-! ### Tally counters and event bits -/

theorem tallyOne_rd (s : State) (u c i b : Nat) (h : b ≠ UNIT_TALLY u i) : (tallyOne s u c i).rd b = s.rd b := by
  unfold tallyOne; split
  · exact rd_wr_ne _ _ h
  · rfl

/-- An event changes no register but the unit's Tally counters. -/
theorem tally_rd (s : State) (u c b : Nat) (h : ∀ i < 4, b ≠ UNIT_TALLY u i) : (tally s u c).rd b = s.rd b := by
  unfold tally; split
  · rfl
  · rw [tallyOne_rd _ _ _ _ _ (h 3 (by decide)), tallyOne_rd _ _ _ _ _ (h 2 (by decide)),
      tallyOne_rd _ _ _ _ _ (h 1 (by decide)), tallyOne_rd _ _ _ _ _ (h 0 (by decide))]

theorem tally_rd_plain (s : State) (u c b : Nat) (h : b % 256 < 0xF0) : (tally s u c).rd b = s.rd b :=
  tally_rd s u c b (fun i hi => by unfold UNIT_TALLY; omega)

theorem tally_get (s : State) (u c : Nat) (f : Fld) (h : f.addr % 256 < 0xF0) : (tally s u c).get f = s.get f := by
  unfold State.get; rw [tally_rd_plain _ _ _ _ h]

theorem event_eq_regs (s : State) (a i b : Nat) (h : b % 256 < 0xF0) :
    (s.event a i).rd b = (s.wr a (s.rd a ||| w40 (2 ^ i))).rd b := by
  unfold State.event; dsimp only; split
  · rw [tally_rd_plain _ _ _ _ h]; rfl
  · rfl

theorem event_rd_self (s : State) (a i : Nat) (h : a % 256 < 0xF0) : (s.event a i).rd a = s.rd a ||| w40 (2 ^ i) := by
  rw [event_eq_regs _ _ _ _ h, rd_wr_self]

theorem event_rd_ne (s : State) (a i : Nat) {b : Nat} (h : b % 256 < 0xF0) (hne : b ≠ a) : (s.event a i).rd b = s.rd b := by
  rw [event_eq_regs _ _ _ _ h, rd_wr_ne _ _ hne]

theorem event_get_ne (s : State) (a i : Nat) (g : Fld) (h : g.addr % 256 < 0xF0) (hne : g.addr ≠ a) :
    (s.event a i).get g = s.get g := by unfold State.get; rw [event_rd_ne _ _ _ h hne]

theorem ev_get_ne (s : State) (f g : Fld) (h : g.addr % 256 < 0xF0) (hne : g.addr ≠ f.addr) : (s.ev f).get g = s.get g :=
  event_get_ne s f.addr f.lo g h hne

theorem fieldOf_bit (w : Word) (i : Nat) : fieldOf w i i = b2n (bitAt w i) := by
  apply Nat.eq_of_testBit_eq; intro j
  rw [fieldOf_testBit]; unfold bitAt b2n
  have hj : decide (j < i + 1 - i) = decide (j = 0) := by congr 1; apply propext; omega
  rw [hj]
  rcases Nat.eq_zero_or_pos j with rfl | hp
  · cases hb : w.toNat.testBit i <;> simp
  · have hne : j ≠ 0 := by omega
    have h1 : Nat.testBit 1 j = false := by
      rw [show (1 : Nat) = 2 ^ 0 from rfl, Nat.testBit_two_pow]; simp; omega
    cases w.toNat.testBit i <;> simp [hne, h1]

/-- An event bit stands after the event (R14). -/
theorem ev_on (s : State) (f : Fld) (h : f.addr % 256 < 0xF0) (hb : f.hi = f.lo) (h40 : f.lo < 40) : (s.ev f).on f = true := by
  unfold State.on State.get State.ev
  rw [event_rd_self _ _ _ h, hb, fieldOf_bit, bitAt_or_self _ h40]; rfl

theorem event_bitAt (s : State) (a i : Nat) (h : a % 256 < 0xF0) (h40 : i < 40) : bitAt ((s.event a i).rd a) i = true := by
  rw [event_rd_self _ _ _ h]; exact bitAt_or_self _ h40

/-- Another bit of an event register stays as it was, or is set already. -/
theorem bitAt_or_ne (w : Word) {i j : Nat} (h : i < 40) (hne : j ≠ i) : bitAt (w ||| w40 (2 ^ i)) j = bitAt w j := by
  unfold bitAt w40
  rw [BitVec.toNat_or, Nat.testBit_or, BitVec.toNat_ofNat, Nat.mod_eq_of_lt (Nat.pow_lt_pow_right (by decide) h),
    Nat.testBit_two_pow]
  simp [Ne.symm hne]

theorem startClock_rd (s : State) (a b : Nat) (h : b % 256 < 0xF0) : (startClock s a).rd b = s.rd b := by
  unfold startClock; split
  · rfl
  · dsimp only; split
    · rfl
    · rw [tally_rd_plain _ _ _ _ h]
      exact rd_put_ne (clockUse s (a / 256)) _ _ (by simp only [UNIT_STATUS_clk_on, UNIT_STATUS]; omega)

/-- A performed access changes no register outside the unit's common block before its own effect. -/
theorem touched_rd (s : State) (a b : Nat) (h : b % 256 < 0xF0) : (touched s a).rd b = s.rd b := by
  unfold touched; rw [tally_rd_plain _ _ _ _ h, startClock_rd _ _ _ h]

theorem touched_get (s : State) (a : Nat) (f : Fld) (h : f.addr % 256 < 0xF0) : (touched s a).get f = s.get f := by
  unfold State.get; rw [touched_rd _ _ _ h]

theorem touched_on (s : State) (a : Nat) (f : Fld) (h : f.addr % 256 < 0xF0) : (touched s a).on f = s.on f := by
  unfold State.on; rw [touched_get _ _ _ h]

theorem touched_regsOnly (s : State) (a : Nat) : RegsOnly s (touched s a) :=
  (startClock_regsOnly _ _).trans (tally_regsOnly _ _ _)

/-! ### Performed accesses -/

theorem injectErr_of_uninjected {s : State} (h : Uninjected s) (u : Nat) : injectErr s u = (false, s) := by
  unfold injectErr; rw [if_neg]
  rintro ⟨h1, h2, -⟩
  rcases h with h | h <;> simp_all

/-- A performed write is the row's own effect on the touched state. -/
theorem writeReg_of_Writes {s : State} {m : Master} {a : Nat} {w : Word} (eff : State → Out) (h : Writes s m a w) :
    writeReg m a w eff s = eff (touched s a) := by
  obtain ⟨h1, h2, h3, h4⟩ := h
  unfold writeReg; rw [h1]
  simp [h2, h3, injectErr_of_uninjected h4, touched]

/-- A performed read is the row's own effect on a state whose registers read as before. -/
theorem readReg_of_Reads {s : State} {m : Master} {a : Nat} (eff : State → State) (h : Reads s m a) :
    readReg m a eff s = .next (eff (tally (startClock s a) (a / 256) 0x03)) := by
  obtain ⟨h1, h2⟩ := h
  unfold readReg; rw [h1]
  simp [injectErr_of_uninjected h2]

/-- An access that is turned away leaves the record of the matrix, and the row's effect does not happen. -/
theorem writeReg_of_err {s : State} {m : Master} {a k : Nat} {w : Word} (eff : State → Out) (h : regErr s m a true = some k) :
    writeReg m a w eff s = .next (errReg s m k a true) := by unfold writeReg; rw [h]

/-! ### Memory -/

@[simp] theorem ld_st_self (s : State) (a : Nat) (w : Word) : (s.st a w).ld a = w := tabGet_tabSet_self _ _ _ _

theorem ld_st_ne (s : State) {a b : Nat} (w : Word) (h : b ≠ a) : (s.st a w).ld b = s.ld b := tabGet_tabSet_ne _ _ _ h

theorem ld_of_mem {s t : State} (h : t.mem = s.mem) (a : Nat) : t.ld a = s.ld a := by unfold State.ld; rw [h]

/-- Outside the words written, memory reads as before. -/
theorem ld_stN_outside (ws : List Word) (s : State) (a b : Nat) (h : b < a ∨ a + ws.length ≤ b) : (s.stN a ws).ld b = s.ld b := by
  induction ws generalizing s a with
  | nil => rfl
  | cons w ws ih =>
    rw [List.length_cons] at h
    rw [State.stN, ih _ _ (by omega), ld_st_ne _ _ (by omega)]

theorem ld_stN_inside (ws : List Word) (s : State) (a i : Nat) (h : i < ws.length) : (s.stN a ws).ld (a + i) = ws[i] := by
  induction ws generalizing s a i with
  | nil => simp at h
  | cons w ws ih =>
    rw [State.stN]
    cases i with
    | zero => rw [ld_stN_outside _ _ _ _ (by omega)]; simp
    | succ i =>
      rw [show a + (i + 1) = a + 1 + i by omega, ih _ _ _ (by simpa using h)]; simp

theorem memWf_st (s : State) (a : Nat) (w : Word) (h : Memory.wf s.mem) : Memory.wf (s.st a w).mem := tabWf_tabSet _ _ _ h

theorem memWf_stN (ws : List Word) (s : State) (a : Nat) (h : Memory.wf s.mem) : Memory.wf (s.stN a ws).mem := by
  induction ws generalizing s a with
  | nil => exact h
  | cons w ws ih => exact ih _ _ (memWf_st s a w h)

theorem memWf_reset : Memory.wf State.reset.mem := trivial

/-! ### Tables of parts -/

@[simp] theorem core_setCore_self (s : State) (k : Nat) (c : Core) : (s.setCore k c).core k = c := tabGet_tabSet_self _ _ _ _

theorem core_setCore_ne (s : State) {k j : Nat} (c : Core) (h : j ≠ k) : (s.setCore k c).core j = s.core j :=
  tabGet_tabSet_ne _ _ _ h

theorem core_of_cores {s t : State} (h : t.cores = s.cores) (k : Nat) : t.core k = s.core k := by unfold State.core; rw [h]

@[simp] theorem fifo_setFifo_self (s : State) (n : Nat) (q : Fifo) : (s.setFifo n q).fifo n = q := tabGet_tabSet_self _ _ _ _

theorem fifo_setFifo_ne (s : State) {n j : Nat} (q : Fifo) (h : j ≠ n) : (s.setFifo n q).fifo j = s.fifo j :=
  tabGet_tabSet_ne _ _ _ h

@[simp] theorem varSt_setVar_self (s : State) (n : Nat) (v : VarSt) : (s.setVar n v).varSt n = v := tabGet_tabSet_self _ _ _ _

@[simp] theorem led_setLed_self (s : State) (i : Nat) (x : Slot) : (s.setLed i x).led i = x := tabGet_tabSet_self _ _ _ _

theorem led_setLed_ne (s : State) {i j : Nat} (x : Slot) (h : j ≠ i) : (s.setLed i x).led j = s.led j :=
  tabGet_tabSet_ne _ _ _ h

@[simp] theorem slot_setSlot_self (s : State) (n : Nat) (p : PalSlot) : (s.setSlot n p).slot n = p := tabGet_tabSet_self _ _ _ _

@[simp] theorem level_setLevel_self (s : State) (p : Nat) (b : Bool) : (s.setLevel p b).level p = b := by
  unfold State.level State.setLevel; dsimp only; rw [tabGet_tabSet_self]; cases b <;> rfl

theorem level_setLevel_ne (s : State) {p q : Nat} (b : Bool) (h : q ≠ p) : (s.setLevel p b).level q = s.level q := by
  unfold State.level State.setLevel; dsimp only; rw [tabGet_tabSet_ne _ _ _ h]

/-! ### Folds -/

/-- What every step of a fold leaves alone, the fold leaves alone. -/
theorem foldl_frame {α β γ : Type} (p : β → γ) (f : β → α → β) (h : ∀ b a, p (f b a) = p b) (l : List α) (b : β) :
    p (l.foldl f b) = p b := by
  induction l generalizing b with
  | nil => rfl
  | cons a l ih => rw [List.foldl_cons, ih, h]

end Sys2Proof.Machine
end

