-- ==== Sys2Proof/Laws/Issue.lean ====
section
/-! SUPPORT. When a core issues an instruction, and what issuing leaves alone. -/

namespace Sys2Proof.Machine

/-- The condition under which an instruction issues is all that `issue` asks. -/
theorem issue_of_CanIssue {s : State} {k : CoreId} {rs : List Nat} {drain : Bool} (f : Core → State → Out)
    (h : CanIssue s k rs drain) : issue k rs drain f s = f (s.core k) s := by
  obtain ⟨h1, h2, h3, h4, h5, h6⟩ := h
  unfold issue; simp [h1, h2, h3, h4, h5, h6]

/-- A core behind an outstanding load stalls: nothing changes, once no store error stands at its boundary. -/
theorem issue_of_stall {s : State} {k : CoreId} {rs : List Nat} {drain : Bool} (f : Core → State → Out)
    (hb : (s.core k).stBack = []) (h : loadStall (s.core k) rs drain = true) : issue k rs drain f s = .next s := by
  have h' : loadStall (s.core k) rs (drain || !fetchOk k (s.core k).pc) = true := by
    unfold loadStall at *
    cases hl : (s.core k).loads <;> simp_all
    rcases h with h | h | h <;> simp [h]
  unfold issue; simp [h', hb]

theorem retireAt_issued (s : State) (k : CoreId) (c : Core) (pc : Nat) : Issued s (retireAt s k c pc) k (c.went pc) := by
  refine ⟨?_, fun j h => ?_, rfl⟩
  · exact core_setCore_self _ _ _
  · exact core_setCore_ne s _ h

theorem retire_issued (s : State) (k : CoreId) (c : Core) : Issued s (retire s k c) k (c.went (c.pc + 1)) :=
  retireAt_issued s k c _

@[simp] theorem setG_pc (c : Core) (r : Nat) (w : Word) : (c.setG r w).pc = c.pc := by unfold Core.setG; split <;> rfl

@[simp] theorem setG_loads (c : Core) (r : Nat) (w : Word) : (c.setG r w).loads = c.loads := by unfold Core.setG; split <;> rfl

@[simp] theorem setG_flags (c : Core) (r : Nat) (w : Word) : (c.setG r w).flags = c.flags := by unfold Core.setG; split <;> rfl

/-- A register is read back as written, g0 as zero (R43). -/
theorem g_setG (c : Core) (r j : Nat) (w : Word) : (c.setG r w).g j = if j = 0 then 0 else if j = r then w else c.g j := by
  unfold Core.setG Core.g
  by_cases hj : j = 0
  · simp [hj]
  · by_cases hr : r = 0
    · subst hr; simp [hj]
    · by_cases h : j = r
      · subst h; simp [hj]
      · simp only [hj, hr, h, if_false]; exact tabGet_tabSet_ne _ _ _ h

theorem retireReg_issued (s : State) (k : CoreId) (c : Core) (rd : GReg) (r : Word × Flags) :
    Issued s (retireReg s k c rd r) k (c.result rd r.1 r.2) := by
  unfold retireReg Core.result
  have h := retire_issued s k { c.setG rd r.1 with flags := r.2 }
  simpa using h

end Sys2Proof.Machine
end

