-- ==== Sys2Proof/WellFormed.lean ====
section
/-! DEFINITION. Which commands are well formed: what the outside world can send at all. -/

namespace Sys2Proof

/-- A master acts with the privilege its ID has (R490): a core by its image, the firmware ports and the host as User, the
Sketchbook and JTAG as Keeper. -/
def masterOk (m : Master) : Bool :=
  if m.id.val = 20 ∨ m.id.val = 22 ∨ m.id.val = 23 then !m.keeper
  else if m.id.val = 21 ∨ m.id.val = 24 then m.keeper
  else true

/-- The master that a register access names, none for a command that is no access. -/
def Instr.master? : Instr → Option Master
  | .trap _ _ => none
  | .stray _ => none
  | .selfSvc _ => none
  | .notice _ => none
  | .bound _ => none
  | .resume _ => none
  | .resumeSkip _ => none
  | .add _ _ _ _ => none
  | .sub _ _ _ _ => none
  | .and_ _ _ _ _ => none
  | .or_ _ _ _ _ => none
  | .xor _ _ _ _ => none
  | .shl _ _ _ _ => none
  | .shr _ _ _ _ => none
  | .sra _ _ _ _ => none
  | .mul _ _ _ _ _ => none
  | .lih _ _ _ _ => none
  | .mac _ _ _ _ _ => none
  | .msc _ _ _ _ _ => none
  | .acc _ _ _ _ _ _ => none
  | .tadd _ _ _ _ _ => none
  | .tsub _ _ _ _ _ => none
  | .tcmp _ _ _ => none
  | .text _ _ _ _ => none
  | .br _ _ => none
  | .brc _ _ _ => none
  | .call _ _ _ => none
  | .ret _ _ => none
  | .ld _ _ _ _ => none
  | .st _ _ _ _ => none
  | .ldp _ _ _ _ => none
  | .stp _ _ _ _ => none
  | .loadReturn _ _ => none
  | .storeErrorResponse _ => none
  | .push _ _ _ _ => none
  | .pushAccepted _ => none
  | .pop _ _ _ => none
  | .wash _ _ => none
  | .urd _ _ _ _ => none
  | .uwr _ _ _ _ => none
  | .unitAccessResponse _ => none
  | .wait _ _ _ => none
  | .waitWake _ => none
  | .wev _ _ _ _ => none
  | .wevWake _ => none
  | .wevDeadline _ => none
  | .sched _ _ _ _ _ => none
  | .schedResult _ => none
  | .kopDerive _ _ _ _ => none
  | .kopMac _ _ _ _ => none
  | .kopSeal _ _ _ _ => none
  | .kopOpen _ _ _ _ => none
  | .kopSign _ _ _ _ => none
  | .kopResult _ => none
  | .pex _ _ _ _ _ _ _ => none
  | .csum _ _ _ _ _ => none
  | .tsi _ _ _ _ _ => none
  | .qsend _ _ _ _ _ => none
  | .qsendAccepted _ => none
  | .coreRunWrite m _ _ => some m
  | .softEvent m _ _ => some m
  | .getInfo => none
  | .loadImage => none
  | .startCores => none
  | .stopCores => none
  | .offerStroke => none
  | .armStep => none
  | .keyUpdate => none
  | .readAttest => none
  | .enterMaint => none
  | .leaveMaint => none
  | .plannedSwap => none
  | .setDomain => none
  | .readLapseLog => none
  | .lifeCycle => none
  | .badCommand => none
  | .timebaseTick => none
  | .copyCompare _ => none
  | .tbSteerWrite m _ => some m
  | .tbSlewAddWrite m _ => some m
  | .tbLoadLoWrite m _ => some m
  | .timeLoad => none
  | .tbDirectStepWrite m _ _ => some m
  | .timeStep _ => none
  | .leapExec _ => none
  | .leapEnd => none
  | .ledgerWriteComplete _ => none
  | .ledgerReadback _ => none
  | .strokeHandoff _ => none
  | .pinStrokeExecute _ => none
  | .pulseTrailingEdge _ => none
  | .phaseStrokeExecute _ => none
  | .regwrStrokeExecute _ => none
  | .launchStrokeExecute _ _ => none
  | .pushStrokeExecute _ => none
  | .pushStrokeDeferred _ => none
  | .attestStrokeExecute _ => none
  | .attestSigned _ => none
  | .attestDeadline _ => none
  | .keyupdStrokeExecute _ => none
  | .ntsEpochRoll _ => none
  | .statusWriteback _ => none
  | .ledgerRecovery => none
  | .executorsRearm => none
  | .todMessage => none
  | .paletteTick _ => none
  | .switchComplete => none
  | .palSampleWrite m _ _ => some m
  | .refinLos _ => none
  | .sampleTimeout _ => none
  | .rankHoldExpiry _ => none
  | .qualificationTimerExpiry _ => none
  | .driftClearExpiry _ => none
  | .clearDisagreeing m _ => some m
  | .restartQualification m _ => some m
  | .slewAfterStep m _ => some m
  | .setSourceFault m _ => some m
  | .clearSourceFault m _ => some m
  | .stepToWideOffset m _ => some m
  | .learningSample => none
  | .modelUpdate => none
  | .predictionUpdate => none
  | .restartLearning m => some m
  | .recomputePredictions m => some m
  | .undTempExtWrite m _ => some m
  | .tempStale => none
  | .undModelWrite m _ _ => some m
  | .eventEntryWrite m _ _ => some m
  | .eventEntryExpiry _ => none
  | .upstreamIdCommit m _ _ => some m
  | .pllEnable m _ _ => some m
  | .pllDisable m _ _ => some m
  | .relock m _ => some m
  | .glide m _ => some m
  | .clearBm m _ => some m
  | .bandFound _ _ => none
  | .hopSettled _ => none
  | .lockDeclared _ _ => none
  | .lockLost _ _ => none
  | .acquireTimeout _ => none
  | .inputLoss _ => none
  | .inputGood _ => none
  | .glideTargetReached _ => none
  | .outputUngate _ => none
  | .phaseStepDone _ => none
  | .alignRestored _ => none
  | .outCfgWrite m _ _ => some m
  | .outDivWrite m _ _ => some m
  | .varPhaseWrite m _ _ => some m
  | .tdcEdge _ _ _ => none
  | .pairWindowClose _ => none
  | .freqGateEnd _ => none
  | .tdcRecordDrain _ => none
  | .calStart _ => none
  | .calNow m _ _ => some m
  | .calLineSwap _ _ => none
  | .calExpired _ => none
  | .dllLock _ => none
  | .tdcCfgWrite m _ _ _ => some m
  | .streamFault _ _ _ _ _ => none
  | .streamClear _ _ _ => none
  | .pairRun m _ => some m
  | .pairPullInDone _ _ _ _ => none
  | .pairLost _ => none
  | .measRecord _ _ => none
  | .symbolRecord _ _ _ _ => none
  | .bankEntryEnd _ => none
  | .sweepDone => none
  | .bankRestart => none
  | .keepDataAccess m _ _ => some m
  | .timingSolution _ => none
  | .surveyEnd _ _ _ _ => none
  | .spoofAlarm _ => none
  | .spoofClear => none
  | .sentinelSleep => none
  | .sentinelWake => none
  | .lpFrameReceive _ _ _ _ _ => none
  | .lpFrameDeparture _ _ => none
  | .tsqPop m _ => some m
  | .lpAlignLock _ _ _ => none
  | .lpCfgWrite m _ _ _ => some m
  | .stzCmdWord => none
  | .sitterCacheTakeover _ _ => none
  | .sitterWriteback _ => none
  | .reseedAndClear m => some m
  | .writeBackCaches m => some m
  | .stzTableClearDone => none
  | .keyPrederive => none
  | .pkeOpDone => none
  | .drbgHealthFail => none
  | .drbgRecover => none
  | .drbgReseed => none
  | .verifyUpdate m _ => some m
  | .discardSlot m _ => some m
  | .tamperAlarm _ _ _ => none
  | .spFrameReceive _ _ _ _ => none
  | .spFrameDeparture _ _ => none
  | .spAlignLock _ => none
  | .spCfgWrite m _ _ _ => some m
  | .exchangeSend _ => none
  | .exchangeProcess _ => none
  | .xcWindowEnd _ => none
  | .atlHelloSend => none
  | .atlHelloReceive _ => none
  | .adjacencyTimeout _ _ => none
  | .rootSeqAdvance => none
  | .rootTimeout => none
  | .claimHoldExpiry => none
  | .registerSend => none
  | .registerReceive _ => none
  | .registerRetry => none
  | .grantReceive _ => none
  | .mgmtFrameReceive _ => none
  | .mgmtSend => none
  | .relaySend => none
  | .relayReceive _ => none
  | .atlRtDataWrite m _ => some m
  | .stbFrameTransmit _ _ => none
  | .stbBackoffExpiry _ _ => none
  | .stbFrameReceive _ _ _ _ _ _ => none
  | .twinIdleRx _ => none
  | .twinHelloRx _ _ => none
  | .twinStrokeRx _ _ _ _ _ _ _ _ _ => none
  | .twinStrokeAckRx _ _ _ => none
  | .twinNoteRx _ _ _ => none
  | .twinStateRx _ _ _ _ _ => none
  | .twinRefillRx _ _ _ => none
  | .twinGiveRx _ _ _ _ => none
  | .twinSwapRx _ _ _ => none
  | .twinSwapAckRx _ _ _ => none
  | .twinResend => none
  | .twinLinkTimeout => none
  | .twinLaneLoss _ => none
  | .lapsedQuietExpiry => none
  | .twCmdSwap m => some m
  | .repair m => some m
  | .endPairing m => some m
  | .giveUp => none
  | .peerOwnRelease _ => none
  | .outputDriverEnable _ _ _ => none
  | .giveTimeout => none
  | .takeoverOutputCheck _ _ => none
  | .swapInstant => none
  | .swapAckTimeout => none
  | .revertiveWtrExpiry => none
  | .powerOnPinClaim => none
  | .ownershipConflict => none
  | .heartbeatLost => none
  | .supplyLow => none
  | .resetPinAssert => none
  | .resetEscalation => none
  | .resetPinRelease => none
  | .powerGoodFall => none
  | .powerGoodRise _ _ => none
  | .coreUndervoltage => none
  | .dieLinkTrain _ => none
  | .bringUpStageDone _ => none
  | .pcieLinkUp => none
  | .localReset m _ _ => some m
  | .localResetRelease => none
  | .domainRequest m _ => some m
  | .domainChangeDone _ => none
  | .oscLost => none
  | .pllUnlock _ => none
  | .clockGood _ => none
  | .clockIdleStop _ => none
  | .unitClockBad _ => none
  | .hostRead _ _ _ => none
  | .hostWrite _ _ _ _ => none
  | .scrubStep _ _ => none
  | .fifoDataWrite m _ _ => some m
  | .fifoFirstWrite m _ _ => some m
  | .fifoLastWrite m _ _ => some m
  | .fifoOnlyWrite m _ _ => some m
  | .fifoDataRead m _ => some m
  | .fifoWashWrite m _ _ => some m
  | .fifoCutReached _ => none
  | .fifoCfgWrite m _ => some m
  | .faultDetected _ _ => none
  | .fatalEntry _ => none
  | .fixForceWrite m _ => some m
  | .fixRaiseWrite m _ => some m
  | .unitFaultForceWrite m _ _ => some m
  | .eventCountRead m _ => some m
  | .jtagInstructionLoad _ => none
  | .tallyStart m _ _ => some m
  | .tallySweepStart => none
  | .tallySweepDone => none
  | .tlyBufRead m => some m
  | .hiWordRead m _ => some m
  | .registerWrite m _ _ => some m
  | .twinLaneLock _ => none
  | .twinHelloSend => none
  | .twinSilent => none
  | .lpLinkLoss _ _ => none
  | .spLinkLoss _ => none
  | .tdcDllUnlock _ => none
  | .atomInLost => none
  | .pciePerstRelease => none
  | .ptpMessageSend _ _ _ => none
  | .announceReceiptTimeout _ => none
  | .esmcPduSend _ _ => none
  | .esmcPduTimeout _ => none
  | .pairLockBLoss _ => none

/-- The sizes of what a command carries: a host read covers at most 4,096 bytes and a host write 512 (R483), the option record
128 words (R471) and the boot directory 8 images (R113), a bank dwell at most the 12,288 cells of R302, and a Studio bus payload at most
1,500 octets (R424). -/
def Instr.sizesOk : Instr → Bool
  | .trap _ _ => true
  | .stray _ => true
  | .selfSvc _ => true
  | .notice _ => true
  | .bound _ => true
  | .resume _ => true
  | .resumeSkip _ => true
  | .add _ _ _ _ => true
  | .sub _ _ _ _ => true
  | .and_ _ _ _ _ => true
  | .or_ _ _ _ _ => true
  | .xor _ _ _ _ => true
  | .shl _ _ _ _ => true
  | .shr _ _ _ _ => true
  | .sra _ _ _ _ => true
  | .mul _ _ _ _ _ => true
  | .lih _ _ _ _ => true
  | .mac _ _ _ _ _ => true
  | .msc _ _ _ _ _ => true
  | .acc _ _ _ _ _ _ => true
  | .tadd _ _ _ _ _ => true
  | .tsub _ _ _ _ _ => true
  | .tcmp _ _ _ => true
  | .text _ _ _ _ => true
  | .br _ _ => true
  | .brc _ _ _ => true
  | .call _ _ _ => true
  | .ret _ _ => true
  | .ld _ _ _ _ => true
  | .st _ _ _ _ => true
  | .ldp _ _ _ _ => true
  | .stp _ _ _ _ => true
  | .loadReturn _ _ => true
  | .storeErrorResponse _ => true
  | .push _ _ _ _ => true
  | .pushAccepted _ => true
  | .pop _ _ _ => true
  | .wash _ _ => true
  | .urd _ _ _ _ => true
  | .uwr _ _ _ _ => true
  | .unitAccessResponse _ => true
  | .wait _ _ _ => true
  | .waitWake _ => true
  | .wev _ _ _ _ => true
  | .wevWake _ => true
  | .wevDeadline _ => true
  | .sched _ _ _ _ _ => true
  | .schedResult _ => true
  | .kopDerive _ _ _ _ => true
  | .kopMac _ _ _ _ => true
  | .kopSeal _ _ _ _ => true
  | .kopOpen _ _ _ _ => true
  | .kopSign _ _ _ _ => true
  | .kopResult _ => true
  | .pex _ _ _ _ _ _ _ => true
  | .csum _ _ _ _ _ => true
  | .tsi _ _ _ _ _ => true
  | .qsend _ _ _ _ _ => true
  | .qsendAccepted _ => true
  | .coreRunWrite _ _ _ => true
  | .softEvent _ _ _ => true
  | .getInfo => true
  | .loadImage => true
  | .startCores => true
  | .stopCores => true
  | .offerStroke => true
  | .armStep => true
  | .keyUpdate => true
  | .readAttest => true
  | .enterMaint => true
  | .leaveMaint => true
  | .plannedSwap => true
  | .setDomain => true
  | .readLapseLog => true
  | .lifeCycle => true
  | .badCommand => true
  | .timebaseTick => true
  | .copyCompare _ => true
  | .tbSteerWrite _ _ => true
  | .tbSlewAddWrite _ _ => true
  | .tbLoadLoWrite _ _ => true
  | .timeLoad => true
  | .tbDirectStepWrite _ _ _ => true
  | .timeStep _ => true
  | .leapExec _ => true
  | .leapEnd => true
  | .ledgerWriteComplete _ => true
  | .ledgerReadback _ => true
  | .strokeHandoff _ => true
  | .pinStrokeExecute _ => true
  | .pulseTrailingEdge _ => true
  | .phaseStrokeExecute _ => true
  | .regwrStrokeExecute _ => true
  | .launchStrokeExecute _ _ => true
  | .pushStrokeExecute _ => true
  | .pushStrokeDeferred _ => true
  | .attestStrokeExecute _ => true
  | .attestSigned _ => true
  | .attestDeadline _ => true
  | .keyupdStrokeExecute _ => true
  | .ntsEpochRoll _ => true
  | .statusWriteback _ => true
  | .ledgerRecovery => true
  | .executorsRearm => true
  | .todMessage => true
  | .paletteTick _ => true
  | .switchComplete => true
  | .palSampleWrite _ _ _ => true
  | .refinLos _ => true
  | .sampleTimeout _ => true
  | .rankHoldExpiry _ => true
  | .qualificationTimerExpiry _ => true
  | .driftClearExpiry _ => true
  | .clearDisagreeing _ _ => true
  | .restartQualification _ _ => true
  | .slewAfterStep _ _ => true
  | .setSourceFault _ _ => true
  | .clearSourceFault _ _ => true
  | .stepToWideOffset _ _ => true
  | .learningSample => true
  | .modelUpdate => true
  | .predictionUpdate => true
  | .restartLearning _ => true
  | .recomputePredictions _ => true
  | .undTempExtWrite _ _ => true
  | .tempStale => true
  | .undModelWrite _ _ _ => true
  | .eventEntryWrite _ _ _ => true
  | .eventEntryExpiry _ => true
  | .upstreamIdCommit _ _ _ => true
  | .pllEnable _ _ _ => true
  | .pllDisable _ _ _ => true
  | .relock _ _ => true
  | .glide _ _ => true
  | .clearBm _ _ => true
  | .bandFound _ _ => true
  | .hopSettled _ => true
  | .lockDeclared _ _ => true
  | .lockLost _ _ => true
  | .acquireTimeout _ => true
  | .inputLoss _ => true
  | .inputGood _ => true
  | .glideTargetReached _ => true
  | .outputUngate _ => true
  | .phaseStepDone _ => true
  | .alignRestored _ => true
  | .outCfgWrite _ _ _ => true
  | .outDivWrite _ _ _ => true
  | .varPhaseWrite _ _ _ => true
  | .tdcEdge _ _ _ => true
  | .pairWindowClose _ => true
  | .freqGateEnd _ => true
  | .tdcRecordDrain _ => true
  | .calStart _ => true
  | .calNow _ _ _ => true
  | .calLineSwap _ _ => true
  | .calExpired _ => true
  | .dllLock _ => true
  | .tdcCfgWrite _ _ _ _ => true
  | .streamFault _ _ _ _ _ => true
  | .streamClear _ _ _ => true
  | .pairRun _ _ => true
  | .pairPullInDone _ _ _ _ => true
  | .pairLost _ => true
  | .measRecord _ _ => true
  | .symbolRecord _ _ _ _ => true
  | .bankEntryEnd peaks => decide (peaks.length ≤ 12288)
  | .sweepDone => true
  | .bankRestart => true
  | .keepDataAccess _ _ _ => true
  | .timingSolution _ => true
  | .surveyEnd _ _ _ _ => true
  | .spoofAlarm _ => true
  | .spoofClear => true
  | .sentinelSleep => true
  | .sentinelWake => true
  | .lpFrameReceive _ _ _ _ _ => true
  | .lpFrameDeparture _ _ => true
  | .tsqPop _ _ => true
  | .lpAlignLock _ _ _ => true
  | .lpCfgWrite _ _ _ _ => true
  | .stzCmdWord => true
  | .sitterCacheTakeover _ _ => true
  | .sitterWriteback _ => true
  | .reseedAndClear _ => true
  | .writeBackCaches _ => true
  | .stzTableClearDone => true
  | .keyPrederive => true
  | .pkeOpDone => true
  | .drbgHealthFail => true
  | .drbgRecover => true
  | .drbgReseed => true
  | .verifyUpdate _ _ => true
  | .discardSlot _ _ => true
  | .tamperAlarm _ _ _ => true
  | .spFrameReceive _ _ _ _ => true
  | .spFrameDeparture _ _ => true
  | .spAlignLock _ => true
  | .spCfgWrite _ _ _ _ => true
  | .exchangeSend _ => true
  | .exchangeProcess _ => true
  | .xcWindowEnd _ => true
  | .atlHelloSend => true
  | .atlHelloReceive _ => true
  | .adjacencyTimeout _ _ => true
  | .rootSeqAdvance => true
  | .rootTimeout => true
  | .claimHoldExpiry => true
  | .registerSend => true
  | .registerReceive _ => true
  | .registerRetry => true
  | .grantReceive _ => true
  | .mgmtFrameReceive _ => true
  | .mgmtSend => true
  | .relaySend => true
  | .relayReceive _ => true
  | .atlRtDataWrite _ _ => true
  | .stbFrameTransmit _ _ => true
  | .stbBackoffExpiry _ _ => true
  | .stbFrameReceive _ _ _ payload _ _ => decide (payload.length ≤ 1500)
  | .twinIdleRx _ => true
  | .twinHelloRx _ _ => true
  | .twinStrokeRx _ _ _ _ _ _ _ _ _ => true
  | .twinStrokeAckRx _ _ _ => true
  | .twinNoteRx _ _ _ => true
  | .twinStateRx _ _ _ _ _ => true
  | .twinRefillRx _ _ _ => true
  | .twinGiveRx _ _ _ _ => true
  | .twinSwapRx _ _ _ => true
  | .twinSwapAckRx _ _ _ => true
  | .twinResend => true
  | .twinLinkTimeout => true
  | .twinLaneLoss _ => true
  | .lapsedQuietExpiry => true
  | .twCmdSwap _ => true
  | .repair _ => true
  | .endPairing _ => true
  | .giveUp => true
  | .peerOwnRelease _ => true
  | .outputDriverEnable _ _ _ => true
  | .giveTimeout => true
  | .takeoverOutputCheck _ _ => true
  | .swapInstant => true
  | .swapAckTimeout => true
  | .revertiveWtrExpiry => true
  | .powerOnPinClaim => true
  | .ownershipConflict => true
  | .heartbeatLost => true
  | .supplyLow => true
  | .resetPinAssert => true
  | .resetEscalation => true
  | .resetPinRelease => true
  | .powerGoodFall => true
  | .powerGoodRise _ _ => true
  | .coreUndervoltage => true
  | .dieLinkTrain _ => true
  | .bringUpStageDone r => decide (r.copyA.length ≤ 128) && decide (r.copyB.length ≤ 128) && decide (r.images.length ≤ 8)
  | .pcieLinkUp => true
  | .localReset _ _ _ => true
  | .localResetRelease => true
  | .domainRequest _ _ => true
  | .domainChangeDone _ => true
  | .oscLost => true
  | .pllUnlock _ => true
  | .clockGood _ => true
  | .clockIdleStop _ => true
  | .unitClockBad _ => true
  | .hostRead _ _ len => decide (len.toNat ≤ 4096)
  | .hostWrite _ _ data _ => decide (8 * data.length ≤ 512)
  | .scrubStep _ _ => true
  | .fifoDataWrite _ _ _ => true
  | .fifoFirstWrite _ _ _ => true
  | .fifoLastWrite _ _ _ => true
  | .fifoOnlyWrite _ _ _ => true
  | .fifoDataRead _ _ => true
  | .fifoWashWrite _ _ _ => true
  | .fifoCutReached _ => true
  | .fifoCfgWrite _ _ => true
  | .faultDetected _ _ => true
  | .fatalEntry _ => true
  | .fixForceWrite _ _ => true
  | .fixRaiseWrite _ _ => true
  | .unitFaultForceWrite _ _ _ => true
  | .eventCountRead _ _ => true
  | .jtagInstructionLoad _ => true
  | .tallyStart _ _ _ => true
  | .tallySweepStart => true
  | .tallySweepDone => true
  | .tlyBufRead _ => true
  | .hiWordRead _ _ => true
  | .registerWrite _ _ _ => true
  | .twinLaneLock _ => true
  | .twinHelloSend => true
  | .twinSilent => true
  | .lpLinkLoss _ _ => true
  | .spLinkLoss _ => true
  | .tdcDllUnlock _ => true
  | .atomInLost => true
  | .pciePerstRelease => true
  | .ptpMessageSend _ _ _ => true
  | .announceReceiptTimeout _ => true
  | .esmcPduSend _ _ => true
  | .esmcPduTimeout _ => true
  | .pairLockBLoss _ => true

/-- A well-formed command. -/
def wf (i : Instr) : Bool :=
  (match i.master? with | none => true | some m => masterOk m) && i.sizesOk

end Sys2Proof
end

