-- ==== Sys2Proof/Laws/PerInstr.lean ====
section
/-! SUPPORT. What holds of every command as syntax, made per constructor: the master a well-formed access names is one that
R490 allows. -/

namespace Sys2Proof.Laws.WellFormed

/-- A well-formed command that is an access names a master with the privilege its ID has (R490). -/
def Statement (i : Instr) : Prop := ∀ m, i.master? = some m → wf i = true → masterOk m = true

/-- The one reason, for every constructor. -/
theorem of_wf (i : Instr) : Statement i := by
  intro m h w
  unfold wf at w
  rw [h] at w
  exact (Bool.and_eq_true _ _ ▸ w).1

theorem trap (a0 : CoreId) (a1 : BitVec 19) : Statement (.trap a0 a1) := of_wf _
theorem stray (a0 : CoreId) : Statement (.stray a0) := of_wf _
theorem selfSvc (a0 : CoreId) : Statement (.selfSvc a0) := of_wf _
theorem notice (a0 : CoreId) : Statement (.notice a0) := of_wf _
theorem bound (a0 : CoreId) : Statement (.bound a0) := of_wf _
theorem resume (a0 : CoreId) : Statement (.resume a0) := of_wf _
theorem resumeSkip (a0 : CoreId) : Statement (.resumeSkip a0) := of_wf _
theorem add (a0 : CoreId) (a1 : GReg) (a2 : GReg) (a3 : Src2) : Statement (.add a0 a1 a2 a3) := of_wf _
theorem sub (a0 : CoreId) (a1 : GReg) (a2 : GReg) (a3 : Src2) : Statement (.sub a0 a1 a2 a3) := of_wf _
theorem and_ (a0 : CoreId) (a1 : GReg) (a2 : GReg) (a3 : Src2) : Statement (.and_ a0 a1 a2 a3) := of_wf _
theorem or_ (a0 : CoreId) (a1 : GReg) (a2 : GReg) (a3 : Src2) : Statement (.or_ a0 a1 a2 a3) := of_wf _
theorem xor (a0 : CoreId) (a1 : GReg) (a2 : GReg) (a3 : Src2) : Statement (.xor a0 a1 a2 a3) := of_wf _
theorem shl (a0 : CoreId) (a1 : GReg) (a2 : GReg) (a3 : Src2) : Statement (.shl a0 a1 a2 a3) := of_wf _
theorem shr (a0 : CoreId) (a1 : GReg) (a2 : GReg) (a3 : Src2) : Statement (.shr a0 a1 a2 a3) := of_wf _
theorem sra (a0 : CoreId) (a1 : GReg) (a2 : GReg) (a3 : Src2) : Statement (.sra a0 a1 a2 a3) := of_wf _
theorem mul (a0 : CoreId) (a1 : GReg) (a2 : GReg) (a3 : GReg) (a4 : Bool) : Statement (.mul a0 a1 a2 a3 a4) := of_wf _
theorem lih (a0 : CoreId) (a1 : GReg) (a2 : GReg) (a3 : BitVec 19) : Statement (.lih a0 a1 a2 a3) := of_wf _
theorem mac (a0 : CoreId) (a1 : GReg) (a2 : GReg) (a3 : Bool) (a4 : Bool) : Statement (.mac a0 a1 a2 a3 a4) := of_wf _
theorem msc (a0 : CoreId) (a1 : GReg) (a2 : GReg) (a3 : Bool) (a4 : Bool) : Statement (.msc a0 a1 a2 a3 a4) := of_wf _
theorem acc (a0 : CoreId) (a1 : GReg) (a2 : BitVec 6) (a3 : Bool) (a4 : Bool) (a5 : Bool) : Statement (.acc a0 a1 a2 a3 a4 a5) := of_wf _
theorem tadd (a0 : CoreId) (a1 : GReg) (a2 : GReg) (a3 : GReg) (a4 : Bool) : Statement (.tadd a0 a1 a2 a3 a4) := of_wf _
theorem tsub (a0 : CoreId) (a1 : GReg) (a2 : GReg) (a3 : GReg) (a4 : Bool) : Statement (.tsub a0 a1 a2 a3 a4) := of_wf _
theorem tcmp (a0 : CoreId) (a1 : GReg) (a2 : GReg) : Statement (.tcmp a0 a1 a2) := of_wf _
theorem text (a0 : CoreId) (a1 : GReg) (a2 : GReg) (a3 : GReg) : Statement (.text a0 a1 a2 a3) := of_wf _
theorem br (a0 : CoreId) (a1 : Target) : Statement (.br a0 a1) := of_wf _
theorem brc (a0 : CoreId) (a1 : Fin 16) (a2 : BitVec 19) : Statement (.brc a0 a1 a2) := of_wf _
theorem call (a0 : CoreId) (a1 : GReg) (a2 : Target) : Statement (.call a0 a1 a2) := of_wf _
theorem ret (a0 : CoreId) (a1 : GReg) : Statement (.ret a0 a1) := of_wf _
theorem ld (a0 : CoreId) (a1 : GReg) (a2 : GReg) (a3 : BitVec 19) : Statement (.ld a0 a1 a2 a3) := of_wf _
theorem st (a0 : CoreId) (a1 : GReg) (a2 : GReg) (a3 : BitVec 19) : Statement (.st a0 a1 a2 a3) := of_wf _
theorem ldp (a0 : CoreId) (a1 : GReg) (a2 : GReg) (a3 : BitVec 19) : Statement (.ldp a0 a1 a2 a3) := of_wf _
theorem stp (a0 : CoreId) (a1 : GReg) (a2 : GReg) (a3 : BitVec 19) : Statement (.stp a0 a1 a2 a3) := of_wf _
theorem loadReturn (a0 : CoreId) (a1 : Fin 8) : Statement (.loadReturn a0 a1) := of_wf _
theorem storeErrorResponse (a0 : CoreId) : Statement (.storeErrorResponse a0) := of_wf _
theorem push (a0 : CoreId) (a1 : GReg) (a2 : GReg) (a3 : Fin 4) : Statement (.push a0 a1 a2 a3) := of_wf _
theorem pushAccepted (a0 : CoreId) : Statement (.pushAccepted a0) := of_wf _
theorem pop (a0 : CoreId) (a1 : GReg) (a2 : GReg) : Statement (.pop a0 a1 a2) := of_wf _
theorem wash (a0 : CoreId) (a1 : GReg) : Statement (.wash a0 a1) := of_wf _
theorem urd (a0 : CoreId) (a1 : GReg) (a2 : GReg) (a3 : BitVec 8) : Statement (.urd a0 a1 a2 a3) := of_wf _
theorem uwr (a0 : CoreId) (a1 : GReg) (a2 : GReg) (a3 : BitVec 8) : Statement (.uwr a0 a1 a2 a3) := of_wf _
theorem unitAccessResponse (a0 : CoreId) : Statement (.unitAccessResponse a0) := of_wf _
theorem wait (a0 : CoreId) (a1 : GReg) (a2 : Bool) : Statement (.wait a0 a1 a2) := of_wf _
theorem waitWake (a0 : CoreId) : Statement (.waitWake a0) := of_wf _
theorem wev (a0 : CoreId) (a1 : GReg) (a2 : GReg) (a3 : Option GReg) : Statement (.wev a0 a1 a2 a3) := of_wf _
theorem wevWake (a0 : CoreId) : Statement (.wevWake a0) := of_wf _
theorem wevDeadline (a0 : CoreId) : Statement (.wevDeadline a0) := of_wf _
theorem sched (a0 : CoreId) (a1 : GReg) (a2 : GReg) (a3 : GReg) (a4 : BitVec 8) : Statement (.sched a0 a1 a2 a3 a4) := of_wf _
theorem schedResult (a0 : CoreId) : Statement (.schedResult a0) := of_wf _
theorem kopDerive (a0 : CoreId) (a1 : GReg) (a2 : GReg) (a3 : GReg) : Statement (.kopDerive a0 a1 a2 a3) := of_wf _
theorem kopMac (a0 : CoreId) (a1 : GReg) (a2 : GReg) (a3 : GReg) : Statement (.kopMac a0 a1 a2 a3) := of_wf _
theorem kopSeal (a0 : CoreId) (a1 : GReg) (a2 : GReg) (a3 : GReg) : Statement (.kopSeal a0 a1 a2 a3) := of_wf _
theorem kopOpen (a0 : CoreId) (a1 : GReg) (a2 : GReg) (a3 : GReg) : Statement (.kopOpen a0 a1 a2 a3) := of_wf _
theorem kopSign (a0 : CoreId) (a1 : GReg) (a2 : GReg) (a3 : GReg) : Statement (.kopSign a0 a1 a2 a3) := of_wf _
theorem kopResult (a0 : CoreId) : Statement (.kopResult a0) := of_wf _
theorem pex (a0 : CoreId) (a1 : GReg) (a2 : GReg) (a3 : GReg) (a4 : BitVec 11) (a5 : BitVec 3) (a6 : Bool) : Statement (.pex a0 a1 a2 a3 a4 a5 a6) := of_wf _
theorem csum (a0 : CoreId) (a1 : GReg) (a2 : GReg) (a3 : GReg) (a4 : Bool) : Statement (.csum a0 a1 a2 a3 a4) := of_wf _
theorem tsi (a0 : CoreId) (a1 : GReg) (a2 : GReg) (a3 : BitVec 11) (a4 : BitVec 2) : Statement (.tsi a0 a1 a2 a3 a4) := of_wf _
theorem qsend (a0 : CoreId) (a1 : GReg) (a2 : GReg) (a3 : GReg) (a4 : Bool) : Statement (.qsend a0 a1 a2 a3 a4) := of_wf _
theorem qsendAccepted (a0 : CoreId) : Statement (.qsendAccepted a0) := of_wf _
theorem coreRunWrite (a0 : Master) (a1 : CoreId) (a2 : Word) : Statement (.coreRunWrite a0 a1 a2) := of_wf _
theorem softEvent (a0 : Master) (a1 : CoreId) (a2 : Word) : Statement (.softEvent a0 a1 a2) := of_wf _
theorem getInfo : Statement (.getInfo) := of_wf _
theorem loadImage : Statement (.loadImage) := of_wf _
theorem startCores : Statement (.startCores) := of_wf _
theorem stopCores : Statement (.stopCores) := of_wf _
theorem offerStroke : Statement (.offerStroke) := of_wf _
theorem armStep : Statement (.armStep) := of_wf _
theorem keyUpdate : Statement (.keyUpdate) := of_wf _
theorem readAttest : Statement (.readAttest) := of_wf _
theorem enterMaint : Statement (.enterMaint) := of_wf _
theorem leaveMaint : Statement (.leaveMaint) := of_wf _
theorem plannedSwap : Statement (.plannedSwap) := of_wf _
theorem setDomain : Statement (.setDomain) := of_wf _
theorem readLapseLog : Statement (.readLapseLog) := of_wf _
theorem lifeCycle : Statement (.lifeCycle) := of_wf _
theorem badCommand : Statement (.badCommand) := of_wf _
theorem timebaseTick : Statement (.timebaseTick) := of_wf _
theorem copyCompare (a0 : CopySlip) : Statement (.copyCompare a0) := of_wf _
theorem tbSteerWrite (a0 : Master) (a1 : Word) : Statement (.tbSteerWrite a0 a1) := of_wf _
theorem tbSlewAddWrite (a0 : Master) (a1 : Word) : Statement (.tbSlewAddWrite a0 a1) := of_wf _
theorem tbLoadLoWrite (a0 : Master) (a1 : Word) : Statement (.tbLoadLoWrite a0 a1) := of_wf _
theorem timeLoad : Statement (.timeLoad) := of_wf _
theorem tbDirectStepWrite (a0 : Master) (a1 : Fin 3) (a2 : Word) : Statement (.tbDirectStepWrite a0 a1 a2) := of_wf _
theorem timeStep (a0 : Fin 65536) : Statement (.timeStep a0) := of_wf _
theorem leapExec (a0 : Fin 65536) : Statement (.leapExec a0) := of_wf _
theorem leapEnd : Statement (.leapEnd) := of_wf _
theorem ledgerWriteComplete (a0 : Fin 65536) : Statement (.ledgerWriteComplete a0) := of_wf _
theorem ledgerReadback (a0 : Fin 65536) : Statement (.ledgerReadback a0) := of_wf _
theorem strokeHandoff (a0 : Fin 65536) : Statement (.strokeHandoff a0) := of_wf _
theorem pinStrokeExecute (a0 : Fin 65536) : Statement (.pinStrokeExecute a0) := of_wf _
theorem pulseTrailingEdge (a0 : Fin 65536) : Statement (.pulseTrailingEdge a0) := of_wf _
theorem phaseStrokeExecute (a0 : Fin 65536) : Statement (.phaseStrokeExecute a0) := of_wf _
theorem regwrStrokeExecute (a0 : Fin 65536) : Statement (.regwrStrokeExecute a0) := of_wf _
theorem launchStrokeExecute (a0 : Fin 65536) (a1 : BitVec 14) : Statement (.launchStrokeExecute a0 a1) := of_wf _
theorem pushStrokeExecute (a0 : Fin 65536) : Statement (.pushStrokeExecute a0) := of_wf _
theorem pushStrokeDeferred (a0 : Fin 65536) : Statement (.pushStrokeDeferred a0) := of_wf _
theorem attestStrokeExecute (a0 : Fin 65536) : Statement (.attestStrokeExecute a0) := of_wf _
theorem attestSigned (a0 : BitVec 32) : Statement (.attestSigned a0) := of_wf _
theorem attestDeadline (a0 : BitVec 32) : Statement (.attestDeadline a0) := of_wf _
theorem keyupdStrokeExecute (a0 : Fin 65536) : Statement (.keyupdStrokeExecute a0) := of_wf _
theorem ntsEpochRoll (a0 : Fin 65536) : Statement (.ntsEpochRoll a0) := of_wf _
theorem statusWriteback (a0 : Fin 65536) : Statement (.statusWriteback a0) := of_wf _
theorem ledgerRecovery : Statement (.ledgerRecovery) := of_wf _
theorem executorsRearm : Statement (.executorsRearm) := of_wf _
theorem todMessage : Statement (.todMessage) := of_wf _
theorem paletteTick (a0 : BitVec 17) : Statement (.paletteTick a0) := of_wf _
theorem switchComplete : Statement (.switchComplete) := of_wf _
theorem palSampleWrite (a0 : Master) (a1 : Fin 11) (a2 : Word) : Statement (.palSampleWrite a0 a1 a2) := of_wf _
theorem refinLos (a0 : Fin 8) : Statement (.refinLos a0) := of_wf _
theorem sampleTimeout (a0 : Fin 24) : Statement (.sampleTimeout a0) := of_wf _
theorem rankHoldExpiry (a0 : Fin 24) : Statement (.rankHoldExpiry a0) := of_wf _
theorem qualificationTimerExpiry (a0 : Fin 24) : Statement (.qualificationTimerExpiry a0) := of_wf _
theorem driftClearExpiry (a0 : Fin 24) : Statement (.driftClearExpiry a0) := of_wf _
theorem clearDisagreeing (a0 : Master) (a1 : Fin 24) : Statement (.clearDisagreeing a0 a1) := of_wf _
theorem restartQualification (a0 : Master) (a1 : Fin 24) : Statement (.restartQualification a0 a1) := of_wf _
theorem slewAfterStep (a0 : Master) (a1 : Fin 24) : Statement (.slewAfterStep a0 a1) := of_wf _
theorem setSourceFault (a0 : Master) (a1 : Fin 24) : Statement (.setSourceFault a0 a1) := of_wf _
theorem clearSourceFault (a0 : Master) (a1 : Fin 24) : Statement (.clearSourceFault a0 a1) := of_wf _
theorem stepToWideOffset (a0 : Master) (a1 : Fin 24) : Statement (.stepToWideOffset a0 a1) := of_wf _
theorem learningSample : Statement (.learningSample) := of_wf _
theorem modelUpdate : Statement (.modelUpdate) := of_wf _
theorem predictionUpdate : Statement (.predictionUpdate) := of_wf _
theorem restartLearning (a0 : Master) : Statement (.restartLearning a0) := of_wf _
theorem recomputePredictions (a0 : Master) : Statement (.recomputePredictions a0) := of_wf _
theorem undTempExtWrite (a0 : Master) (a1 : Word) : Statement (.undTempExtWrite a0 a1) := of_wf _
theorem tempStale : Statement (.tempStale) := of_wf _
theorem undModelWrite (a0 : Master) (a1 : Fin 11) (a2 : Word) : Statement (.undModelWrite a0 a1 a2) := of_wf _
theorem eventEntryWrite (a0 : Master) (a1 : Fin 8) (a2 : Word) : Statement (.eventEntryWrite a0 a1 a2) := of_wf _
theorem eventEntryExpiry (a0 : Fin 8) : Statement (.eventEntryExpiry a0) := of_wf _
theorem upstreamIdCommit (a0 : Master) (a1 : Fin 24) (a2 : Word) : Statement (.upstreamIdCommit a0 a1 a2) := of_wf _
theorem pllEnable (a0 : Master) (a1 : Fin 4) (a2 : Word) : Statement (.pllEnable a0 a1 a2) := of_wf _
theorem pllDisable (a0 : Master) (a1 : Fin 4) (a2 : Word) : Statement (.pllDisable a0 a1 a2) := of_wf _
theorem relock (a0 : Master) (a1 : Fin 4) : Statement (.relock a0 a1) := of_wf _
theorem glide (a0 : Master) (a1 : Fin 4) : Statement (.glide a0 a1) := of_wf _
theorem clearBm (a0 : Master) (a1 : Fin 4) : Statement (.clearBm a0 a1) := of_wf _
theorem bandFound (a0 : Fin 4) (a1 : BitVec 6) : Statement (.bandFound a0 a1) := of_wf _
theorem hopSettled (a0 : Fin 4) : Statement (.hopSettled a0) := of_wf _
theorem lockDeclared (a0 : Fin 4) (a1 : BitVec 20) : Statement (.lockDeclared a0 a1) := of_wf _
theorem lockLost (a0 : Fin 4) (a1 : BitVec 20) : Statement (.lockLost a0 a1) := of_wf _
theorem acquireTimeout (a0 : Fin 4) : Statement (.acquireTimeout a0) := of_wf _
theorem inputLoss (a0 : Fin 4) : Statement (.inputLoss a0) := of_wf _
theorem inputGood (a0 : Fin 4) : Statement (.inputGood a0) := of_wf _
theorem glideTargetReached (a0 : Fin 4) : Statement (.glideTargetReached a0) := of_wf _
theorem outputUngate (a0 : Fin 20) : Statement (.outputUngate a0) := of_wf _
theorem phaseStepDone (a0 : Fin 4) : Statement (.phaseStepDone a0) := of_wf _
theorem alignRestored (a0 : Fin 4) : Statement (.alignRestored a0) := of_wf _
theorem outCfgWrite (a0 : Master) (a1 : Fin 20) (a2 : Word) : Statement (.outCfgWrite a0 a1 a2) := of_wf _
theorem outDivWrite (a0 : Master) (a1 : Fin 20) (a2 : Word) : Statement (.outDivWrite a0 a1 a2) := of_wf _
theorem varPhaseWrite (a0 : Master) (a1 : Fin 4) (a2 : Word) : Statement (.varPhaseWrite a0 a1 a2) := of_wf _
theorem tdcEdge (a0 : Fin 16) (a1 : Bool) (a2 : BitVec 11) : Statement (.tdcEdge a0 a1 a2) := of_wf _
theorem pairWindowClose (a0 : Fin 16) : Statement (.pairWindowClose a0) := of_wf _
theorem freqGateEnd (a0 : Fin 16) : Statement (.freqGateEnd a0) := of_wf _
theorem tdcRecordDrain (a0 : Fin 16) : Statement (.tdcRecordDrain a0) := of_wf _
theorem calStart (a0 : Fin 2) : Statement (.calStart a0) := of_wf _
theorem calNow (a0 : Master) (a1 : Fin 2) (a2 : Word) : Statement (.calNow a0 a1 a2) := of_wf _
theorem calLineSwap (a0 : Fin 2) (a1 : List Nat) : Statement (.calLineSwap a0 a1) := of_wf _
theorem calExpired (a0 : Fin 2) : Statement (.calExpired a0) := of_wf _
theorem dllLock (a0 : Fin 16) : Statement (.dllLock a0) := of_wf _
theorem tdcCfgWrite (a0 : Master) (a1 : Fin 16) (a2 : Fin 7) (a3 : Word) : Statement (.tdcCfgWrite a0 a1 a2 a3) := of_wf _
theorem streamFault (a0 : Fin 4) (a1 : Fin 3) (a2 : BitVec 8) (a3 : BitVec 8) (a4 : BitVec 32) : Statement (.streamFault a0 a1 a2 a3 a4) := of_wf _
theorem streamClear (a0 : Fin 4) (a1 : BitVec 8) (a2 : BitVec 8) : Statement (.streamClear a0 a1 a2) := of_wf _
theorem pairRun (a0 : Master) (a1 : Word) : Statement (.pairRun a0 a1) := of_wf _
theorem pairPullInDone (a0 : Fin 128) (a1 : BitVec 7) (a2 : BitVec 7) (a3 : Bool) : Statement (.pairPullInDone a0 a1 a2 a3) := of_wf _
theorem pairLost (a0 : Fin 128) : Statement (.pairLost a0) := of_wf _
theorem measRecord (a0 : Fin 128) (a1 : PairMeas) : Statement (.measRecord a0 a1) := of_wf _
theorem symbolRecord (a0 : Fin 128) (a1 : Fin 33) (a2 : Fin 1000) (a3 : BitVec 32) : Statement (.symbolRecord a0 a1 a2 a3) := of_wf _
theorem bankEntryEnd (a0 : List BankPeak) : Statement (.bankEntryEnd a0) := of_wf _
theorem sweepDone : Statement (.sweepDone) := of_wf _
theorem bankRestart : Statement (.bankRestart) := of_wf _
theorem keepDataAccess (a0 : Master) (a1 : Bool) (a2 : Word) : Statement (.keepDataAccess a0 a1 a2) := of_wf _
theorem timingSolution (a0 : GnsFix) : Statement (.timingSolution a0) := of_wf _
theorem surveyEnd (a0 : Word) (a1 : Word) (a2 : Word) (a3 : BitVec 32) : Statement (.surveyEnd a0 a1 a2 a3) := of_wf _
theorem spoofAlarm (a0 : Bool) : Statement (.spoofAlarm a0) := of_wf _
theorem spoofClear : Statement (.spoofClear) := of_wf _
theorem sentinelSleep : Statement (.sentinelSleep) := of_wf _
theorem sentinelWake : Statement (.sentinelWake) := of_wf _
theorem lpFrameReceive (a0 : Fin 4) (a1 : Fin 4) (a2 : List (BitVec 8)) (a3 : Bool) (a4 : BitVec 24) : Statement (.lpFrameReceive a0 a1 a2 a3 a4) := of_wf _
theorem lpFrameDeparture (a0 : Fin 4) (a1 : BitVec 14) : Statement (.lpFrameDeparture a0 a1) := of_wf _
theorem tsqPop (a0 : Master) (a1 : Fin 4) : Statement (.tsqPop a0 a1) := of_wf _
theorem lpAlignLock (a0 : Fin 4) (a1 : Fin 4) (a2 : BitVec 20) : Statement (.lpAlignLock a0 a1 a2) := of_wf _
theorem lpCfgWrite (a0 : Master) (a1 : Fin 4) (a2 : Fin 4) (a3 : Word) : Statement (.lpCfgWrite a0 a1 a2 a3) := of_wf _
theorem stzCmdWord : Statement (.stzCmdWord) := of_wf _
theorem sitterCacheTakeover (a0 : Fin 4) (a1 : BitVec 20) : Statement (.sitterCacheTakeover a0 a1) := of_wf _
theorem sitterWriteback (a0 : BitVec 20) : Statement (.sitterWriteback a0) := of_wf _
theorem reseedAndClear (a0 : Master) : Statement (.reseedAndClear a0) := of_wf _
theorem writeBackCaches (a0 : Master) : Statement (.writeBackCaches a0) := of_wf _
theorem stzTableClearDone : Statement (.stzTableClearDone) := of_wf _
theorem keyPrederive : Statement (.keyPrederive) := of_wf _
theorem pkeOpDone : Statement (.pkeOpDone) := of_wf _
theorem drbgHealthFail : Statement (.drbgHealthFail) := of_wf _
theorem drbgRecover : Statement (.drbgRecover) := of_wf _
theorem drbgReseed : Statement (.drbgReseed) := of_wf _
theorem verifyUpdate (a0 : Master) (a1 : Fin 16) : Statement (.verifyUpdate a0 a1) := of_wf _
theorem discardSlot (a0 : Master) (a1 : Fin 16) : Statement (.discardSlot a0 a1) := of_wf _
theorem tamperAlarm (a0 : Fin 12) (a1 : Word) (a2 : TamperInput) : Statement (.tamperAlarm a0 a1 a2) := of_wf _
theorem spFrameReceive (a0 : Fin 4) (a1 : List (BitVec 8)) (a2 : Bool) (a3 : BitVec 24) : Statement (.spFrameReceive a0 a1 a2 a3) := of_wf _
theorem spFrameDeparture (a0 : Fin 4) (a1 : BitVec 14) : Statement (.spFrameDeparture a0 a1) := of_wf _
theorem spAlignLock (a0 : Fin 4) : Statement (.spAlignLock a0) := of_wf _
theorem spCfgWrite (a0 : Master) (a1 : Fin 4) (a2 : Fin 3) (a3 : Word) : Statement (.spCfgWrite a0 a1 a2 a3) := of_wf _
theorem exchangeSend (a0 : Fin 4) : Statement (.exchangeSend a0) := of_wf _
theorem exchangeProcess (a0 : Fin 4) : Statement (.exchangeProcess a0) := of_wf _
theorem xcWindowEnd (a0 : Fin 4) : Statement (.xcWindowEnd a0) := of_wf _
theorem atlHelloSend : Statement (.atlHelloSend) := of_wf _
theorem atlHelloReceive (a0 : Fin 5) : Statement (.atlHelloReceive a0) := of_wf _
theorem adjacencyTimeout (a0 : Fin 5) (a1 : Fin 32) : Statement (.adjacencyTimeout a0 a1) := of_wf _
theorem rootSeqAdvance : Statement (.rootSeqAdvance) := of_wf _
theorem rootTimeout : Statement (.rootTimeout) := of_wf _
theorem claimHoldExpiry : Statement (.claimHoldExpiry) := of_wf _
theorem registerSend : Statement (.registerSend) := of_wf _
theorem registerReceive (a0 : Fin 5) : Statement (.registerReceive a0) := of_wf _
theorem registerRetry : Statement (.registerRetry) := of_wf _
theorem grantReceive (a0 : Fin 5) : Statement (.grantReceive a0) := of_wf _
theorem mgmtFrameReceive (a0 : Fin 5) : Statement (.mgmtFrameReceive a0) := of_wf _
theorem mgmtSend : Statement (.mgmtSend) := of_wf _
theorem relaySend : Statement (.relaySend) := of_wf _
theorem relayReceive (a0 : Fin 5) : Statement (.relayReceive a0) := of_wf _
theorem atlRtDataWrite (a0 : Master) (a1 : Word) : Statement (.atlRtDataWrite a0 a1) := of_wf _
theorem stbFrameTransmit (a0 : Fin 3) (a1 : Bool) : Statement (.stbFrameTransmit a0 a1) := of_wf _
theorem stbBackoffExpiry (a0 : Fin 3) (a1 : Bool) : Statement (.stbBackoffExpiry a0 a1) := of_wf _
theorem stbFrameReceive (a0 : BitVec 8) (a1 : BitVec 8) (a2 : BitVec 8) (a3 : List (BitVec 8)) (a4 : Fin 5) (a5 : Bool) : Statement (.stbFrameReceive a0 a1 a2 a3 a4 a5) := of_wf _
theorem twinIdleRx (a0 : TwHdr) : Statement (.twinIdleRx a0) := of_wf _
theorem twinHelloRx (a0 : TwHdr) (a1 : TwHello) : Statement (.twinHelloRx a0 a1) := of_wf _
theorem twinStrokeRx (a0 : TwHdr) (a1 : Word) (a2 : Word) (a3 : Word) (a4 : BitVec 8) (a5 : BitVec 32) (a6 : BitVec 32) (a7 : BitVec 8) (a8 : Bool) : Statement (.twinStrokeRx a0 a1 a2 a3 a4 a5 a6 a7 a8) := of_wf _
theorem twinStrokeAckRx (a0 : TwHdr) (a1 : BitVec 32) (a2 : Bool) : Statement (.twinStrokeAckRx a0 a1 a2) := of_wf _
theorem twinNoteRx (a0 : TwHdr) (a1 : BitVec 32) (a2 : Fin 8) : Statement (.twinNoteRx a0 a1 a2) := of_wf _
theorem twinStateRx (a0 : TwHdr) (a1 : Word) (a2 : BitVec 64) (a3 : Bool) (a4 : List (Nat × Word)) : Statement (.twinStateRx a0 a1 a2 a3 a4) := of_wf _
theorem twinRefillRx (a0 : TwHdr) (a1 : List Word) (a2 : Bool) : Statement (.twinRefillRx a0 a1 a2) := of_wf _
theorem twinGiveRx (a0 : TwHdr) (a1 : Word) (a2 : Word) (a3 : BitVec 32) : Statement (.twinGiveRx a0 a1 a2 a3) := of_wf _
theorem twinSwapRx (a0 : TwHdr) (a1 : Word) (a2 : Word) : Statement (.twinSwapRx a0 a1 a2) := of_wf _
theorem twinSwapAckRx (a0 : TwHdr) (a1 : Word) (a2 : Word) : Statement (.twinSwapAckRx a0 a1 a2) := of_wf _
theorem twinResend : Statement (.twinResend) := of_wf _
theorem twinLinkTimeout : Statement (.twinLinkTimeout) := of_wf _
theorem twinLaneLoss (a0 : Fin 2) : Statement (.twinLaneLoss a0) := of_wf _
theorem lapsedQuietExpiry : Statement (.lapsedQuietExpiry) := of_wf _
theorem twCmdSwap (a0 : Master) : Statement (.twCmdSwap a0) := of_wf _
theorem repair (a0 : Master) : Statement (.repair a0) := of_wf _
theorem endPairing (a0 : Master) : Statement (.endPairing a0) := of_wf _
theorem giveUp : Statement (.giveUp) := of_wf _
theorem peerOwnRelease (a0 : BitVec 8) : Statement (.peerOwnRelease a0) := of_wf _
theorem outputDriverEnable (a0 : Fin 20) (a1 a2 : Bool) : Statement (.outputDriverEnable a0 a1 a2) := of_wf _
theorem giveTimeout : Statement (.giveTimeout) := of_wf _
theorem takeoverOutputCheck (a0 : Fin 20) (a1 : Bool) : Statement (.takeoverOutputCheck a0 a1) := of_wf _
theorem swapInstant : Statement (.swapInstant) := of_wf _
theorem swapAckTimeout : Statement (.swapAckTimeout) := of_wf _
theorem revertiveWtrExpiry : Statement (.revertiveWtrExpiry) := of_wf _
theorem powerOnPinClaim : Statement (.powerOnPinClaim) := of_wf _
theorem ownershipConflict : Statement (.ownershipConflict) := of_wf _
theorem heartbeatLost : Statement (.heartbeatLost) := of_wf _
theorem supplyLow : Statement (.supplyLow) := of_wf _
theorem resetPinAssert : Statement (.resetPinAssert) := of_wf _
theorem resetEscalation : Statement (.resetEscalation) := of_wf _
theorem resetPinRelease : Statement (.resetPinRelease) := of_wf _
theorem powerGoodFall : Statement (.powerGoodFall) := of_wf _
theorem powerGoodRise (a0 : Bool) (a1 : Word) : Statement (.powerGoodRise a0 a1) := of_wf _
theorem coreUndervoltage : Statement (.coreUndervoltage) := of_wf _
theorem dieLinkTrain (a0 : Bool) : Statement (.dieLinkTrain a0) := of_wf _
theorem bringUpStageDone (a0 : StageResult) : Statement (.bringUpStageDone a0) := of_wf _
theorem pcieLinkUp : Statement (.pcieLinkUp) := of_wf _
theorem localReset (a0 : Master) (a1 : BitVec 12) (a2 : Bool) : Statement (.localReset a0 a1 a2) := of_wf _
theorem localResetRelease : Statement (.localResetRelease) := of_wf _
theorem domainRequest (a0 : Master) (a1 : Word) : Statement (.domainRequest a0 a1) := of_wf _
theorem domainChangeDone (a0 : Fin 12) : Statement (.domainChangeDone a0) := of_wf _
theorem oscLost : Statement (.oscLost) := of_wf _
theorem pllUnlock (a0 : Fin 2) : Statement (.pllUnlock a0) := of_wf _
theorem clockGood (a0 : BitVec 12) : Statement (.clockGood a0) := of_wf _
theorem clockIdleStop (a0 : BitVec 12) : Statement (.clockIdleStop a0) := of_wf _
theorem unitClockBad (a0 : BitVec 12) : Statement (.unitClockBad a0) := of_wf _
theorem hostRead (a0 : Fin 3) (a1 : BitVec 30) (a2 : BitVec 13) : Statement (.hostRead a0 a1 a2) := of_wf _
theorem hostWrite (a0 : Fin 3) (a1 : BitVec 30) (a2 : List (BitVec 64)) (a3 : Fin 8) : Statement (.hostWrite a0 a1 a2 a3) := of_wf _
theorem scrubStep (a0 : Fin 5) (a1 : Fin 3) : Statement (.scrubStep a0 a1) := of_wf _
theorem fifoDataWrite (a0 : Master) (a1 : Fin 256) (a2 : Word) : Statement (.fifoDataWrite a0 a1 a2) := of_wf _
theorem fifoFirstWrite (a0 : Master) (a1 : Fin 256) (a2 : Word) : Statement (.fifoFirstWrite a0 a1 a2) := of_wf _
theorem fifoLastWrite (a0 : Master) (a1 : Fin 256) (a2 : Word) : Statement (.fifoLastWrite a0 a1 a2) := of_wf _
theorem fifoOnlyWrite (a0 : Master) (a1 : Fin 256) (a2 : Word) : Statement (.fifoOnlyWrite a0 a1 a2) := of_wf _
theorem fifoDataRead (a0 : Master) (a1 : Fin 256) : Statement (.fifoDataRead a0 a1) := of_wf _
theorem fifoWashWrite (a0 : Master) (a1 : Fin 256) (a2 : Word) : Statement (.fifoWashWrite a0 a1 a2) := of_wf _
theorem fifoCutReached (a0 : Fin 256) : Statement (.fifoCutReached a0) := of_wf _
theorem fifoCfgWrite (a0 : Master) (a1 : Word) : Statement (.fifoCfgWrite a0 a1) := of_wf _
theorem faultDetected (a0 : Fin 224) (a1 : BitVec 12) : Statement (.faultDetected a0 a1) := of_wf _
theorem fatalEntry (a0 : Fin 12) : Statement (.fatalEntry a0) := of_wf _
theorem fixForceWrite (a0 : Master) (a1 : Word) : Statement (.fixForceWrite a0 a1) := of_wf _
theorem fixRaiseWrite (a0 : Master) (a1 : Word) : Statement (.fixRaiseWrite a0 a1) := of_wf _
theorem unitFaultForceWrite (a0 : Master) (a1 : BitVec 12) (a2 : Word) : Statement (.unitFaultForceWrite a0 a1 a2) := of_wf _
theorem eventCountRead (a0 : Master) (a1 : BitVec 12) : Statement (.eventCountRead a0 a1) := of_wf _
theorem jtagInstructionLoad (a0 : Fin 8) : Statement (.jtagInstructionLoad a0) := of_wf _
theorem tallyStart (a0 : Master) (a1 : Bool) (a2 : Bool) : Statement (.tallyStart a0 a1 a2) := of_wf _
theorem tallySweepStart : Statement (.tallySweepStart) := of_wf _
theorem tallySweepDone : Statement (.tallySweepDone) := of_wf _
theorem tlyBufRead (a0 : Master) : Statement (.tlyBufRead a0) := of_wf _
theorem hiWordRead (a0 : Master) (a1 : Fin 30) : Statement (.hiWordRead a0 a1) := of_wf _
theorem registerWrite (a0 : Master) (a1 : BitVec 16) (a2 : Word) : Statement (.registerWrite a0 a1 a2) := of_wf _
theorem twinLaneLock (a0 : Fin 2) : Statement (.twinLaneLock a0) := of_wf _
theorem twinHelloSend : Statement (.twinHelloSend) := of_wf _
theorem twinSilent : Statement (.twinSilent) := of_wf _
theorem lpLinkLoss (a0 : Fin 4) (a1 : Fin 4) : Statement (.lpLinkLoss a0 a1) := of_wf _
theorem spLinkLoss (a0 : Fin 4) : Statement (.spLinkLoss a0) := of_wf _
theorem tdcDllUnlock (a0 : Fin 16) : Statement (.tdcDllUnlock a0) := of_wf _
theorem atomInLost : Statement (.atomInLost) := of_wf _
theorem pciePerstRelease : Statement (.pciePerstRelease) := of_wf _
theorem ptpMessageSend (a0 : Fin 4) (a1 : Fin 3) (a2 : PtpCfg) : Statement (.ptpMessageSend a0 a1 a2) := of_wf _
theorem announceReceiptTimeout (a0 : Fin 6) : Statement (.announceReceiptTimeout a0) := of_wf _
theorem esmcPduSend (a0 : Fin 4) (a1 : Bool) : Statement (.esmcPduSend a0 a1) := of_wf _
theorem esmcPduTimeout (a0 : Fin 4) : Statement (.esmcPduTimeout a0) := of_wf _
theorem pairLockBLoss (a0 : Fin 128) : Statement (.pairLockBLoss a0) := of_wf _

end Sys2Proof.Laws.WellFormed
end

