-- ==== Sys2Proof/Tests/Slice0.lean ====
section
/-! SUPPORT. Tests: what a check refuses, instruction words written out from the encodings of the spec, worked examples of the spec, and
for every statement states and operands that meet its hypotheses. -/

namespace Sys2Proof.Tests

open Sys2Proof Sys2Proof.Machine

-- One theorem at a time: each evaluates whole machine states in the kernel.
set_option Elab.async false

/-! ## Well-formedness refuses -/

theorem test_wf_host_as_keeper : wf (.registerWrite { id := 20, keeper := true } 0 0) = false := by decide
theorem test_wf_jtag_as_user : wf (.registerWrite { id := 21, keeper := false } 0 0) = false := by decide
theorem test_wf_core_either : wf (.registerWrite { id := 3, keeper := true } 0 0) = true ∧ wf (.registerWrite { id := 3, keeper := false } 0 0) = true := by decide
theorem test_wf_bus_payload : wf (.stbFrameReceive 0 0 0 (List.replicate 1501 0) 0 false) = false := by decide +kernel
theorem test_wf_option_record : wf (.bringUpStageDone ⟨0, List.replicate 129 0, [], 0, 0, true, true, []⟩) = false := by decide +kernel
theorem test_wf_boot_directory : wf (.bringUpStageDone ⟨0, [], [], 0, 0, true, true, List.replicate 9 []⟩) = false := by decide
theorem test_wf_host_read : wf (.hostRead 0 0 4097) = false ∧ wf (.hostRead 0 0 4096) = true := by decide
theorem test_wf_host_write : wf (.hostWrite 0 0 (List.replicate 65 0) 0) = false := by decide

/-! ## Words of the cores, from the encodings of R48 to R51 and the examples of R50 and R63 -/

/-- R50's own examples: ADD g3, g4, #-12 and BRC NE, -5; and TADD.P g4:g5, g4:g5, g8. -/
theorem test_decode_examples : decodeCore 5 0x306407FFF4 = some (.add 5 3 4 (.imm 0x7FFF4)) ∧ decodeCore 5 0x742007FFFB = some (.brc 5 1 0x7FFFB)
    ∧ decodeCore 5 0x6084400001 = some (.tadd 5 4 4 8 true) := by decide +kernel

/-- A word from its opcode and fields (R48). -/
def word (op rd rs1 rs2 fn : Nat) : Word := w40 (op * 2 ^ 34 + rd * 2 ^ 29 + rs1 * 2 ^ 24 + rs2 * 2 ^ 19 + fn)

theorem test_decode_control : decodeCore 0 (word 0x00 0 0 0 0x12345) = some (.trap 0 0x12345) ∧ decodeCore 0 (word 0x00 0 0 0 1) = some (.selfSvc 0)
    ∧ decodeCore 0 (word 0x1E 31 0 0 0x10) = some (.call 0 31 (.off 0x10)) ∧ decodeCore 0 (word 0x20 0 7 0 0) = some (.br 0 (.reg 7))
    ∧ decodeCore 0 (word 0x1F 0 31 0 0) = some (.ret 0 31) := by decide +kernel
theorem test_decode_arithmetic : decodeCore 0 (word 0x08 1 2 3 0) = some (.sra 0 1 2 (.reg 3)) ∧ decodeCore 0 (word 0x11 1 2 0 40) = some (.shl 0 1 2 (.imm 40))
    ∧ decodeCore 0 (word 0x09 1 2 3 1) = some (.mul 0 1 2 3 true) ∧ decodeCore 0 (word 0x16 9 0 0 0x1E7) = some (.acc 0 9 0x27 true true true)
    ∧ decodeCore 0 (word 0x15 0 2 3 2) = some (.msc 0 2 3 false true) := by decide +kernel
theorem test_decode_memory : decodeCore 0 (word 0x22 1 2 0 0x7FFFF) = some (.ld 0 1 2 0x7FFFF) ∧ decodeCore 0 (word 0x25 0 2 4 1) = some (.stp 0 2 4 1)
    ∧ decodeCore 0 (word 0x2C 0 2 3 0xF0) = some (.uwr 0 2 3 0xF0) ∧ decodeCore 0 (word 0x28 0 2 3 3) = some (.push 0 2 3 3) := by decide +kernel
theorem test_decode_system : decodeCore 0 (word 0x2D 0 2 0 1) = some (.wait 0 2 true) ∧ decodeCore 0 (word 0x2E 1 2 3 1) = some (.wev 0 1 2 (some 3))
    ∧ decodeCore 0 (word 0x2F 8 20 24 0x5A) = some (.sched 0 8 20 24 0x5A) ∧ decodeCore 0 (word 0x30 1 2 3 2) = some (.kopSeal 0 1 2 3) := by decide +kernel
theorem test_decode_packet : decodeCore 20 (word 0x31 1 2 3 0x6005) = some (.pex 20 1 2 3 5 4 true) ∧ decodeCore 20 (word 0x33 0 2 3 0x1010) = some (.tsi 20 2 3 0x10 2)
    ∧ decodeCore 20 (word 0x34 1 2 3 1) = some (.qsend 20 1 2 3 true) := by decide +kernel
/-- Reserved bits and unused opcodes decode to nothing (R49, R65, R79). -/
theorem test_decode_reserved : decodeCore 0 (word 0x1D 16 0 0 0) = none ∧ decodeCore 0 (word 0x01 1 2 3 1) = none ∧ decodeCore 0 (word 0x11 1 2 0 64) = none
    ∧ decodeCore 0 (word 0x30 1 2 3 5) = none ∧ decodeCore 0 (word 0x3F 0 0 0 0) = none := by decide +kernel

/-- The table gives its rows no bits, so no word spells a command. -/
theorem test_table_word : decodeTableWord 40 0x306407FFF4 = none := rfl

/-! ## Small states -/

/-- The outcome is a next state. -/
def goes (o : Out) : Bool := match o with | .next _ => true | _ => false

/-- The fault an outcome stops with. -/
def stop (o : Out) : Option Fault := match o with | .fault f => some f | _ => none

/-- The next state, or the state after reset. -/
def st (o : Out) : State := match o with | .next s => s | _ => State.reset

/-- After reset, with every domain on and the units `us` released. -/
def up (us : List Nat) : State := us.foldl (fun s u => s.wr (UNIT_STATUS u) 0) { State.reset with regs := [(PWR_STATE, 0xFFF)] }

/-- The host, and a core with Keeper privilege. -/
def host : Master := { id := 20, keeper := false }
def keeper : Master := { id := 0, keeper := true }

/-- A core that runs at word 0x100 with g1 to g8 as listed. -/
def core (regs : Tab Word) : Core := { Core.reset with regs := regs, halted := false, pc := 0x100 }

/-- Core `k` as `c`, running, with the units `us` up beside its own block. -/
def run (k : CoreId) (c : Core) (us : List Nat) : State := ((up ((coreBlock k / 256) :: us)).setCore k c).wr (coreBlock k) 1

/-- An Easel core with small operands in g2 and g3, times in g4:g5 and g6:g7, a memory address in g8. -/
def easel : State := run 5 (core [(2, 7), (3, 0xFFFFFFFFFF), (4, 1769996300), (5, 1023999999976), (6, 5), (7, 9), (8, 0x10000010)]) []

/-! ## The queue -/

theorem test_step_front : (st (step { State.reset with pending := [.resumeSkip 0, .stray 0] })).pending = [.stray 0] := by decide +kernel
theorem test_step_idle : step State.reset = .next State.reset := rfl

/-! ## The cores -/

theorem witness_arithmetic : CanIssue easel 5 [1, 2, 3] false ∧ CanIssue easel 5 [1, 2] false ∧ (5 : CoreId).val < 16 := by
  unfold CanIssue; decide +kernel
theorem witness_time : CanIssue easel 5 [10, 11, 4, 5, 6, 7] false ∧ CanIssue easel 5 [10, 11, 4, 5, 2] false ∧ CanIssue easel 5 [1, 4, 5, 6, 7] false
    ∧ CanIssue easel 5 [4, 5, 6, 7] false ∧ CanIssue easel 5 [10, 11, 2, 6, 7] false := by unfold CanIssue; decide +kernel

/-- The worked example of R63: 2 ns added just before a second boundary. -/
theorem test_tadd_example : let t := st (exec (.tadd 5 4 4 8 true) (run 5 (core [(4, 1769996300), (5, 1023999999976), (8, 2048)]) []))
    (t.core 5).g 4 = 1769996301 ∧ (t.core 5).g 5 = 0x7E8 ∧ (t.core 5).flags = { Flags.zero with c := true } := by decide +kernel
/-- R55's example: three instructions give the 1/1024 ns of a second. -/
theorem test_lih_example : let t := st (exec (.lih 5 4 4 0) (run 5 (core [(4, 0x1DCD65)]) [])); (t.core 5).g 4 = 0xEE6B280000 := by decide +kernel
/-- R56: the one product that MUL.Q saturates. -/
theorem test_mulq_saturates : let t := st (exec (.mul 5 1 2 2 true) (run 5 (core [(2, 0x8000000000)]) []))
    (t.core 5).g 1 = 0x7FFFFFFFFF ∧ (t.core 5).flags.v = true := by decide +kernel
/-- R54: an amount of 0 leaves C; SRA by 63 gives the sign in C. -/
theorem test_sra_amounts : let s := run 5 { core [(2, 0x8000000001)] with flags := { Flags.zero with c := true } } []
    ((st (exec (.sra 5 1 2 (.imm 0)) s)).core 5).flags.c = true ∧ ((st (exec (.sra 5 1 2 (.imm 63)) s)).core 5).g 1 = 0xFFFFFFFFFF := by decide +kernel
/-- A branch just below address 0 wraps (R64). -/
theorem test_branch_wraps : ((st (exec (.br 5 (.off 0x40000)) easel)).core 5).pc = 0xFFFC0100 := by decide +kernel

/-- An engine of Brush group 0, for what only the B profile has, with a buffer in g2, an offset and length in g3. -/
def engine : State := run 16 (core [(2, 0x200000), (3, 0x50003)]) []

theorem witness_accumulate : CanIssue easel 5 [2, 3] false ∧ CanIssue easel 5 [1] false ∧ goes (exec (.mac 5 2 3 true true) easel) = true
    ∧ goes (exec (.acc 5 1 39 false true true) easel) = true ∧ stop (exec (.acc 5 1 40 false true true) easel) = some .unpredictable := by
  unfold CanIssue; decide +kernel

theorem witness_shift_edges : goes (exec (.shl 5 1 2 (.imm 63)) easel) = true ∧ stop (exec (.shl 5 1 2 (.imm 64)) easel) = some .unpredictable := by decide +kernel

/-- Both sides of TimeArithmetic's clauses: good pairs, an odd pair, g0:g1 as a destination. -/
theorem witness_time_clauses : goes (exec (.tadd 5 10 4 6 false) easel) = true ∧ stop (exec (.tadd 5 0 4 6 false) easel) = some .unpredictable
    ∧ stop (exec (.tcmp 5 5 6) easel) = some .unpredictable ∧ goes (exec (.tsub 5 1 4 6 true) easel) = true ∧ goes (exec (.text 5 10 2 6) easel) = true
    ∧ goes (exec (.tcmp 5 4 6) easel) = true := by decide +kernel

theorem witness_branches : CanIssue easel 5 [2] false ∧ CanIssue easel 5 [1, 2] false ∧ CanIssue easel 5 [1] false ∧ CanIssue easel 5 [] false
    ∧ ((run 5 { core [] with flags := { Flags.zero with z := true } } []).core 5).flags.z = true := by unfold CanIssue; decide +kernel
theorem witness_condition : fieldOf (word 0x1D 16 0 0 0) 39 34 = 0x1D ∧ bitAt (word 0x1D 16 0 0 0) 33 = true
    ∧ goes (exec (.brc 5 0 4) easel) = true ∧ goes (exec (.brc 5 1 4) easel) = true := by decide +kernel

/-! ### Traps and services -/

/-- A core in a trap, to go back to 0x200 in User with Z set. -/
def trapped : State := (((run 5 { core [(2, 7)] with inTrap := true } []).stN (trapFrame 5) [11, 12]).wr (coreBlock 5 + 3) 0x200).wr (coreBlock 5 + 4) 0x100

theorem witness_traps : CanIssue easel 5 [] true ∧ (easel.core 5).inTrap = false ∧ CanIssue trapped 5 [] true ∧ (trapped.core 5).inTrap = true
    ∧ CanIssue engine 16 [] true ∧ (engine.core 16).inTrap = false := by unfold CanIssue; decide +kernel
/-- The codes at the ends of each range of R67 and R109. -/
theorem witness_trap_codes : goes (exec (.trap 5 0x10000) easel) = true ∧ goes (exec (.trap 5 4) easel) = true ∧ goes (exec (.trap 5 0xFFFD) easel) = true
    ∧ goes (exec (.trap 5 0) easel) = true ∧ goes (exec (.trap 5 3) easel) = true ∧ goes (exec (.trap 5 0xFFFF) trapped) = true
    ∧ ((st (exec (.trap 5 0x7FFFF) trapped)).core 5).halted = true ∧ goes (exec (.mac 16 1 2 false false) engine) = true
    ∧ goes (exec (.pex 5 1 2 3 0 0 false) easel) = true := by decide +kernel

/-- A REPORTED slot of core 5, for NOTICE. -/
def noticed : State := easel.setLed 3 { Slot.free with state := 4, report := 2, seq := 9, offerer := coreOfferer 5 }

theorem witness_services : (∀ e ∈ easel.skb.slots, e.2.state = 4 → e.2.offerer ≠ coreOfferer 5) ∧ CanIssue noticed 5 [] true
    ∧ noticed.skb.slots = [(3, { Slot.free with state := 4, report := 2, seq := 9, offerer := coreOfferer 5 })]
    ∧ goes (exec (.stray 5) easel) = true ∧ goes (exec (.selfSvc 5) easel) = true ∧ goes (exec (.bound 5) easel) = true
    ∧ ((st (exec (.notice 5) noticed)).core 5).g 5 = 9 ∧ ((st (exec (.notice 5) noticed)).core 5).g 1 = 2 := by unfold CanIssue; decide +kernel

/-- The same trap, having ended a WAIT: one to an instant that has come, one to a later one. -/
def heldWait (t : T80) : State := trapped.setCore 5 { trapped.core 5 with held := .wait t false }

theorem witness_return : (trapped.core 5).held = .none ∧ ((st (exec (.resume 5) trapped)).core 5).pc = 0x200 ∧ ((st (exec (.resume 5) trapped)).core 5).g 2 = 12
    ∧ CanIssue (heldWait ⟨0, 0⟩) 5 [] true ∧ CanIssue (heldWait ⟨9, 0⟩) 5 [] true ∧ (heldWait ⟨0, 0⟩).reached ⟨0, 0⟩ = true ∧ (heldWait ⟨9, 0⟩).reached ⟨9, 0⟩ = false
    ∧ goes (exec (.resume 5) (heldWait ⟨9, 0⟩)) = true ∧ goes (exec (.resumeSkip 5) trapped) = true := by unfold CanIssue; decide +kernel

/-! ### Loads and stores -/

/-- A core with one outstanding load of a pair from DRAM into g2:g3. -/
def pairLoad : Load := { pc := 0xFF, rd := 2, pair := true, addr := 0x10000010, after := 0, back := 0, kind := none, regs := [], a0 := 0, a1 := 0, flags := Flags.zero, due := ⟨0, 0⟩ }
def loading : State := run 5 { core [(8, 0x10000010)] with loads := [pairLoad] } [0x0E0]

/-- The core of `easel` with the memory unit up; the same with the ledger where it stores; one whose g8 points into House ROM; one whose store error has come back. -/
def storing : State := run 5 (core [(2, 7), (4, 8), (5, 9), (8, 0x10000010)]) [0x0E0]
def storingLedger : State := storing.put SKB_LEDGER_BASE_base 0x10000000
def storingRom : State := run 5 (core [(2, 7), (8, 0x10)]) [0x0E0]
def storeErred (w : CoreWait) : State := run 5 { core [] with stErr := [(0x10, some 0)], waiting := w } []

theorem witness_load_issue : (easel.core 5).loads = [] ∧ CanIssue easel 5 [2, 8] false ∧ CanIssue easel 5 [2, 8, 3] false ∧ CanIssue easel 5 [3, 8, 4] false
    ∧ CanIssue loading 5 [6, 8] false ∧ targetOf 0x10000010 ≠ .regs ∧ targetOf 0x10000010 ≠ .fifo
    ∧ Undelayed easel ∧ localWord 5 0x10000010 = false ∧ tagsFull easel 5 = false ∧ tagsFull loading 5 = false ∧ localWord 5 0x131000 = true
    ∧ plainMemory 0x10000010 ∧ plainMemory 0x10000011 ∧ memReadErr storing (coreAs 5 false) 0x10000010 = none
    ∧ memReadErr storing (coreAs 5 false) 0x10000011 = none ∧ (storing.core 5).loads = [] ∧ CanIssue storing 5 [2, 8, 3] false
    ∧ goes (exec (.loadReturn 5 0) (st (exec (.ldp 5 2 8 0) storing))) = true
    ∧ goes (exec (.ld 5 6 8 0) loading) = true ∧ goes (exec (.ldp 5 2 8 0) easel) = true ∧ stop (exec (.ldp 5 3 8 0) easel) = some .unpredictable := by
  unfold CanIssue Undelayed plainMemory; decide +kernel

theorem witness_load_return : (loading.core 5).loads[0]? = some pairLoad ∧ (∀ o ∈ (loading.core 5).loads, o.back = 0) ∧ GoesOn loading 5 ∧ loading.elapsed pairLoad.due = true
    ∧ plainMemory 0x10000010 ∧ plainMemory 0x10000011 ∧ memReadErr loading (coreAs 5 false) 0x10000010 = none
    ∧ memReadErr loading (coreAs 5 false) 0x10000011 = none ∧ goes (exec (.loadReturn 5 0) loading) = true := by
  unfold GoesOn plainMemory; decide +kernel

theorem witness_stores : CanIssue storing 5 [8, 2] true ∧ CanIssue storing 5 [8, 4, 5] true ∧ CanIssue storing 5 [8, 5, 6] true ∧ plainMemory 0x10000010
    ∧ plainMemory 0x10000011 ∧ memWriteErr storing (coreAs 5 false) 0x10000010 = none ∧ memWriteErr storing (coreAs 5 false) 0x10000011 = none
    ∧ storesWaiting storing 5 = 0 ∧ ledgerWord storing 0x10000010 = false ∧ ledgerWord storingLedger 0x10000010 = true
    ∧ CanIssue storingLedger 5 [8, 2] true ∧ stop (exec (.st 5 8 2 0) storingLedger) = some .unpredictable
    ∧ goes (exec (.st 5 8 2 0) storing) = true ∧ (st (exec (.stp 5 8 4 0) storing)).ld 0x10000011 = 9 ∧ stop (exec (.stp 5 8 5 0) storing) = some .unpredictable := by
  unfold CanIssue plainMemory; decide +kernel

theorem witness_store_errors : CanIssue storingRom 5 [8, 2] true ∧ (storingRom.core 5).g 8 = 0x10 ∧ goes (exec (.st 5 8 2 0) storingRom) = true
    ∧ ((storeErred .none).core 5).stErr = [(0x10, some 0)] ∧ ((storeErred .none).core 5).stBack = [] ∧ storesWaiting storingRom 5 = 0
    ∧ ((storeErred .none).core 5).loads = [] ∧ ((storeErred .none).core 5).inTrap = false ∧ coreAlive (storeErred .none) 5 = true ∧ (storeErred .none).on (coreCtl 5) = true
    ∧ (CoreWait.wait ⟨9, 0⟩ false).dozing = true ∧ (CoreWait.urd 1 2 3).dozing = false ∧ (CoreWait.urd 1 2 3) ≠ .none
    ∧ goes (exec (.storeErrorResponse 5) (storeErred .none)) = true ∧ goes (exec (.storeErrorResponse 5) (storeErred (.wait ⟨9, 0⟩ false))) = true
    ∧ goes (exec (.storeErrorResponse 5) (storeErred (.urd 1 2 3))) = true := by unfold CanIssue; decide +kernel

/-! ### FIFOs, unit registers, waiting, strokes -/

/-- A core that names FIFO 9 in g2, with the FIFO as given. -/
def withFifo (c : Core) (q : Fifo) : State := (run 5 c [0x0E2]).setFifo 9 q
def nine : Core := core [(2, 9), (3, 77)]
def plain : Fifo := { Fifo.reset with en := true }
def full : Fifo := { plain with closed := List.replicate 16 [1] }
def packet : Fifo := { plain with packet := true }

theorem witness_push : unitErr (withFifo nine plain) FIFO_IDX = none ∧ (withFifo nine plain).fifoWait = [] ∧ CanIssue (withFifo nine plain) 5 [2, 3] true
    ∧ fifoFramed plain 0 = true ∧ fifoTakes (withFifo nine plain) 9 (coreMaster 5) 0 = true ∧ fifoTakes (withFifo nine full) 9 (coreMaster 5) 0 = false
    ∧ fifoFramed packet 1 = true ∧ fifoTakes (withFifo nine packet) 9 (coreMaster 5) 1 = true ∧ CanIssue (withFifo nine full) 5 [2, 3] true
    ∧ goes (exec (.push 5 2 3 0) (withFifo nine plain)) = true ∧ goes (exec (.push 5 2 3 0) (withFifo nine full)) = true
    ∧ goes (exec (.push 5 2 3 0) (withFifo nine Fifo.reset)) = true := by unfold CanIssue; decide +kernel

/-- A core held in a PUSH of 77 to FIFO 9. -/
def pushing : State := withFifo { nine with waiting := .push 9 0 77 } plain

theorem witness_push_accepted : (pushing.core 5).waiting = .push 9 0 77 ∧ GoesOn pushing 5 ∧ fifoTakes pushing 9 (coreMaster 5) 0 = true
    ∧ (st (exec (.pushAccepted 5) pushing)).fifo 9 = { plain with closed := [[77]] } := by unfold GoesOn; decide +kernel

theorem witness_pop_wash : CanIssue (withFifo nine full) 5 [1, 2] true ∧ ringFresh (withFifo nine full) 9 = withFifo nine full
    ∧ (∀ p < 4, (withFifo nine full).get (BRGg_AUX_FIFO_txdone p) ≠ 9) ∧ full.closed = [1] :: List.replicate 15 [1]
    ∧ ((st (exec (.pop 5 1 2) (withFifo nine full))).core 5).g 1 = 1 ∧ ((st (exec (.pop 5 1 2) (withFifo nine plain))).core 5).flags.e = true
    ∧ CanIssue (withFifo nine full) 5 [2] true ∧ ((st (exec (.wash 5 2) (withFifo nine full))).fifo 9).closed = [] := by unfold CanIssue; decide +kernel

/-- A core whose g2 names the timebase unit (0x004), waiting as given. -/
def unitCore (w : CoreWait) (keeper : Bool) : State := run 5 { core [(2, 4), (3, 1)] with waiting := w, keeper := keeper } [0x004]

theorem witness_unit_access : CanIssue (unitCore .none false) 5 [1, 2] true ∧ CanIssue (unitCore .none false) 5 [2, 3] true
    ∧ goes (exec (.urd 5 1 2 0x02) (unitCore .none false)) = true ∧ goes (exec (.uwr 5 2 3 0x02) (unitCore .none false)) = true
    ∧ GoesOn (unitCore (.urd 1 4 0xF0) false) 5 ∧ Reads (unitCore (.urd 1 4 0xF0) false) (coreAs 5 false) (UNIT_ID 4)
    ∧ (unitCore (.urd 1 4 0xF0) false).rd (UNIT_ID 4) = w40 4
    ∧ ((st (exec (.unitAccessResponse 5) (unitCore (.urd 1 4 0xF0) false))).core 5).g 1 = 4
    ∧ regErr (unitCore (.urd 1 5 2) false) (coreAs 5 false) 0x502 false = some 2 ∧ goes (exec (.unitAccessResponse 5) (unitCore (.urd 1 5 2) false)) = true := by
  unfold CanIssue GoesOn Reads Uninjected; decide +kernel

/-- The whole of URD and UWR of TB_SLEW_RATE: the register shows its word and holds what is written. -/
theorem witness_unit_whole : Undelayed (unitCore .none false) ∧ Reads (unitCore .none false) (coreAs 5 false) TB_SLEW_RATE
    ∧ Writes (unitCore .none false) (coreAs 5 false) TB_SLEW_RATE 1 ∧ TB_SLEW_RATE % 256 < 0xF0 ∧ TB_SLEW_RATE / 256 = 4
    ∧ (unitCore .none false).elapsed ((unitCore .none false).core 5).due = true
    ∧ GoesOn (unitCore (.unitErr (some 1) 300 2) false) 5
    ∧ goes (exec (.unitAccessResponse 5) (unitCore (.unitErr (some 1) 300 2) false)) = true
    ∧ (st (exec (.unitAccessResponse 5) (st (exec (.uwr 5 2 3 (BitVec.ofNat 8 (TB_SLEW_RATE % 256))) (unitCore .none false))))).rd TB_SLEW_RATE = 1 := by
  unfold Undelayed Reads Writes GoesOn Uninjected; decide +kernel
theorem witness_shows_its_word : ShowsItsWord TB_SLEW_RATE := by intro v; exact ⟨rfl, rfl, rfl⟩
theorem witness_holds_its_word : HoldsItsWord (coreAs 5 false) TB_SLEW_RATE 1 := by intro v; rfl

/-- A plain write of TB_SLEW_RATE by a core; a User's write of core 5's entry address, which is Keeper's. -/
theorem witness_unit_write : Writes (unitCore (.uwr 4 5 5) false) (coreAs 5 false) TB_SLEW_RATE 5 ∧ (TB_SLEW_RATE ≠ coreBlock 5)
    ∧ ((unitCore (.uwr (coreBlock 5 / 256) 1 5) false).core 5).inTrap = false
    ∧ regErr (unitCore (.uwr (coreBlock 5 / 256) 1 5) false) (coreAs 5 false) (coreBlock 5 / 256 * 256 + 1) true = some 1
    ∧ (st (exec (.unitAccessResponse 5) (unitCore (.uwr 4 5 5) false))).rd TB_SLEW_RATE = 5
    ∧ ((st (exec (.unitAccessResponse 5) (unitCore (.uwr (coreBlock 5 / 256) 1 5) false))).core 5).inTrap = true := by
  unfold Writes Uninjected; decide +kernel
theorem witness_unit_write_plain : ∀ t, regEffect (coreAs 5 false) TB_SLEW_RATE 5 (touched (unitCore (.uwr 4 5 5) false) TB_SLEW_RATE) = t →
    t = .next (plainWrite (touched (unitCore (.uwr 4 5 5) false) TB_SLEW_RATE) TB_SLEW_RATE 5) := by rintro t rfl; rfl

theorem witness_wait : CanIssue easel 5 [2] true ∧ CanIssue easel 5 [4, 5] true ∧ CanIssue engine 16 [] true ∧ (engine.core 16).inTrap = false
    ∧ goes (exec (.wait 5 2 true) easel) = true ∧ goes (exec (.wait 5 4 false) easel) = true ∧ stop (exec (.wait 5 5 false) easel) = some .unpredictable
    ∧ ((easel.setCore 5 { easel.core 5 with waiting := .wait ⟨0, 0⟩ true }).core 5).waiting = .wait ⟨0, 0⟩ true ∧ GoesOn easel 5
    ∧ ((st (exec (.waitWake 5) (easel.setCore 5 { easel.core 5 with waiting := .wait ⟨0, 0⟩ true }))).core 5).flags.l = true := by
  unfold CanIssue GoesOn; decide +kernel

/-- A core with the soft event pending and its mask in g2; one without; a mask with a reserved bit in g3. -/
def eventCore (e : Nat) (w : CoreWait) : State := run 5 { core [(2, 0x4000000), (3, 0x40000000)] with evts := e, waiting := w } [0x0E2]

theorem witness_events : CanIssue (eventCore 0x4000000 .none) 5 [1, 2] true ∧ CanIssue (eventCore 0 .none) 5 [1, 2, 4] true ∧ CanIssue (eventCore 0 .none) 5 [1, 3] true
    ∧ stop (exec (.wev 5 1 3 none) (eventCore 0 .none)) = some .unpredictable
    ∧ ((st (exec (.wev 5 1 2 none) (eventCore 0x4000000 .none))).core 5).g 1 = 0x4000000
    ∧ ((st (exec (.wev 5 1 2 (some 4)) (eventCore 0 .none))).core 5).flags.l = true
    ∧ GoesOn (eventCore 0x4000000 (.wev 1 0x4000000 none)) 5 ∧ ((st (exec (.wevWake 5) (eventCore 0x4000000 (.wev 1 0x4000000 none)))).core 5).g 1 = 0x4000000
    ∧ ((st (exec (.wevDeadline 5) (eventCore 0 (.wev 1 0x4000000 (some ⟨0, 0⟩))))).core 5).flags.z = true := by
  unfold CanIssue GoesOn; decide +kernel

/-- A core that offers a PIN stroke of OUT16 at second 9 in g4:g5 with its action in g6, the ledger open, the time valid. -/
def scheduling (keeper : Bool) : State :=
  (((run 5 { core [(4, 9), (5, 0), (6, 0x1400000000), (7, 0x7000000000)] with keeper := keeper } [0x0E0]).putB SKB_CTL_accept_en true).putB TB_STATUS_time_valid true).putB SKB_STATUS_recovering false
def pinStroke : Stroke := mkStroke 9 0 0x1400000000 0

theorem witness_sched : CanIssue (scheduling false) 5 [1, 4, 5, 6] true ∧ CanIssue (scheduling false) 5 [1, 4, 5, 7] true ∧ fieldOf 0x7000000000 39 36 = 7
    ∧ actionLegal 0x1400000000 = true ∧ fieldOf 0x1400000000 39 36 = 1 ∧ matchSlot (scheduling false) pinStroke = none ∧ leadRefusal (scheduling false) pinStroke = none
    ∧ slotToTake (scheduling false) = some 0 ∧ limitsBroken (scheduling false) pinStroke = false ∧ (scheduling false).on SKB_STATUS_recovering = false := by
  unfold CanIssue; decide +kernel
theorem witness_sched_results : ((st (exec (.sched 5 1 4 6 0) (scheduling false))).led 0).state = 1
    ∧ goes (exec (.sched 5 1 4 7 0) (scheduling false)) = true
    ∧ ((st (exec (.sched 5 1 4 6 0) ((scheduling false).putB SKB_CTL_accept_en false))).core 5).waiting = .schedDone 1 (w40 (3 * 2 ^ 36)) false
    ∧ ((st (exec (.schedResult 5) (easel.setCore 5 { easel.core 5 with waiting := .schedDone 1 7 true }))).core 5).flags.l = true := by decide +kernel

/-! ### Keys and packets -/

/-- A core with a KOP descriptor at word 0x110000 of its cluster's data memory: empty buffers at 0x110010. -/
def keyed : State := (((run 5 (core [(2, 0x100), (3, 0x130000)]) [0x0C0, 0x061]).putB KV_CTL_en true).st 0x130000 0x130010).stN 0x130002 [0x130020, 0x130030]

theorem witness_key_descriptor : CanIssue keyed 5 [1, 2, 3] true ∧ (keyed.core 5).g 3 = 0x130000 ∧ ownWords 5 false 0x130000 4 = true
    ∧ (∀ i < 4, memReadErr keyed (coreAs 5 false) (0x130000 + i) = none) ∧ (∀ i < 4, (keyed.ld (0x130000 + i)).toNat < 2 ^ 32)
    ∧ fieldOf (keyed.ld 0x130001) 15 0 = 0 ∧ fieldOf (keyed.ld 0x130001) 31 16 = 0 ∧ bufWords 0 = 0 ∧ ownWords 5 false 0x130010 0 = true
    ∧ ownWords 5 false 0x130020 0 = true ∧ goes (exec (.kopDerive 5 1 2 3) keyed) = true := by unfold CanIssue; decide +kernel
/-- Each of the five operations with nothing else at the PKE: its output lies in the program's own memory. -/
theorem witness_key_whole : keyed.kv.pke = [] ∧ (∀ op < 5, bufWords (kopRun keyed 5 false op 0x100 [] []).1.data.length ≤ 0x100)
    ∧ ownWords 5 false 0x130020 0x100 = true ∧ (∀ i < 0x100, memWriteErr keyed (coreAs 5 false) (0x130020 + i) = none) ∧ ledgerHit keyed 0x130020 0x100 = false
    ∧ goes (exec (.kopResult 5) (st (exec .pkeOpDone (st (exec (.kopMac 5 1 2 3) keyed))))) = true := by decide +kernel

/-- A core whose KOP has ended with one output word for 0x130020. -/
def kopEnded : State := run 5 { core [] with waiting := .kop 1 0x130020 [7] 5 } [0x061]
theorem witness_key_result : (kopEnded.core 5).waiting = .kop 1 0x130020 [7] 5 ∧ (∀ r ∈ kopEnded.kv.pke, r.core ≠ some 5) ∧ GoesOn kopEnded 5
    ∧ memWriteErr kopEnded (coreAs 5 false) 0x130020 = none ∧ (st (exec (.kopResult 5) kopEnded)).ld 0x130020 = 7 := by unfold GoesOn; decide +kernel

/-- The octets 00 01 02 03 04 from offset 3: their sum is 0001 + 0203 + 0400 (R100), and PEX takes one or two of them (R99). -/
def packetEngine : State := (engine.st 0x200000 0x0100000000).st 0x200001 0x040302
theorem witness_packet : CanIssue packetEngine 16 [1, 2, 3] true ∧ CanIssue packetEngine 16 [2, 3] true ∧ ownOctets 16 false 0x200000 3 5 = true
    ∧ ownOctets 16 false 0x200000 0 20 = true ∧ (16 : Nat) ≤ (16 : CoreId).val
    ∧ ((st (exec (.pex 16 1 2 3 2 0 false) packetEngine)).core 16).g 1 = 2 ∧ ((st (exec (.pex 16 1 2 3 1 1 false) packetEngine)).core 16).g 1 = 0x0102
    ∧ ((st (exec (.csum 16 1 2 3 false) packetEngine)).core 16).g 1 = 0x0604 ∧ goes (exec (.tsi 16 2 3 40 2) packetEngine) = true
    ∧ stop (exec (.tsi 16 2 3 40 3) packetEngine) = some .unpredictable ∧ stop (exec (.pex 16 1 2 3 0 5 false) packetEngine) = some .unpredictable := by
  unfold CanIssue; decide +kernel

/-- An engine with the line port of its group up; one that waits for queue 2. -/
def sender (w : CoreWait) : State := run 16 { core [(2, 0x200000), (3, 2)] with waiting := w } [0x080]
theorem witness_queue_send : unitErr (sender .none) (LPp_CFG 0) = none ∧ CanIssue (sender .none) 16 [1, 2, 3] true ∧ ownOctets 16 false 0x200000 0 20 = true
    ∧ queued (sender .none) 0 2 = 0 ∧ GoesOn (sender (.qsend 0x200000 2 1 true)) 16 := by unfold CanIssue GoesOn; decide +kernel
/-- A queue holds at least one frame, so an empty one takes another. -/
theorem witness_queue_room : queued (sender .none) 0 2 < Config.txDepth := by rw [witness_queue_send.2.2.2.1]; exact Nat.succ_pos _

/-- A halted core 5 with an entry address. -/
def halted : State := ((up [0x069]).setCore 5 { Core.reset with pc := 7 }).wr (coreBlock 5 + 1) 0x100000
theorem witness_core_control : Writes halted keeper (coreBlock 5) 1 ∧ (halted.core 5).halted = true ∧ Writes easel keeper (coreBlock 5) 0 ∧ (easel.core 5).halted = false
    ∧ (easel.core 5).loads = [] ∧ (easel.core 5).waiting = .none ∧ regErr easel host (coreBlock 5) true = some 1 ∧ Writes easel host (coreBlock 5 + 0x0C) 1
    ∧ ((st (exec (.coreRunWrite keeper 5 1) halted)).core 5).pc = 0x100000 ∧ ((st (exec (.coreRunWrite keeper 5 0) easel)).core 5).halted = true
    ∧ goes (exec (.coreRunWrite host 5 0) easel) = true ∧ ((st (exec (.softEvent host 5 1) easel)).core 5).evts = 2 ^ 26 := by
  unfold Writes Uninjected; decide +kernel

/-! ## The mailbox -/

/-- A mailbox that holds a command with arguments in the given service state (R118): each slot carries sequence number 1. -/
def mailbox (code : Nat) (args : List Nat) (state : Nat) : State :=
  let words := args.zipIdx.map (fun p => BitVec.ofNat 64 (2 ^ 40 + (if p.2 = 0 then code * 2 ^ 56 + args.length * 2 ^ 48 else 0) + p.1))
  let s := (((up [0x079, 0x0E0, 0x001, 0x0DA, 0x0C0]).put MBX_STATUS_state state).putB MBX_STATUS_busy true).put MBX_DOORBELL_seq 1
  { s with mbx := { s.mbx with cmd := if args = [] then [BitVec.ofNat 64 (code * 2 ^ 56 + 2 ^ 40)] else words } }

theorem witness_mailbox_refusals : mbxWaits State.reset 1 = false ∧ mbxWaits (mailbox 1 [] 1) 1 = true ∧ mbxFormed (mailbox 1 [] 1) = true
    ∧ (mbxArgs (mailbox 1 [9] 1)).length = 1 ∧ mbxLegal 0x0B 0 = false ∧ (mbxArgs (mailbox 0x0B [] 0)).length = 0
    ∧ goes (exec .getInfo (mailbox 1 [9] 1)) = true ∧ goes (exec .plannedSwap (mailbox 0x0B [] 0)) = true := by decide +kernel

theorem witness_mailbox_services : Asked (mailbox 0x01 [] 1) 0x01 [] ∧ Asked (mailbox 0x06 [5] 1) 0x06 [5] ∧ Asked (mailbox 0x09 [] 1) 0x09 [] ∧ Asked (mailbox 0x0A [] 3) 0x0A []
    ∧ Asked (mailbox 0x08 [7, 0] 1) 0x08 [7, 0] ∧ attRead (mailbox 0x08 [7, 0] 1) 7 = none ∧ Asked (mailbox 0x0D [0] 1) 0x0D [0]
    ∧ (mailbox 0x0F [] 1).on MBX_STATUS_busy = true ∧ mbxCode (mailbox 0x0F [] 1) = 0x0F := by unfold Asked; decide +kernel
theorem witness_mailbox_answers : respWord (st (exec .armStep (mailbox 0x06 [5] 1))) 0 = 2 ^ 63 + 2 ^ 40 ∧ (st (exec .armStep (mailbox 0x06 [5] 1))).get TB_STEP_THRESH_thresh = 5
    ∧ (st (exec .leaveMaint (mailbox 0x0A [] 3))).get MBX_STATUS_state = 1 ∧ goes (exec .readAttest (mailbox 0x08 [7, 0] 1)) = true
    ∧ goes (exec .readLapseLog (mailbox 0x0D [0] 1)) = true ∧ respWord (st (exec .badCommand (mailbox 0x0F [] 1))) 0 / 2 ^ 56 = 0x82
    ∧ goes (exec .getInfo (mailbox 0x01 [] 1)) = true ∧ goes (exec .enterMaint (mailbox 0x09 [] 1)) = true := by decide +kernel


/-- A signed record of second 7 in the ring at 0x10000000 (R241). -/
def attested : State := (((mailbox 0x08 [7, 0] 1).put GLZ_ATT_BASE_base 0x10000000).put GLZ_ATT_COUNT_count 1).stN 0x10000000
  ([0x41545331, 0, 0, 0, 7] ++ List.replicate 42 0 ++ [0x100])
theorem witness_attestation_read : Asked attested 0x08 [7, 0] ∧ ((attRead attested 7).map List.length) = some 48 ∧ goes (exec .readAttest attested) = true := by
  unfold Asked; decide +kernel

/-- An unsigned Easel image for cluster 1 that starts core 5: one code section of one word (R112). -/
def image : List Word :=
  let ws : List Word := [0x574C4F31, w40 (2 ^ 32 + 16 * 2 ^ 16 + 1), 19, w40 (1 * 2 ^ 36 + 2), 0x120000, 0, 0, 0, 0, 0x138000, 0, 0, 0, 0, 0, 0, 0x120000, 1, 0x123]
  ws.set 14 (w40 (crc32c (imgBytes ws)))

/-- A mailbox command with an argument while the image stands in DRAM at 0x10100000, the units of cluster 1 up. -/
def imaged (code : Nat) (args : List Nat) : State :=
  ([0x061, 0x068, 0x069, 0x06A, 0x06B].foldl (fun s u => s.wr (UNIT_STATUS u) 0) (mailbox code args 1)).stN 0x10100000 image

theorem witness_images : Asked (imaged 2 [0x10100000]) 2 [0x10100000] ∧ inDram 0x10100000 1 = true ∧ imgRead (imaged 2 [0x10100000]) 0x10100000 = some image
    ∧ imgRead (mailbox 2 [0x10100000] 1) 0x10100000 = none ∧ keyCores (imgKey image) = [4, 5, 6, 7]
    ∧ (∀ k ∈ keyCores (imgKey image), ((imaged 2 [0x10100000]).core k).halted = true ∧ unitErr (imaged 2 [0x10100000]) (coreBlock k) = none)
    ∧ unitErr (imaged 2 [0x10100000]) (keyUnit (imgKey image) * 256) = none ∧ imgOk (imaged 2 [0x10100000]) (image.set 0 0) = false := by
  unfold Asked; decide +kernel
theorem witness_image_ok : imgOk (imaged 2 [0x10100000]) image = true := by decide +kernel

/-- The image accepted, with `n` sections already written. -/
def imaging (n : Nat) : State :=
  let s := imaged 2 [0x10100000]
  { s with mbx := { s.mbx with started := true, image := image, section_ := n } }

theorem witness_image_steps : (st (exec .loadImage (imaged 2 [0x10100000]))).mbx.image = image ∧ image ≠ []
    ∧ (imgSecs image (imgCount image) 0 (16 + 2 * imgCount image)).length = 1
    ∧ (∀ y ∈ imgSecs image (imgCount image) 0 (16 + 2 * imgCount image), y.at_ + y.len ≤ image.length)
    ∧ (st (exec .loadImage (imaging 0))).ld 0x120000 = 0x123 ∧ (st (exec .loadImage (imaging 0))).mbx.section_ = 1 := by decide +kernel
theorem witness_image_loads : (imaging 1).on MBX_STATUS_busy = true ∧ ((st (exec .loadImage (imaging 1))).core 5).pc = 0x120000
    ∧ ((st (exec .loadImage (imaging 1))).core 5).halted = false ∧ ((st (exec .loadImage (imaging 1))).core 6).halted = true := by decide +kernel
/-- The same image while a core of its cluster runs. -/
def imagedRunning : State := let s := imaged 2 [0x10100000]; s.setCore 6 { s.core 6 with halted := false }
theorem witness_image_running : Asked imagedRunning 2 [0x10100000] ∧ imgOk imagedRunning image = true ∧ 6 ∈ keyCores (imgKey image)
    ∧ (imagedRunning.core 6).halted = false ∧ respWord (st (exec .loadImage imagedRunning)) 0 / 2 ^ 56 = 0x81 := by unfold Asked; decide +kernel

theorem witness_core_masks : Asked (imaged 3 [0x20]) 3 [0x20] ∧ maskCores 0x20 (groupStarts (imaged 3 [0x20])) = [5] ∧ Asked (imaged 4 [0x20]) 4 [0x20]
    ∧ Asked (imaged 3 [0x100000]) 3 [0x100000] ∧ Asked (imaged 4 [1]) 4 [1] ∧ unitErr (imaged 3 [0x20]) (coreBlock 5) = none
    ∧ ((st (exec .startCores (imaged 3 [0x20]))).core 5).halted = false ∧ goes (exec .stopCores (imaged 4 [0x20])) = true := by unfold Asked; decide +kernel

/-- OFFER_STROKE of the PIN stroke, the ledger open or closed. -/
def offering (args : List Nat) (accept : Bool) : State :=
  (((mailbox 5 args 1).putB SKB_CTL_accept_en accept).putB TB_STATUS_time_valid true).putB SKB_STATUS_recovering false

theorem witness_offer : Asked (offering [9, 0, 0x1400000000, 0] true) 5 [9, 0, 0x1400000000, 0] ∧ keeperClass (fieldOf 0x1400000000 39 36) = false
    ∧ matchSlot (offering [9, 0, 0x1400000000, 0] true) pinStroke = none ∧ leadRefusal (offering [9, 0, 0x1400000000, 0] true) pinStroke = none
    ∧ slotToTake (offering [9, 0, 0x1400000000, 0] true) = some 0 ∧ limitsBroken (offering [9, 0, 0x1400000000, 0] true) pinStroke = false
    ∧ ((st (exec .offerStroke (offering [9, 0, 0x1400000000, 0] true))).led 0).state = 1
    ∧ respWord (st (exec .offerStroke (offering [9, 0, 0x1400000000, 0] false))) 0 / 2 ^ 56 = 0x86
    ∧ Asked (offering [9, 1024000000000, 0x1400000000, 0] true) 5 [9, 1024000000000, 0x1400000000, 0] ∧ keeperClass (fieldOf 0x7000000000 39 36) = true := by
  unfold Asked; decide +kernel

/-- The answer comes when the offer's ledger write completes. -/
theorem witness_offer_answered : (offering [9, 0, 0x1400000000, 0] true).skb.offers = [] ∧ (offering [9, 0, 0x1400000000, 0] true).on SKB_CTL_mirror_en = false
    ∧ (offering [9, 0, 0x1400000000, 0] true).badBurst (burstOf (slotAddr (offering [9, 0, 0x1400000000, 0] true) 0)) = false
    ∧ ((st (exec (.ledgerWriteComplete 0) (st (exec .offerStroke (offering [9, 0, 0x1400000000, 0] true))))).led 0).commit = true := by decide +kernel

/-- SET_DOMAIN that switches Easel cluster 0 on, and one that asks for what is on already. -/
def domains (on : Nat) : State := ((mailbox 0x0C [3, 1] 1).put PWR_STATE_on on).put PWR_REQ_on on
theorem witness_domain_done : Asked (domains 0x827) 0x0C [3, 1] ∧ ((domains 0x827).get PWR_STATE_on).testBit 3 = false ∧ (domains 0x827).get PWR_STATE_busy = 0
    ∧ (∀ x ∈ switched, x ≠ 3 → ((domains 0x827).get PWR_REQ_on).testBit x = ((domains 0x827).get PWR_STATE_on).testBit x)
    ∧ (∀ x ∈ [0, 1, 2, 5, 11], ((domains 0x827).get PWR_STATE_on).testBit x = true)
    ∧ ((st (exec (.domainChangeDone 3) (st (exec .setDomain (domains 0x827))))).get PWR_STATE_on).testBit 3 = true
    ∧ Asked (domains 0x82F) 0x0C [3, 1]
    ∧ ((powerRequest (domains 0x82F) (setMask ((domains 0x82F).get PWR_REQ_on) 3 true)).map (fun u => u.get PWR_STATE_busy)) = some 0 := by
  unfold Asked; decide +kernel

theorem witness_set_domain : Asked (mailbox 0x0C [0, 0] 1) 0x0C [0, 0] ∧ Asked (mailbox 0x0C [3, 1] 1) 0x0C [3, 1]
    ∧ (((mailbox 0x0C [3, 1] 1).put PWR_STATE_on 0x827).get PWR_STATE_on).testBit 3 = false ∧ Asked ((mailbox 0x0C [3, 1] 1).put PWR_STATE_on 0x827) 0x0C [3, 1]
    ∧ goes (exec .setDomain (mailbox 0x0C [0, 0] 1)) = true ∧ (st (exec .setDomain ((mailbox 0x0C [3, 1] 1).put PWR_STATE_on 0x827))).on MBX_STATUS_busy = true
    ∧ Asked (((mailbox 0x0C [10, 0] 1).putB TW_CFG_en true).put PWR_REQ_on 0xFFF) 0x0C [10, 0]
    ∧ ((((mailbox 0x0C [10, 0] 1).putB TW_CFG_en true).put PWR_REQ_on 0xFFF).get PWR_REQ_on).testBit 10 = true := by unfold Asked; decide +kernel

/-- Which checks fail is decided before any cryptography for these: a message of zeros, a token of zeros, and a token that asks for a transition R519 does not list or
names a signer it does not take. An authentic message or token is one signed with the device's own keys, which are free constants of the configuration (log 6), so no state can be shown to hold one. -/
def tokened (state goal signer : Nat) : State :=
  (mailbox 0x0E [goal, 0x10000000] state).stN 0x10000000 [0x0159434C42, w40 (signer * 2 ^ 16 + goal), 0, 0, 0, 0]
theorem witness_key_update : Asked (mailbox 7 [0x10000000, 100] 1) 7 [0x10000000, 100] ∧ inDram 0x10000000 100 = true ∧ freeUpdSlot (mailbox 7 [0x10000000, 100] 1) = 0
    ∧ updCheck (mailbox 7 [0x10000000, 100] 1) ((List.replicate 100 (0 : Word)).flatMap bytesOf) true = .inl 3
    ∧ goes (exec .keyUpdate (mailbox 7 [0x10000000, 100] 1)) = true := by unfold Asked; decide +kernel
theorem witness_life_cycle : Asked (tokened 3 4 1) 0x0E [4, 0x10000000] ∧ tokenFormed (tokenBytes (mailbox 0x0E [4, 0x10000000] 3) 0x10000000) 4 = false := by
  unfold Asked; decide +kernel

theorem witness_token_roads : tokenFormed (tokenBytes (tokened 3 2 0) 0x10000000) 2 = true ∧ tokenSigners (lifeCycle (tokened 3 2 0)) 2 0 = none
    ∧ tokenFormed (tokenBytes (tokened 3 1 0) 0x10000000) 1 = true ∧ (tokenSigners (lifeCycle (tokened 3 1 0)) 1 0) = some [1]
    ∧ goes (exec .lifeCycle (tokened 3 2 0)) = true ∧ (st (exec .lifeCycle (tokened 3 1 0))).on LCY_EVENTS_token_fail = true := by decide +kernel

/-! ## The Sketchbook -/

/-- The stroke that sets OUT16 low at second 9, and slot 3 that holds it. -/
def pinSlot : Slot := { Slot.free with state := 1, seq := 5, chip := true, stroke := pinStroke }

/-- The counter on the tick of second 9, the executors armed, the ledger at 0x10200000 with slot 3 as `x`. -/
def ledgered (x : Slot) : State :=
  let s := (up [0x078, 0x0E0, 0x0E2, 0x004, 0x020, 0x0C0, 0x012, 0x079]).put SKB_LEDGER_BASE_base 0x10200000
  { s with tb := { s.tb with sec := 9, prev := ⟨8, 1023999999999⟩, counting := true }, skb := { s.skb with armed := true, waits := 0 } }.setLed 3 x

/-- The offer of slot 3 by a core, or by the mailbox, its ledger write to come. -/
def pinOffer (from_ : Option Nat) : Offer :=
  { core := from_, asker := match from_ with | some k => .core k | none => .mailbox, stroke := pinStroke, keeper := false, slot := some 3,
    old := Slot.free, wrote := false, mirrored := false, acked := false, late := false, fromTwin := false, at_ := ⟨8, 0⟩ }
def offered (from_ : Option Nat) : State :=
  let s := (ledgered pinSlot).setCore 5 { core [] with waiting := .sched 1 }
  { s with skb := { s.skb with offers := [pinOffer from_] } }

/-- The same offer with the mailbox's OFFER_STROKE under way. -/
def offeredBy (from_ : Option Nat) : State :=
  let s := ((offered from_).putB MBX_STATUS_busy true).put MBX_DOORBELL_seq 1
  { s with mbx := (offering [9, 0, 0x1400000000, 0] true).mbx }

theorem witness_ledger_write : (offered (some 5)).badBurst (burstOf 0x10200012) = false ∧ (offered (some 5)).skb.offers.find? (fun o => decide (o.slot = some 3) && !o.wrote) = some (pinOffer (some 5))
    ∧ ((offered (some 5)).core 5).waiting = .sched 1 ∧ (∀ p ∈ (offered (some 5)).skb.offers, p.slot.isSome = true)
    ∧ inFlight (offered (some 5)) 3 = true ∧ inFlight (ledgered pinSlot) 3 = false ∧ (ledgered pinSlot).badBurst (burstOf 0x10200012) = false := by decide +kernel
theorem witness_ledger_written : ((st (exec (.ledgerWriteComplete 3) (offered (some 5)))).led 3).commit = true
    ∧ ((st (exec (.ledgerWriteComplete 3) (offered (some 5)))).core 5).waiting = .schedDone 1 5 false ∧ (st (exec (.ledgerWriteComplete 3) (offered none))).ld 0x10200012 = 9
     := by decide +kernel
theorem witness_ledger_mailbox : mbxCode (offeredBy none) = 0x05 ∧ (offeredBy none).on MBX_STATUS_busy = true
    ∧ (offeredBy none).skb.offers.find? (fun o => decide (o.slot = some 3) && !o.wrote) = some (pinOffer none)
    ∧ respWord (st (exec (.ledgerWriteComplete 3) (offeredBy none))) 0 = 2 ^ 63 + 2 ^ 48 + 2 ^ 40 + 5 := by decide +kernel
/-- What a read-back finds: a word that differs from the on-chip copy, the slot as written, or a word that does not verify. -/
theorem witness_ledger_readback : slotPending pinSlot = true ∧ onChip (ledgered pinSlot) 3 = true ∧ onChip (ledgered { pinSlot with chip := false }) 3 = false
    ∧ (st (exec (.ledgerReadback 3) (ledgered pinSlot))).on SKB_EVENTS_check_fail = true
    ∧ (st (exec (.ledgerReadback 3) ((ledgered { pinSlot with chip := false }).stN 0x10200012 (slotWords pinSlot)))).skb = (ledgered pinSlot).skb
    ∧ strokeOk { hi := 1, lo := 0, act := 0, tag := 0, chk := 0 } = false
    ∧ (st (exec (.ledgerReadback 3) ((ledgered { pinSlot with chip := false }).st 0x10200012 1))).fix.fatal = true := by decide +kernel
theorem witness_ledger_handoff : inNear (ledgered { pinSlot with commit := true }) 3 = true ∧ strokeOk pinStroke = true
    ∧ ((st (exec (.strokeHandoff 3) (ledgered { pinSlot with commit := true }))).led 3).state = 2
    ∧ t80Lt ((up []).afterNs 10000) (strokeAt pinStroke) = true ∧ goes (exec (.statusWriteback 3) (ledgered pinSlot)) = true := by decide +kernel
/-- Recovery of an empty ledger, and of one slot that is DONE. -/
def recovering (cold : Bool) : State :=
  let s := ((ledgered Slot.free).putB SKB_STATUS_recovering true).stN 0x10200012 (if cold then [] else slotWords { pinSlot with state := 3 })
  { s with skb := { s.skb with cold := cold } }
theorem witness_recovery_reads : (recovering false).dramErr = [] ∧ (recovering false).skb.cold = false ∧ (recovering false).skb.offers = []
    ∧ twStandby (recovering false) = false ∧ goes (exec .ledgerRecovery (ledgered Slot.free)) = true := by decide +kernel
theorem witness_recovery : (recovering true).on SKB_STATUS_recovering = true ∧ (recovering true).skb.offers = [] ∧ (recovering true).skb.cold = true
    ∧ ledgerSlots (recovering false) = [3] ∧ slotPending (slotOfWords ((recovering false).ldN (slotAddr (recovering false) 3) 6)) = false
    ∧ ((st (exec .ledgerRecovery (recovering false))).led 3).state = 3 ∧ (st (exec .ledgerRecovery (recovering true))).on SKB_CTL_accept_en = true := by decide +kernel

/-- Slot 3 dispatched with a stroke of second 9. -/
def due (k : Stroke) : State := ledgered { pinSlot with state := 2, commit := true, stroke := k }
/-- OUT16 in pulse mode; a pulse of 3 µs on it; a word for FIFO 9. -/
def pinned (k : Stroke) : State := (due k).put (OUTk_CFG_mode 16) 2
def pulse : Stroke := mkStroke 9 0 (w40 (2 ^ 36 + 16 * 2 ^ 30 + 2 ^ 29 + 2 ^ 26 + 3)) 0
def pushStroke : Stroke := mkStroke 9 0 (w40 (5 * 2 ^ 36 + 9 * 2 ^ 28 + 77)) 0

theorem witness_pin_stroke : DueStroke (pinned pinStroke) 3 1 ∧ (pinned pinStroke).onTick (strokeAt pinStroke) = true ∧ DueStroke (pinned pulse) 3 1
    ∧ pinMoves (pinned pulse) 16 = true ∧ pinVisible (pinned pulse) 16 = false ∧ isPulse pulse = true ∧ isPulse pinStroke = false
    ∧ (up []).onTick (strokeAt pinStroke) = false ∧ (st (exec (.pinStrokeExecute 3) (pinned pulse))).level 16 = true
    ∧ (st (exec (.pinStrokeExecute 3) (pinned pulse))).skb.trails = [⟨3, 5, 16, ⟨9, 3072000⟩, false⟩] := by unfold DueStroke; decide +kernel

/-- The pulse's trailing edge to come, and one that is due. -/
def trailing (t : T80) : State :=
  let s := pinned pulse
  { s with skb := { s.skb with trails := [⟨3, 5, 16, t, false⟩] } }
theorem witness_trailing_edge : (trailing ⟨9, 0⟩).skb.trails.find? (fun t => decide (t.slot = 3)) = some ⟨3, 5, 16, ⟨9, 0⟩, false⟩ ∧ (trailing ⟨9, 0⟩).reached ⟨9, 0⟩ = true
    ∧ (trailing ⟨9, 1⟩).reached ⟨9, 1⟩ = false ∧ ((st (exec (.pulseTrailingEdge 3) (trailing ⟨9, 0⟩))).led 3).state = 3 := by decide +kernel

/-- A PUSH stroke for FIFO 9, and one that waits for it. -/
def pushDue (q : Fifo) : State := (due pushStroke).setFifo 9 q
def pushHeld (q : Fifo) : State := { pushDue q with skb := { (pushDue q).skb with pushWait := [3] } }
theorem witness_push_stroke : DueStroke (pushDue plain) 3 5 ∧ pushFifo pushStroke = 9 ∧ (pushDue Fifo.reset |>.fifo 9).en = false ∧ unitErr (pushDue plain) FIFO_IDX = none
    ∧ DueStroke (pushDue full) 3 5 ∧ DueStroke (pushDue Fifo.reset) 3 5
    ∧ fifoTakes (pushDue plain) 9 strokeMaster 0 = true ∧ fifoTakes (pushDue full) 9 strokeMaster 0 = false ∧ fifoFramed plain 0 = true
    ∧ (st (exec (.pushStrokeExecute 3) (pushDue full))).skb.pushWait = [3] ∧ ((st (exec (.pushStrokeExecute 3) (pushDue Fifo.reset))).led 3).report = 5
    ∧ ((st (exec (.pushStrokeExecute 3) (pushDue plain))).fifo 9).closed = [[77]] := by unfold DueStroke; decide +kernel
theorem witness_push_deferred : (pushHeld plain).skb.pushWait.find? (pushesTo (pushHeld plain) 9) = some 3 ∧ strokeOk pushStroke = true
    ∧ (pushHeld plain).skb.armed = true ∧ (pushHeld plain).fix.fatal = false ∧ fifoTakes (pushHeld plain) 9 strokeMaster 0 = true ∧ fifoTakes (pushHeld full) 9 strokeMaster 0 = false
    ∧ ((st (exec (.pushStrokeDeferred 3) (pushHeld plain))).fifo 9).closed = [[77]] := by decide +kernel

/-- A REGWR stroke of second 9. -/
def regStroke (a v : Nat) : Stroke := mkStroke 9 0 (w40 (3 * 2 ^ 36 + a / 256 * 2 ^ 28 + a % 256 * 2 ^ 20 + v)) 0
/-- A step of 1 s with the threshold at 1 ns, or with none. -/
def stepping (thresh v : Nat) : State := (due (regStroke TB_STEP_S v)).put TB_STEP_THRESH_thresh thresh
theorem witness_time_step : DueStroke (stepping 1 1) 3 3 ∧ (stepping 1 1).tb.phi < 2 ^ 48 ∧ fieldOf (regStroke TB_STEP_S 1).act 27 20 = 8 ∧ fieldOf (regStroke TB_STEP_US 1).act 27 20 = 7
    ∧ fieldOf (regStroke TB_STEP_S 1).act 35 28 = 4 ∧ stepResult (stepping 1 1) 1 1 = 0 ∧ stepResult (stepping 0 1) 1 1 = 1 ∧ stepResult (stepping 1 0xFFFF6) 1 (-10) = 3
    ∧ goes (exec (.timeStep 3) (stepping 1 1)) = true ∧ (st (exec (.timeStep 3) (stepping 0 1))).on TB_EVENTS_step_refused = true := by unfold DueStroke; decide +kernel
/-- A stroke pending inside the step's span blocks it. -/
theorem witness_step_blocked : stepResult ((stepping 1 1).setLed 4 { pinSlot with commit := true, stroke := mkStroke 10 0 0x1400000000 0 }) 1 1 = 2 := by decide +kernel
def leaping (v : Nat) (l61 l59 : Bool) : State := ((due (regStroke TB_LEAP_EXEC v)).putB TB_LEAP_leap61 l61).putB TB_LEAP_leap59 l59
theorem witness_leap : DueStroke (leaping 1 true false) 3 3 ∧ fieldOf (regStroke TB_LEAP_EXEC 1).act 27 20 = 0x10 ∧ (leaping 1 true false).on TB_LEAP_leap61 = true
    ∧ (leaping 1 true false).on TB_LEAP_leap59 = false ∧ (st (exec (.leapExec 3) (leaping 1 true false))).get TB_UTC_OFS_ofs = 1
    ∧ (st (exec (.leapExec 3) (leaping 1 false true))).get TB_UTC_OFS_ofs = 0xFFFF ∧ goes (exec (.leapExec 3) (leaping 1 false false)) = true
    ∧ goes (exec (.leapExec 3) (leaping 0 true true)) = true ∧ stop (exec (.leapExec 3) (leaping 1 true true)) = some .unpredictable
    ∧ stop (exec (.leapExec 3) (leaping 2 false false)) = some .unpredictable := by unfold DueStroke; decide +kernel

theorem witness_regwr : DueStroke (due (regStroke TB_STEER 5)) 3 3 ∧ regwrStep (regStroke TB_STEER 5) = false ∧ Writes (due (regStroke TB_STEER 5)) ⟨24, false⟩ TB_STEER 5
    ∧ (lateReport (due (regStroke TB_STEER 5)) ((due (regStroke TB_STEER 5)).led 3)).1 = 0 ∧ regErr (due (regStroke 0x7700 5)) ⟨24, false⟩ 0x7700 true ≠ none
    ∧ (due (regStroke TB_STEER 5)).on TW_CFG_en = false ∧ (st (exec (.regwrStrokeExecute 3) (due (regStroke TB_STEER 5)))).rd TB_STEER = 5
    ∧ goes (exec (.regwrStrokeExecute 3) (due (regStroke 0x7700 5))) = true := by unfold DueStroke Writes Uninjected; decide +kernel

def phaseStroke (n v : Nat) : Stroke := mkStroke 9 0 (w40 (2 * 2 ^ 36 + n * 2 ^ 34 + v)) 0
theorem witness_phase : DueStroke (due (phaseStroke 0 7)) 3 2 ∧ unitErr (due (phaseStroke 0 7)) (VARn_CTL 0) = none ∧ unitErr (due (phaseStroke 1 7)) (VARn_CTL 1) ≠ none
    ∧ DueStroke (due (phaseStroke 1 7)) 3 2 ∧ (st (exec (.phaseStrokeExecute 3) (due (phaseStroke 0 7)))).rd (VARn_PHASE 0) = 7
    ∧ ((st (exec (.phaseStrokeExecute 3) (due (phaseStroke 1 7)))).led 3).report = 5 := by unfold DueStroke; decide +kernel

def keyStroke (j : Nat) : Stroke := mkStroke 9 0 (w40 (7 * 2 ^ 36 + j)) 0
/-- A pair for handle 2, and a definition. -/
def updOp (code handle : Nat) : UpdOp := { code := code, kind := 1, handle := handle, parent := 3, perm := 1, label := [7], secret := List.replicate 32 9 }
def keyDue (ops : List UpdOp) : State :=
  let s := due (keyStroke 2)
  { s with kv := { s.kv with slots := [(2, { ops := ops, counter := 1, effect := 9 })] } }
theorem witness_keyupd : DueStroke (due (keyStroke 2)) 3 7 ∧ (due (keyStroke 2)).kv.slots = [] ∧ DueStroke (keyDue [updOp 1 2]) 3 7 ∧ unitErr (keyDue []) KV_CTL = none
    ∧ (keyDue [updOp 1 2]).kv.slots.find? (fun e => decide (e.1 = 2)) = some (2, { ops := [updOp 1 2], counter := 1, effect := 9 })
    ∧ (st (exec (.keyupdStrokeExecute 3) (keyDue [updOp 1 2]))).kv.pair = some (List.replicate 32 9)
    ∧ (st (exec (.keyupdStrokeExecute 3) (keyDue [updOp 1 3]))).kv.opRoot = some (List.replicate 32 9)
    ∧ (st (exec (.keyupdStrokeExecute 3) (keyDue [updOp 2 0x100]))).kv.defs.map (fun d => d.1) = [0x100]
    ∧ ((st (exec (.keyupdStrokeExecute 3) (due (keyStroke 2)))).led 3).report = 5 := by unfold DueStroke; decide +kernel

def attStroke : Stroke := mkStroke 9 0 (w40 (6 * 2 ^ 36)) 0
theorem witness_attest : DueStroke (due attStroke) 3 6 ∧ unitErr (due attStroke) GLZ_CTL = none
    ∧ goes (exec (.attestStrokeExecute 3) ((due attStroke).put GLZ_ATT_BASE_base 0x10000000)) = true := by unfold DueStroke; decide +kernel
/-- A record of second 9, or of second 8, waiting for its signature. -/
def attPending (sec : Nat) : State :=
  let s := (due attStroke).put GLZ_ATT_BASE_base 0x10000000
  { s with glz := { s.glz with recs := [{ serial := 1, sec := sec, words := List.replicate 48 5, sig := 0 }] } }
theorem witness_attest_end : attLate (attPending 9) { serial := 1, sec := 9, words := List.replicate 48 5, sig := 0 } = false
    ∧ (attPending 8).glz.recs.find? (fun r => decide (r.serial = 1)) = some { serial := 1, sec := 8, words := List.replicate 48 5, sig := 0 }
    ∧ attLate (attPending 8) { serial := 1, sec := 8, words := List.replicate 48 5, sig := 0 } = true
    ∧ (st (exec (.attestDeadline 1) (attPending 8))).on GLZ_EVENTS_att_unsigned = true ∧ (st (exec (.attestDeadline 1) (attPending 8))).glz.recs = []
    ∧ goes (exec (.attestSigned 1) (attPending 9)) = true := by decide +kernel

/-- The executors wait for t_resume. -/
def rearming (resume : Nat) : State :=
  let s := (due pinStroke).put SKB_T_RESUME_HI_val resume
  { s with skb := { s.skb with waits := 2, armed := false } }
theorem witness_rearm : (rearming 9).skb.waits = 2 ∧ (rearming 9).fix.fatal = false ∧ (rearming 9).lcy.stopped = false ∧ (st (exec .executorsRearm (rearming 9))).skb.armed = true
    ∧ (st (exec .executorsRearm (rearming 10))).skb.armed = false := by decide +kernel

/-- 1 ms after a pulse on OUT16, the PPS output when nothing is optioned. -/
def ppsDone : State :=
  let s := (pinned pulse).setLed 3 { pinSlot with state := 3, commit := true, stroke := pulse }
  { s with tb := { s.tb with ns := 1000000 } }
theorem witness_tod : ppsOut ppsDone = some 16 ∧ houseRuns ppsDone 11 = true ∧ strokePin pulse = 16 ∧ strokeAt pulse = ⟨ppsDone.now.sec, 0⟩
    ∧ 900000 ≤ ppsDone.tb.ns ∧ ppsDone.tb.ns ≤ 1100000 ∧ ppsDone.tod = none ∧ isPulse pulse = true
    ∧ (3, (ppsDone.led 3)) ∈ ppsDone.skb.slots ∧ (st (exec .todMessage ppsDone)).tod.isSome = true := by decide +kernel

/-! ## The timebase -/

/-- Units up, the counter at second 9 and counting. -/
def ticking : State := ledgered Slot.free
theorem witness_tick : State.reset.tb.counting = false ∧ ticking.tb.counting = true ∧ (st (exec .timebaseTick ticking)).tb.ns = 1 ∧ palDue State.reset = false ∧ palDue ticking = true
    ∧ goes (exec (.paletteTick 0) ticking) = true := by decide +kernel
theorem witness_steering : Writes ticking host TB_STEER 7 ∧ ticking.on UND_CTL_run = false ∧ (ticking.putB UND_CTL_run true).on UND_CTL_run = true ∧ Writes ticking host TB_SLEW_ADD 3
    ∧ stop (exec (.tbSteerWrite host 7) (ticking.putB UND_CTL_run true)) = some .unpredictable ∧ (st (exec (.tbSteerWrite host 7) ticking)).rd TB_STEER = 7
    ∧ (st (exec (.tbSlewAddWrite host 3) ticking)).tb.rem = 3000000000000 := by unfold Writes Uninjected; decide +kernel
/-- A load armed for second 1000. -/
def armed (w : Word) : State := { ticking with tb := { ticking.tb with load := some (1000, w) } }
theorem witness_load : Writes ticking keeper TB_LOAD_LO 1023999999999 ∧ ticking.on TB_STATUS_time_valid = false ∧ ticking.tb.load = none ∧ (armed 5).tb.load.isSome = true
    ∧ (1023999999999 : Word).toNat < 1024000000000 ∧ (st (exec (.tbLoadLoWrite keeper 5) ticking)).tb.load = some (0, 5) ∧ (st (exec .timeLoad (armed 1023999999999))).now = ⟨1000, 1023999999999⟩
    ∧ (st (exec (.tbLoadLoWrite keeper 5) (armed 5))).on TB_EVENTS_load_ignored = true := by unfold Writes Uninjected; decide +kernel
theorem witness_direct_steps : (∀ which : Fin 3, regErr ticking keeper (([TB_STEP_US, TB_STEP_S, TB_LEAP_EXEC] : List Nat).getD which.val 0) true = none)
    ∧ (st (exec (.tbDirectStepWrite keeper 0 5) ticking)).on TB_EVENTS_direct_ignored = true
    ∧ (ticking.putB TB_STATUS_in_leap true).on TB_STATUS_in_leap = true ∧ ticking.reached ticking.tb.leapEnd = true ∧ State.reset.reached ⟨0, 1⟩ = false
    ∧ (st (exec .leapEnd (ticking.putB TB_STATUS_in_leap true))).on TB_STATUS_in_leap = false ∧ t80Units ticking.steady / 1024000000 ≠ ticking.tb.compared
    ∧ unitErr ticking (0x020 * 256) = none ∧ (st (exec (.copyCompare ⟨0x020, 1⟩) ticking)).fix.fatal = true ∧ ticking.tb.copies = [] := by decide +kernel

/-! ## The vault and the tamper monitor -/

theorem witness_epoch : DueStroke (due (keyStroke 0xFFFF)) 3 7 ∧ fieldOf (keyStroke 0xFFFF).act 15 0 = 0xFFFF ∧ unitErr (due (keyStroke 0xFFFF)) KV_CTL = none
    ∧ unitErr ((due (keyStroke 0xFFFF)).putB (UNIT_STATUS_fenced 0x0C0) true) KV_CTL ≠ none ∧ DueStroke ((due (keyStroke 0xFFFF)).putB (UNIT_STATUS_fenced 0x0C0) true) 3 7
    ∧ (st (exec (.ntsEpochRoll 3) (due (keyStroke 0xFFFF)))).get KV_NTS_EPOCH_epoch = 1 := by unfold DueStroke; decide +kernel
/-- The vault enabled, its next roll at second `t`. -/
def rolling (t : Nat) : State := (ticking.putB KV_CTL_en true).put KV_NTS_NEXT_HI_val t
theorem witness_prederive : (rolling 10).on KV_CTL_en = true ∧ (rolling 10).getT KV_NTS_NEXT_HI KV_NTS_NEXT_LO = ⟨10, 0⟩ ∧ (rolling 10).now.sec + 1 = 10
    ∧ (st (exec .keyPrederive (rolling 10))).kv.cache.head? = some 0x011 ∧ (st (exec .keyPrederive (rolling 11))).kv.cache = [] := by decide +kernel
/-- A request at the public-key engine; a DRBG that has given its fill. -/
def requested (op : Nat) : State := { ticking with kv := { ticking.kv with pke := [⟨false, op, none, true⟩], drbgUsed := 2 ^ 20 } }
theorem witness_engine : ticking.kv.pke = [] ∧ (st (exec .pkeOpDone (requested 1))).get PKE_CNT_FAIL_count = 1 ∧ (st (exec .pkeOpDone (requested 1))).get PKE_CNT_VERIFY_count = 1
    ∧ (st (exec .drbgHealthFail ticking)).on KV_EVENTS_drbg_fail = true ∧ (st (exec .drbgRecover ticking)).on KV_STATUS_drbg_ok = true
    ∧ (st (exec .drbgReseed (requested 1))).kv.drbgUsed = 0 := by decide +kernel
/-- A message of zeros fails its first check; one that passes is signed with a key whose digest is fused, a free constant (log 6). -/
theorem witness_update : Writes ticking keeper KV_CMD (w40 (15 * 4 + 1)) ∧ updCheck ticking (windowBytes ticking (updLength 16)) true = .inl 3 ∧ Writes ticking keeper KV_CMD 2
    ∧ (st (exec (.verifyUpdate keeper 15) ticking)).get KV_LAST_UPD_slot = 15 ∧ (st (exec (.discardSlot keeper 2) (keyDue [updOp 1 2]))).kv.slots = [] := by
  unfold Writes Uninjected; decide +kernel
theorem witness_tamper : tamperEnabled ticking 11 = true ∧ tamperEnabled State.reset 0 = false ∧ ticking.tmpOn.testBit 11 = false
    ∧ goes (exec (.tamperAlarm 0 7 ⟨true, false⟩) ticking) = true ∧ (st (exec (.tamperAlarm 11 7 ⟨true, false⟩) (st (exec (.tamperAlarm 11 7 ⟨true, true⟩) ticking)))).tmpOn = 0
    ∧ (st (exec (.tamperAlarm 11 7 ⟨true, true⟩) ticking)).get MBX_STATUS_state = 4
    ∧ (st (exec (.tamperAlarm 11 7 ⟨true, true⟩) ticking)).rd TMP_SLOW = 7 := by decide +kernel

/-! ## Power, clocks, resets and bring-up -/

/-- As `ticking`, with the Reset and Power units up and a Brush group's. -/
def powered (us : List Nat) : State := up ([0x000, 0x001, 0x005] ++ us)
theorem witness_local_reset : Writes (powered [0x020]) keeper RST_LOCAL 0x020 ∧ Writes (powered []) keeper RST_LOCAL (w40 (4096 + 0x061)) ∧ Writes (powered []) keeper RST_LOCAL 0x100
    ∧ unitDomain 0x100 = none ∧ unitDomain 0x020 = some domCLK ∧ localRefused (powered [0x020]) keeper 0x020 = false ∧ localRefused (powered []) keeper 0x0E0 = true
    ∧ domainOn (powered []) domCLK = true ∧ domainOn ((powered []).put PWR_STATE_on 0x827) 3 = false ∧ unitDomain 0x040 = some 3
    ∧ localRefused ((powered []).put PWR_STATE_on 0x827) keeper 0x040 = false
    ∧ (clusterUnits 0x061).any (localRefused (powered []) keeper) = false
    ∧ (st (exec (.localReset keeper 0x020 false) (powered [0x020]))).on (UNIT_STATUS_in_reset 0x020) = true
    ∧ (st (exec (.localReset keeper 0x0E0 false) (powered []))).get RST_LOCAL_ST_result = 1 ∧ (st (exec (.localReset keeper 0x100 false) (powered []))).get RST_LOCAL_ST_result = 3
    ∧ (st (exec (.localReset keeper 0x040 false) ((powered []).put PWR_STATE_on 0x827))).get RST_LOCAL_ST_result = 2 := by unfold Writes Uninjected; decide +kernel
/-- The unit held in local reset, 100 ns later or at once. -/
def localHeld (ns : Nat) : State :=
  { (powered [0x020]).putB (UNIT_STATUS_in_reset 0x020) true with tb := { State.reset.tb with ns := ns }, rst := { RstSt.reset with localUnits := [(0x020, ⟨0, 0⟩)] } }
theorem witness_release : (localHeld 100).rst.localUnits = [(0x020, ⟨0, 0⟩)] ∧ (localHeld 100).elapsed (t80Add ⟨0, 0⟩ 102400) = true
    ∧ (localHeld 99).elapsed (t80Add ⟨0, 0⟩ 102400) = false ∧ (localHeld 100).on (UNIT_STATUS_fenced 0x020) = false ∧ (localHeld 100).rst.clockBad = []
    ∧ (st (exec .localResetRelease (localHeld 100))).on (UNIT_STATUS_in_reset 0x020) = false
    ∧ (st (exec .localResetRelease (localHeld 99))).on (UNIT_STATUS_in_reset 0x020) = true := by decide +kernel

/-- Domains 0, 1, 2, 5 and 11 on, with requests and changes as given. -/
def changing (on req busy : Nat) : State := (((powered []).put PWR_STATE_on on).put PWR_REQ_on req).put PWR_STATE_busy busy
theorem witness_domains : Writes (changing 0x827 0x827 0) keeper PWR_REQ 0x82F ∧ powerRequest (changing 0x827 0x827 0) 0x82F ≠ none ∧ powerRequest ((changing 0xFFF 0xFFF 0).putB TW_CFG_en true) 0x827 = none
    ∧ Writes ((changing 0xFFF 0xFFF 0).putB TW_CFG_en true) keeper PWR_REQ 0x827 ∧ (((changing 0x827 0x82F 8).get PWR_STATE_busy).testBit 3 = true) ∧ ((changing 0x827 0x82F 8).get PWR_REQ_on).testBit 3 = true
    ∧ ((domainNeeds 3).all (fun x => ((changing 0x827 0x82F 8).get PWR_STATE_on).testBit x) = true) ∧ ((domainNeeds 7).all (fun x => ((changing 0x827 0x82F 8).get PWR_STATE_on).testBit x) = false)
    ∧ (st (exec (.domainRequest keeper 0x82F) (changing 0x827 0x827 0))).get PWR_STATE_busy = 8 ∧ (st (exec (.domainChangeDone 3) (changing 0x827 0x82F 8))).get PWR_STATE_on = 0x82F
    ∧ (st (exec (.domainChangeDone 3) (changing 0x82F 0x827 8))).get PWR_STATE_on = 0x827
    ∧ (st (exec (.domainRequest keeper 0x827) ((changing 0xFFF 0xFFF 0).putB TW_CFG_en true))).on PWR_EVENTS_refused = true := by unfold Writes Uninjected; decide +kernel

/-- Unit 0x020 held for its clock. -/
def clockHeld : State := { (powered [0x020]).putB (UNIT_STATUS_in_reset 0x020) true with rst := { RstSt.reset with clockBad := [0x020] } }
theorem witness_clocks : unitDomain 0x020 = some domCLK ∧ domainOn clockHeld domCLK = true ∧ domainOn ((powered []).put PWR_STATE_on 0x827) 3 = false ∧ unitDomain 0xFFF = none
    ∧ clockHeld.on (UNIT_STATUS_fenced 0x020) = false ∧ (st (exec (.clockGood 0x020) clockHeld)).on (UNIT_STATUS_in_reset 0x020) = false
    ∧ (st (exec (.unitClockBad 0x020) (powered [0x020]))).get CKG_CLK_BAD_UNIT_unit = 0x020 ∧ goes (exec (.clockIdleStop 0x020) (powered [0x020])) = true
    ∧ (powered []).on CKG_STATUS_tb_frozen = false ∧ (st (exec .oscLost (powered []))).on CKG_STATUS_tb_frozen = true := by decide +kernel
theorem witness_losses : goes (exec (.pllUnlock 0) (powered [])) = true ∧ (st (exec (.pllUnlock 1) (powered []))).fix.fatal = true
    ∧ ((powered []).putB CKG_STATUS_atom_ok true).on CKG_STATUS_atom_ok = true ∧ (st (exec .atomInLost ((powered []).putB CKG_STATUS_atom_ok true))).on CKG_EVENTS_atom_lost = true
    ∧ (st (exec .supplyLow (powered []))).on PWR_EVENTS_supply_low = true := by decide +kernel
theorem witness_role : twActive (((powered []).putB TW_CFG_en true).put TW_STATUS_role 1) = true ∧ twActive (powered []) = false := by decide +kernel

/-- A device past its bring-up, or in stage `n` of it. -/
def staged (n : Nat) : State := { ledgered pinSlot with rst := { RstSt.reset with step := n } }
theorem witness_resets : (staged 8).rst.resetN = true ∧ (staged 8).rst.pwrGood = true ∧ (staged 8).on CKG_STATUS_tb_frozen = false
    ∧ ((staged 8).putB CKG_STATUS_tb_frozen true).on CKG_STATUS_tb_frozen = true ∧ (staged 8).skb.offers = [] ∧ (staged 8).rst.cold = true
    ∧ (staged 2).rst.step < 8 := by decide +kernel
theorem witness_reset_warm : (st (exec .resetPinAssert (staged 8))).now = ⟨9, 0⟩ := by decide +kernel
theorem witness_reset_cold : (st (exec .resetPinAssert ((staged 8).putB CKG_STATUS_tb_frozen true))).now = ⟨0, 0⟩
    ∧ (st (exec .resetPinAssert (staged 2))).rst.cold = true := by decide +kernel
/-- The reset pin low since second 8.5 or 8.9, the counter at second 9. -/
def pinLow (ms : Nat) : State := let s := staged 8; { s with rst := { s.rst with resetN := false, cold := false, lowAt := some ⟨8, ms * 1024000000⟩ } }
theorem witness_escalation : (pinLow 500).elapsed (t80Add ⟨8, 500 * 1024000000⟩ 255989760000) = true ∧ (pinLow 900).elapsed (t80Add ⟨8, 900 * 1024000000⟩ 255989760000) = false
    ∧ (st (exec .resetEscalation (pinLow 500))).on RST_CAUSE_escalated = true := by decide +kernel
theorem witness_pin_release : (st (exec .resetPinRelease (pinLow 900))).on PRM_STATUS_busy = true := by decide +kernel
theorem witness_power_loss : (st (exec .powerGoodFall (staged 8))).rst.pwrGood = false ∧ (st (exec .coreUndervoltage (staged 8))).get RST_CAUSE_cause = 1 := by decide +kernel

/-- What a stage reports: no option record, all good. -/
def found : StageResult := { fuse := 0, copyA := [], copyB := [], us := 0, osc := 0, pllOk := true, atomOk := true, images := [] }
/-- The links, as the last of them trains, or has failed three times. -/
def linking (at_ tries : Nat) : State := { staged 1 with rst := { RstSt.reset with linkAt := at_, linkTries := tries } }
theorem witness_links : goes (exec (.dieLinkTrain true) (linking 1 0)) = true ∧ (st (exec (.dieLinkTrain false) (linking 0 2))).get RST_CAUSE_link_fail = 1 ∧ (st (exec (.dieLinkTrain false) (linking 1 1))).rst.linkTries = 2
    ∧ (st (exec (.bringUpStageDone found) (linking 2 0))).rst.step = 2 := by decide +kernel
theorem witness_stage_fuses : (st (exec (.bringUpStageDone { found with fuse := 2 }) (staged 2))).rst.held = true
    ∧ (st (exec (.bringUpStageDone found) (staged 2))).rst.step = 3 ∧ copyOk found.copyA = false := by decide +kernel
theorem witness_stage_oscillator : (st (exec (.bringUpStageDone { found with pllOk := false }) (staged 3))).fix.fatal = true
    ∧ (st (exec (.bringUpStageDone found) (staged 3))).tb.counting = true := by decide +kernel
theorem witness_stage_memory : (st (exec (.bringUpStageDone found) (staged 4))).rst.step = 5 := by decide +kernel
theorem witness_stage_keeper : ((st (exec (.bringUpStageDone found) (staged 5))).core 0).keeper = true := by decide +kernel
/-- Stage 6 after a warm reset, only the domains on that stay on. -/
def warmStaged : State := { (staged 6).put PWR_STATE_on 0x827 with rst := { RstSt.reset with step := 6, cold := false } }
theorem witness_stage_key : goes (exec (.bringUpStageDone found) (staged 6)) = true ∧ (st (exec (.bringUpStageDone found) warmStaged)).on SKB_STATUS_recovering = true := by decide +kernel
theorem witness_stage_end : (staged 7).get PWR_STATE_busy = 0 ∧ (staged 7).get MBX_STATUS_state = 0
    ∧ goes (exec (.bringUpStageDone found) (staged 7)) = true := by decide +kernel
/-- An option record with nothing set, as R466 has it: its magic number, version, length and check. -/
def record : List Word :=
  let ws : List Word := [0x4F505431, w40 (2 ^ 32 + 128)] ++ List.replicate 126 0
  ws.set 127 (w40 (crc32c ((ws.take 127).flatMap bytesOf)))

theorem witness_powering : (linking 0 0).rst.pwrGood = true ∧ goes (exec (.powerGoodRise true 7) { staged 1 with rst := { RstSt.reset with pwrGood := false } }) = true
    ∧ (st (exec (.powerGoodRise false 7) ({ staged 1 with rst := { RstSt.reset with pwrGood := false } }.put KV_ANCHOR_anchors 2))).get KV_UPD_CTR_counter = 8192
    ∧ (staged 7).rst.perstN = false ∧ (st (exec .pcieLinkUp (st (exec .pciePerstRelease (staged 7))))).rst.pcieUp = true ∧ (staged 7).rst.pcieTraining = false := by decide +kernel

/-! ## The host, memory and the FIFO ports -/

/-- The PCIe link is up, the mailbox, DRAM, FIFO and the fault units answer. -/
def linked : State :=
  let s := up [0x079, 0x0E0, 0x0E1, 0x0E2, 0x0F0, 0x0F2, 0x012, 0x011, 0x010]
  { s with rst := { s.rst with pcieUp := true, step := 8 } }
theorem witness_host_read : State.reset.rst.pcieUp = false ∧ (st (exec (.hostRead 2 4 8) linked)).host.abort = true ∧ (st (exec (.hostRead 2 0 4096) linked)).host.data.length = 512
    ∧ unitErr linked MBX_DOORBELL = none ∧ (st (exec (.hostRead 1 1016 8) linked)).host.data = [0] ∧ barSize 1 ≥ 1024 ∧ memReadErr linked hostMaster 0x10000000 = none
    ∧ memReadErr linked hostMaster (0x10000000 + 0x2FFFFFF) = none ∧ (st (exec (.hostRead 2 0 8) (linked.setBurst 0 true))).host.abort = true
    ∧ (memReadErr (linked.setBurst 0 true) hostMaster 0x10000000).isSome = true := by decide +kernel
theorem witness_host_write : tabGet (fun _ => 0) (st (exec (.hostWrite 1 504 [7] 0) linked)).mbx.win 63 = 7 ∧ (st (exec (.hostWrite 2 4 [7] 0) linked)).on MTX_EVENTS_err = true
    ∧ memWriteErr linked hostMaster 0x10000000 = none ∧ ledgerWord linked 0x10000002 = false ∧ (st (exec (.hostWrite 2 8 [7, 9] 0) linked)).ld 0x10000002 = 9 ∧ goes (exec (.hostWrite 2 0 [7] 3) linked) = true := by decide +kernel
def scrubbing : State := (linked.putB MEM_STATUS_ready true).putB MEM_SCRUB_en true
theorem witness_scrub : scrubbing.on MEM_STATUS_ready = true ∧ scrubbing.on MEM_SCRUB_en = true ∧ linked.on MEM_STATUS_ready = false ∧ unitErr scrubbing MEM_STATUS = none
    ∧ scrubbing.badBurst (scrubbing.get MEM_SCRUB_POS_burst) = false ∧ (scrubbing.setBurst 0 true).badBurst 0 = true ∧ (st (exec (.scrubStep 4 1) scrubbing)).get MEM_CNT_CORR_count = 1
    ∧ (st (exec (.scrubStep 0 2) scrubbing)).get MEM_ERR_ADDR_addr = 0x10000000 ∧ (st (exec (.scrubStep 0 0) (scrubbing.put MEM_SCRUB_POS_burst 0x3FFFFF))).on MEM_EVENTS_pass_done = true := by decide +kernel

/-- The scrubber's last step an instant ago. -/
def scrubbed : State := { scrubbing with scrubAt := some ⟨0, 0⟩ }
theorem witness_scrub_rate : scrubbing.scrubAt = none ∧ scrubbed.elapsed (t80Add ⟨0, 0⟩ ((scrubPeriod scrubbed : Nat) : Int)) = false
    ∧ (st (exec (.scrubStep 0 0) scrubbed)).get MEM_SCRUB_POS_burst = 0 := by decide +kernel

/-- FIFO 9 as `q`. -/
def fifoAs (q : Fifo) : State := linked.setFifo 9 q
theorem witness_fifo_ports : unitErr (fifoAs plain) FIFO_IDX = none ∧ (fifoAs plain).fifoWait = [] ∧ ((fifoAs plain).fifo 9).en = true ∧ plain.owner = none ∧ fifoFramed packet 0 = false ∧ fifoFramed packet 3 = true
    ∧ stop (exec (.fifoDataWrite host 9 7) (fifoAs packet)) = some .unpredictable ∧ ((st (exec (.fifoOnlyWrite host 9 7) (fifoAs packet))).fifo 9).closed.length = 1
    ∧ fifoTakes (fifoAs full) 9 20 0 = false ∧ (st (exec (.fifoDataWrite host 9 7) (fifoAs full))).on FIFO_EVENTS_host_drop = true
    ∧ (st (exec (.fifoDataWrite keeper 9 7) (fifoAs full))).fifoWait = [{ fifo := 9, master := 0, frame := 0, word := 7, core := none }] ∧ goes (exec (.fifoFirstWrite host 9 7) (fifoAs Fifo.reset)) = true
    ∧ goes (exec (.fifoLastWrite host 9 7) (fifoAs { packet with owner := some 20 })) = true := by decide +kernel
theorem witness_fifo_wash : ((st (exec (.fifoWashWrite host 9 7) (fifoAs full))).fifo 9).closed = [] ∧ ((st (exec (.fifoWashWrite host 9 7) (fifoAs { packet with owner := some 3 }))).fifo 9).cut = true
    ∧ ({ packet with cut := true } : Fifo).cut = true ∧ ((st (exec (.fifoCutReached 9) (fifoAs { packet with cut := true }))).fifo 9).nWash = 1
    ∧ goes (exec (.fifoCutReached 9) (fifoAs packet)) = true ∧ unitErr State.reset FIFO_IDX ≠ none ∧ (st (exec (.fifoDataWrite host 9 7) State.reset)).on MTX_EVENTS_err = true := by decide +kernel
theorem witness_fifo_read : ringFresh (startClock (fifoAs full) FIFO_IDX) 9 = startClock (fifoAs full) FIFO_IDX ∧ (∀ p < 4, (fifoAs full).get (BRGg_AUX_FIFO_txdone p) ≠ 9)
    ∧ (st (exec (.fifoDataRead host 9) (fifoAs plain))).host.data = [BitVec.ofNat 64 (2 ^ 63)] ∧ full.closed = [1] :: List.replicate 15 [1]
    ∧ (st (exec (.fifoDataRead host 9) (fifoAs full))).host.data = [1] := by decide +kernel
theorem witness_fifo_cfg : Writes ((fifoAs plain).put FIFO_IDX_fifo 9) host FIFO_CFG 0x411 ∧ fifoUsed plain = 0 ∧ fieldOf 0x411 21 6 % 2 ^ fieldOf 0x411 5 2 = 0 ∧ fieldOf 0x455 21 6 % 2 ^ fieldOf 0x455 5 2 ≠ 0
    ∧ ((st (exec (.fifoCfgWrite host 0x411) ((fifoAs plain).put FIFO_IDX_fifo 9))).fifo 9).base = 16 ∧ stop (exec (.fifoCfgWrite host 0x455) ((fifoAs plain).put FIFO_IDX_fifo 9)) = some .unpredictable
    ∧ (∀ e ∈ ((fifoAs plain).put FIFO_IDX_fifo 9).fifos, e.1 ≠ 9 → e.2.en = true → fifoOverlap e.2 plain = false) ∧ 0 < fifoUsed full
    ∧ (st (exec (.fifoCfgWrite host 0x411) ((fifoAs full).put FIFO_IDX_fifo 9))).on FIFO_EVENTS_cfg_ignored = true
    ∧ ((st (exec (.fifoCfgWrite host 0x410) ((fifoAs plain).put FIFO_IDX_fifo 9))).fifo 9).en = false := by unfold Writes Uninjected; decide +kernel

/-! ## Faults, life cycle and counters -/

theorem witness_faults : srcClass linked 40 < 2 ∧ 2 ≤ srcClass linked 0 ∧ srcStatus (st (exec (.faultDetected 40 0) linked)) 40 = true ∧ unitDomain 0x020 ≠ none ∧ unitDomain 0xFFF = none
    ∧ essentialUnit 0x079 = true ∧ (st (exec (.faultDetected 25 0x079) linked)).fix.fatal = true ∧ (st (exec (.faultDetected 25 0x020) linked)).on (UNIT_STATUS_fenced 0x020) = true
    ∧ goes (exec (.faultDetected 25 0xFFF) linked) = true ∧ (st (exec (.fatalEntry 11) linked)).get FIX_FIRST_SRC_source = 11 ∧ linked.fix.fatal = false := by decide +kernel
theorem witness_forces : Writes linked host FIX_FORCE 40 ∧ linked.get LCY_STATE_state ≠ 2 ∧ srcStatus (st (exec (.fixForceWrite host 40) linked)) 40 = true
    ∧ ((linked.put LCY_STATE_state 2).put MBX_STATUS_state 1).get MBX_STATUS_state = 1 ∧ (st (exec (.fixForceWrite host 40) ((linked.put LCY_STATE_state 2).put MBX_STATUS_state 1))).on FIX_EVENTS_force_refused = true
    ∧ Writes linked ⟨5, false⟩ FIX_FORCE 40 ∧ goes (exec (.fixForceWrite ⟨5, false⟩ 40) linked) = true ∧ Writes linked host FIX_RAISE 224 ∧ srcStatus (st (exec (.fixRaiseWrite host 224) linked)) 224 = true
    ∧ Writes linked host FIX_RAISE 223 ∧ Writes linked host (UNIT_FAULT_FORCE 0x0E2) 1 ∧ Writes linked host (UNIT_FAULT_FORCE 0x0E2) 0
    ∧ (st (exec (.unitFaultForceWrite host 0x0E2 1) linked)).on (UNIT_STATUS_fenced 0x0E2) = true := by unfold Writes Uninjected; decide +kernel

theorem witness_event_count : Reads linked host (UNIT_EVC 0x0E2) ∧ goes (exec (.eventCountRead host 0x0E2) linked) = true ∧ linked.on LCY_JTAG_ext_en = false
    ∧ (st (exec (.jtagInstructionLoad 3) linked)).lcy.jtagDrive = true ∧ (st (exec (.jtagInstructionLoad 3) (linked.put LCY_STATE_state 2))).lcy.jtagDrive = false := by unfold Reads Uninjected; decide +kernel
theorem witness_sweep : Writes linked host TLY_CTL 5 ∧ Writes linked host TLY_CTL 7 ∧ linked.on TLY_STATUS_busy = false ∧ (st (exec (.tallyStart host false true) linked)).on TLY_STATUS_busy = true
    ∧ (st (exec (.tallyStart host true true) linked)).on TLY_EVENTS_skipped = true ∧ unitErr linked TLY_CTL = none ∧ linked.reached linked.tly.nextAt = true ∧ linked.on TLY_CTL_en = false
    ∧ (st (exec .tallySweepStart (linked.putB TLY_CTL_en true))).on TLY_STATUS_busy = true ∧ Reads linked host TLY_BUF_DATA
    ∧ (st (exec (.tlyBufRead host) linked)).get TLY_BUF_IDX_word = 1 := by unfold Writes Reads Uninjected; decide +kernel
/-- A sweep whose last slot is collected. -/
def swept : State := { linked.putB TLY_STATUS_busy true with tly := { linked.tly with next := 1536 } }
theorem witness_sweep_done : swept.on TLY_STATUS_busy = true ∧ swept.tly.next = 1536 ∧ (st (exec .tallySweepDone swept)).get TLY_STATUS_serial = 1
    ∧ (st (exec .tallySweepDone swept)).on TLY_EVENTS_sweep_done = true := by decide +kernel

/-! ## Registers -/

theorem witness_registers : Writes linked host FIFO_IDX 255 ∧ regErr linked host FIFO_IDX true = none ∧ reservedBitsZero (regFields FIFO_IDX) 256 = false
    ∧ stop (exec (.registerWrite host (BitVec.ofNat 16 FIFO_IDX) 256) linked) = some .unpredictable ∧ (st (exec (.registerWrite host (BitVec.ofNat 16 FIFO_IDX) 255) linked)).rd FIFO_IDX = 255
    ∧ Reads ticking host TB_TIME_HI ∧ (st (exec (.hiWordRead host 0) ticking)).host.data.length = 1
    ∧ reservedBitsZero (regFields UND_CTL) 0x60 = true ∧ legalValues (regFields UND_CTL) 0x60 = false ∧ stop (exec (.registerWrite host (BitVec.ofNat 16 UND_CTL) 0x60) linked) = some .reservedValue := by
  unfold Writes Reads Uninjected; decide +kernel
theorem witness_plain_register : regEffect host FIFO_IDX 255 (touched linked FIFO_IDX) = .next (plainWrite (touched linked FIFO_IDX) FIFO_IDX 255) := rfl
/-- Every HI register is read by someone, with each unit up. -/
theorem witness_hi_registers : ∀ i : Fin 30, unitErr (up [hiRegs.getD i.val TB_TIME_HI / 256]) (hiRegs.getD i.val TB_TIME_HI) = none
    ∧ goes (exec (.hiWordRead keeper i) (up [hiRegs.getD i.val TB_TIME_HI / 256])) = true := by decide +kernel
/-- Each command's register is turned away somewhere: its unit does not answer, or is Keeper's own. -/
theorem witness_refused : (∀ a ∈ [FIFO_CFG, TB_STEER, PAL_CMD, OUTk_CFG 16, TDCn_CAL 15], (regErr State.reset host a true).isSome = true) ∧ regErr (linked.wr (UNIT_STATUS 0x0C0) 0) host KV_CMD true = some 1
    ∧ goes (exec (.fifoCfgWrite host 0) State.reset) = true ∧ (st (exec (.tbSteerWrite host 0) State.reset)).on MTX_EVENTS_err = true := by decide +kernel

/-! ## The Palette, the Underpainting and the Glaze -/

/-- The reference and synthesis units up, the counter at second `t`. -/
def timed (t : Nat) : State :=
  let s := up [0x004, 0x010, 0x011, 0x012, 0x020, 0x028, 0x038, 0x018, 0x040, 0x042, 0x04A, 0x0E2]
  { s with tb := { s.tb with sec := t, counting := true } }
/-- Slot 9 enabled, in slot state `x`. -/
def slotAt (t x : Nat) : State := ((timed t).putB (PAL_Sn_CFG_enable 9) true).put (PAL_Sn_STATUS_sstate 9) x
theorem witness_sample : Writes (timed 9) host (PAL_Sn_SAMPLE 9) 5 ∧ sampleSlots.getD 0 9 = 9 ∧ ((st (exec (.palSampleWrite host 0 5) (timed 9))).slot 9).pend = [5]
    ∧ (st (exec (.palSampleWrite host 0 0x7FFFFFFFFF) (timed 9))).on (PAL_Sn_STATUS_range 9) = true ∧ Writes (timed 9) host (PAL_Sn_SAMPLE 9) 0x8000000000 := by unfold Writes Uninjected; decide +kernel
theorem witness_sample_timeout : programSlot 9 = true ∧ slotActive (slotAt 9 2) 9 = false ∧ slotActive ((slotAt 9 2).setSlot 9 { (slotAt 9 2).slot 9 with lastAt := some ⟨9, 0⟩ }) 9 = true
    ∧ (st (exec (.sampleTimeout 9) (slotAt 9 3))).get (PAL_Sn_STATUS_sstate 9) = 1 := by decide +kernel
/-- Slot 9 drifting, clear of its margin since second 0. -/
def drifting : State := (slotAt 1000 4).setSlot 9 { (slotAt 1000 4).slot 9 with clearFrom := some ⟨0, 0⟩ }
theorem witness_slot_waits : ((slotAt 9 2).setSlot 9 { (slotAt 9 2).slot 9 with qualEnd := ⟨10, 0⟩ }).passed ⟨10, 0⟩ 0 = false ∧ slotKind (slotAt 9 2) 9 = 2
    ∧ drifting.passed ⟨999, 0⟩ (drifting.get PAL_XC_CFG_xc_win * 1000000000) = false := by decide +kernel
theorem witness_slot_timers : (st (exec (.rankHoldExpiry 9) ((slotAt 10 3).put (PAL_Sn_STATUS_eff_rank 9) 15))).get (PAL_Sn_STATUS_eff_rank 9) = (slotAt 10 3).get (PAL_Sn_ADV_qrank 9)
    ∧ (slotAt 9 3).get (PAL_Sn_ADV_qrank 9) < 15 + 1 ∧ (slotAt 9 3).passed ((slotAt 9 3).slot 9).rankAt 10000000000 = false
    ∧ (slotAt 10 3).passed ((slotAt 10 3).slot 9).rankAt 10000000000 = true
    ∧ (slotAt 9 2).passed ((slotAt 9 2).slot 9).qualEnd 0 = true ∧ (st (exec (.qualificationTimerExpiry 9) (slotAt 9 2))).on PAL_EVENTS_qualified = true := by decide +kernel
theorem witness_drift : (drifting.slot 9).clearFrom = some ⟨0, 0⟩ ∧ drifting.passed ⟨0, 0⟩ (drifting.get PAL_XC_CFG_xc_win * 1000000000) = true
    ∧ (st (exec (.driftClearExpiry 9) drifting)).get (PAL_Sn_STATUS_sstate 9) = 2 := by decide +kernel
theorem witness_pal_cmd : (∀ op ∈ [1, 2, 3, 4, 5, 6], Writes (slotAt 9 5) host PAL_CMD (palCmdWord op 23) ∧ Writes (slotAt 9 5) host PAL_CMD (palCmdWord op 9))
    ∧ (st (exec (.clearDisagreeing host 9) (slotAt 9 5))).get (PAL_Sn_STATUS_sstate 9) = 3 ∧ (st (exec (.restartQualification host 9) (slotAt 9 5))).get (PAL_Sn_STATUS_sstate 9) = 2
    ∧ ((st (exec (.setSourceFault host 9) (slotAt 9 5))).slot 9).cmdFault = true ∧ goes (exec (.clearSourceFault host 9) (slotAt 9 5)) = true
    ∧ goes (exec (.slewAfterStep host 9) (slotAt 9 5)) = true ∧ goes (exec (.stepToWideOffset host 9) (slotAt 9 5)) = true := by unfold Writes Uninjected; decide +kernel
/-- A held step of slot 9; slot 9 ready to step to its wide offset. -/
def stepHeld : State := (((slotAt 9 5).putB PAL_STATE_step_hold true).putB PAL_STATE_sel_valid true).put PAL_STATE_sel_slot 9
def wide : State :=
  ((((slotAt 9 5).putB (PAL_Sn_STATUS_range 9) true).putB PAL_WIDE_CTL_valid true).put PAL_WIDE_CTL_slot 9).put TB_STEP_THRESH_thresh 1
theorem witness_steps : stepHeld.on PAL_STATE_step_hold = true ∧ stepHeld.pal.wide = false ∧ selSlot stepHeld = some 9 ∧ (sat40 ((stepHeld.slot 9).x.tdiv 1000000000000)).2 = false
    ∧ (st (exec (.slewAfterStep host 9) stepHeld)).on PAL_STATE_step_hold = false ∧ slotKind wide 9 = 2 ∧ wide.get (PAL_Sn_STATUS_sstate 9) = 5
    ∧ (st (exec (.stepToWideOffset host 9) wide)).on PAL_EVENTS_step_wanted = true := by decide +kernel
/-- A switch to slot 9 decided at second 8. -/
def switching : State :=
  { slotAt 9 3 with pal := { (slotAt 9 3).pal with sw := some ⟨none, 9, ⟨8, 0⟩, 0, 0, 0, none, 0, 0, false⟩ } }
theorem witness_switch : switching.reached (t80Add ⟨8, 0⟩ (250000 * 1024)) = true ∧ (timed 8).reached (t80Add ⟨8, 0⟩ (250000 * 1024)) = false ∧ (timed 8).pal.sw = none
    ∧ (st (exec .switchComplete switching)).pal.sw = none := by decide +kernel

/-- Learning in TRACK from slot 9, timed and of rank 1: 24 hours of samples but one, which has waited its second; two ticks gathered; a fit to make. -/
def learning : State :=
  let s := (((slotAt 3600 3).putB UND_CTL_learn_en true).put UND_STATUS_stage 1).put UND_HOLD_CFG_hold_avg 1
  let s := ((((s.put PAL_STATE_state 2).put UND_STATUS_mode 2).putB UND_STATUS_temp_valid true).putB PAL_STATE_sel_valid true).put PAL_STATE_sel_slot 9
  { s.put (PAL_Sn_STATUS_eff_rank 9) 1 with und := { s.und with secs := 86399, waiting := [⟨⟨3599, 0⟩, 5, 0⟩], fit := [⟨⟨3598, 0⟩, 5, 0⟩], lrnSum := 7, lrnTemp := 3, lrnN := 2 } }
/-- The same with nothing gathered. -/
def notLearning : State := { learning with und := { learning.und with lrnN := 0 } }
theorem witness_learning_takes : learning.und.lrnN ≠ 0 ∧ learning.get PAL_STATE_state = 2 ∧ learning.get UND_STATUS_mode = 2 ∧ learning.on UND_STATUS_temp_valid = true
    ∧ selSlot learning = some 9 ∧ learning.get (PAL_Sn_STATUS_eff_rank 9) ≤ 3 ∧ learning.steady.sec ≠ learning.und.lrnSec
    ∧ (timed 0).steady.sec = (timed 0).und.lrnSec ∧ ((st (exec .learningSample learning)).und.waiting.map (fun e => e.at_)) = [⟨3600, 0⟩]
    ∧ (st (exec .learningSample notLearning)).und.waiting = [] := by decide +kernel
theorem witness_model_hour : learning.steady.sec / 3600 ≠ learning.und.fitHour ∧ learning.und.fit ≠ [] ∧ (timed 9).und.fit = []
    ∧ (timed 9).steady.sec ≠ (timed 9).und.predSec ∧ (timed 0).steady.sec = (timed 0).und.predSec := by decide +kernel
theorem witness_learning : 0 < learning.get UND_HOLD_CFG_hold_avg ∧ (st (exec .learningSample learning)).get UND_STATUS_stage = 2 ∧ learning.on UND_CTL_learn_en = true
    ∧ learning.get UND_STATUS_stage ≠ 0 := by decide +kernel
theorem witness_prediction : goes (exec .predictionUpdate (timed 9)) = true := by decide +kernel
theorem witness_learning_commands : Writes learning host UND_CMD 1 ∧ Writes learning host UND_CMD 2 ∧ (st (exec (.restartLearning host) learning)).get UND_STATUS_stage = 0
    ∧ (st (exec (.recomputePredictions host) learning)).und.recompute = true ∧ Writes learning host UND_TEMP_EXT 5 ∧ (st (exec (.undTempExtWrite host 5) learning)).und.extAt = some ⟨3600, 0⟩
    ∧ (st (exec .tempStale { timed 19 with und := { (timed 19).und with extAt := some ⟨9, 0⟩ } })).on UND_EVENTS_temp_stale = true ∧ (timed 19).und.extAt = none ∧ (timed 19).passed ⟨9, 0⟩ 10000000000 = true ∧ (timed 18).passed ⟨9, 0⟩ 10000000000 = false
    ∧ Writes learning host UND_M_Y0 5 ∧ (st (exec (.undModelWrite host 0 5) learning)).on UND_EVENTS_cfg_ignored = true
    ∧ (timed 9).on UND_CTL_learn_en = true ∧ (st (exec (.undModelWrite host 0 5) ((timed 9).putB UND_CTL_learn_en false))).get UND_STATUS_stage = 2 := by unfold Writes Uninjected; decide +kernel
theorem witness_entries : Writes (timed 9) host (GLZ_EVTk_VAL 7) 5 ∧ (st (exec (.eventEntryWrite host 7 5) (timed 9))).glz.evtNew = 128 ∧ ((timed 9).put (GLZ_EVTk_VAL_term 7) 5).get (GLZ_EVTk_VAL_term 7) ≠ 0
    ∧ ((timed 9).put (GLZ_EVTk_VAL_term 7) 5).get (GLZ_EVTk_LIFE_life 7) = 0 ∧ (st (exec (.eventEntryExpiry 7) ((timed 9).put (GLZ_EVTk_VAL_term 7) 5))).rd (GLZ_EVTk_VAL 7) = 0
    ∧ ((timed 9).put (GLZ_EVTk_LIFE_life 7) 1).get (GLZ_EVTk_LIFE_life 7) ≠ 0 ∧ Writes (timed 9) host (GLZ_Sn_UP_LO 23) 5 ∧ (st (exec (.upstreamIdCommit host 23 5) (timed 9))).rd (GLZ_Sn_UP_LO 23) = 5 := by
  unfold Writes Uninjected; decide +kernel

/-! ## The Varnish -/

/-- PLL 0 in state `x`, enabled. -/
def pllAt (x : Nat) : State := ((timed 9).putB (VARn_CTL_en 0) true).put (VARn_STATUS_state 0) x
theorem witness_pll_commands : Writes (timed 9) host (VARn_CTL 0) 1 ∧ (timed 9).on (VARn_CTL_en 0) = false ∧ ratioOk (timed 9) 0 = true ∧ ratioOk ((timed 9).put (VARn_N_DEN_n_den 0) 0) 0 = false
    ∧ varState (st (exec (.pllEnable host 0 0) (timed 9))) 0 = 1 ∧ stop (exec (.pllEnable host 0 0) ((timed 9).put (VARn_N_DEN_n_den 0) 0)) = some .unpredictable
    ∧ varState (st (exec (.pllDisable host 0 1) (pllAt 4))) 0 = 0 ∧ Writes (pllAt 4) host (VARn_CMD 0) 1 ∧ Writes (pllAt 4) host (VARn_CMD 0) 2 ∧ Writes (pllAt 4) host (VARn_CMD 0) 3
    ∧ goes (exec (.relock host 0) (pllAt 4)) = true ∧ goes (exec (.relock host 0) (timed 9)) = true ∧ stop (exec (.relock host 0) ((pllAt 4).put (VARn_N_DEN_n_den 0) 0)) = some .unpredictable
    ∧ varLocked (pllAt 4) 0 = true ∧ varState (st (exec (.glide host 0) (pllAt 4))) 0 = 5 ∧ (st (exec (.glide host 0) (pllAt 1))).on (VARn_EVENTS_cmd_refused 0) = true
    ∧ goes (exec (.clearBm host 0) (pllAt 4)) = true := by unfold Writes Uninjected; decide +kernel
theorem witness_pll_roads : varState (st (exec (.bandFound 0 63) (pllAt 1))) 0 = 3 ∧ (pllAt 2).passed ((pllAt 2).varSt 0).entered 60000 = true
    ∧ (pllAt 3).passed ((pllAt 3).varSt 0).acqAt ((pllAt 3).get (VARn_LOCK_lock_cnt 0) * ((pllAt 3).varSt 0).d) = true
    ∧ (pllAt 4).passed ((pllAt 4).varSt 0).lockedAt ((pllAt 4).get (VARn_UNLOCK_unlock_cnt 0) * ((pllAt 4).varSt 0).d) = true
    ∧ (pllAt 6).passed ((pllAt 6).varSt 0).lossAt 10000 = true ∧ varState (st (exec (.hopSettled 0) (pllAt 2))) 0 = 3
    ∧ (0 : BitVec 20).toInt.natAbs ≤ (pllAt 3).get (VARn_LOCK_lock_win 0) ∧ varState (st (exec (.lockDeclared 0 0) (pllAt 3))) 0 = 4
    ∧ (pllAt 4).get (VARn_UNLOCK_unlock_win 0) < (0x7FFFF : BitVec 20).toInt.natAbs ∧ varState (st (exec (.lockLost 0 0x7FFFF) (pllAt 4))) 0 = 2
    ∧ varState (st (exec (.inputLoss 0) (pllAt 4))) 0 = 6 ∧ varState (st (exec (.inputLoss 0) (pllAt 7))) 0 = 7 ∧ varState (st (exec (.inputGood 0) (pllAt 6))) 0 = 2
    ∧ ((pllAt 5).varSt 0).g = ((pllAt 5).varSt 0).gTarget ∧ varState (st (exec (.glideTargetReached 0) (pllAt 5))) 0 = 4 := by decide +kernel
/-- PLL 0 an instant after it hopped, began to acquire, locked or lost its input. -/
def pllNow (x : Nat) : State :=
  let s := pllAt x
  s.setVar 0 { s.varSt 0 with entered := ⟨9, 0⟩, acqAt := ⟨9, 0⟩, lockedAt := ⟨9, 0⟩, lossAt := ⟨9, 0⟩ }
theorem witness_pll_waits : (pllNow 2).passed ((pllNow 2).varSt 0).entered 60000 = false
    ∧ (pllNow 3).passed ((pllNow 3).varSt 0).acqAt ((pllNow 3).get (VARn_LOCK_lock_cnt 0) * ((pllNow 3).varSt 0).d) = false
    ∧ (pllNow 4).passed ((pllNow 4).varSt 0).lockedAt ((pllNow 4).get (VARn_UNLOCK_unlock_cnt 0) * ((pllNow 4).varSt 0).d) = false
    ∧ (pllNow 6).passed ((pllNow 6).varSt 0).lossAt 10000 = false ∧ varState (st (exec (.inputGood 0) (pllNow 6))) 0 = 6 := by decide +kernel
/-- PLL 0 acquiring after a search, tried `n` times. -/
def searched (n : Nat) : State := (pllAt 3).setVar 0 { (pllAt 3).varSt 0 with bySearch := true, searches := n }
theorem witness_acquire : ((pllAt 3).varSt 0).bySearch = false ∧ (pllAt 3).passed ((pllAt 3).varSt 0).entered 200000 = true ∧ (pllAt 3).passed ((pllAt 3).varSt 0).entered 8000000 = true ∧ varState (st (exec (.acquireTimeout 0) (pllAt 3))) 0 = 1
    ∧ varState (st (exec (.acquireTimeout 0) (searched 0))) 0 = 1 ∧ varState (st (exec (.acquireTimeout 0) (searched 1))) 0 = 7 := by decide +kernel

/-- Output 0 in mode `mode`, gated. -/
def outAt (mode : Nat) : State := ((pllAt 4).put (OUTk_CFG_mode 0) mode).putB (OUTk_STATUS_gated 0) true
theorem witness_outputs : ((outAt 1).varSt 0).stepOpen = false ∧ (outAt 1).rd (VARn_STEP_REM 0) = 0
    ∧ (st (exec (.phaseStepDone 0) ((outAt 1).setVar 0 { (outAt 1).varSt 0 with stepOpen := true }))).on (VARn_EVENTS_step_done 0) = true
    ∧ goes (exec (.alignRestored 0) ((outAt 1).setVar 0 { (outAt 1).varSt 0 with realign := true })) = true ∧ outVar 0 = 0 ∧ (outAt 1).reached ((outAt 1).varSt 0).ungateAt = true
    ∧ (outAt 1).on (OUTk_STATUS_safe_forced 0) = false ∧ varLocked (timed 9) 0 = false
    ∧ Writes (outAt 1) host (VARn_PHASE 0) 5 ∧ (st (exec (.varPhaseWrite host 0 5) (outAt 1))).on (VARn_EVENTS_cfg_ignored 0) = true ∧ (st (exec (.varPhaseWrite host 0 5) (timed 9))).rd (VARn_PHASE 0) = 5 := by
  unfold Writes Uninjected; decide +kernel
/-- PLL 0 realigning, half a cycle or none off its grid. -/
def realigning (off : Rat) : State := (outAt 1).setVar 0 { (outAt 1).varSt 0 with realign := true, off := off }
theorem witness_align : ((realigning 0).varSt 0).off ≤ psCycles ((realigning 0).varSt 0) (((realigning 0).get (VARn_LOCK_lock_win 0) : Nat) : Int)
    ∧ -psCycles ((realigning 0).varSt 0) (((realigning 0).get (VARn_LOCK_lock_win 0) : Nat) : Int) ≤ ((realigning 0).varSt 0).off
    ∧ ((st (exec (.alignRestored 0) (realigning 0))).varSt 0).realign = false := by decide +kernel
theorem witness_align_not_yet : ((st (exec (.alignRestored 0) (realigning 2000))).varSt 0).realign = true := by decide +kernel
/-- An output aligned to its grid, with or without a rising edge on the tick. -/
def gridOut (was theta : Rat) : State := (outAt 1).setVar 0 { (outAt 1).varSt 0 with was := was, theta := theta }
theorem witness_ungate : outAligned (gridOut 0 0) 0 = true ∧ clockRises (gridOut 0 1000) 0 = true ∧ clockRises (gridOut 0 0) 0 = false
    ∧ outAligned (realigning 0) 0 = false ∧ (gridOut 0 0).on (OUTk_STATUS_safe_forced 0) = false
    ∧ (st (exec (.outputUngate 0) (gridOut 0 1000))).on (OUTk_STATUS_gated 0) = false ∧ (st (exec (.outputUngate 0) (gridOut 0 0))).on (OUTk_STATUS_gated 0) = true := by decide +kernel
theorem witness_output_writes : Writes (outAt 1) host (OUTk_CFG 0) 0x2000 ∧ outFormatOk 0 0x2000 = true ∧ outFormatOk 0 0xA0000 = false ∧ Writes (outAt 1) host (OUTk_CFG 0) 0xA0000
    ∧ stop (exec (.outCfgWrite host 0 0xA0000) (outAt 1)) = some .reservedValue ∧ (st (exec (.outCfgWrite host 0 0x2000) (outAt 1))).on (OUTk_EVENTS_cfg_ignored 0) = true
    ∧ (st (exec (.outCfgWrite host 0 0x2000) (outAt 0))).rd (OUTk_CFG 0) = 0x2000 ∧ (st (exec (.outCfgWrite host 0 0) (outAt 1))).get (OUTk_CFG_mode 0) = 0
    ∧ Writes (outAt 0) host (OUTk_DIV 0) 5 ∧ (st (exec (.outDivWrite host 0 5) (outAt 0))).rd (OUTk_DIV 0) = 5 ∧ (st (exec (.outDivWrite host 0 5) (outAt 1))).on (OUTk_EVENTS_cfg_ignored 0) = true := by
  unfold Writes Uninjected; decide +kernel

/-! ## Time-interval measurement and the GNSS baseband -/

/-- REFIN 0 enabled at 1 Hz with its last divided edge at second 0. -/
def refinAt (t : Nat) : State :=
  let s := (((timed t).putB (REFINn_CFG_en 0) true).put (REFINn_NOM_nom_hz 0) 1).putB (REFINn_STATUS_los 0) false
  s.setRefin 0 { s.refin 0 with last := some ⟨0, 0⟩ }
theorem witness_refin : (refinAt 9).on (REFINn_CFG_en 0) = true ∧ ((refinAt 9).refin 0).last = some ⟨0, 0⟩ ∧ 0 < (refinAt 9).get (REFINn_NOM_nom_hz 0)
    ∧ (refinAt 9).on (REFINn_STATUS_los 0) = false ∧ (timed 9).on (REFINn_CFG_en 0) = false
    ∧ (st (exec (.refinLos 0) ((refinAt 9).put (REFINn_CFG_div 0) 1))).on (REFINn_STATUS_los 0) = true ∧ goes (exec (.refinLos 0) (refinAt 1)) = true := by decide +kernel

/-- Channel 10 enabled in mode `mode`, its records sent to FIFO 9. -/
def chanAt (mode : Nat) : State :=
  ((((timed 9).putB (TDCn_CFG_en 10) true).put (TDCn_CFG_mode 10) mode).putB (TDCn_CFG_route_fifo 10) true).put (TDCn_CFG_fifo 10) 9 |>.setFifo 9 packet
/-- The first edge of channel 10. -/
theorem witness_edge : (chanAt 0).on (TDCn_CFG_en 10) = true ∧ (chanAt 0).on (TDCn_CFG_route_fifo 10) = true ∧ (timed 9).on (TDCn_CFG_en 10) = false ∧ edgeSelected 0 true = true
    ∧ edgeSelected ((chanAt 1).get (TDCn_CFG_start_edge 10)) true = true ∧ edgeSelected ((chanAt 1).get (TDCn_CFG_start_edge 10)) false = false
    ∧ ((chanAt 1).chan 10).opens = [] ∧ ((chanAt 1).chan 10).queue.length < 32 ∧ ((chanAt 0).chan 10).lastRise = none ∧ (refinEdge (refinAt 9) 0 true).1 = decide ((refinAt 9).get (REFINn_CFG_div 0) ≤ 1) := by decide +kernel
/-- A signed field is less in size than half its range. -/
theorem getI_bound (s : State) (f : Fld) (n : Nat) (h : f.hi + 1 - f.lo = n + 1) : -(2 : Int) ^ n ≤ s.getI f ∧ s.getI f < 2 ^ n := by
  have hx : s.get f < 2 ^ (n + 1) := by
    unfold State.get fieldOf bitsOf
    rw [h]; exact Nat.mod_lt _ (Nat.two_pow_pos _)
  unfold State.getI signedOf
  rw [h, Nat.add_sub_cancel]
  have e : (2 : Int) ^ (n + 1) = 2 * 2 ^ n := by rw [pow_succ]; ring
  have e' : (2 : Nat) ^ (n + 1) = 2 * 2 ^ n := by rw [pow_succ]; ring
  have c : ((2 ^ n : Nat) : Int) = 2 ^ n := by push_cast; rfl
  split <;> omega
theorem chan_floor : stampFloor (chanAt 3) 10 = 16 * (9 * 1024000000000 - 1024 - (chanAt 3).getI (TDCn_SKEW_skew 10)) := by
  have h1 : t80Units (chanAt 3).now = 9 * 1024000000000 := by decide +kernel
  have h2 : (chanAt 3).getI (TDCn_OFS_ofs 10) = 0 := by decide +kernel
  unfold stampFloor; rw [h1, h2]; push_cast; ring
/-- A gate that ended at second 8 is over, one that ends at second 10 is not, whatever the channel's trim. -/
theorem witness_floor : 16 * (t80Units ⟨8, 0⟩ : Int) ≤ stampFloor (chanAt 3) 10 ∧ stampFloor (chanAt 3) 10 < 16 * (t80Units ⟨10, 0⟩ : Int) := by
  have h := getI_bound (chanAt 3) (TDCn_SKEW_skew 10) 39 (by decide +kernel)
  have h8 : t80Units ⟨8, 0⟩ = 8 * 1024000000000 := rfl
  have h10 : t80Units ⟨10, 0⟩ = 10 * 1024000000000 := rfl
  rw [chan_floor, h8, h10]; constructor <;> omega
/-- Channel 0 with a table and its last rising edge at `x`. -/
def calibrated (x : Int) : State := let s := (timed 9).putB (TDCn_CFG_en 0) true; s.setChan 0 { s.chan 0 with lineA := [(1, 7)], lastRise := some x }
/-- An edge of channel 0 with code 0 at second 9, the last one at `x`. -/
def edge0 (x : Int) : State := (calibrated x).putB (TDCn_STATUS_input 0) true
theorem stamp_edge0 (x : Int) : (tdcStamp (edge0 x) 0 0).1 = 16 * (9 * 1024000000000 - (edge0 x).getI (TDCn_SKEW_skew 0)) := by
  have hf : tdcFine (edge0 x) 0 0 = (0, edge0 x) := by
    have h1 : (edge0 x).on (TDCn_STATUS_line 0) = false := by
      show (edge0 0).on (TDCn_STATUS_line 0) = false
      decide +kernel
    have h2 : ((edge0 x).chan 0).lineA = [(1, 7)] := rfl
    unfold tdcFine
    simp [h1, h2, tdcPrivileged, tabGet]
  have hp : ∀ s : State, freeQ s (0 * (s.tb.emit : Int)) (2 ^ 48) = (0, s) := by intro s; simp [freeQ]
  have hj : stampShift (edge0 x) 2 = (0, edge0 x) := by
    have h : tstOpen (edge0 x) = false := by
      show tstOpen (edge0 0) = false
      decide +kernel
    simp [stampShift, h]
  have h1 : t80Units (edge0 x).now = 9 * 1024000000000 := by
    show t80Units (edge0 0).now = _
    decide +kernel
  have h2 : (edge0 x).getI (TDCn_OFS_ofs 0) = 0 := by
    show (edge0 0).getI (TDCn_OFS_ofs 0) = 0
    decide +kernel
  unfold tdcStamp
  simp only [hf, hp, hj, h1, h2]; push_cast; ring
/-- An edge that the dead time takes, one that the hold-off takes, and one that neither takes: at, before and 10^6 after the last one. -/
theorem witness_edge_follows : let x := (tdcStamp (edge0 0) 0 0).1
    (tdcStamp (edge0 x) 0 0).1 = x ∧ (tdcStamp (edge0 (x + 1)) 0 0).1 = x ∧ (tdcStamp (edge0 (x - 1000000)) 0 0).1 = x
    ∧ ((calibrated x).chan 0).lastRise = some x ∧ (calibrated x).get (TDCn_HOLDOFF_holdoff 0) = 0 ∧ (calibrated x).tb.steps = 0
    ∧ (calibrated x).on (TDCn_CFG_en 0) = true := by
  intro x
  have h : ∀ y, (tdcStamp (edge0 y) 0 0).1 = x := by
    intro y
    show _ = (tdcStamp (edge0 0) 0 0).1
    rw [stamp_edge0, stamp_edge0]; rfl
  refine ⟨h _, h _, h _, rfl, ?_, rfl, ?_⟩
  · show (calibrated 0).get (TDCn_HOLDOFF_holdoff 0) = 0
    decide +kernel
  · show (calibrated 0).on (TDCn_CFG_en 0) = true
    decide +kernel
theorem witness_windows : (chanAt 2).get (TDCn_CFG_mode 10) = 2 ∧ goes (exec (.pairWindowClose 10) (chanAt 2)) = true ∧ (chanAt 0).get (TDCn_CFG_mode 10) ≠ 2
    ∧ (chanAt 3).get (TDCn_CFG_mode 10) = 3 ∧ (chanAt 3).on (TDCn_CFG_en 10) = true := by decide +kernel
/-- A record waiting in channel 10's queue for FIFO 9 as `q`. -/
def recorded (q : Fifo) : State := ((chanAt 0).setChan 10 { (chanAt 0).chan 10 with queue := [[7, 8]] }).setFifo 9 q
theorem witness_drain : ((chanAt 0).chan 10).queue = [] ∧ ((recorded packet).chan 10).queue = [[7, 8]] ∧ drainTurn (recorded packet) 10 = true
    ∧ drainTurn (chanAt 0) 10 = false ∧ ((recorded packet).fifo 9).en = true ∧ (fifoPacket (recorded packet) 9 23 [7, 8]).isSome = true
    ∧ drainTurn (recorded Fifo.reset) 10 = true ∧ (∀ j, j < 16 → j ≠ 10 → ((recorded packet).chan j).queue = [])
    ∧ (fifoPacket (recorded { full with packet := true }) 9 23 [7, 8]).isNone = true
    ∧ ((st (exec (.tdcRecordDrain 10) (recorded packet))).chan 10).queue = [] := by decide +kernel
/-- Channel 0 enabled and calibrating. -/
def calibrating : State := (((timed 9000).putB (TDCn_CFG_en 0) true).putB (TDCn_STATUS_calibrating 0) true).put (TDCn_CAL_period_s 0) 1
theorem witness_calibration : calibrating.on (TDCn_CFG_en 0) = true ∧ calibrating.get (TDCn_CAL_period_s 0) ≠ 0 ∧ Writes calibrating host (TDCn_CAL 0) 0x11 ∧ Writes calibrating host (TDCn_CAL 0) 0x10
    ∧ (st (exec (.calNow host 0 0x11) calibrating)).on (TDCn_STATUS_calibrating 0) = true ∧ (st (exec (.calStart 0) calibrating)).on (TDCn_STATUS_calibrating 0) = true
    ∧ 2 ^ (20 + 2 * calibrating.get (TDCn_CAL_hits 0)) = 4194304 ∧ swapFree calibrating 0 = true
    ∧ (st (exec (.calLineSwap 0 [1000000, 3194304]) calibrating)).on (TDCn_STATUS_cal_valid 0) = true ∧ (calibrating.chan 0).calAt = none := by unfold Writes Uninjected; decide +kernel
theorem witness_cal_start : calDue (calibrating.putB (TDCn_STATUS_calibrating 0) false) 0 = true ∧ calDue (timed 9) 0 = true ∧ calDue ((timed 9).put (TDCn_CAL_period_s 0) 0) 0 = false
    ∧ (st (exec (.calStart 0) (calibrating.putB (TDCn_STATUS_calibrating 0) false))).on (TDCn_STATUS_calibrating 0) = true
    ∧ swapFree (calibrating.setChan 0 { calibrating.chan 0 with lastRise := some (16 * (t80Units calibrating.now : Int)) }) 0 = false := by decide +kernel
theorem witness_cal_expired : (st (exec (.calExpired 0) (((calibrating.putB (TDCn_STATUS_cal_valid 0) true).setChan 0 { calibrating.chan 0 with calAt := some ⟨0, 0⟩ })))).on (TDCn_EVENTS_cal_lost 0) = true
    ∧ ((4 * 1 * unitsPerSec : Nat) : Int) < t80Diff calibrating.steady ⟨0, 0⟩ := by decide +kernel
theorem witness_dll : (chanAt 0).on (TDCn_STATUS_dll_lock 10) = false ∧ (st (exec (.dllLock 10) (chanAt 0))).on (TDCn_STATUS_dll_lock 10) = true
    ∧ (st (exec (.tdcDllUnlock 10) (st (exec (.dllLock 10) (chanAt 0))))).on (TDCn_STATUS_cal_valid 10) = false := by decide +kernel
theorem witness_tdc_cfg : Writes (timed 9) host (TDCn_CFG 10) 0x80001 ∧ Writes (timed 9) host (TDCn_CFG 10) 0x40000 ∧ stop (exec (.tdcCfgWrite host 10 0 0x40000) (timed 9)) = some .reservedValue
    ∧ (st (exec (.tdcCfgWrite host 10 0 0x80001) (timed 9))).rd (TDCn_CFG 10) = 0x80001 ∧ Writes (chanAt 0) host (TDCn_CFG 10) 0 ∧ (st (exec (.tdcCfgWrite host 10 0 0) (chanAt 0))).on (TDCn_CFG_en 10) = false
    ∧ Writes (chanAt 0) host (TDCn_HOLDOFF 10) 5 ∧ TDCn_HOLDOFF 10 < TDCn_CFG 10 + 7 ∧ (st (exec (.tdcCfgWrite host 10 1 5) (chanAt 0))).on (TDCn_EVENTS_cfg_ignored 10) = true
    ∧ goes (exec (.tdcCfgWrite host 10 5 5) (chanAt 0)) = true := by unfold Writes Uninjected; decide +kernel

/-- The GNSS baseband up, its receiver on, pair 0 as `ctl` and `stat`. -/
def gnss (ctl stat : Word) : State :=
  let s := ((((up [0x050, 0x051, 0x010, 0x004, 0x0E2]).putB GNS_CTL_en true).put GNS_CTL_str_en 15).put GNS_STATUS_str_ok 15).put GNS_EPOCH_epoch_ms 20
  (({ s with tb := { s.tb with sec := 1000, counting := true } }.setPairCtl 0 ctl).setPairStat 0 stat).setFifo 0 packet
/-- GPS L1 C/A, PRN 1 (R297), running. -/
def ctlRun : Word := 0x9
/-- Pair 0 as the lost signal of stream 0, or with what else a step of it needs. -/
def pairAs (ctl stat : Word) (g : GnsPair) : State := let s := gnss ctl stat; { s with gns := { s.gns with pairs := [(0, g)] } }
def pairNow : GnsPair := { lostBy := none, pullAt := some ⟨1000, 0⟩, lockAt := ⟨1000, 0⟩, recAt := none, last := none, symbols := false }
/-- Stream 0 that failed at second `t`. -/
def faulted (t : Nat) : State := let s := pairAs ctlRun 3 { pairNow with lostBy := some 0 }; { s with gns := { s.gns with faultAt := [(0, some ⟨t, 0⟩)] } }
theorem witness_streams : domainOn (gnss ctlRun 2) 4 = true ∧ domainOn ((gnss ctlRun 2).put PWR_STATE_on 0x827) 4 = false ∧ pairState (gnss ctlRun 2) 0 = 2
    ∧ pairState (st (exec (.streamFault 0 0 0 0 0) (gnss ctlRun 2))) 0 = 3 ∧ (gnss ctlRun 2).gns.faultAt = [] ∧ signalL5 (pairSignal (gnss ctlRun 2) 0) = false
    ∧ (faulted 999).passed ⟨999, 0⟩ 10000000 = true ∧ (faulted 1000).passed ⟨1000, 0⟩ 10000000 = false ∧ ((faulted 999).get GNS_CTL_str_en).testBit 0 = true
    ∧ bitAt ((faulted 999).pairCtl 0) 0 = true ∧ ((faulted 999).gpair 0).lostBy = some 0
    ∧ pairState (st (exec (.streamClear 0 0 0) (faulted 999))) 0 = 1 ∧ pairState (st (exec (.streamClear 0 0 0) (faulted 1000))) 0 = 3 := by decide +kernel
theorem witness_pair_run : Writes (gnss 0 0) host GNS_CH_CTL ctlRun ∧ pairState (st (exec (.pairRun host ctlRun) (gnss 0 0))) 0 = 1 ∧ signalOk (fieldOf 1 11 3) = false ∧ signalOk (fieldOf ctlRun 11 3) = true
    ∧ stop (exec (.pairRun host 1) (gnss 0 0)) = some .reservedValue ∧ pairState (st (exec (.pairRun host 8) (gnss ctlRun 2))) 0 = 0 ∧ goes (exec (.pairRun host ctlRun) (gnss ctlRun 2)) = true
    ∧ goes (exec (.pairRun host 0) (gnss 0 0)) = true ∧ signalOk (pairSignal (gnss ctlRun 2) 0) = true := by unfold Writes Uninjected; decide +kernel
def meas : PairMeas := ⟨40, 40, 1, 2, 3, 4, true, true, true, false⟩
theorem witness_pairs : pairState (pairAs ctlRun 1 pairNow) 0 = 1 ∧ (pairAs ctlRun 1 pairNow).on GNS_CTL_en = true
    ∧ ((pairAs ctlRun 1 pairNow).get GNS_STATUS_str_ok).testBit (streamA (pairSignal (pairAs ctlRun 1 pairNow) 0)) = true
    ∧ t80Diff (pairAs ctlRun 1 pairNow).steady ⟨1000, 0⟩ ≤ ((50 * nsU 1000000 : Nat) : Int)
    ∧ pairState (st (exec (.pairPullInDone 0 40 0 false) (pairAs ctlRun 1 pairNow))) 0 = 2 ∧ goes (exec (.pairPullInDone 0 40 0 false) (pairAs ctlRun 1 { pairNow with pullAt := none })) = true
    ∧ (gnss ctlRun 2).passed ((gnss ctlRun 2).gpair 0).lockAt 100000000 = true ∧ (pairAs ctlRun 2 pairNow).passed ⟨1000, 0⟩ 100000000 = false
    ∧ pairState (st (exec (.pairLost 0) (gnss ctlRun 2))) 0 = 3 ∧ goes (exec (.pairLockBLoss 0) (gnss ctlRun 2)) = true := by decide +kernel
theorem witness_records : msNow (gnss ctlRun 2) % 1000 % max 1 ((gnss ctlRun 2).get GNS_EPOCH_epoch_ms) = 0 ∧ ((gnss ctlRun 2).gpair 0).recAt ≠ some (msNow (gnss ctlRun 2))
    ∧ msNow (pairAs ctlRun 2 { pairNow with recAt := some 1000000 }) = 1000000 ∧ pairState (gnss ctlRun 2) 0 = 2
    ∧ (pairAs ctlRun 3 { pairNow with symbols := true }).gpair 0 = { pairNow with symbols := true }
    ∧ ((st (exec (.measRecord 0 meas) (gnss ctlRun 2))).fifo 0).closed.length = 1 ∧ ((st (exec (.symbolRecord 0 32 999 0xFFFFFFFF) (gnss ctlRun 2))).fifo 0).closed.length = 1
    ∧ ((st (exec (.symbolRecord 0 7 999 0x7F) (pairAs ctlRun 3 { pairNow with symbols := true }))).fifo 0).closed.length = 1
    ∧ ((st (exec (.symbolRecord 0 7 999 0x7F) (gnss ctlRun 2))).fifo 0).closed.length = 0 := by decide +kernel
/-- A sweep at entry `entry`, entry 255 searching GPS L1 C/A PRN 1 on stream 0, begun at second `t`, `cells` cells behind it. -/
def sweeping (entry cells t : Nat) (restart : Option T80) : State :=
  let s := (gnss 0 0).putB GNS_STATUS_sweeping true
  { s with gns := { s.gns with entry := entry, restart := restart, cells := cells, sweepAt := ⟨t, 0⟩, list := [(255, w40 (2 ^ 39 + 2 ^ 35 + 2 ^ 26))] } }
def peakFound : BankPeak := ⟨0, 100, 0, 200⟩
theorem witness_bank : (st (exec (.bankEntryEnd []) (sweeping 255 0 0 none))).gns.entry = 256 ∧ (sweeping 255 0 0 none).passed ⟨0, 0⟩ (dwellNs (sweeping 255 0 0 none) (entryCells (sweeping 255 0 0 none) 255)) = true
    ∧ (sweeping 255 0 1000 none).passed ⟨1000, 0⟩ (dwellNs (sweeping 255 0 1000 none) (entryCells (sweeping 255 0 1000 none) 255)) = false
    ∧ entryPeaks (sweeping 255 0 0 none) 255 [peakFound] = [peakFound] ∧ ((st (exec (.bankEntryEnd [peakFound]) (sweeping 255 0 0 none))).fifo 0).closed.length = 1
    ∧ (sweeping 256 5 0 none).passed ⟨0, 0⟩ (dwellNs (sweeping 256 5 0 none) 5) = true ∧ (st (exec .sweepDone (sweeping 256 5 0 none))).on GNS_EVENTS_sweep_done = true
    ∧ (sweeping 256 5 0 (some ⟨1000, 0⟩)).passed ⟨1000, 0⟩ 0 = true ∧ (sweeping 256 5 0 (some ⟨1001, 0⟩)).passed ⟨1001, 0⟩ 0 = false
    ∧ (st (exec .bankRestart (sweeping 256 5 0 (some ⟨1000, 0⟩)))).gns.restart = none ∧ (gnss 0 0).on GNS_STATUS_sweeping = false := by decide +kernel
theorem witness_kept_data : Writes (gnss 0 0) host GNS_KEEP_DATA 5 ∧ Reads (gnss 0 0) host GNS_KEEP_DATA ∧ (st (exec (.keepDataAccess host true 5) ((gnss 0 0).put GNS_KEEP_ADDR_addr 16383))).get GNS_KEEP_ADDR_addr = 0
    ∧ (st (exec (.keepDataAccess host true 5) (gnss 0 0))).gnsKeep = [(0, 5)] := by unfold Writes Reads Uninjected; decide +kernel
/-- A solution over signals 1 to `n`, and a receiver that tracks GPS L1 C/A PRN 1 to 4 at 40 dB-Hz. -/
def solved (n : Nat) : GnsFix :=
  { tai := 1000, signals := (List.range n).map (fun i => BitVec.ofNat 9 (i + 1)), sample := 5, space := 6, iono := 7, tropo := 8, noise := 1, projected := 1, realise := 1,
    port := 1, loop := 1, variation := 1, delayCal := 1, antenna := 1, utc := none, ann := 0, orbits := 0, aims := [] }
def tracking : State :=
  let s := (List.range 4).foldl (fun s p => (s.setPairCtl p (w40 (8 * (p + 1) + 1))).setPairStat p 0xA002) ((gnss 0 0).putB GNS_POS_CFG_pos_valid true)
  s.putB TB_STATUS_time_valid true
theorem witness_solution : houseRuns (gnss 0 0) 3 = true ∧ (gnss 0 0).gns.solved ≠ some (gnss 0 0).tb.sec ∧ (gnss 0 0).tb.ns ≤ 200000000
    ∧ (gnss 0 0).on GNS_NAV_STATUS_asleep = false ∧ navUsed (gnss 0 0) (navUsable (gnss 0 0) (solved 0)) = [] ∧ ((gnss 0 0).get GNS_STATUS_str_ok).testBit 0 = true
    ∧ ((gnss 0 0).putB GNS_NAV_STATUS_doa_alarm true).on GNS_NAV_STATUS_doa_alarm = true ∧ (navUsed tracking (navUsable tracking (solved 4))).length = 4
    ∧ (solved 4).tai.toNat = tracking.now.sec ∧ tracking.on TB_STATUS_time_valid = true := by decide +kernel
theorem witness_solution_fix : spoofDue (doaSecond (doaSecond tracking false) true) true = false ∧ tracking.gns.flagged = []
    ∧ (st (exec (.timingSolution (solved 0)) (gnss 0 0))).get GNS_NAV_STATUS_fix = 0
    ∧ (st (exec (.timingSolution (solved 4)) tracking)).get GNS_NAV_STATUS_fix = 2 := by decide +kernel
/-- A survey, a spoofing alarm and sentinel mode, each begun at second 0; five seconds of one direction, or all signals in use flagged. -/
def surveying : State :=
  let s := (((gnss 0 0).putB GNS_NAV_STATUS_surveying true).putB GNS_NAV_STATUS_doa_alarm true).put GNS_SENT_period_s 1000
  { s with gns := { s.gns with surveyAt := some ⟨0, 0⟩, clearFrom := some ⟨0, 0⟩ } }
def spoofed : State := let s := gnss 0 0; { s with gns := { s.gns with doaRun := [(0, 5)], signals := [1], flagged := [1] } }
def sleeping : State :=
  let s := ((surveying.putB GNS_NAV_STATUS_asleep true).put PAL_STATE_state 2).putB PAL_STATE_sel_valid true
  { s with gns := { s.gns with sentinel := true } }
theorem witness_survey : (surveying.put GNS_SURVEY_survey_s 1000).passed ⟨0, 0⟩ 1000000000000 = true ∧ (st (exec (.surveyEnd 1 2 3 4) (surveying.put GNS_SURVEY_survey_s 1000))).rd GNS_POS_X = 1
    ∧ (surveying.put GNS_SPOOF_HOLD_hold_s 1000).passed ⟨0, 0⟩ 1000000000000 = true
    ∧ (st (exec .spoofClear (surveying.put GNS_SPOOF_HOLD_hold_s 1000))).on GNS_NAV_STATUS_doa_alarm = false := by decide +kernel
theorem witness_spoofing : spoofDue spoofed true = true ∧ spoofDue spoofed false = true ∧ spoofDue (gnss 0 0) true = false ∧ spoofDue (gnss 0 0) false = false
    ∧ ((st (exec (.spoofAlarm true) spoofed)).slot 9).cmdFault = true ∧ (st (exec (.spoofAlarm false) spoofed)).on GNS_NAV_STATUS_peak_alarm = true := by decide +kernel
theorem witness_sentinel : twStandby ((surveying.putB TW_CFG_en true).put TW_STATUS_role 2) = true ∧ surveying.gns.sentinel = false ∧ surveying.on GNS_NAV_STATUS_asleep = false
    ∧ (st (exec .sentinelSleep ((surveying.putB TW_CFG_en true).put TW_STATUS_role 2))).on GNS_NAV_STATUS_asleep = true
    ∧ sentinelLeave sleeping = false ∧ sentinelLeave (sleeping.put PAL_STATE_state 1) = true ∧ sleeping.passed sleeping.gns.sentAt (sleeping.get GNS_SENT_period_s * 1000000000) = true
    ∧ (sleeping.put GNS_SENT_period_s 2000).passed sleeping.gns.sentAt 2000000000000 = false
    ∧ Nat.land (sleeping.get GNS_CTL_str_en) (sleeping.get GNS_STATUS_str_ok) = sleeping.get GNS_CTL_str_en
    ∧ (st (exec .sentinelWake sleeping)).on GNS_CTL_en = true ∧ (st (exec .sentinelWake (sleeping.put PAL_STATE_state 1))).gns.sentinel = false := by decide +kernel

/-! ## The line ports, the sitter table and the services on them -/

/-- Line port 0 and its Brush group up and enabled, sub-port 0 linked, receive on, the free-buffer FIFO 9 and the rings at FIFO 10. -/
def lined (free : Fifo) : State :=
  let s := up [0x080, 0x088, 0x090, 0x0E0, 0x0E2, 0x078, 0x004, 0x010, 0x012]
  let s := ((((s.putB (LPp_CFG_en 0) true).put (LPp_STATUS_link 0) 1).putB (BRGg_CTL_rx_en 0) true).putB (LPp_STATUS_cal_valid 0) true).put (LPp_CFG_sub_en 0) 1
  let s := ((((s.put (BRGg_AUX_FIFO_free 0) 9).put (BRGg_AUX_FIFO_host_free 0) 9).wr (BRGg_RX_FIFO0 0) 0x0A0A0A0A0A).put (BRGg_AUX_FIFO_host_rx 0) 10).put (BRGg_RX_CFG_buf_bytes 0) 1600
  ({ s with tb := { s.tb with sec := 9, counting := true } }.setFifo 9 free).setFifo 10 packet
/-- A PTP Sync to the group address in its own EtherType (R328), and a frame of MAC control. -/
def ptpFrame : List (BitVec 8) := [1, 0, 0, 0, 0, 0, 2, 0, 0, 0, 0, 0, 0x88, 0xF7, 0x10, 2] ++ List.replicate 44 0
def pauseFrame : List (BitVec 8) := [1, 0x80, 0xC2, 0, 0, 1, 2, 0, 0, 0, 0, 0, 0x88, 0x08] ++ List.replicate 46 0
theorem witness_line_receive : unitErr (lined plain) (LPp_CFG 0) = none ∧ (lined plain).on (LPp_CFG_en 0) = true ∧ addressed (lined plain) 0 (ptpFrame.map BitVec.toNat) = true
    ∧ (parseFrame (pauseFrame.map BitVec.toNat)).isNone = true ∧ ((parseFrame (ptpFrame.map BitVec.toNat)).map (fun r => r.cls)) = some 0
    ∧ (st (exec (.lpFrameReceive 0 0 ptpFrame false 0) (lined plain))).get (LPp_CNT_FCS_count 0) = 1 ∧ (st (exec (.lpFrameReceive 0 0 pauseFrame true 0) (lined plain))).get (LPp_CNT_RX_count 0) = 1
    ∧ (st (exec (.lpFrameReceive 0 0 ptpFrame true 0) (lined plain))).get (LPp_CNT_RX_NOBUF_count 0) = 1 ∧ (lined plain).on TST_CTL_stamp_en = false
    ∧ (st (exec (.lpFrameReceive 0 0 ptpFrame true 0) ((lined plain).putB (LPp_STATUS_cal_valid 0) false))).get (LPp_CNT_RX_DISCARD_count 0) = 1 := by decide +kernel
/-- A free buffer at DRAM. -/
def buffer : Fifo := { plain with closed := [[0x10000000]] }
theorem witness_line_buffer : (fifoPop ((lined buffer).fifo 9)).1 = some 0x10000000 ∧ ptpFrame.length ≤ (lined buffer).get (BRGg_RX_CFG_buf_bytes 0)
    ∧ (fifoPacket (lined buffer) 10 16 [0, 0, 0, 0]).isSome = true ∧ (fifoPacket ((lined buffer).setFifo 10 Fifo.reset) 10 16 [0, 0, 0, 0]).isNone = true ∧ ringFifo (lined buffer) 0 0 = 10
    ∧ goes (exec (.lpFrameReceive 0 0 ptpFrame true 5) (lined buffer)) = true := by decide +kernel

/-- A frame of House waiting to leave, with its line as given, and no armed correction or one that the spec reserves. -/
def leaving (arm : Word) (link : Nat) : State :=
  ((lined plain).setPort 0 { LpSt.reset with txq := [{ txFrame 0 3 (List.replicate 60 5) with arm := arm }] }).put (LPp_STATUS_link 0) link
theorem witness_departure : (txChoose (hostFrame (leaving 0 1) 0) 0 ((leaving 0 1).now)).isSome = true ∧ txChoose (hostFrame (lined plain) 0) 0 ((lined plain).now) = none
    ∧ ((st (exec (.lpFrameDeparture 0 0) (leaving 0 1))).port 0).last = some (0, List.replicate 60 5) ∧ ((st (exec (.lpFrameDeparture 0 0) (leaving 0 0))).port 0).txq = []
    ∧ stop (exec (.lpFrameDeparture 0 0) (leaving 0xE000000000 1)) = some .unpredictable := by decide +kernel
/-- A frame held until an instant long past, and one whose bound is not the present one. -/
def leavingAs (ctl : Nat) : State := (lined plain).setPort 0 { LpSt.reset with txq := [{ txFrame 0 3 (List.replicate 60 5) with ctl := ctl, time := w40 (s40Of ⟨8, 0⟩) }] }
theorem witness_departure_roads : ((txChoose (hostFrame (leavingAs 65536) 0) 0 ((leavingAs 65536).now)).map (fun e => e.2)) = some 1
    ∧ (st (exec (.lpFrameDeparture 0 0) (leavingAs 65536))).on (LPp_EVENTS_hold_missed 0) = true
    ∧ (leavingAs 0).get (BRGg_BSEQ_bseq 0) = 0 ∧ (st (exec (.lpFrameDeparture 0 0) (leavingAs (2 ^ 17 + 2 ^ 18)))).on (LPp_EVENTS_stale_bound 0) = true := by decide +kernel
/-- Two stamps in the queue, the first one too old. -/
def agedStamps : State := { (lined plain).setPort 0 { LpSt.reset with tsq := [(5, 7, ⟨0, 0⟩), (6, 8, ⟨100, 0⟩)] } with tb := { State.reset.tb with sec := 100 } }
theorem witness_stamp_aged : stampAged agedStamps 0 ⟨0, 0⟩ = true ∧ stampAged agedStamps 0 ⟨100, 0⟩ = false
    ∧ (st (exec (.tsqPop host 0) agedStamps)).rd (LPp_TSQ_ID 0) = w40 (2 ^ 39 + 6) ∧ (st (exec (.tsqPop host 0) agedStamps)).on (LPp_EVENTS_tsq_aged 0) = true := by decide +kernel
theorem witness_stamp_queue : Reads (lined plain) host (LPp_TSQ_ID 0) ∧ goes (exec (.tsqPop host 0) (lined plain)) = true
    ∧ (st (exec (.tsqPop host 0) ((lined plain).setPort 0 { LpSt.reset with tsq := [(5, 7, ⟨9, 0⟩)] }))).rd (LPp_TSQ_ID 0) = w40 (2 ^ 39 + 5) := by unfold Reads Uninjected; decide +kernel
theorem witness_line_links : (st (exec (.lpAlignLock 0 0 7) ((lined plain).put (LPp_STATUS_link 0) 0))).get (LPp_STATUS_link 0) = 1 ∧ (st (exec (.lpLinkLoss 0 0) (lined plain))).get (LPp_STATUS_link 0) = 0
    ∧ Writes (lined plain) host (LPp_CFG 0) (putField ((lined plain).rd (LPp_CFG 0)) 0 0 0) ∧ goes (exec (.lpCfgWrite host 0 0 (putField ((lined plain).rd (LPp_CFG 0)) 0 0 0)) (lined plain)) = true
    ∧ goes (exec (.lpCfgWrite host 0 1 5) (lined plain)) = true ∧ Writes (lined plain) host (LPp_TX_OFS 0) 5 := by unfold Writes Uninjected; decide +kernel
/-- A LAUNCH stroke of second 9 on group 0 for the descriptor at its first word. -/
def launchStroke (gen : Nat) : Stroke := mkStroke 9 0 (w40 (4 * 2 ^ 36 + gen * 2 ^ 16)) 0
def launching (gen : Nat) : State :=
  let s := (lined plain).setLed 3 { pinSlot with state := 2, commit := true, stroke := launchStroke gen }
  ({ s with skb := { s.skb with armed := true, waits := 0 } }.st (groupBase 0) 0x10000000).st (groupBase 0 + 1) 60
theorem witness_launch : DueStroke (launching 0) 3 4 ∧ strokeDue (lined plain) 3 4 = false ∧ (∀ j, j < 4 → memReadErr (launching 0) (groupMaster 0 true) (groupBase 0 + j) = none)
    ∧ (∀ j, j ≤ 12 → memReadErr (launching 0) (groupMaster 0 true) (0x10000000 + j) = none) ∧ ((st (exec (.launchStrokeExecute 3 0) (launching 1))).led 3).report = 6
    ∧ goes (exec (.launchStrokeExecute 3 0) (launching 0)) = true ∧ unitErr (launching 0) (BRGg_CTL 0) = none
    ∧ ((st (exec (.launchStrokeExecute 3 0) ((launching 0).putB (UNIT_STATUS_fenced 0x080) true))).led 3).report = 5 := by unfold DueStroke; decide +kernel

/-- A LAUNCH whose line is taken, and one that has waited for it. -/
def lineTaken (x : Int) (waits : List Nat) : State :=
  let s := launching 0
  { s.setPort 0 { s.port 0 with busy := [(0, x)] } with skb := { s.skb with pushWait := waits } }
theorem witness_launch_waits : lineBusy (lineTaken (2 ^ 60) []) 0 0 (lineTaken (2 ^ 60) []).now = true ∧ lineBusy (lineTaken 0 [3]) 0 0 (lineTaken 0 [3]).now = false
    ∧ launchWaits (lineTaken 0 [3]) 3 = true ∧ strokeOk ((launching 0).led 3).stroke = true ∧ (st (exec (.launchStrokeExecute 3 0) (lineTaken (2 ^ 60) []))).skb.pushWait = [3]
    ∧ ((st (exec (.launchStrokeExecute 3 0) (lineTaken 0 [3]))).led 3).state ≠ 2 := by decide +kernel

/-- The sitter unit enabled with a command word in FIFO 9, and bucket 7 dirty in group 1's cache. -/
def stz (w : Word) : State :=
  let s := ((((lined { plain with closed := [[w]] }).putB STZ_CTL_en true).put STZ_CMD_FIFO_fifo 9).put STZ_BASE_base 0x10000000)
  { s with stz := { s.stz with cache := [(7, { group := 1, dirtyAt := some ⟨8, 0⟩, words := List.replicate 12 5 })] } }
theorem witness_sitters : (stz 0).on STZ_CTL_en = true ∧ unitErr (stz 0) STZ_CTL = none ∧ stop (exec .stzCmdWord (stz 0)) = some .reservedValue
    ∧ (stzWords (st (exec .stzCmdWord (stz (w40 (2 ^ 38 + 7 * 2 ^ 18 + 3 * 2 ^ 16))))) 7).getD 11 0 = 6 ∧ goes (exec .stzCmdWord (stz (w40 (2 * 2 ^ 38 + 8 * 2 ^ 18)))) = true
    ∧ goes (exec .stzCmdWord { stz 0 with fifos := [] }) = true ∧ (st (exec (.sitterCacheTakeover 0 7) (stz 0))).ld 0x1000005F = 5 ∧ unitErr (stz 0) MEM_STATUS = none
    ∧ (st (exec (.sitterWriteback 7) (stz 0))).ld 0x10000054 = 5 ∧ goes (exec (.sitterCacheTakeover 1 7) (stz 0)) = true ∧ goes (exec (.sitterWriteback 8) (stz 0)) = true := by decide +kernel
theorem witness_sitter_table : Writes (stz 0) host STZ_CMD 1 ∧ Writes (stz 0) host STZ_CMD 2 ∧ (st (exec (.reseedAndClear host) (stz 0))).on STZ_STATUS_clearing = true
    ∧ (st (exec (.writeBackCaches host) (stz 0))).stz.cache.map (fun e => e.2.dirtyAt) = [none] ∧ (stz 0).on STZ_STATUS_clearing = false
    ∧ (st (exec .stzTableClearDone ((stz 0).putB STZ_STATUS_clearing true))).on STZ_STATUS_ready = true := by unfold Writes Uninjected; decide +kernel
def ptpSession : PtpCfg := { header := List.replicate 48 0, prio1 := 128, prio2 := 128, variance := 0, identity := 1, source := 0x20, twoStep := false, auth := none }
/-- A client on slot 23 whose Announce interval is a second, last heard at second `t`, and an ESMC PDU sent then. -/
def ptpAt (t : Nat) : State :=
  let x : PtpClient := { port := 0, source := [], own := [], header := [], announceMs := 1000, asym := 0, asymUnc := none, auth := none, sync := none, t1 := none, req := none,
                         accuracy := 0, bound := none, discarded := 0 }
  let s := ((lined plain).put (PAL_Sn_ADV_qrank 23) 3).put GLZ_ADV_ql_rank 2
  { s with ptp := { s.ptp with clients := [(5, x)], announce := [(23, ⟨t, 0⟩)], esmcHeard := [(0, ⟨t, 0⟩)], esmcSent := [(0, (2, ⟨t, 0⟩))] } }
theorem witness_receipt : (ptpAt 7).passed ⟨7, 0⟩ 1000000000 = true ∧ (ptpAt 9).passed ⟨9, 0⟩ 1000000000 = false ∧ (ptpAt 4).passed ⟨4, 0⟩ 5000000000 = true
    ∧ ((ptpAt 7).ptp.clients.find? (fun e => decide (e.1 = 5))).isSome = true ∧ (st (exec (.announceReceiptTimeout 5) (ptpAt 7))).get (PAL_Sn_ADV_qrank 23) = 15
    ∧ (st (exec (.announceReceiptTimeout 5) (ptpAt 9))).get (PAL_Sn_ADV_qrank 23) = 3 ∧ (ptpAt 9).passed ⟨9, 0⟩ 5000000000 = false := by decide +kernel
theorem witness_esmc : (tabGet (fun _ => (0, (⟨0, 0⟩ : T80))) (ptpAt 9).ptp.esmcSent 0) = (2, ⟨9, 0⟩) ∧ (ptpAt 9).get GLZ_ADV_ql_rank = 2
    ∧ ((st (exec (.esmcPduSend 0 true) (ptpAt 9))).port 0).txq = [] ∧ ((st (exec (.esmcPduSend 0 false) (ptpAt 9))).port 0).txq = []
    ∧ ((st (exec (.esmcPduSend 0 false) (ptpAt 8))).port 0).txq.length = 1
    ∧ ((st (exec (.esmcPduSend 0 true) ((ptpAt 9).put GLZ_ADV_ql_rank 3))).port 0).txq.length = 1 := by decide +kernel
theorem witness_port_services : houseRuns (lined plain) 6 = true ∧ unitErr (lined plain) (BRGg_CTL 0) = none ∧ ((st (exec (.ptpMessageSend 0 0 ptpSession) (lined plain))).port 0).txq.length = 1
    ∧ (lined plain).ptp.clients = [] ∧ goes (exec (.ptpMessageSend 0 1 { ptpSession with auth := some (1, 2, 3) }) (lined plain)) = true
    ∧ ((st (exec (.esmcPduSend 0 true) (lined plain))).port 0).txq.length = 1
    ∧ (lined plain).passed (tabGet (fun _ => ⟨0, 0⟩) (lined plain).ptp.esmcHeard 0) 5000000000 = true ∧ (st (exec (.esmcPduTimeout 0) (lined plain))).get (PAL_Sn_ADV_qrank 14) = 15
    ∧ State.reset.passed ⟨0, 0⟩ 5000000000 = false := by decide +kernel

/-! ## Spans, the Studio bus and the Atelier -/

/-- Span port 0 up, enabled and linked, the bus, the Atelier function and the twin up, each function's FIFO of its own. -/
def spanned : State :=
  let s := up [0x0D0, 0x0D8, 0x0D9, 0x0DA, 0x0E0, 0x0E2, 0x010, 0x004, 0x0C0, 0x028, 0x038, 0x078, 0x0F0]
  let s := (((s.putB (SPp_CFG_en 0) true).putB (SPp_STATUS_link 0) true).putB SP0_NODE_CFG_valid true).putB ATL_CTL_run true
  let s := (((s.put (SPp_FIFO_tx 0) 1).put (SPp_FIFO_rx_span 0) 2).put (SPp_FIFO_rx_atel 0) 3).put (SPp_FIFO_txstamp 0) 4
  let s := (((((s.put STB_RX_FIFO_rx_atel 5).put ATL_FIFO_in 6).put ATL_FIFO_mgmt_rx 7).put ATL_FIFO_mgmt_tx 8).putB STB_CFG_en true).putB STB_CFG_tx_en true
  let s : State := { s.putB KV_STATUS_tampered false with tb := { s.tb with sec := 1000, counting := true } }
  [1, 2, 3, 4, 5, 6, 7, 8].foldl (fun s n => s.setFifo n { packet with depthLog := 9 }) s
/-- A packet waits in FIFO `n`, behind its length word. -/
def holding (s : State) (n : Nat) (ws : List Word) : State := s.setFifo n { packet with depthLog := 9, closed := [0 :: ws] }
/-- A span frame to the group address (R387) of 60 octets, of the type given. -/
def spanOctets (type : Nat) : List (BitVec 8) := [0x01, 0x80, 0xC2, 0, 0, 0x0E, 2, 0, 0, 0, 0, 0, 0x88, 0xB5, 1, BitVec.ofNat 8 type] ++ List.replicate 44 0
theorem witness_span_receive : spanLive spanned 0 = true ∧ spanLive State.reset 0 = false ∧ spanTakes spanned 0 ((spanOctets 1).map BitVec.toNat) = true ∧ spanTakes spanned 0 [] = false
    ∧ (st (exec (.spFrameReceive 0 (spanOctets 1) false 0) spanned)).get (SPp_CNT_FCS_count 0) = 1 ∧ (st (exec (.spFrameReceive 0 [] true 0) spanned)).get (SPp_CNT_DISCARD_count 0) = 1
    ∧ spanned.on TST_CTL_stamp_en = false ∧ goes (exec (.spFrameReceive 0 (spanOctets 1) true 0) spanned) = true := by decide +kernel
theorem witness_span_departure : (takePacket (holding spanned 1 ([60, 0, 0] ++ List.replicate 12 5)) 1).isSome = true ∧ takePacket spanned 1 = none
    ∧ stop (exec (.spFrameDeparture 0 0) (holding spanned 1 [59, 0, 0])) = some .unpredictable ∧ goes (exec (.spFrameDeparture 0 0) (holding spanned 1 ([60, 0, 0] ++ List.replicate 12 5))) = true
    ∧ goes (exec (.spFrameDeparture 0 0) (holding spanned 1 ([w40 (2 ^ 39 + 60), 1001, 0] ++ List.replicate 12 5))) = true := by decide +kernel
/-- Past a boundary, on a busy line, and on one whose link is down. -/
def spanBusy (x : Int) : State := let s := holding spanned 1 ([60, 0, 0] ++ List.replicate 12 5); s.setSpan 0 { s.span 0 with busy := x }
theorem witness_span_line : 0 < spBoundary spanned 0 ∧ spBoundary spanned 0 ≤ (16383 : BitVec 14).toNat ∧ (t80Units (spanBusy (2 ^ 60)).now : Int) - (spanBusy (2 ^ 60)).tb.steps < ((spanBusy (2 ^ 60)).span 0).busy
    ∧ ((st (exec (.spFrameDeparture 0 0) (spanBusy (2 ^ 60)))).fifo 1).closed.length = 1 ∧ ((st (exec (.spFrameDeparture 0 0) (spanBusy 0))).fifo 1).closed = []
    ∧ ((st (exec (.spFrameDeparture 0 0) ((spanBusy (2 ^ 60)).putB (SPp_STATUS_link 0) false))).fifo 1).closed = []
    ∧ (st (exec (.spFrameDeparture 0 0) (holding spanned 1 ([w40 (2 ^ 39 + 60), 9, 0] ++ List.replicate 12 5)))).on (SPp_EVENTS_hold_missed 0) = true
    ∧ (st (exec (.spFrameDeparture 0 0) (holding spanned 1 ([w40 (2 ^ 38 + 2 ^ 30 + 60), 9, 0] ++ List.replicate 12 5)))).on (SPp_EVENTS_stale_bound 0) = true := by decide +kernel
theorem witness_span_config : (st (exec (.spAlignLock 0) spanned)).on (SPp_STATUS_cal_valid 0) = true ∧ Writes spanned host (SPp_CFG 0) 0 ∧ (st (exec (.spCfgWrite host 0 0 0) spanned)).on (SPp_EVENTS_cfg_ignored 0) = true
    ∧ (st (exec (.spCfgWrite host 0 1 7) (spanned.putB (SPp_CFG_en 0) false))).rd (SPp_TX_OFS 0) = 7 := by unfold Writes Uninjected; decide +kernel
theorem witness_exchange : houseRuns spanned 7 = true ∧ spanned.on KV_STATUS_tampered = false ∧ (nodePos spanned).isSome = true ∧ nodePos State.reset = none ∧ spanAuth spanned 0 = true ∧ (spanned.span 0).heldTo = none
    ∧ spanAuth ((spanned.put LCY_STATE_state 1).putB (SPp_RATE_auth_en 0) false) 0 = false ∧ peerUid spanned 0 = 0 ∧ goes (exec (.exchangeSend 0) ((spanned.put LCY_STATE_state 1).putB (SPp_RATE_auth_en 0) false)) = true := by decide +kernel
/-- An exchange frame of a peer that authenticates nothing, as PROVING allows. -/
def exchanged (head : List (BitVec 8)) : State :=
  let bs := List.replicate 14 0 ++ (head ++ List.replicate (112 - head.length) 0).map BitVec.toNat
  holding ((spanned.put LCY_STATE_state 1).putB (SPp_RATE_auth_en 0) false) 2 ([1000, 0, w40 bs.length] ++ frameWords bs)
theorem witness_exchange_process : goes (exec (.exchangeProcess 0) spanned) = true ∧ (st (exec (.exchangeProcess 0) (exchanged []))).get (SPp_CNT_DISCARD_count 0) = 1
    ∧ (st (exec (.exchangeProcess 0) (exchanged ([1, 1, 0, 112] ++ List.replicate 95 0 ++ [7])))).get (SPp_CNT_AUTH_count 0) = 1
    ∧ ((st (exec (.exchangeProcess 0) (exchanged ([1, 1, 0, 112] ++ List.replicate 11 0 ++ [9])))).span 0).peerLast = some 9 := by decide +kernel
/-- An exchange that completes a round trip: the peer's stamps of second 1000, our own frame 4, wavelengths of 1 and 2 pm. -/
def roundTrip : State :=
  let body := [1, 1] ++ beBytes 2 112 ++ beBytes 8 0 ++ beBytes 4 9 ++ beBytes 5 1000 ++ beBytes 5 0 ++ beBytes 4 9 ++ beBytes 5 1000 ++ beBytes 5 0 ++ beBytes 4 4
    ++ beBytes 5 77 ++ List.replicate 35 0 ++ beBytes 4 1 ++ beBytes 4 2 ++ List.replicate 20 0
  let s := (exchanged (body.map (BitVec.ofNat 8)))
  let s := ((s.put (SPp_LAMBDA_RX_pm 0) 1).put (SPp_LAMBDA_TX_pm 0) 2).put (SPp_RATE_rate 0) 0
  s.setSpan 0 { s.span 0 with sent := [{ seq := 4, at_ := ⟨1000, 0⟩, uncal := false }] }
theorem witness_round_trip : (st (exec (.exchangeProcess 0) roundTrip)).get (SPp_CNT_SAMPLES_count 0) = 1 ∧ (st (exec (.exchangeProcess 0) roundTrip)).rd (SPp_RTT 0) = 0
    ∧ (st (exec (.exchangeProcess 0) roundTrip)).rd (PAL_Sn_BOUND 10) = 77 ∧ (st (exec (.exchangeProcess 0) roundTrip)).on (SPp_LINK_ST_peer_ok 0) = true := by decide +kernel
theorem witness_xc : (spanned.span 0).xcFrom = none ∧ ((spanned.setSpan 0 { spanned.span 0 with xcFrom := some ⟨0, 0⟩ }).span 0).xcFrom = some ⟨0, 0⟩
    ∧ goes (exec (.xcWindowEnd 0) (spanned.setSpan 0 { spanned.span 0 with xcFrom := some ⟨0, 0⟩ })) = true
    ∧ spanned.elapsed (secsAfter ⟨0, 0⟩ (spanned.get (SPp_XC_xc_win 0))) = true ∧ spanned.elapsed (secsAfter ⟨1000, 0⟩ (spanned.get (SPp_XC_xc_win 0))) = false := by decide +kernel

/-- A frame of three octets for node 9 waits at the bus; or is being sent again. -/
def bused (head : Nat) : State := holding spanned (stbQueue spanned 0) [w40 head, 7]
def backing (t : Nat) : State := { spanned with stb := { spanned.stb with cur := some (0, [3, 7]), attempts := 15, backoff := some ⟨t, 0⟩ } }
theorem witness_bus_gap : spanned.elapsed spanned.stb.gapTo = true ∧ spanned.elapsed ⟨1000, 1⟩ = false ∧ (backing 1000).elapsed ⟨1000, 0⟩ = true
    ∧ ((st (exec (.stbFrameTransmit 0 false) { bused (9 * 2 ^ 32 + 3) with stb := { spanned.stb with gapTo := ⟨1000, 1⟩ } })).stb.last) = [] := by decide +kernel
theorem witness_bus : stbMay spanned = true ∧ spanned.stb.cur = none ∧ (stbNext (bused (9 * 2 ^ 32 + 3))).isSome = true ∧ goes (exec (.stbFrameTransmit 0 false) (bused (9 * 2 ^ 32 + 3))) = true
    ∧ stop (exec (.stbFrameTransmit 0 false) (bused (1501))) = some .unpredictable ∧ goes (exec (.stbFrameTransmit 2 true) (bused (9 * 2 ^ 32 + 3))) = true
    ∧ goes (exec (.stbBackoffExpiry 0 true) (backing 1000)) = true
    ∧ (st (exec (.stbBackoffExpiry 1 true) (backing 1000))).on STB_EVENTS_excess = true
    ∧ goes (exec (.stbBackoffExpiry 1 true) (backing 1001)) = true := by decide +kernel
theorem witness_bus_receive : (st (exec (.stbFrameReceive 0xFF 3 0 [] 4 false) spanned)).rd 0x0D921 = 1 ∧ (st (exec (.stbFrameReceive 0xFF 0 0 [] 0 false) (spanned.put STB_CFG_node 0))).on STB_EVENTS_dup_node = true
    ∧ goes (exec (.stbFrameReceive 9 3 2 [1, 2] 0 false) spanned) = true ∧ goes (exec (.stbFrameReceive 9 3 2 [1, 2] 0 true) spanned) = true := by decide +kernel
/-! ## The House services on the line ports -/

/-- A frame over IPv4 and UDP from 10.0.0.1 to the group address of port 0, its header's check octets made to sum to all ones. -/
def udpFrame (port : Nat) (msg : List Nat) : List Nat :=
  let h := [0x45, 0] ++ beBytes 2 (28 + msg.length) ++ [0, 0, 0, 0, 64, 17]
  let a := [10, 0, 0, 1, 224, 0, 1, 1]
  [1, 0, 0x5E, 0, 1, 1, 2, 0, 0, 0, 0, 9, 8, 0] ++ h ++ beBytes 2 (65535 - onesSum (h ++ [0, 0] ++ a) 0) ++ a
    ++ beBytes 2 40000 ++ beBytes 2 port ++ beBytes 2 (8 + msg.length) ++ [0, 0] ++ msg
/-- An NTP client's request of version 4 with poll 6 and transmit timestamp 11 to 18 (R342). -/
def ntpRequest : List Nat := [0x23, 0, 6, 0xEC] ++ List.replicate 36 0 ++ [11, 12, 13, 14, 15, 16, 17, 18]
def octs (bs : List Nat) : List (BitVec 8) := bs.map (BitVec.ofNat 8)
/-- The message of the frame that joined port 0's queue, after `l4` octets. -/
def answer (o : Out) (l4 : Nat) : List Nat := match ((st o).port 0).txq with | f :: _ => f.bytes.drop l4 | [] => []
/-- Port 0 with the NTP service and no sitter table. -/
def ntpPort : State := ((lined buffer).putB STZ_CTL_en false).put (LPp_RX_AGE_age_ms 0) 100
theorem test_ntp_answer : (answer (exec (.lpFrameReceive 0 0 (octs (udpFrame 123 ntpRequest)) true 5) ntpPort) 42).take 12 = [0xE4, 16, 6, 226, 0, 0, 0, 0, 255, 255, 255, 255] := by decide +kernel
theorem witness_ntp_answer : serves ntpPort 2 = true ∧ ((parseFrame (udpFrame 123 ntpRequest)).map (fun r => (r.cls, r.l4))) = some (2, 42) ∧ (ntpPort.fifo 10).closed = []
    ∧ (ntpPort.fifo 10).packet = true ∧ (ntpPort.fifo 10).begun = false ∧ ringFifo ntpPort 0 2 = 10 ∧ ntpPort.get (BRGg_AUX_FIFO_free 0) = 9 ∧ ntpPort.on STZ_CTL_en = false
    ∧ (∀ g : Fin 4, g ≠ 0 → ntpPort.on (BRGg_CTL_rx_en g) = false) ∧ stampAged ntpPort 0 (steadyOf ntpPort (t80Add ntpPort.now (-5))) = false ∧ addressed ntpPort 0 (udpFrame 123 ntpRequest) = true
    ∧ (∀ j, j ≤ 18 → plainMemory (0x10000000 + j) ∧ memReadErr ntpPort (groupMaster 0 true) (0x10000000 + j) = none ∧ memWriteErr ntpPort (groupMaster 0 true) (0x10000000 + j) = none) := by
  unfold plainMemory; decide +kernel
/-- A client session on port 1, and R340's example of it: times in 1/1024 ns within the second. -/
def client (unc : Option Nat) : PtpClient :=
  { port := 1, source := [], own := [], header := [], announceMs := 1000, asym := 0, asymUnc := unc, auth := none, sync := none, t1 := none, req := none, accuracy := 0xFE,
    bound := some 25000, discarded := 0 }
def sampled (unc : Option Nat) : State :=
  let f := fun (ns : Nat) => (ns : Int) * 16384
  clientSample ((timed 9).put (GLZ_EMITk_term 21) 203) 0 (client unc) (f 2000000000) (f 2000049381) (f 2000800002) (f 2000849314)
theorem test_client_sample : ((sampled (some 300)).slot 18).pend = [8832] ∧ (sampled (some 300)).rd (PAL_Sn_BOUND 18) = 25000 ∧ (sampled (some 300)).rd (GLZ_Sn_MEAS 18) = 406
    ∧ (sampled (some 300)).rd (GLZ_Sn_ASYM 18) = 300 ∧ (sampled none).rd (GLZ_Sn_ASYM 18) = 12336625 := by decide +kernel
/-- RFC 4231's first case, FIPS 197's C.1, RFC 4493's second example, and RFC 5297's A.1. -/
theorem test_hmac : (hmacSha256 (List.replicate 20 0x0b) (ascii "Hi There")).take 4 = [0xb0, 0x34, 0x4c, 0x61] := by decide +kernel
theorem test_aes : aesEncrypt (List.range 16) ((List.range 16).map (17 * ·)) = [0x69, 0xc4, 0xe0, 0xd8, 0x6a, 0x7b, 4, 0x30, 0xd8, 0xcd, 0xb7, 0x80, 0x70, 0xb4, 0xc5, 0x5a] := by decide +kernel
theorem test_cmac : (aesCmac (beBytes 16 0x2b7e151628aed2a6abf7158809cf4f3c) (beBytes 16 0x6bc1bee22e409f96e93d7e117393172a)).take 4 = [7, 0x0a, 0x16, 0xb4] := by decide +kernel
theorem test_siv : sivSeal (beBytes 32 0xfffefdfcfbfaf9f8f7f6f5f4f3f2f1f0f0f1f2f3f4f5f6f7f8f9fafbfcfdfeff) [beBytes 24 0x101112131415161718191a1b1c1d1e1f2021222324252627]
    (beBytes 14 0x112233445566778899aabbccddee) = beBytes 30 0x85632d07c6e8f37f950acd320a2ecc9340c02b9690c4dc04daef7f6afe5c := by decide +kernel
theorem test_sha384 : (sha384 (ascii "abc")).take 4 = [0xcb, 0, 0x75, 0x3f] := by decide +kernel
/-- The spanned device with an Operator Root, and a frame of the chassis bus from node 3 (R410, R411) with its ICV. -/
def atelier : State := { spanned with kv := { spanned.kv with opRoot := some (List.replicate 32 7) } }
def busFrame (kind dst ttl : Nat) (body : List Nat) : List Word :=
  let msg := [1, kind] ++ beBytes 2 (38 + body.length) ++ beBytes 8 5 ++ beBytes 2 0 ++ beBytes 2 dst ++ [ttl, 0, 0, 0, 0, 1] ++ body
  let key := deriveKey (List.replicate 32 7) 1 (ascii "ATELBUS" ++ beBytes 2 0) []
  w40 (3 * 2 ^ 24 + 38 + body.length) :: frameWords (msg ++ icvOf key msg)
def heardBus (kind dst ttl : Nat) (body : List Nat) : State := holding atelier 5 (busFrame kind dst ttl body)
def taken (s : State) : Option (Option (Nat × Nat × Nat)) := (atlTake s 4).map (fun r => r.1.map (fun f => (f.key, f.kind, beNum (octets f.body 0 8))))
theorem witness_atelier_frames : atlLive atelier = true ∧ atlLive State.reset = false ∧ taken atelier = none ∧ taken (holding atelier 5 [38, 0]) = some none := by decide +kernel
theorem witness_atelier_hello : taken (heardBus 0x10 0 1 (List.replicate 60 0)) = some (some (19, 0x10, 0)) := by decide +kernel
theorem witness_atelier_register : taken (heardBus 0x11 0 1 (beBytes 8 6 ++ [0, 9])) = some (some (19, 0x11, 6)) := by decide +kernel
theorem witness_atelier_grant : taken (heardBus 0x12 0 2 (beBytes 8 6 ++ [0, 9, 0])) = some (some (19, 0x12, 6)) ∧ taken (heardBus 0x12 0 2 (beBytes 8 7 ++ [0, 9, 0])) = some (some (19, 0x12, 7)) := by decide +kernel
theorem witness_atelier_other : (6 : Nat) ≠ ownUid ∨ (7 : Nat) ≠ ownUid := by omega
theorem witness_atelier_relay : taken (heardBus 0x13 0 1 (List.replicate 30 0)) = some (some (19, 0x13, 0)) ∧ (atelier.span 19).theta = none := by decide +kernel
theorem witness_atelier_mgmt : taken (heardBus 0x14 9 2 [1, 2]) = some (some (19, 0x14, 258)) := by decide +kernel
def withAtl (f : AtlSt → AtlSt) : State := { atelier with atl := f atelier.atl }
theorem witness_hello_send : atlLive atelier = true ∧ atelier.atl.helloAt = none ∧ spanLive atelier 0 = true ∧ atelier.on (SPp_STATUS_link 0) = true ∧ spanLive atelier 1 = false ∧
    atelier.elapsed (t80Add ⟨1000, 0⟩ (nsU 10000000 : Nat)) = false := by decide +kernel
def aged (t : Nat) : State := withAtl (fun a => { a with nodes := [(19, ⟨6, 6, 9, 1, 1, 0, 0, 0, true, ⟨t, 0⟩⟩)] })
theorem witness_adjacency : (neigh (aged 0) 19).isSome = true ∧ (aged 0).elapsed (t80Add ⟨0, 0⟩ (nsU 35000000 : Nat)) = true ∧
    (aged 0).elapsed (t80Add ⟨1000, 0⟩ (nsU 35000000 : Nat)) = false ∧ (neigh (aged 0) 0).isNone = true := by decide +kernel
theorem witness_root : isRoot (withAtl (fun a => { a with root := some ownUid })) = true ∧ isRoot (withAtl (fun a => { a with root := some (ownUid + 1) })) = false ∧
    ownUid + 1 ≠ ownUid ∧ atelier.atl.root = none ∧ atelier.elapsed (t80Add atelier.atl.countAt (nsU 100000000 : Nat)) = true ∧
    atelier.elapsed (t80Add atelier.atl.rootAt (nsU (100000000 * atelier.get ATL_TIMING_root_to) : Nat)) = true ∧
    atelier.elapsed (t80Add ⟨1000, 0⟩ (nsU (100000000 * atelier.get ATL_TIMING_root_to) : Nat)) = false := by
  refine ⟨by simp [isRoot, withAtl], by simp [isRoot, withAtl], by omega, ?_⟩
  decide +kernel
theorem witness_claims : atelier.atl.better = none ∧ atelier.elapsed (secsAfter ⟨0, 0⟩ (atelier.get ATL_TIMING_claim_hold)) = true ∧
    atelier.elapsed (secsAfter ⟨1000, 0⟩ (atelier.get ATL_TIMING_claim_hold)) = false ∧ ¬ (ownUid + 1 = ownUid ∨ ∃ c ∈ claims atelier, c.2.1 = ownUid + 1) := by
  refine ⟨rfl, by decide +kernel, by decide +kernel, ?_⟩
  rw [show claims atelier = [] from by decide +kernel]; simp
theorem witness_asks : isRoot (withAtl (fun a => { a with parent := some 0 })) = false ∧ atelier.atl.registered = false ∧
    atelier.elapsed (t80Add atelier.atl.parentFrom (nsU (10000000 * atelier.get ATL_TIMING_stable_ms) : Nat)) = true ∧ atelier.elapsed (t80Add ⟨0, 0⟩ (nsU 10000000000 : Nat)) = true ∧
    atelier.elapsed (t80Add ⟨1000, 0⟩ (nsU 200000000 : Nat)) = false := by
  refine ⟨by simp [isRoot, withAtl]; decide +kernel, ?_⟩
  decide +kernel
theorem witness_mgmt : (takePacket atelier 8).isNone = true ∧ (takePacket (holding atelier 8 [w40 (2 * 2 ^ 16 + 9), 0]) 8).isSome = true ∧
    stop (exec .mgmtSend (holding atelier 8 [w40 (1401 * 2 ^ 16 + 9)])) = some .unpredictable := by decide +kernel
theorem witness_mgmt_routes : (st (exec .mgmtSend (holding atelier 8 [w40 (2 * 2 ^ 16 + 9), 0]))).get ATL_CNT_MGMT_DROP_count = 1 := by decide +kernel
def lateSecond : State := { atelier with tb := { atelier.tb with ns := 20000000 } }
theorem witness_relay_send : atelier.now.low = 0 ∧ (lateSecond).now = ⟨1000, nsU 20000000⟩ ∧ spanChildren atelier = [] := by decide +kernel
theorem witness_route_write : Writes atelier host ATL_RT_DATA (2 ^ 39) ∧ routeCount atelier = 0 ∧ bitAt (2 ^ 39 : Word) 39 = true ∧
    (tabGet (fun _ => (0 : Word)) (st (exec (.atlRtDataWrite host (2 ^ 39)) atelier)).atl.routes (atelier.get ATL_RT_IDX_addr)) = 2 ^ 39 := by unfold Writes Uninjected; decide +kernel
theorem witness_span_loss : (st (exec (.spLinkLoss 0) atelier)).on (SPp_STATUS_link 0) = false ∧ (st (exec (.spLinkLoss 0) atelier)).on (SPp_EVENTS_link_change 0) = true ∧
    spanLive atelier 1 = false := by decide +kernel

/-! ## The twin, and memory -/

/-- Pairing on, in role `role` (1 active, 2 standby) and pairing state `p`, with the link key in TW, and slot 3 of the ledger as `x`. -/
def twin (role p : Nat) (x : Slot) : State :=
  let s := (((((ledgered x).wr (UNIT_STATUS 0x0DA) 0).putB TW_CFG_en true).put TW_STATUS_role role).put TW_STATUS_pstate p).putB KV_STATUS_tampered false
  { s with tw := { s.tw with keyCopy := true } }
/-- A frame of the link (R434) with seq 1 that carries no departure time. -/
def hdr (seq : Nat) (lineOk tagOk : Bool) : TwHdr := ⟨BitVec.ofNat 16 seq, 0, 0, 0, lineOk, tagOk⟩
def one : TwHdr := hdr 1 true true
theorem witness_twin_frames : (st (exec (.twinIdleRx (hdr 0 true true)) (twin 2 3 Slot.free))).tw.rxSeq = 0 ∧
    (st (exec (.twinIdleRx (hdr 1 false true)) (twin 2 3 Slot.free))).get TW_CNT_CRC_count = 1 ∧ (st (exec (.twinIdleRx (hdr 1 true false)) (twin 2 3 Slot.free))).get TW_CNT_AUTH_count = 1 ∧
    (st (exec (.twinGiveRx (hdr 7 true true) 5 0 0) (twin 2 3 Slot.free))).tw.give = none ∧ (st (exec (.twinGiveRx one 5 0 0) (twin 2 3 Slot.free))).tw.give = some ⟨5, 0⟩ := by decide +kernel
def greeting (lc : Fin 5) (tampered : Bool) : TwHello := ⟨7, 1, 0, 0, Config.houseVersion, lc, tampered, 0⟩
theorem witness_hello_house (t : Bool) : (greeting 2 t).house = Config.houseVersion := rfl
theorem witness_hello : (twin 2 1 Slot.free).get TW_STATUS_pstate = 1 ∧ (twin 2 1 Slot.free).on TMP_STATUS_latched = false ∧ (greeting 2 true).tampered = true ∧
    (greeting 2 false).lc.val = ((twin 2 1 Slot.free).put LCY_STATE_state 2).get LCY_STATE_state ∧ goes (exec (.twinHelloRx one (greeting 2 false)) (twin 2 3 Slot.free)) = true := by decide +kernel
def mirrored (k : Stroke) (p : Nat) (chk : BitVec 32) : Out := exec (.twinStrokeRx one k.hi k.lo k.act 0 chk 5 9 false) (twin 2 p Slot.free)
def farStroke : Stroke := mkStroke 900 0 0x1400000000 0
theorem witness_twin_stroke : (st (mirrored farStroke 3 (BitVec.ofNat 32 farStroke.chk))).skb.offers.length = 1 ∧ (st (mirrored farStroke 3 1)).fix.fatal = true ∧
    (st (mirrored pinStroke 3 (BitVec.ofNat 32 pinStroke.chk))).tw.sent = [(3, [w40 (2 ^ 32 + 5)])] ∧ (st (mirrored farStroke 4 1)).fix.fatal = false ∧ strictClass pinStroke = true := by decide +kernel
def awaiting (wrote : Bool) : State :=
  let s := twin 1 3 pinSlot
  { s with skb := { s.skb with offers := [{ core := none, asker := .nobody, old := Slot.free, stroke := pinStroke, keeper := false, slot := some 3, wrote := wrote, mirrored := true, acked := false, late := false, fromTwin := false, at_ := ⟨9, 0⟩ }] } }
theorem witness_twin_ack : ((st (exec (.twinStrokeAckRx one 5 true) (awaiting true))).led 3).state = 0 ∧ ((st (exec (.twinStrokeAckRx one 5 false) (awaiting true))).led 3).commit = true ∧
    (st (exec (.twinStrokeAckRx one 5 false) (awaiting false))).skb.offers.map Offer.acked = [true] ∧ (st (exec (.twinStrokeAckRx one 6 false) (awaiting true))).skb.offers.length = 1 := by decide +kernel
theorem witness_twin_note : ((st (exec (.twinNoteRx one 5 2) (twin 2 3 { pinSlot with state := 2, stroke := pushStroke }))).led 3).state = 3 ∧ ((st (exec (.twinNoteRx one 6 2) (twin 2 3 pinSlot))).led 3).state = 1 ∧
    twStandby (twin 2 3 pinSlot) = true ∧ twStandby (twin 1 3 pinSlot) = false := by decide +kernel
theorem witness_twin_state : (st (exec (.twinStateRx one 7 3 false [(GLZ_B, 400)]) (twin 2 3 pinSlot))).rd TW_GEN = 7 ∧
    (st (exec (.twinStateRx one 7 3 false [(GLZ_B, 400)]) (twin 2 3 pinSlot))).rd (PAL_Sn_BOUND 23) = 400 ∧ (st (exec (.twinStateRx one 7 3 false []) (twin 1 3 pinSlot))).rd TW_GEN = 0 := by decide +kernel
def sentSlot (k : Stroke) : List Word := slotWords { pinSlot with state := 2, seq := 8, stroke := k }
theorem witness_twin_refill : (st (exec (.twinRefillRx one (sentSlot farStroke) true) (twin 2 2 pinSlot))).get TW_STATUS_pstate = 3 ∧
    ((st (exec (.twinRefillRx one (sentSlot farStroke) false) (twin 2 2 pinSlot))).led 0).seq = 8 ∧ (st (exec (.twinRefillRx one (sentSlot { farStroke with chk := 1 }) false) (twin 2 2 pinSlot))).fix.fatal = true ∧
    (st (exec (.twinRefillRx one (sentSlot farStroke) true) (twin 2 3 pinSlot))).get TW_STATUS_pstate = 3 ∧ mirrorSlot (twin 2 2 pinSlot) 8 = some 0 := by decide +kernel
def driven : State := let s := (twin 1 4 { pinSlot with twin := true, stroke := pushStroke }).putB TW_STATUS_give_missing true; { s with tw := { s.tw with driveAt := some ⟨8, 0⟩ } }
theorem witness_twin_give : (st (exec (.twinGiveRx one 8 0 0) driven)).tw.give = none ∧ ((st (exec (.twinGiveRx one 10 0 0) (driven.putB TW_STATUS_give_missing false))).led 3).state = 3 := by decide +kernel
def swapping (ack : Bool) (at_ sent : Nat) (role : Nat) : State :=
  let s := twin role 3 pinSlot; { s with tw := { s.tw with swapAt := some ⟨at_, 0⟩, swapAck := ack, swapSent := ⟨sent, 0⟩ } }
theorem witness_twin_swap : (st (exec (.twinSwapRx one 20 0) (twin 2 3 pinSlot))).tw.swapAt = some ⟨20, 0⟩ ∧ swapLegal (twin 1 3 pinSlot) = true ∧ (st (exec (.twinSwapRx one 0 0) (twin 1 3 pinSlot))).tw.swapAt.isSome = true ∧
    swapLegal (twin 1 4 pinSlot) = false ∧ (st (exec (.twinSwapAckRx one 20 0) (swapping false 20 9 1))).tw.swapAck = true ∧ (st (exec (.twinSwapAckRx one 21 0) (swapping false 20 9 1))).tw.swapAck = false := by decide +kernel
def unsent (sends : Nat) : State := let s := twin 1 3 pinSlot; { s with tw := { s.tw with unacked := [⟨1, 3, [0], sends, ⟨8, 0⟩⟩], progressAt := ⟨8, 0⟩ } }
theorem witness_twin_resend : (st (exec .twinResend (unsent 1))).get TW_CNT_RETX_count = 1 ∧ (st (exec .twinResend (unsent 4))).get TW_CNT_RETX_count = 0 ∧ (twin 1 3 pinSlot).tw.unacked = [] := by decide +kernel
def heardNow (s : State) : State := { s with tw := { s.tw with lastRx := ⟨9, 0⟩ } }
theorem witness_twin_timeouts : (twin 1 3 pinSlot).elapsed (t80Add ⟨0, 0⟩ (nsU 2000 : Nat)) = true ∧ (st (exec .twinLinkTimeout (heardNow (twin 1 3 pinSlot)))).get TW_STATUS_pstate = 3 ∧
    (heardNow (twin 1 3 pinSlot)).skb.offers = [] ∧ (heardNow (twin 1 4 pinSlot)).elapsed (t80Add ⟨9, 0⟩ (nsU 2000 : Nat)) = false ∧
    (twin 1 4 pinSlot).elapsed (t80Add ⟨0, 0⟩ (nsU 10000000 : Nat)) = true ∧ (st (exec .lapsedQuietExpiry (heardNow (twin 1 3 pinSlot)))).get TW_STATUS_pstate = 3 := by decide +kernel
theorem witness_twin_lanes : (st (exec (.twinLaneLoss 1) ((twin 1 3 pinSlot).put TW_STATUS_lane_ok 3))).get TW_STATUS_lane_ok = 1 ∧ ((twin 1 3 pinSlot).get TW_STATUS_lane_ok).testBit 1 = false ∧
    (st (exec (.twinLaneLock 1) (twin 1 3 pinSlot))).get TW_STATUS_lane_ok = 2 ∧ (st (exec (.twinLaneLock 1) (twin 0 0 pinSlot))).get TW_STATUS_pstate = 1 := by decide +kernel
theorem witness_twin_greets : (st (exec .twinHelloSend (twin 1 1 pinSlot))).tw.helloTx = true ∧ (st (exec .twinHelloSend (twin 1 3 pinSlot))).tw.helloTx = false ∧
    (st (exec .twinSilent ((twin 2 3 pinSlot).putB TW_STATUS_peer_own true))).on TW_EVENTS_silent = true ∧ (st (exec .twinSilent (twin 2 3 pinSlot))).on TW_EVENTS_silent = false := by decide +kernel
theorem witness_twin_commands : Writes (twin 1 4 pinSlot) host TW_CMD 2 ∧ Writes (twin 1 4 pinSlot) host TW_CMD 3 ∧ Writes (twin 1 4 pinSlot) host TW_CMD 1 ∧ goes (exec (.repair host) (twin 1 4 pinSlot)) = true ∧
    goes (exec (.endPairing host) (twin 1 3 pinSlot)) = true := by unfold Writes Uninjected; decide +kernel

theorem witness_give_up : twActive (twin 1 3 pinSlot) = true ∧ (st (exec .giveUp (twin 0 3 pinSlot))).get TW_STATUS_role = 0 := by decide +kernel
theorem witness_takeover : ((twin 2 3 pinSlot).putB TW_STATUS_ready true).on TW_STATUS_ready = true ∧ (twin 2 3 pinSlot).fix.fatal = false ∧ twStandby (twin 2 3 pinSlot) = true ∧ (twin 2 3 pinSlot).on TW_STATUS_own = false := by decide +kernel
def enabling (k : Nat) (mode : Nat) : State :=
  let s := (((twin 1 4 pinSlot).putB TW_STATUS_own true).put (OUTk_CFG_mode k) mode).putB TW_STATUS_give_missing false
  { s with tw := { s.tw with waitOut := [k], checks := [(k, ⟨9, 0⟩)], driveAt := some ⟨8, 0⟩ } }
theorem witness_drivers : (st (exec (.outputDriverEnable 16 false false) (enabling 16 1))).on (OUTk_STATUS_driving 16) = true ∧ ((st (exec (.outputDriverEnable 16 false false) (enabling 16 1))).get TW_GAP_pins).testBit 16 = false ∧
    ((st (exec (.outputDriverEnable 16 false true) ((enabling 16 1).setOut 16 { OutSt.reset with highAt := some ⟨9, 0⟩ }))).get TW_GAP_pins).testBit 16 = true ∧
    (st (exec (.outputDriverEnable 15 false false) (enabling 16 1))).on (OUTk_STATUS_driving 15) = false ∧ (st (exec .giveTimeout (enabling 16 1))).on TW_STATUS_give_missing = true ∧
    (twin 1 4 pinSlot).tw.driveAt = none ∧ (st (exec .giveTimeout driven)).rd TW_T_STOP_HI = 0 := by decide +kernel
/-- The microsecond of the check of output 16 is over, in a swap or not. -/
def checked (swap : Option T80) : State := let s := enabling 16 1; { s with tw := { s.tw with checks := [(16, ⟨8, 0⟩)], waitOut := [], swapAt := swap } }
theorem witness_driver_check : (st (exec (.takeoverOutputCheck 16 true) (enabling 16 1))).on (OUTk_STATUS_safe_forced 16) = true ∧
    (enabling 16 1).elapsed (t80Add ⟨9, 0⟩ ((nsU 1000 : Nat) : Int)) = false ∧ (checked none).elapsed (t80Add ⟨8, 0⟩ ((nsU 1000 : Nat) : Int)) = true ∧
    (st (exec (.takeoverOutputCheck 16 false) (enabling 16 1))).tw.checks = [(16, ⟨9, 0⟩)] ∧ (st (exec (.takeoverOutputCheck 16 false) (checked none))).tw.checks = [] ∧
    (enabling 16 1).tw.checks.find? (fun c => decide (c.1 = 15)) = none ∧ (st (exec (.takeoverOutputCheck 16 false) (checked (some ⟨9, 0⟩)))).on TW_EVENTS_swap_done = true ∧
    (st (exec (.takeoverOutputCheck 16 true) (let s := enabling 16 1; { s with tw := { s.tw with swapAt := some ⟨9, 0⟩ } }))).on TW_EVENTS_swap_failed = true := by decide +kernel
theorem witness_swap_instant : (swapping true 9 9 1).reached ⟨9, 0⟩ = true ∧ (st (exec .swapInstant (swapping true 10 9 1))).on TW_EVENTS_gave_up = false ∧
    (st (exec .swapAckTimeout (swapping false 20 5 1))).tw.swapAt = none ∧ (st (exec .swapAckTimeout (swapping false 20 9 1))).tw.swapAt = some ⟨20, 0⟩ ∧ (twin 1 3 pinSlot).tw.swapAt = none := by decide +kernel
def swapByMailbox : State :=
  let s := { (mailbox 0x0B [] 1) with tw := (swapping false 0 0 1).tw, tb := (swapping false 0 0 1).tb }
  let s := (s.putB TW_CFG_en true).put TW_STATUS_role 1
  { s with tw := { s.tw with swapMbx := true } }
theorem witness_swap_mailbox : mbxCode swapByMailbox = 0x0B ∧ swapByMailbox.on MBX_STATUS_busy = true ∧ twActive swapByMailbox = true ∧ (st (exec .swapAckTimeout swapByMailbox)).on MBX_STATUS_busy = false := by decide +kernel
def homing (from_ : Nat) : State :=
  let s := ((((twin 2 3 pinSlot).putB TW_CFG_revertive true).putB TW_CFG_home true).putB TW_STATUS_ready true).put TW_CFG_wtr_s 5
  { s with tw := { s.tw with readyFrom := some ⟨from_, 0⟩ } }
theorem witness_revertive : (st (exec .revertiveWtrExpiry (homing 4))).tw.sent = [(8, [0, 0])] ∧ (st (exec .revertiveWtrExpiry (homing 5))).tw.sent = [] ∧ (twin 2 3 pinSlot).tw.readyFrom = none := by decide +kernel
theorem witness_claim : (st (exec .powerOnPinClaim (twin 0 0 pinSlot))).get TW_STATUS_role = 1 ∧ (st (exec .powerOnPinClaim (twin 2 0 pinSlot))).get TW_STATUS_role = 2 ∧
    (st (exec .ownershipConflict ((twin 1 3 pinSlot).putB TW_STATUS_own true))).get TW_STATUS_role = 2 ∧ (st (exec .ownershipConflict (twin 1 3 pinSlot))).get TW_STATUS_role = 1 := by decide +kernel
theorem witness_planned_swap : (st (exec (.twCmdSwap host) (twin 1 3 pinSlot))).tw.swapping = true ∧ goes (exec (.twCmdSwap host) (twin 2 3 pinSlot)) = true ∧
    Asked (mailbox 0x0B [] 1) 0x0B [] ∧ Asked (((mailbox 0x0B [] 1).putB TW_CFG_en true).put TW_STATUS_role 1) 0x0B [] ∧ swapLegal (mailbox 0x0B [] 1) = false ∧
    swapLegal ((((mailbox 0x0B [] 1).putB TW_CFG_en true).put TW_STATUS_role 1).put TW_STATUS_pstate 3) = true := by unfold Asked; decide +kernel
theorem witness_step : goes (step { State.reset with pending := [.giveUp] }) = true ∧ State.reset.pending = [] ∧ houseRuns State.reset 5 = true ∧ goes (step State.reset) = true := by decide +kernel

end Sys2Proof.Tests
end

section
/-! PROOF. Register accesses (O45): the common part of every register command (`writeReg`, `readReg`), said once for an access that is
performed and once for one that is turned away. -/

namespace Sys2Proof.Machine

/-! ### What the Tally and a starting clock leave alone -/

@[simp] theorem tallyOne_lat (s : State) (u c i : Nat) : (tallyOne s u c i).lat = s.lat := by
  unfold tallyOne; split <;> rfl

@[simp] theorem tally_lat (s : State) (u c : Nat) : (tally s u c).lat = s.lat := by
  unfold tally; split
  · rfl
  · simp only [tallyOne_lat]

@[simp] theorem startClock_lat (s : State) (a : Nat) : (startClock s a).lat = s.lat := by
  unfold startClock; dsimp only; split
  · rfl
  · split
    · rfl
    · rw [tally_lat]; rfl

theorem lo_of_lat {s t : State} (h : t.lat = s.lat) (a : Nat) : t.lo a = s.lo a := by unfold State.lo; rw [h]

theorem now_of_tb {s t : State} (h : t.tb = s.tb) : t.now = s.now := by unfold State.now; rw [h]

theorem RegsOnly.onlyRegisters {s t : State} (h : RegsOnly s t) : OnlyRegisters s t := by
  unfold RegsOnly at h; unfold OnlyRegisters; rw [h]

/-! ### The error record of the matrix (R493) -/

theorem inc_regsOnly (s : State) (f : Fld) : RegsOnly s (s.inc f) := rfl

theorem rd_inc_ne (s : State) (f : Fld) {b : Nat} (h : b ≠ f.addr) : (s.inc f).rd b = s.rd b := rd_put_ne s f _ h

/-- The count of the matrix that an error response of a kind adds to (R493). -/
def mtxCount (s : State) (kind : Nat) : State :=
  if kind = 0 then s.inc MTX_CNT_DECODE_count
  else if kind = 1 then s.inc MTX_CNT_PRIV_count
  else if kind = 5 then s.inc MTX_CNT_HOST_ALIGN_count else s

/-- The word of MTX_ERR_INFO for an error response. -/
def mtxInfo (m : Master) (kind : Nat) (write : Bool) (bar : Nat) (rel : Bool) : Word :=
  w40 (bar * 2 ^ 12 + b2n rel * 2 ^ 11 + b2n write * 2 ^ 10 + kind * 2 ^ 7 + m.id.val)

theorem mtxRecord_eq (s : State) (m : Master) (kind addr : Nat) (write : Bool) (bar : Nat) (rel : Bool) :
    mtxRecord s m kind addr write bar rel =
      (mtxCount ((s.put MTX_ERR_ADDR_addr addr).wr MTX_ERR_INFO (mtxInfo m kind write bar rel)) kind).ev MTX_EVENTS_err := rfl

theorem mtxCount_regsOnly (s : State) (kind : Nat) : RegsOnly s (mtxCount s kind) := by
  unfold mtxCount; split_ifs
  · exact inc_regsOnly _ _
  · exact inc_regsOnly _ _
  · exact inc_regsOnly _ _
  · rfl

/-- The counts stand at offsets 2 to 4 of the matrix's unit. -/
theorem mtxCount_rd (s : State) (kind : Nat) {b : Nat} (h : b < MTX_CNT_DECODE ∨ MTX_CNT_HOST_ALIGN < b) :
    (mtxCount s kind).rd b = s.rd b := by
  have hne : b ≠ MTX_CNT_DECODE ∧ b ≠ MTX_CNT_PRIV ∧ b ≠ MTX_CNT_HOST_ALIGN := by
    unfold MTX_CNT_DECODE MTX_CNT_PRIV MTX_CNT_HOST_ALIGN at *; omega
  obtain ⟨hdecode, hpriv, halign⟩ := hne
  unfold mtxCount; split_ifs
  · exact rd_inc_ne _ _ hdecode
  · exact rd_inc_ne _ _ hpriv
  · exact rd_inc_ne _ _ halign
  · rfl

theorem mtxRecord_regsOnly (s : State) (m : Master) (kind addr : Nat) (write : Bool) (bar : Nat) (rel : Bool) :
    RegsOnly s (mtxRecord s m kind addr write bar rel) := by
  rw [mtxRecord_eq]
  exact (((put_regsOnly _ _ _).trans (wr_regsOnly _ _ _)).trans (mtxCount_regsOnly _ _)).trans (event_regsOnly _ _ _)

theorem mtxRecord_on_events (s : State) (m : Master) (kind addr : Nat) (write : Bool) (bar : Nat) (rel : Bool) :
    (mtxRecord s m kind addr write bar rel).on MTX_EVENTS_err = true := by
  rw [mtxRecord_eq]; exact ev_on _ _ (by decide) rfl (by decide)

theorem mtxRecord_get_addr (s : State) (m : Master) (kind addr : Nat) (write : Bool) (bar : Nat) (rel : Bool) :
    (mtxRecord s m kind addr write bar rel).get MTX_ERR_ADDR_addr = addr % 2 ^ 32 := by
  rw [mtxRecord_eq, ev_get_ne _ _ _ (by decide) (by decide)]
  unfold State.get
  rw [mtxCount_rd _ _ (by decide), rd_wr_ne _ _ (by decide)]
  exact get_put_self s MTX_ERR_ADDR_addr addr (by unfold Fld.ok; decide)

theorem mtxRecord_rd_info (s : State) (m : Master) (kind addr : Nat) (write : Bool) (bar : Nat) (rel : Bool) :
    (mtxRecord s m kind addr write bar rel).rd MTX_ERR_INFO = mtxInfo m kind write bar rel := by
  rw [mtxRecord_eq]; unfold State.ev
  rw [event_rd_ne _ _ _ (by decide) (by decide), mtxCount_rd _ _ (by decide), rd_wr_self]

/-- An error record changes no register but the matrix's own and Tally counters. -/
theorem mtxRecord_rd (s : State) (m : Master) (kind addr : Nat) (write : Bool) (bar : Nat) (rel : Bool) {b : Nat}
    (hu : b / 256 ≠ 0x0E1) (hb : b % 256 < 0xF0) : (mtxRecord s m kind addr write bar rel).rd b = s.rd b := by
  have hout : b < 0x0E1 * 0x100 ∨ 0x0E1 * 0x100 + 6 < b := by omega
  rw [mtxRecord_eq]; unfold State.ev
  rw [event_rd_ne _ _ _ hb (by simp only [MTX_EVENTS_err, MTX_EVENTS]; omega),
    mtxCount_rd _ _ (by simp only [MTX_CNT_DECODE, MTX_CNT_HOST_ALIGN]; omega),
    rd_wr_ne _ _ (by simp only [MTX_ERR_INFO]; omega),
    rd_put_ne _ _ _ (by simp only [MTX_ERR_ADDR_addr, MTX_ERR_ADDR]; omega)]

theorem b2n_le_one (b : Bool) : b2n b ≤ 1 := by cases b <;> decide

/-- The fields of the error record are what was recorded (R493). -/
theorem mtxInfo_fields (m : Master) {kind : Nat} (write : Bool) (bar : Nat) (rel : Bool) (hk : kind < 8) :
    fieldOf (mtxInfo m kind write bar rel) 9 7 = kind ∧ fieldOf (mtxInfo m kind write bar rel) 4 0 = m.id.val ∧
      fieldOf (mtxInfo m kind write bar rel) 10 10 = b2n write := by
  have hid := m.id.isLt
  have hw := b2n_le_one write
  have hr := b2n_le_one rel
  simp only [fieldOf, bitsOf, mtxInfo, w40, BitVec.toNat_ofNat, Nat.shiftRight_eq_div_pow]
  omega

/-! ### An access that is turned away -/

/-- What a write of the register at `a` leaves that is turned away with an error response of a kind (R25, R92, R104, R480, R493): the
matrix's record, and every register as it was but for the matrix's own and the common blocks'. -/
def TurnedAway (s : State) (m : Master) (a kind : Nat) (t : State) : Prop :=
  OnlyRegisters s t ∧ t.on MTX_EVENTS_err = true ∧ t.get MTX_ERR_ADDR_addr = 0x400000 + a ∧ t.get MTX_ERR_INFO_kind = kind ∧
    t.get MTX_ERR_INFO_master = m.id.val ∧ t.on MTX_ERR_INFO_write = true ∧ ∀ b, b / 256 ≠ 0x0E1 → b % 256 < 0xF0 → t.rd b = s.rd b

/-- The state that the unit's Tally leaves of an error response, before the matrix records it (R532). -/
def errTally (s : State) (kind a : Nat) : State := if kind = 1 ∨ kind = 2 then tally s (a / 256) 0x05 else s

theorem errReg_eq (s : State) (m : Master) (kind a : Nat) (write : Bool) :
    errReg s m kind a write = mtxRecord (errTally s kind a) m kind (0x400000 + a) write 3 false := rfl

theorem errTally_regsOnly (s : State) (kind a : Nat) : RegsOnly s (errTally s kind a) := by
  unfold errTally; split
  · exact tally_regsOnly _ _ _
  · rfl

theorem errTally_rd (s : State) (kind a : Nat) {b : Nat} (h : b % 256 < 0xF0) : (errTally s kind a).rd b = s.rd b := by
  unfold errTally; split
  · exact tally_rd_plain _ _ _ _ h
  · rfl

theorem errReg_turnedAway (s : State) (m : Master) {kind a : Nat} (hk : kind < 8) (ha : 0x400000 + a < 2 ^ 32) :
    TurnedAway s m a kind (errReg s m kind a true) := by
  obtain ⟨hkind, hmaster, hwrite⟩ := mtxInfo_fields m true 3 false hk
  rw [errReg_eq]
  refine ⟨((errTally_regsOnly _ _ _).trans (mtxRecord_regsOnly _ _ _ _ _ _ _)).onlyRegisters,
    mtxRecord_on_events _ _ _ _ _ _ _, ?toAddr, ?ofKind, ?byMaster, ?isWrite, fun b hu hb => ?others⟩
  case toAddr => rw [mtxRecord_get_addr, Nat.mod_eq_of_lt ha]
  case ofKind => unfold State.get; exact mtxRecord_rd_info _ _ _ _ _ _ _ ▸ hkind
  case byMaster => unfold State.get; exact mtxRecord_rd_info _ _ _ _ _ _ _ ▸ hmaster
  case isWrite =>
    have hbit : (mtxRecord (errTally s kind a) m kind (0x400000 + a) true 3 false).get MTX_ERR_INFO_write = b2n true := by
      unfold State.get; exact mtxRecord_rd_info _ _ _ _ _ _ _ ▸ hwrite
    unfold State.on; rw [hbit]; rfl
  case others => rw [mtxRecord_rd _ _ _ _ _ _ _ hu hb, errTally_rd _ _ _ hb]

/-- The command `i` of master `m` is a write of the register at `a`: whatever it does stands behind the checks of `writeReg`. -/
def WritesRegister (m : Master) (i : Instr) (a : Nat) : Prop := ∃ w eff, ∀ s, exec i s = writeReg m a w eff s

theorem WritesRegister.turnedAway {m : Master} {i : Instr} {a : Nat} (h : WritesRegister m i a) (ha : a < 2 ^ 20) {s : State} {e : Nat}
    (herr : regErr s m a true = some e) (he : e < 8) : Gives (exec i s) (TurnedAway s m a e) := by
  obtain ⟨w, eff, hexec⟩ := h
  exact ⟨errReg s m e a true, by rw [hexec, writeReg_of_err eff herr], errReg_turnedAway s m he (by omega)⟩

/-! Three rows whose effect is no function of the model with a name of its own. -/

theorem tbSlewAddWrite_writes (m : Master) (w : Word) : WritesRegister m (.tbSlewAddWrite m w) TB_SLEW_ADD :=
  ⟨w, fun s => .next (slewAdd s (sgn w)), fun _ => rfl⟩

theorem restartLearning_writes (m : Master) : WritesRegister m (.restartLearning m) UND_CMD :=
  ⟨1, fun s => .next (learnRestart s), fun _ => rfl⟩

theorem recomputePredictions_writes (m : Master) : WritesRegister m (.recomputePredictions m) UND_CMD :=
  ⟨2, fun s => .next { s with und := { s.und with recompute := true } }, fun _ => rfl⟩

/-! ### REGISTER_WRITE -/

theorem registerWrite_eq (m : Master) (a : BitVec 16) (w : Word) (s : State) :
    exec (.registerWrite m a w) s = writeReg m a.toNat w (regEffect m a.toNat w) s := rfl

/-- A performed write by the field types alone (R12). -/
theorem registerWrite_plain {s : State} {m : Master} {a : BitVec 16} {w : Word} (h : Writes s m a.toNat w)
    (heff : regEffect m a.toNat w (touched s a.toNat) = .next (plainWrite (touched s a.toNat) a.toNat w)) :
    exec (.registerWrite m a w) s = .next (plainWrite (touched s a.toNat) a.toNat w) := by
  rw [registerWrite_eq, writeReg_of_Writes _ h, heff]

theorem plainWrite_touched_rd_ne (s : State) (a : Nat) (w : Word) {b : Nat} (hne : b ≠ a) (hb : b % 256 < 0xF0) :
    (plainWrite (touched s a) a w).rd b = s.rd b := by
  unfold plainWrite; rw [rd_wr_ne _ _ hne, touched_rd _ _ _ hb]

/-- A reserved bit that is not 0 stops the write (R12, R15). -/
theorem writeReg_of_reservedBits {s : State} {m : Master} {a : Nat} {w : Word} (eff : State → Out) (h : regErr s m a true = none)
    (hbits : reservedBitsZero (regFields a) w = false) : writeReg m a w eff s = .fault .unpredictable := by
  unfold writeReg; rw [h]; simp [hbits]

/-- A reserved value stops the write (R15). -/
theorem writeReg_of_reservedValue {s : State} {m : Master} {a : Nat} {w : Word} (eff : State → Out) (h : regErr s m a true = none)
    (hbits : reservedBitsZero (regFields a) w = true) (hval : legalValues (regFields a) w = false) :
    writeReg m a w eff s = .fault .reservedValue := by
  unfold writeReg; rw [h]; simp [hbits, hval]

/-! ### HI_WORD_READ -/

/-- The HI register of a HI_WORD_READ. -/
def hiReg (i : Fin 30) : Nat := hiRegs.getD i.val TB_TIME_HI

theorem hiReg_plain : ∀ i : Fin 30, hiReg i % 256 < 0xF0 := by decide

/-- The state that a performed read of the register at `a` finds (R31, R532). -/
def touchedByRead (s : State) (a : Nat) : State := tally (startClock s a) (a / 256) 0x03

theorem touchedByRead_regsOnly (s : State) (a : Nat) : RegsOnly s (touchedByRead s a) :=
  (startClock_regsOnly _ _).trans (tally_regsOnly _ _ _)

theorem touchedByRead_rd (s : State) (a : Nat) {b : Nat} (h : b % 256 < 0xF0) : (touchedByRead s a).rd b = s.rd b := by
  unfold touchedByRead; rw [tally_rd_plain _ _ _ _ h, startClock_rd _ _ _ h]

theorem touchedByRead_lo (s : State) (a b : Nat) : (touchedByRead s a).lo b = s.lo b :=
  lo_of_lat (by unfold touchedByRead; rw [tally_lat, startClock_lat]) b

theorem touchedByRead_now (s : State) (a : Nat) : (touchedByRead s a).now = s.now := now_of_tb (touchedByRead_regsOnly s a).tb

theorem hiLatch_regsOnly (a : Nat) (s : State) : RegsOnly s (hiLatch a s) := by
  unfold hiLatch; split <;> rfl

/-- A HI read of the counter shows the counter in both words (R164). -/
theorem hiLatch_rd_live {a : Nat} (s : State) (h : hiLive a = true) :
    (hiLatch a s).rd a = T80hi s.now ∧ (hiLatch a s).rd (a + 1) = T80lo s.now := by
  unfold hiLatch; rw [if_pos h]
  exact ⟨by rw [rd_wr_ne _ _ (by omega), rd_wr_self], rd_wr_self _ _ _⟩

/-- Any other HI read latches the LO word (R164). -/
theorem hiLatch_rd_held {a : Nat} (s : State) (h : ¬ hiLive a = true) :
    (hiLatch a s).rd a = s.rd a ∧ (hiLatch a s).rd (a + 1) = s.lo (a + 1) := by
  unfold hiLatch; rw [if_neg h]
  exact ⟨rd_wr_ne _ _ (by omega), rd_wr_self _ _ _⟩

/-- The host sees the word that the HI register shows (R482). -/
def hostSees (m : Master) (a : Nat) (s : State) : State :=
  if m.id.val = 20 then { s with host := { s.host with data := [slotOf (s.rd a)], abort := false } } else s

theorem hostSees_rd (m : Master) (a : Nat) (s : State) (b : Nat) : (hostSees m a s).rd b = s.rd b := by
  unfold hostSees; split <;> rfl

theorem hostSees_onlyRegisters (m : Master) (a : Nat) {s t : State} (h : RegsOnly s t) : OnlyRegisters s (hostSees m a t) := by
  unfold RegsOnly at h; unfold OnlyRegisters hostSees; rw [h]; split <;> rfl

theorem hostSees_host {m : Master} (a : Nat) (s : State) (h : m.id.val = 20) :
    (hostSees m a s).host.data = [((hostSees m a s).rd a).setWidth 64] ∧ (hostSees m a s).host.abort = false := by
  rw [hostSees_rd]; unfold hostSees; rw [if_pos h]; exact ⟨rfl, rfl⟩

theorem hiWordRead_performed {s : State} {m : Master} {i : Fin 30} (h : Reads s m (hiReg i)) :
    exec (.hiWordRead m i) s = .next (hostSees m (hiReg i) (hiLatch (hiReg i) (touchedByRead s (hiReg i)))) :=
  readReg_of_Reads (fun s => hostSees m (hiReg i) (hiLatch (hiReg i) s)) h

/-- A performed HI read shows the pair of one instant (R164). -/
theorem hiWordRead_rd (s : State) (m : Master) (i : Fin 30) :
    let hi := hiReg i
    let t := hostSees m hi (hiLatch hi (touchedByRead s hi))
    if hiLive hi then t.rd hi = T80hi s.now ∧ t.rd (hi + 1) = T80lo s.now else t.rd hi = s.rd hi ∧ t.rd (hi + 1) = s.lo (hi + 1) := by
  dsimp only
  rw [hostSees_rd, hostSees_rd]
  split
  case isTrue hlive => rw [← touchedByRead_now s (hiReg i)]; exact hiLatch_rd_live _ hlive
  case isFalse hheld =>
    rw [← touchedByRead_rd s (hiReg i) (hiReg_plain i), ← touchedByRead_lo s (hiReg i)]; exact hiLatch_rd_held _ hheld

/-! ### The obligation -/

/-- Settles O45: performed accesses by the field types and the latch of the HI registers; every listed command is a `writeReg` of its
register, so that an error response leaves what `errReg` leaves. -/
theorem registerAccess : Obligations.RegisterAccess := by
  unfold Obligations.RegisterAccess
  refine ⟨fun s m a i w => ⟨fun hw heff => ?plain, fun herr hbits => ?reservedBits, fun herr hbits hval => ?reservedValue,
    fun hr => ?hiRead⟩, fun s m w a unit n v k d j q x e p hp => ?turnedAway⟩
  case plain =>
    exact ⟨_, registerWrite_plain hw heff, rd_wr_self _ _ _, fun b hne hb => plainWrite_touched_rd_ne s _ w hne hb,
      ((touched_regsOnly _ _).trans (wr_regsOnly _ _ _)).onlyRegisters⟩
  case reservedBits => exact writeReg_of_reservedBits _ herr hbits
  case reservedValue => exact writeReg_of_reservedValue _ herr hbits hval
  case hiRead =>
    exact ⟨_, hiWordRead_performed hr, hostSees_onlyRegisters _ _ ((touchedByRead_regsOnly _ _).trans (hiLatch_regsOnly _ _)),
      hiWordRead_rd s m i, fun hm => hostSees_host _ _ (congrArg Fin.val hm)⟩
  case turnedAway =>
    -- Each row is, by its definition, a write of the register it names.
    have hrow : WritesRegister m p.1 p.2 := by
      revert p hp
      simp only [List.forall_mem_cons, tbSlewAddWrite_writes, restartLearning_writes, recomputePredictions_writes, implies_true,
        List.not_mem_nil, false_implies, and_true, true_and]
      and_intros
      all_goals exact ⟨_, _, fun _ => rfl⟩
    have haddr : p.2 < 2 ^ 20 := by
      revert p hp
      simp only [List.forall_mem_cons, List.not_mem_nil, false_implies, implies_true, and_true, TB_STEER, TB_SLEW_ADD, TB_LOAD_LO,
        RST_LOCAL, PWR_REQ, FIFO_CFG, FIX_FORCE, FIX_RAISE, UNIT_FAULT_FORCE, TLY_CTL, VARn_CMD, VARn_PHASE, OUTk_CFG, OUTk_DIV,
        TW_CMD, PAL_CMD, STZ_CMD, ATL_RT_DATA, UND_CMD, UND_TEMP_EXT, GLZ_EVTk_VAL, GLZ_Sn_UP_LO, GNS_CH_CTL, TDCn_CAL]
      omega
    exact hrow.turnedAway haddr

end Sys2Proof.Machine
end

section
/-! PROOF. PIN and PUSH strokes (O31): how a stroke ends at its executor (`finishSlot`), and what an edge does to its pin (`pinLevel`). -/

namespace Sys2Proof.Machine

/-! ### What telling others of a completion changes -/

/-- Two states that differ at most in the registers, the cores, the messages to the host and the frames of the twin link. -/
def Tells (s t : State) : Prop :=
  t = { s with regs := t.regs, lat := t.lat, evc := t.evc, clkAt := t.clkAt, cores := t.cores, host := t.host, tw := t.tw }

theorem Tells.refl (s : State) : Tells s s := rfl

theorem Tells.trans {s t u : State} (h : Tells s t) (k : Tells t u) : Tells s u := by
  unfold Tells at *; rw [k, h]

theorem RegsOnly.tells {s t : State} (h : RegsOnly s t) : Tells s t := by
  unfold RegsOnly at h; unfold Tells; rw [h]

theorem Tells.skb {s t : State} (h : Tells s t) : t.skb = s.skb := by unfold Tells at h; rw [h]
theorem Tells.fifos {s t : State} (h : Tells s t) : t.fifos = s.fifos := by unfold Tells at h; rw [h]
theorem Tells.pins {s t : State} (h : Tells s t) : t.pins = s.pins := by unfold Tells at h; rw [h]

theorem coreEvent_tells (s : State) (k bit : Nat) : Tells s (coreEvent s k bit) := rfl

theorem mbxIrq_tells (s : State) (bit : Nat) : Tells s (mbxIrq s bit) := by
  unfold mbxIrq; dsimp only; split
  · exact (event_regsOnly s MBX_IRQ bit).tells.trans rfl
  · exact (event_regsOnly s MBX_IRQ bit).tells

theorem noticeOfferer_tells (s : State) (o : Nat) : Tells s (noticeOfferer s o) := by
  unfold noticeOfferer; split
  · exact coreEvent_tells _ _ _
  · exact mbxIrq_tells _ _

theorem twSend_tells (s : State) (kind : Nat) (payload : List Word) : Tells s (twSend s kind payload) := by
  unfold twSend; split <;> rfl

/-! ### How a stroke ends -/

/-- The slot of a stroke that has ended with a report or none (R148). -/
def Slot.ended (x : Slot) (report late : Nat) : Slot :=
  { x with state := if report = 0 then 3 else 4, report := report, late := late }

theorem finishSlot_tells (s : State) (i report late : Nat) : Tells (s.setLed i ((s.led i).ended report late)) (finishSlot s i report late) := by
  unfold finishSlot
  extract_lets x s₁ s₂ s₃
  have h₂ : Tells s₁ s₂ := by
    unfold s₂; split_ifs
    · exact (put_regsOnly _ _ _).tells
    · exact (put_regsOnly _ _ _).tells
    · rfl
  have h₃ : Tells s₂ s₃ := by
    unfold s₃; split_ifs
    · rfl
    · exact (event_regsOnly _ _ _).tells.trans (noticeOfferer_tells _ _)
  refine (h₂.trans h₃).trans ?_
  split
  · exact twSend_tells _ _ _
  · rfl

theorem led_of_skb {s t : State} (h : t.skb = s.skb) (i : Nat) : t.led i = s.led i := by unfold State.led; rw [h]

theorem fifo_of_fifos {s t : State} (h : t.fifos = s.fifos) (n : Nat) : t.fifo n = s.fifo n := by unfold State.fifo; rw [h]

theorem level_of_pins {s t : State} (h : t.pins = s.pins) (p : Nat) : t.level p = s.level p := by unfold State.level; rw [h]

theorem complete_tells (s : State) (i report late : Nat) :
    Tells ((journalAdd s (s.led i).seq report late).setLed i ((s.led i).ended report late)) (complete s i report late) :=
  finishSlot_tells (journalAdd s (s.led i).seq report late) i report late

theorem complete_finished (s : State) (i report late : Nat) : Finished s (complete s i report late) i report late := by
  unfold Finished
  rw [led_of_skb (complete_tells s i report late).skb, led_setLed_self]; rfl

theorem complete_fifo (s : State) (i report late j : Nat) : (complete s i report late).fifo j = s.fifo j :=
  fifo_of_fifos (complete_tells s i report late).fifos j

theorem complete_journal (s : State) (i report late : Nat) :
    (complete s i report late).skb.journal = (((s.led i).seq, report, late) :: s.skb.journal).take 1024 := by
  rw [(complete_tells s i report late).skb]; rfl

theorem complete_pushWait (s : State) (i report late : Nat) : (complete s i report late).skb.pushWait = s.skb.pushWait := by
  rw [(complete_tells s i report late).skb]; rfl

/-- A stroke that completes on its own report leaves the event register's other bits, and no message changes it, while the pair sends none. -/
theorem complete_done_regs (s : State) (i late : Nat) (h : s.on TW_CFG_en = false) : (complete s i 0 late).regs = s.regs := by
  have hactive : twActive ((journalAdd s (s.led i).seq 0 late).setLed i ((s.led i).ended 0 late)) = false := by
    unfold twActive; rw [Bool.and_eq_false_iff]; exact Or.inl h
  unfold complete finishSlot
  simp only [if_true, if_false, Nat.zero_ne_one, OfNat.zero_ne_ofNat]
  rw [if_neg]
  · rfl
  · rw [Bool.and_eq_true, not_and]; intro hact
    exact absurd (hact.symm.trans hactive) (by decide)

/-! ### An edge at its pin -/

/-- The level of pin `p` before the first edge of this tick. -/
def pinBase (s : State) (p : Nat) : Bool :=
  if tabGet (fun _ => 0) s.skb.tickPins p = 0 then s.level p else decide (tabGet (fun _ => 0) s.skb.tickPins p = 2)

/-- Pin `p` at the level of an edge of instant `t`, what the tick keeps of it noted. -/
def pinSet (s : State) (p : Nat) (t : T80) (b : Bool) : State :=
  let s := { s with skb := { s.skb with tickPins := tabSet (fun _ => 0) s.skb.tickPins p (if pinBase s p then 2 else 1) } }
  let s := s.setLevel p b
  if p < 20 then s.setOut p { s.out p with fine := t.low % 1024 + s.get (OUTk_CFG_trim p) } else s

/-- OUTk_EDGES after an edge that leads from level `cur` to `b` on a tick that began at `base`. -/
def pinCounted (s : State) (p : Nat) (cur base b : Bool) : State :=
  if p < 20 ∧ pinVisible s p then
    if cur = base ∧ b ≠ base then s.inc (OUTk_EDGES_count p)
    else if cur ≠ base ∧ b = base then s.put (OUTk_EDGES_count p) (s.get (OUTk_EDGES_count p) + 2 ^ 40 - 1)
    else s
  else s

theorem pinLevel_eq (s : State) (p : Nat) (t : T80) (b : Bool) :
    pinLevel s p t b = if !pinMoves s p then s else pinCounted (pinSet s p t b) p (s.level p) (pinBase s p) b := rfl

theorem pinSet_regs (s : State) (p : Nat) (t : T80) (b : Bool) : (pinSet s p t b).regs = s.regs := by
  unfold pinSet; dsimp only; split <;> rfl

theorem pinSet_rst (s : State) (p : Nat) (t : T80) (b : Bool) : (pinSet s p t b).rst = s.rst := by
  unfold pinSet; dsimp only; split <;> rfl

theorem pinSet_skb (s : State) (p : Nat) (t : T80) (b : Bool) :
    (pinSet s p t b).skb = { s.skb with tickPins := (pinSet s p t b).skb.tickPins } := by
  unfold pinSet; dsimp only; split <;> rfl

theorem pinSet_level_self (s : State) (p : Nat) (t : T80) (b : Bool) : (pinSet s p t b).level p = b := by
  unfold pinSet; dsimp only; split
  · exact level_setLevel_self _ p b
  · exact level_setLevel_self _ p b

theorem pinSet_level_ne (s : State) {p r : Nat} (t : T80) (b : Bool) (h : r ≠ p) : (pinSet s p t b).level r = s.level r := by
  unfold pinSet; dsimp only; split
  · exact level_setLevel_ne _ b h
  · exact level_setLevel_ne _ b h

theorem pinCounted_regsOnly (s : State) (p : Nat) (cur base b : Bool) : RegsOnly s (pinCounted s p cur base b) := by
  unfold pinCounted; split_ifs
  · exact inc_regsOnly _ _
  · exact put_regsOnly _ _ _
  · rfl
  · rfl

theorem pinCounted_rd (s : State) (p : Nat) (cur base b : Bool) {a : Nat} (h : a ≠ OUTk_EDGES p) :
    (pinCounted s p cur base b).rd a = s.rd a := by
  unfold pinCounted; split_ifs
  · exact rd_inc_ne _ _ h
  · exact rd_put_ne _ _ _ h
  · rfl
  · rfl

theorem pinLevel_level_self (s : State) (p : Nat) (t : T80) {b : Bool} (h : pinMoves s p = true) : (pinLevel s p t b).level p = b := by
  rw [pinLevel_eq, if_neg (by simp [h]), level_of_pins (pinCounted_regsOnly _ _ _ _ _).pins, pinSet_level_self]

theorem pinLevel_level_ne (s : State) {p r : Nat} (t : T80) (b : Bool) (h : r ≠ p) : (pinLevel s p t b).level r = s.level r := by
  rw [pinLevel_eq]; split
  · rfl
  · rw [level_of_pins (pinCounted_regsOnly _ _ _ _ _).pins, pinSet_level_ne _ _ _ h]

theorem pinLevel_skb (s : State) (p : Nat) (t : T80) (b : Bool) :
    (pinLevel s p t b).skb = { s.skb with tickPins := (pinLevel s p t b).skb.tickPins } := by
  rw [pinLevel_eq]; split
  · rfl
  · rw [(pinCounted_regsOnly _ _ _ _ _).skb, ← pinSet_skb]

theorem pinLevel_rst (s : State) (p : Nat) (t : T80) (b : Bool) : (pinLevel s p t b).rst = s.rst := by
  rw [pinLevel_eq]; split
  · rfl
  · rw [(pinCounted_regsOnly _ _ _ _ _).rst, pinSet_rst]

theorem pinLevel_rd (s : State) (p : Nat) (t : T80) (b : Bool) {a : Nat} (h : a ≠ OUTk_EDGES p) : (pinLevel s p t b).rd a = s.rd a := by
  rw [pinLevel_eq]; split
  · rfl
  · rw [pinCounted_rd _ _ _ _ _ h, rd_of_regs (pinSet_regs _ _ _ _)]

theorem pinLevel_get (s : State) (p : Nat) (t : T80) (b : Bool) {f : Fld} (h : f.addr ≠ OUTk_EDGES p) : (pinLevel s p t b).get f = s.get f := by
  unfold State.get; rw [pinLevel_rd _ _ _ _ h]

theorem pinLevel_on (s : State) (p : Nat) (t : T80) (b : Bool) {f : Fld} (h : f.addr ≠ OUTk_EDGES p) : (pinLevel s p t b).on f = s.on f := by
  unfold State.on; rw [pinLevel_get _ _ _ _ h]

theorem gpioDriven_of_rst {s t : State} (h : t.rst = s.rst) (n : Nat) : gpioDriven t n = gpioDriven s n := by
  unfold gpioDriven optField optWord; rw [h]

theorem pinLevel_pinVisible (s : State) (p : Nat) (t : T80) (b : Bool) : pinVisible (pinLevel s p t b) p = pinVisible s p := by
  unfold pinVisible
  rw [pinLevel_get _ _ _ _ (by simp only [OUTk_CFG_mode, OUTk_CFG, OUTk_EDGES]; omega),
    pinLevel_on _ _ _ _ (by simp only [OUTk_STATUS_driving, OUTk_STATUS, OUTk_EDGES]; omega),
    pinLevel_on _ _ _ _ (by simp only [OUTk_STATUS_safe_forced, OUTk_STATUS, OUTk_EDGES]; omega), gpioDriven_of_rst (pinLevel_rst _ _ _ _)]

theorem pinMask_regsOnly (s : State) (p : Nat) : RegsOnly s (pinMask s p) := by
  unfold pinMask; split
  · rfl
  · exact (inc_regsOnly _ _).trans (event_regsOnly _ _ _)

theorem pinMask_on_masked {s : State} {p : Nat} (h : pinVisible s p = false) : (pinMask s p).on SKB_EVENTS_pin_masked = true := by
  unfold pinMask; rw [h, if_neg Bool.false_ne_true]; exact ev_on _ _ (by decide) rfl (by decide)

/-- Counting a masked stroke changes no register outside the Sketchbook but Tally counters. -/
theorem pinMask_on (s : State) (p : Nat) {f : Fld} (hu : f.addr / 256 ≠ 0x078) (hb : f.addr % 256 < 0xF0) : (pinMask s p).on f = s.on f := by
  have hev : f.addr ≠ SKB_EVENTS := by unfold SKB_EVENTS; omega
  have hcnt : f.addr ≠ SKB_CNT_PINMASK := by unfold SKB_CNT_PINMASK; omega
  unfold pinMask; split
  · rfl
  · unfold State.on; rw [ev_get_ne _ _ _ hb hev]; unfold State.get; rw [rd_inc_ne s SKB_CNT_PINMASK_count hcnt]

/-! ### Executing a stroke -/

theorem verified_of_ok {s : State} {i : Nat} (f : State → Out) (h : strokeOk (s.led i).stroke = true) : verified s i f = f s := by
  unfold verified; rw [if_pos h]

/-- The state of a PIN stroke's edge on its tick (R152, R155). -/
def pinEdge (s : State) (x : Slot) : State :=
  pinMask (pinLevel s (strokePin x.stroke) (strokeAt x.stroke) (decide (fieldOf x.stroke.act 28 28 = 0))) (strokePin x.stroke)

theorem pinEdge_skb (s : State) (x : Slot) : (pinEdge s x).skb = { s.skb with tickPins := (pinEdge s x).skb.tickPins } := by
  unfold pinEdge; rw [(pinMask_regsOnly _ _).skb, ← pinLevel_skb]

theorem pinEdge_led (s : State) (x : Slot) (i : Nat) : (pinEdge s x).led i = s.led i := by
  unfold State.led; rw [pinEdge_skb]

theorem pinEdge_level_self (s : State) (x : Slot) (h : pinMoves s (strokePin x.stroke) = true) :
    (pinEdge s x).level (strokePin x.stroke) = decide (fieldOf x.stroke.act 28 28 = 0) := by
  unfold pinEdge; rw [level_of_pins (pinMask_regsOnly _ _).pins, pinLevel_level_self _ _ _ h]

theorem pinEdge_level_ne (s : State) (x : Slot) {r : Nat} (h : r ≠ strokePin x.stroke) : (pinEdge s x).level r = s.level r := by
  unfold pinEdge; rw [level_of_pins (pinMask_regsOnly _ _).pins, pinLevel_level_ne _ _ _ h]

theorem pinEdge_on_masked (s : State) (x : Slot) (h : pinVisible s (strokePin x.stroke) = false) :
    (pinEdge s x).on SKB_EVENTS_pin_masked = true :=
  pinMask_on_masked (by rw [pinLevel_pinVisible, h])

theorem strokePin_lt (k : Stroke) : strokePin k < 64 := fieldOf_lt _ _ _

theorem pinEdge_paired (s : State) (x : Slot) (h : s.on TW_CFG_en = false) : (pinEdge s x).on TW_CFG_en = false := by
  have hp := strokePin_lt x.stroke
  unfold pinEdge
  rw [pinMask_on _ _ (by decide) (by decide), pinLevel_on _ _ _ _ (by simp only [TW_CFG_en, TW_CFG, OUTk_EDGES]; omega), h]

theorem twActive_of_unpaired {s : State} (h : s.on TW_CFG_en = false) : twActive s = false := by
  unfold twActive; rw [h, Bool.false_and]

theorem on_of_regs {s t : State} (h : t.regs = s.regs) (f : Fld) : t.on f = s.on f := by unfold State.on; rw [get_of_regs h]

/-- The trailing edge that the pulse of slot `i` leaves (R154). -/
def pulseTrail (i : Nat) (x : Slot) : Trail :=
  { slot := i, seq := x.seq, pin := strokePin x.stroke, at_ := t80Add (strokeAt x.stroke) (pulseWidth x.stroke : Nat),
    level := !decide (fieldOf x.stroke.act 28 28 = 0) }

/-- The state after the leading edge of the pulse of slot `i`, before the twin hears of it. -/
def pulseLed (s : State) (i : Nat) (x : Slot) : State :=
  (journalAdd { s with skb := { s.skb with trails := s.skb.trails ++ [pulseTrail i x] } } x.seq 0 0).setLed i { x with leadDone := true }

/-- The active unit of a pair in sync sends a NOTE of the completion (R442). -/
def noted (seq : Nat) (s : State) : State := if twActive s && twSync s then twSend s 4 [w40 seq, w40 0] else s

theorem noted_of_unpaired (seq : Nat) {s : State} (h : s.on TW_CFG_en = false) : noted seq s = s := by
  unfold noted; rw [twActive_of_unpaired h, Bool.false_and, if_neg Bool.false_ne_true]

/-- PIN_STROKE_EXECUTE of a stroke that may go. -/
theorem execPin_eq {s : State} {i : Fin 65536} (hdue : DueStroke s i 1) (htick : s.onTick (strokeAt (s.led i).stroke) = true)
    (hahead : edgeAhead s (strokePin (s.led i).stroke) (strokeAt (s.led i).stroke) (s.led i).seq = false) :
    exec (.pinStrokeExecute i) s =
      .next (if isPulse (s.led i).stroke then noted (s.led i).seq (pulseLed (pinEdge s (s.led i)) i (s.led i))
        else complete (pinEdge s (s.led i)) i 0 0) := by
  show execPinStrokeExecute i s = _
  unfold execPinStrokeExecute
  dsimp only
  rw [if_pos (by simp [hdue.1, htick, hahead]), verified_of_ok _ hdue.2]
  split
  · rfl
  · rfl

theorem pushNow_framed {s : State} {i : Nat} (h : fifoFramed (s.fifo (pushFifo (s.led i).stroke)) (fieldOf (s.led i).stroke.act 27 26) = true) :
    ∃ (u : State) (m : Nat), pushNow s i = .next (completeNow (u.setFifo (pushFifo (s.led i).stroke)
        (fifoPut (u.fifo (pushFifo (s.led i).stroke)) m (fieldOf (s.led i).stroke.act 27 26) (w40 (fieldOf (s.led i).stroke.act 25 0)))) i) ∧
      u = { s with freeCtr := u.freeCtr } ∧ (fieldOf (s.led i).stroke.act 27 26 < 2 → m = strokeMaster) := by
  unfold pushNow
  dsimp only
  rw [if_pos h]
  split
  · exact ⟨_, _, rfl, rfl, fun hlt => by omega⟩
  · exact ⟨_, _, rfl, rfl, fun _ => rfl⟩

/-! ### The obligation -/

/-- What a PIN stroke's edge leaves on a unit without a twin. -/
theorem pinStroke_next {s : State} {i : Fin 65536} (hen : s.on TW_CFG_en = false) (hdue : DueStroke s i 1)
    (htick : s.onTick (strokeAt (s.led i).stroke) = true)
    (hahead : edgeAhead s (strokePin (s.led i).stroke) (strokeAt (s.led i).stroke) (s.led i).seq = false) :
    exec (.pinStrokeExecute i) s =
      .next (if isPulse (s.led i).stroke then pulseLed (pinEdge s (s.led i)) i (s.led i) else complete (pinEdge s (s.led i)) i 0 0) := by
  rw [execPin_eq hdue htick hahead,
    noted_of_unpaired _ (show (pulseLed (pinEdge s (s.led i)) i (s.led i)).on TW_CFG_en = false from pinEdge_paired _ _ hen)]

theorem completeNow_now {s u : State} {i : Nat} (hlate : lateReport u (u.led i) = lateReport s (s.led i)) (hled : u.led i = s.led i) :
    FinishedNow s (completeNow u i) i := by
  have hfin : Finished u (completeNow u i) i _ _ := complete_finished u i (lateReport u (u.led i)).1 (lateReport u (u.led i)).2
  unfold FinishedNow Finished at *
  rw [hfin, hlate, hled]

/-- A PUSH stroke's word enters its FIFO, and the stroke ends now. -/
theorem pushNow_pushed {s : State} {i : Nat} (hframed : fifoFramed (s.fifo (pushFifo (s.led i).stroke)) (fieldOf (s.led i).stroke.act 27 26) = true) :
    Gives (pushNow s i) (fun t => FinishedNow s t i ∧
      (∃ m, (fieldOf (s.led i).stroke.act 27 26 < 2 → m = strokeMaster) ∧ t.fifo (pushFifo (s.led i).stroke) =
        fifoPut (s.fifo (pushFifo (s.led i).stroke)) m (fieldOf (s.led i).stroke.act 27 26) (w40 (fieldOf (s.led i).stroke.act 25 0))) ∧
      (∀ j, j ≠ pushFifo (s.led i).stroke → t.fifo j = s.fifo j) ∧ t.skb.pushWait = s.skb.pushWait) := by
  obtain ⟨u, m, hnext, hu, hm⟩ := pushNow_framed hframed
  have hfifo : ∀ j, u.fifo j = s.fifo j := fun j => by rw [hu]; rfl
  refine ⟨_, hnext, completeNow_now ?_ ?_, ⟨m, hm, ?_⟩, fun j hj => ?_, ?_⟩
  · rw [hu]; rfl
  · rw [hu]; rfl
  · exact (complete_fifo _ _ _ _ _).trans ((fifo_setFifo_self _ _ _).trans (by rw [hfifo]))
  · exact (complete_fifo _ _ _ _ _).trans ((fifo_setFifo_ne _ _ hj).trans (hfifo j))
  · exact (complete_pushWait _ _ _ _).trans (by rw [hu]; rfl)

section
variable {s : State} {i : Fin 65536}

theorem execPush_disabled (hdue : DueStroke s i 5) (hen : (s.fifo (pushFifo (s.led i).stroke)).en = false) :
    exec (.pushStrokeExecute i) s = .next (completeAs s i 5) := by
  show execPushStrokeExecute i s = _
  unfold execPushStrokeExecute
  rw [if_pos hdue.1, verified_of_ok _ hdue.2]
  simp [hen]

theorem execPush_takes (hdue : DueStroke s i 5) (herr : unitErr s FIFO_IDX = none) (hen : (s.fifo (pushFifo (s.led i).stroke)).en = true)
    (hany : s.skb.pushWait.any (pushesTo s (pushFifo (s.led i).stroke)) = false)
    (htakes : fifoTakes s (pushFifo (s.led i).stroke) strokeMaster (fieldOf (s.led i).stroke.act 27 26) = true) :
    exec (.pushStrokeExecute i) s = pushNow s i := by
  show execPushStrokeExecute i s = _
  unfold execPushStrokeExecute
  rw [if_pos hdue.1, verified_of_ok _ hdue.2]
  dsimp only
  rw [if_neg (by rw [herr, hen]; decide), if_neg (by rw [hany, htakes]; decide)]

theorem execPush_waits (hdue : DueStroke s i 5) (herr : unitErr s FIFO_IDX = none) (hen : (s.fifo (pushFifo (s.led i).stroke)).en = true)
    (h : s.skb.pushWait.any (pushesTo s (pushFifo (s.led i).stroke)) = true ∨
      fifoTakes s (pushFifo (s.led i).stroke) strokeMaster (fieldOf (s.led i).stroke.act 27 26) = false) :
    exec (.pushStrokeExecute i) s = .next { s.setLed i { s.led i with resume := false } with
      skb := { (s.setLed i { s.led i with resume := false }).skb with pushWait := s.skb.pushWait ++ [i.val] } } := by
  show execPushStrokeExecute i s = _
  unfold execPushStrokeExecute
  rw [if_pos hdue.1, verified_of_ok _ hdue.2]
  dsimp only
  rw [if_neg (by rw [herr, hen]; decide), if_pos (h.imp id (fun hfull => by rw [hfull]; rfl))]
  rfl

/-- A PUSH stroke that has waited, taken off the queue. -/
def unqueued (s : State) (i : Nat) : State := { s with skb := { s.skb with pushWait := s.skb.pushWait.filter (fun j => decide (j ≠ i)) } }

section
variable (hfind : s.skb.pushWait.find? (pushesTo s (pushFifo (s.led i).stroke)) = some i.val) (harmed : s.skb.armed = true)
  (hfatal : s.fix.fatal = false) (herr : unitErr s FIFO_IDX = none) (hen : (s.fifo (pushFifo (s.led i).stroke)).en = true)
include hfind harmed hfatal herr hen

theorem execPushDeferred_takes (htakes : fifoTakes s (pushFifo (s.led i).stroke) strokeMaster (fieldOf (s.led i).stroke.act 27 26) = true)
    (hok : strokeOk (s.led i).stroke = true) : exec (.pushStrokeDeferred i) s = pushNow (unqueued s i) i := by
  show execPushStrokeDeferred i s = _
  unfold execPushStrokeDeferred
  dsimp only
  rw [if_pos ⟨hfind, harmed, by rw [hfatal]; rfl⟩, if_neg (by rw [herr, hen]; decide), if_pos htakes]
  exact verified_of_ok (s := unqueued s i) (fun out => pushNow out i) hok

theorem execPushDeferred_full (hfull : fifoTakes s (pushFifo (s.led i).stroke) strokeMaster (fieldOf (s.led i).stroke.act 27 26) = false) :
    exec (.pushStrokeDeferred i) s = .next s := by
  show execPushStrokeDeferred i s = _
  unfold execPushStrokeDeferred
  dsimp only
  rw [if_pos ⟨hfind, harmed, by rw [hfatal]; rfl⟩, if_neg (by rw [herr, hen]; decide), if_neg (by rw [hfull]; decide)]

end

/-- The trailing edge `tr` of the pulse of slot `i` (R154). -/
def pulseEnded (s : State) (i : Nat) (tr : Trail) : State :=
  let u := pinLevel { s with skb := { s.skb with trails := s.skb.trails.filter (fun v => !decide (v = tr)) } } tr.pin tr.at_ tr.level
  u.setLed i { u.led i with state := 3 }

section
variable {tr : Trail} (htr : s.skb.trails.find? (fun t => decide (t.slot = i.val)) = some tr)
include htr

theorem execTrailing_due (hr : s.reached tr.at_ = true) (hahead : edgeAhead s tr.pin tr.at_ tr.seq = false) :
    exec (.pulseTrailingEdge i) s = .next (pulseEnded s i tr) := by
  show execPulseTrailingEdge i s = _
  unfold execPulseTrailingEdge
  rw [htr]
  dsimp only
  rw [if_pos ⟨hr, by rw [hahead]; rfl⟩]
  rfl

theorem execTrailing_early (h : s.reached tr.at_ = false ∨ edgeAhead s tr.pin tr.at_ tr.seq = true) :
    exec (.pulseTrailingEdge i) s = .next s := by
  show execPulseTrailingEdge i s = _
  unfold execPulseTrailingEdge
  rw [htr]
  dsimp only
  rw [if_neg]
  rintro ⟨hr, hahead⟩
  rcases h with h | h
  · exact absurd (h.symm.trans hr) (by decide)
  · rw [h] at hahead; exact absurd hahead (by decide)

end

theorem execPin_offTick (htick : s.onTick (strokeAt (s.led i).stroke) = false) : exec (.pinStrokeExecute i) s = .next s := by
  show execPinStrokeExecute i s = _
  unfold execPinStrokeExecute
  dsimp only
  rw [if_neg (fun h => absurd (htick.symm.trans h.2.1) (by decide))]

end

theorem pulseEnded_led (s : State) (i : Nat) (tr : Trail) : (pulseEnded s i tr).led i = { s.led i with state := 3 } := by
  unfold pulseEnded; dsimp only; rw [led_setLed_self]; unfold State.led; rw [pinLevel_skb]

theorem pulseEnded_trails (s : State) (i : Nat) (tr : Trail) : tr ∉ (pulseEnded s i tr).skb.trails := by
  show tr ∉ (pinLevel _ _ _ _).skb.trails
  rw [pinLevel_skb]; simp

theorem pulseEnded_level_self (s : State) (i : Nat) (tr : Trail) (h : pinMoves s tr.pin = true) :
    (pulseEnded s i tr).level tr.pin = tr.level := pinLevel_level_self _ _ _ h

theorem pulseEnded_level_ne (s : State) (i : Nat) (tr : Trail) {r : Nat} (h : r ≠ tr.pin) : (pulseEnded s i tr).level r = s.level r :=
  pinLevel_level_ne _ _ _ h

/-- Settles O31: every executed stroke is its edge or its word, followed by `complete`; the rest are the commands that find nothing to do. -/
theorem pinAndPushStrokes : Obligations.PinAndPushStrokes := by
  unfold Obligations.PinAndPushStrokes
  intro s i
  extract_lets x p up n fr word pushed
  refine ⟨fun hen hdue htick hahead => ?edge, execPin_offTick, fun tr htr => ⟨fun hr hahead => ?trail, execTrailing_early htr⟩,
    fun hdue => ⟨fun hen => ⟨_, execPush_disabled hdue hen, complete_finished _ _ _ _, fun j => complete_fifo _ _ _ _ _⟩,
      fun herr hen hany htakes hframed => ?pushes,
      fun herr hen hwait => ⟨_, execPush_waits hdue herr hen hwait, rfl, led_setLed_self _ _ _, fun j hj => led_setLed_ne _ _ hj, rfl⟩⟩,
    fun hfind harmed hfatal herr hen => ⟨fun htakes hframed hok => ?deferred, execPushDeferred_full hfind harmed hfatal herr hen⟩⟩
  case edge =>
    have hlevels : ∀ t : State, t.pins = (pinEdge s x).pins → (pinMoves s p = true → t.level p = up) ∧ (∀ r, r ≠ p → t.level r = s.level r) :=
      fun t ht => ⟨fun hm => (level_of_pins ht p).trans (pinEdge_level_self s x hm),
        fun r hr => (level_of_pins ht r).trans (pinEdge_level_ne s x hr)⟩
    refine ⟨_, pinStroke_next hen hdue htick hahead, ?_⟩
    split
    case isTrue hpulse =>
      obtain ⟨hself, hne⟩ := hlevels (pulseLed (pinEdge s x) i x) rfl
      refine ⟨hself, hne, ?_, pinEdge_on_masked s x, fun h => absurd (hpulse.symm.trans h) (by decide),
        fun _ => ⟨led_setLed_self _ _ _, pulseTrail i x, ?_, rfl, rfl, rfl, rfl⟩⟩
      · show ((x.seq, 0, 0) :: (pinEdge s x).skb.journal).take 1024 = _
        rw [pinEdge_skb]
      · show (pinEdge s x).skb.trails ++ _ = _
        rw [pinEdge_skb]
    case isFalse hsingle =>
      obtain ⟨hself, hne⟩ := hlevels (complete (pinEdge s x) i 0 0) (complete_tells _ _ _ _).pins
      have hregs : (complete (pinEdge s x) i 0 0).regs = (pinEdge s x).regs := complete_done_regs _ _ _ (pinEdge_paired s x hen)
      refine ⟨hself, hne, ?_, fun h => (on_of_regs hregs _).trans (pinEdge_on_masked s x h), fun _ => ?_, fun h => absurd h hsingle⟩
      · rw [complete_journal, pinEdge_led, pinEdge_skb]
      · have hfin := complete_finished (pinEdge s x) i 0 0
        unfold Finished at hfin ⊢
        rwa [pinEdge_led] at hfin
  case trail =>
    exact ⟨_, execTrailing_due htr hr hahead, pulseEnded_led s i tr, pulseEnded_trails s i tr, pulseEnded_level_self s i tr,
      fun r => pulseEnded_level_ne s i tr⟩
  case pushes =>
    obtain ⟨t, ht, hnow, hput, hne, -⟩ := pushNow_pushed hframed
    exact ⟨t, (execPush_takes hdue herr hen hany htakes).trans ht, hnow, hput, hne⟩
  case deferred =>
    obtain ⟨t, ht, hnow, hput, hne, hwait⟩ := pushNow_pushed (s := unqueued s i) (i := i) hframed
    refine ⟨t, (execPushDeferred_takes hfind harmed hfatal herr hen htakes hok).trans ht, hnow, hput, ?_, hne⟩
    rw [hwait]; simp [unqueued]

end Sys2Proof.Machine
end

section
/-! PROOF. What a fault's reaction leaves alone (R447, R448, R506 to R511): the registers outside the units it reaches, the status bits of every
unit but first_fatal, the sources already set, and the parts of the state beside the registers. -/

namespace Sys2Proof.Machine

/-! ### Registers outside some units -/

/-- From `s` to `t` the registers outside the common blocks changed in the units `U` alone, no bit of a UNIT_STATUS but first_fatal
changed, and every fault source that was set is set. -/
structure Within (U : List Nat) (s t : State) : Prop where
  rd : ∀ b, b % 256 < 0xF0 → b / 256 ∉ U → t.rd b = s.rd b
  status : ∀ v (f : Fld), f.addr = UNIT_STATUS v → 1 ≤ f.lo → t.get f = s.get f
  marks : ∀ n < 256, srcStatus s n = true → srcStatus t n = true

namespace Within
variable {U V : List Nat} {s t u : State}

theorem refl (U : List Nat) (s : State) : Within U s s := ⟨fun _ _ _ => rfl, fun _ _ _ _ => rfl, fun _ _ h => h⟩

theorem trans (h : Within U s t) (k : Within U t u) : Within U s u :=
  ⟨fun b hb hu => (k.rd b hb hu).trans (h.rd b hb hu), fun v f hf hlo => (k.status v f hf hlo).trans (h.status v f hf hlo),
    fun n hn hs => k.marks n hn (h.marks n hn hs)⟩

theorem mono (h : Within U s t) (hUV : U ⊆ V) : Within V s t :=
  ⟨fun b hb hv => h.rd b hb (fun hu => hv (hUV hu)), h.status, h.marks⟩

theorem of_regs (h : t.regs = s.regs) : Within U s t :=
  ⟨fun b _ _ => rd_of_regs h b, fun _ f _ _ => get_of_regs h f, fun n _ hs => by unfold srcStatus at *; rw [rd_of_regs h]; exact hs⟩

/-- A step beside the registers. -/
theorem congr (h : Within U s t) (hregs : u.regs = t.regs) : Within U s u := h.trans (of_regs hregs)

theorem get (h : Within U s t) (f : Fld) (hb : f.addr % 256 < 0xF0) (hu : f.addr / 256 ∉ U) : t.get f = s.get f := by
  unfold State.get; rw [h.rd _ hb hu]

theorem on (h : Within U s t) (f : Fld) (hb : f.addr % 256 < 0xF0) (hu : f.addr / 256 ∉ U) : t.on f = s.on f := by
  unfold State.on; rw [h.get f hb hu]

theorem status_on (h : Within U s t) {v : Nat} {f : Fld} (hf : f.addr = UNIT_STATUS v) (hlo : 1 ≤ f.lo) : t.on f = s.on f := by
  unfold State.on; rw [h.status v f hf hlo]

/-- A write of a unit's own register that is no source status. -/
theorem wr (h : Within U s t) {a : Nat} (w : Word) (ha : a % 256 < 0xF0 := by decide) (hu : a / 256 ∈ U := by decide)
    (hfix : a / 256 = 0x0F0 → 8 ≤ a % 256 := by decide) :
    Within U s (t.wr a w) :=
  h.trans ⟨fun b _ hb' => rd_wr_ne t w (fun e => hb' (e ▸ hu)),
    fun v f hf _ => get_wr_ne t w f (by rw [hf]; unfold UNIT_STATUS; omega),
    fun n hn hs => by
      unfold srcStatus at *
      rw [rd_wr_ne t w (by unfold FIX_STATUS; omega)]; exact hs⟩

theorem put (h : Within U s t) {f : Fld} (v : Nat) (ha : f.addr % 256 < 0xF0 := by decide) (hu : f.addr / 256 ∈ U := by decide)
    (hfix : f.addr / 256 = 0x0F0 → 8 ≤ f.addr % 256 := by decide) : Within U s (t.put f v) := h.wr _ ha hu hfix

theorem putB (h : Within U s t) {f : Fld} (b : Bool) (ha : f.addr % 256 < 0xF0 := by decide) (hu : f.addr / 256 ∈ U := by decide)
    (hfix : f.addr / 256 = 0x0F0 → 8 ≤ f.addr % 256 := by decide) : Within U s (t.putB f b) := h.put _ ha hu hfix

theorem inc (h : Within U s t) {f : Fld} (ha : f.addr % 256 < 0xF0 := by decide) (hu : f.addr / 256 ∈ U := by decide)
    (hfix : f.addr / 256 = 0x0F0 → 8 ≤ f.addr % 256 := by decide) : Within U s (t.inc f) := h.put _ ha hu hfix

theorem putT (h : Within U s t) {hi : Nat} (lo : Nat) (x : T80) (ha : hi % 256 < 0xF0 := by decide) (hu : hi / 256 ∈ U := by decide)
    (hfix : hi / 256 = 0x0F0 → 8 ≤ hi % 256 := by decide) : Within U s (t.putT hi lo x) :=
  (h.wr (T80hi x) ha hu hfix).trans (of_regs rfl)

theorem tallyOne (h : Within U s t) (v c i : Nat) (hi : i < 4) : Within U s (tallyOne t v c i) := by
  refine h.trans ⟨fun b hb _ => tallyOne_rd t v c i b (by unfold UNIT_TALLY; omega), fun w f hf _ => ?_, fun n hn hs => ?_⟩
  · unfold State.get; rw [tallyOne_rd t v c i _ (by rw [hf]; unfold UNIT_TALLY UNIT_STATUS; omega)]
  · unfold srcStatus at *; rw [tallyOne_rd t v c i _ (by unfold UNIT_TALLY FIX_STATUS; omega)]; exact hs

theorem tally (h : Within U s t) (v c : Nat) : Within U s (tally t v c) := by
  unfold Machine.tally; split
  · exact h
  · exact (((h.tallyOne v c 0 (by decide)).tallyOne v c 1 (by decide)).tallyOne v c 2 (by decide)).tallyOne v c 3 (by decide)

/-- A register whose bits are only ever set stays within its unit, the sources of FIX_STATUS too. -/
theorem wrOr (h : Within U s t) {a : Nat} (w : Word) (ha : a % 256 < 0xF0 ∨ 0xF2 ≤ a % 256) (hu : a % 256 < 0xF0 → a / 256 ∈ U) :
    Within U s (t.wr a (t.rd a ||| w)) :=
  h.trans ⟨fun b hb hb' => rd_wr_ne t _ (fun e => hb' (e ▸ hu (e ▸ hb))),
    fun v f hf _ => get_wr_ne t _ f (by rw [hf]; unfold UNIT_STATUS; omega),
    fun n hn hs => by
      unfold srcStatus at *
      by_cases e : FIX_STATUS (n / 40) = a
      · rw [e] at hs ⊢
        rw [rd_wr_self]
        unfold bitAt at *
        rw [BitVec.toNat_or, Nat.testBit_or, hs, Bool.true_or]
      · rw [rd_wr_ne t _ e]; exact hs⟩

theorem event (h : Within U s t) {a : Nat} (i : Nat) (ha : a % 256 < 0xF0 ∨ 0xF2 ≤ a % 256 := by decide)
    (hu : a % 256 < 0xF0 → a / 256 ∈ U := by decide) :
    Within U s (t.event a i) := by
  have hset : Within U s (t.wr a (t.rd a ||| w40 (2 ^ i))) := h.wrOr _ ha hu
  unfold State.event; dsimp only; split
  · refine Within.tally (hset.trans (of_regs ?_)) _ _
    rfl
  · exact hset.trans (of_regs rfl)

theorem ev (h : Within U s t) {f : Fld} (ha : f.addr % 256 < 0xF0 := by decide) (hu : f.addr / 256 ∈ U := by decide) : Within U s (t.ev f) :=
  h.event _ (Or.inl ha) (fun _ => hu)

theorem foldl {α : Type} {f : State → α → State} (l : List α) (hf : ∀ t, ∀ a ∈ l, Within U t (f t a)) (h : Within U s t) :
    Within U s (l.foldl f t) := by
  induction l generalizing t with
  | nil => exact h
  | cons a l ih =>
    exact ih (fun t' b hb => hf t' b (List.mem_cons_of_mem a hb)) (h.trans (hf t a List.mem_cons_self))

end Within

/-! ### What the reactions to a fault and the answers of offers change -/

/-- The units whose registers a fault's reaction, a give-up and the answer of an offer reach: TB, LCY, the outputs, SKB, MBX, KV, TW and FIX. -/
def reactUnits : List Nat := [0x004, 0x006, 0x078, 0x079, 0x0C0, 0x0DA, 0x0F0] ++ (List.range 20).map (0x028 + ·)

/-- Two states that differ at most in the registers and in what a give-up and the answers of offers reach. -/
def Reacts (s t : State) : Prop :=
  t = { s with regs := t.regs, lat := t.lat, evc := t.evc, clkAt := t.clkAt, freeCtr := t.freeCtr, mem := t.mem, host := t.host,
               cores := t.cores, mbx := t.mbx, skb := t.skb, pal := t.pal, kv := t.kv, lp := t.lp, tw := t.tw, outs := t.outs }

namespace Reacts
variable {s t u : State}

theorem refl (s : State) : Reacts s s := rfl

theorem trans (h : Reacts s t) (k : Reacts t u) : Reacts s u := by
  unfold Reacts at *; rw [k, h]

theorem of_tells (h : Tells s t) : Reacts s t := by unfold Tells at h; unfold Reacts; rw [h]

theorem of_regsOnly (h : RegsOnly s t) : Reacts s t := of_tells h.tells

theorem foldl {α : Type} {f : State → α → State} (l : List α) (hf : ∀ t a, Reacts t (f t a)) (h : Reacts s t) : Reacts s (l.foldl f t) := by
  induction l generalizing t with
  | nil => exact h
  | cons a l ih => exact ih (h.trans (hf t a))

theorem fix (h : Reacts s t) : t.fix = s.fix := by unfold Reacts at h; rw [h]
theorem rst (h : Reacts s t) : t.rst = s.rst := by unfold Reacts at h; rw [h]
theorem tb (h : Reacts s t) : t.tb = s.tb := by unfold Reacts at h; rw [h]
theorem dramErr (h : Reacts s t) : t.dramErr = s.dramErr := by unfold Reacts at h; rw [h]
theorem house (h : Reacts s t) : t.house = s.house := by unfold Reacts at h; rw [h]

end Reacts

/-- What a step changes that reaches the registers of the units of `U` alone: of the rest no more than a fault's reaction, a give-up or the
answer of an offer; executors that are stopped stay so, and the twin link stands where TW is none of the units. -/
structure Affects (U : List Nat) (s t : State) : Prop where
  within : Within U s t
  rest : Reacts s t
  disarmed : s.skb.armed = false → t.skb.armed = false
  tw : 0x0DA ∉ U → t.tw = s.tw

namespace Affects
variable {U : List Nat} {s t u : State}

theorem refl (U : List Nat) (s : State) : Affects U s s := ⟨Within.refl _ s, rfl, id, fun _ => rfl⟩

theorem trans (h : Affects U s t) (k : Affects U t u) : Affects U s u :=
  ⟨h.within.trans k.within, h.rest.trans k.rest, fun ha => k.disarmed (h.disarmed ha), fun hU => (k.tw hU).trans (h.tw hU)⟩

theorem mono {V : List Nat} (h : Affects U s t) (hUV : U ⊆ V) : Affects V s t :=
  ⟨h.within.mono hUV, h.rest, h.disarmed, fun hV => h.tw fun hU => hV (hUV hU)⟩

/-- A step beside the registers. -/
theorem congr (h : Affects U s t) (hregs : u.regs = t.regs) (hrest : Reacts t u)
    (hd : t.skb.armed = false → u.skb.armed = false := by exact fun h => h) (htw : 0x0DA ∉ U → u.tw = t.tw := by exact fun _ => rfl) : Affects U s u :=
  h.trans ⟨Within.of_regs hregs, hrest, hd, htw⟩

section
variable (h : Affects U s t)
include h

theorem wr {a : Nat} (w : Word) (ha : a % 256 < 0xF0 := by decide) (hu : a / 256 ∈ U := by decide)
    (hfix : a / 256 = 0x0F0 → 8 ≤ a % 256 := by decide) : Affects U s (t.wr a w) :=
  ⟨h.within.wr w ha hu hfix, h.rest.trans rfl, h.disarmed, h.tw⟩

theorem put {f : Fld} (v : Nat) (ha : f.addr % 256 < 0xF0 := by decide) (hu : f.addr / 256 ∈ U := by decide)
    (hfix : f.addr / 256 = 0x0F0 → 8 ≤ f.addr % 256 := by decide) : Affects U s (t.put f v) := h.wr _ ha hu hfix

theorem putB {f : Fld} (b : Bool) (ha : f.addr % 256 < 0xF0 := by decide) (hu : f.addr / 256 ∈ U := by decide)
    (hfix : f.addr / 256 = 0x0F0 → 8 ≤ f.addr % 256 := by decide) : Affects U s (t.putB f b) := h.put _ ha hu hfix

theorem inc {f : Fld} (ha : f.addr % 256 < 0xF0 := by decide) (hu : f.addr / 256 ∈ U := by decide)
    (hfix : f.addr / 256 = 0x0F0 → 8 ≤ f.addr % 256 := by decide) : Affects U s (t.inc f) := h.put _ ha hu hfix

theorem putT {hi : Nat} (lo : Nat) (x : T80) (ha : hi % 256 < 0xF0 := by decide) (hu : hi / 256 ∈ U := by decide)
    (hfix : hi / 256 = 0x0F0 → 8 ≤ hi % 256 := by decide) : Affects U s (t.putT hi lo x) :=
  ⟨h.within.putT lo x ha hu hfix, h.rest.trans rfl, h.disarmed, h.tw⟩

theorem event {a : Nat} (i : Nat) (ha : a % 256 < 0xF0 ∨ 0xF2 ≤ a % 256 := by decide)
    (hu : a % 256 < 0xF0 → a / 256 ∈ U := by decide) : Affects U s (t.event a i) :=
  ⟨h.within.event i ha hu, h.rest.trans (Reacts.of_regsOnly (event_regsOnly _ _ _)),
    fun hd => (congrArg SkbSt.armed (State.event_skb _ _ _)).trans (h.disarmed hd), fun hU => (State.event_tw _ _ _).trans (h.tw hU)⟩

theorem ev {f : Fld} (ha : f.addr % 256 < 0xF0 := by decide) (hu : f.addr / 256 ∈ U := by decide) : Affects U s (t.ev f) :=
  h.event _ (Or.inl ha) (fun _ => hu)

end

theorem foldl {α : Type} {f : State → α → State} (l : List α) (hf : ∀ t, ∀ a ∈ l, Affects U t (f t a)) (h : Affects U s t) :
    Affects U s (l.foldl f t) := by
  induction l generalizing t with
  | nil => exact h
  | cons a l ih => exact ih (fun t' b hb => hf t' b (List.mem_cons_of_mem a hb)) (h.trans (hf t a List.mem_cons_self))

end Affects

/-- What a fault's reaction, a give-up and the answer of an offer may change. -/
abbrev Reaction (s t : State) : Prop := Affects reactUnits s t

theorem Reaction.refl (s : State) : Reaction s s := Affects.refl _ s

/-- A step of a reaction beside the registers, the twin link's own state included. -/
theorem Reaction.beside {s t u : State} (h : Reaction s t) (hregs : u.regs = t.regs) (hrest : Reacts t u)
    (hd : t.skb.armed = false → u.skb.armed = false := by exact fun h => h) : Reaction s u :=
  h.congr hregs hrest hd (fun hU => absurd (by decide) hU)

/-- The units whose registers the answers of offers and of commands reach: LCY, SKB, MBX and KV. -/
def answerUnits : List Nat := [0x006, 0x078, 0x079, 0x0C0]

/-- What the answer of an offer or of a command may change. -/
abbrev Answering (s t : State) : Prop := Affects answerUnits s t

theorem Answering.refl (s : State) : Answering s s := Affects.refl _ s

theorem Answering.reaction {s t : State} (h : Answering s t) : Reaction s t := h.mono (by decide)

section

theorem mbxIrq_answering (s : State) (bit : Nat) : Answering s (mbxIrq s bit) := by
  have hev : Answering s (s.event MBX_IRQ bit) := (Answering.refl s).event bit
  unfold mbxIrq; dsimp only; split
  · exact hev.congr rfl rfl
  · exact hev

theorem mbxFinish_answering (s : State) (status : Nat) (res : List Word) : Answering s (mbxFinish s status res) := by
  unfold mbxFinish
  split
  · exact Answering.refl s
  extract_lets seq head slots slots' mbx skb kv s₁ s₂ s₃ s₄ s₅ s₆
  have h₅ : Answering s s₅ :=
    ((((Answering.refl s).congr (u := s₁) rfl rfl).put (f := MBX_STATUS_busy) 0).put (f := MBX_STATUS_resp_valid) 1
     ).put (f := MBX_STATUS_last_status) status |>.put
      (f := MBX_STATUS_last_seq) seq
  refine Affects.trans ?_ (mbxIrq_answering _ _)
  unfold s₆; split
  · exact h₅.inc
  · exact h₅

theorem mbxState_answering (s : State) (st : Nat) : Answering s (mbxState s st) := by
  unfold mbxState
  extract_lets old s₁ s₂ s₃
  split
  · exact Answering.refl s
  have h₁ : Answering s s₁ := ((Answering.refl s).put (f := MBX_STATUS_state) st).trans (mbxIrq_answering _ _)
  have h₂ : Answering s s₂ := by
    unfold s₂; split
    · exact h₁.putB _
    · exact h₁
  have h₃ : Answering s s₃ := by
    unfold s₃; split
    · exact ((h₂.congr (u := s₂.free.2.free.2) rfl rfl).put (f := LCY_NONCE_HI_val) (fieldOf s₂.free.1 31 0)).put (f := LCY_NONCE_LO_val)
        (fieldOf s₂.free.2.free.1 31 0)
    · exact h₂
  split
  · exact h₃
  · exact h₃.trans (mbxFinish_answering _ _ _)

theorem mbxQueue_answering (s : State) (e : Nat) : Answering s (mbxQueue s e) := by
  unfold mbxQueue; dsimp only; split
  · split
    · exact mbxState_answering _ _
    · exact Answering.refl s
  · split
    · exact Answering.refl s
    · exact mbxState_answering _ _
  · exact mbxState_answering _ _
  · split
    · exact mbxState_answering _ _
    · exact Answering.refl s
  · split
    · exact mbxState_answering _ _
    · exact Answering.refl s

theorem countAnswer_answering (s : State) (code : Nat) : Answering s (countAnswer s code) := by
  unfold countAnswer; split_ifs
  · exact (Answering.refl s).inc
  · exact (Answering.refl s).inc
  · exact ((Answering.refl s).inc (f := SKB_CNT_FULL_count)).ev
  · exact (Answering.refl s).inc
  · exact Answering.refl s

theorem kvAnswered_answering (s : State) (slot code seq : Nat) : Answering s (kvAnswered s slot code seq) := by
  unfold kvAnswered
  extract_lets u waits kv s₁ s₂ kv' s₃
  clear_value u
  have h₁ : Answering s s₁ := by
    unfold s₁; split
    · exact (Answering.refl s).congr rfl rfl
    · exact Answering.refl s
  have h₂ : Answering s s₂ := by
    unfold s₂; split
    · exact (h₁.put (f := KV_UPD_CTR_counter) _).put (f := KV_ANCHOR_anchors) _
    · exact h₁
  have h₃ : Answering s s₃ := h₁.congr rfl rfl
  by_cases hcode : code ≤ 1
  · rw [if_pos hcode]
    split
    · exact h₂.trans (mbxFinish_answering _ _ _)
    · exact h₂
  · rw [if_neg hcode]
    split
    · exact h₃.trans (mbxFinish_answering _ _ _)
    · exact h₃

theorem answerOffer_answering (s : State) (o : Offer) (code seq : Nat) (late : Bool) : Answering s (answerOffer s o code seq late) := by
  have h := countAnswer_answering s code
  unfold answerOffer; dsimp only; split
  · split
    · exact h.congr rfl rfl
    · exact h
  · split
    · exact h.trans (mbxFinish_answering _ _ _)
    · exact h
  · exact h.trans (kvAnswered_answering _ _ _ _)
  · split
    · exact h.congr rfl rfl
    · exact h
  · exact h

theorem noteAccepted_answering (s : State) (seq : Nat) : Answering s (noteAccepted s seq) := (Answering.refl s).put _

theorem commitOffer_answering (s : State) (o : Offer) : Answering s (commitOffer s o) := by
  unfold commitOffer; split
  case h_1 => exact Answering.refl s
  case h_2 i hi =>
    exact (((Answering.refl s).congr (u := s.setLed i { s.led i with commit := true }) rfl rfl).trans (noteAccepted_answering _ _)).trans
      (answerOffer_answering _ _ _ _ _)

/-- Stores change memory alone. -/
theorem stN_memory (ws : List Word) (s : State) (a : Nat) : s.stN a ws = { s with mem := (s.stN a ws).mem } := by
  induction ws generalizing s a with
  | nil => rfl
  | cons w ws ih => exact ih (s.st a w) (a + 1)

theorem ledgerStore_memory (s : State) (i : Nat) : ledgerStore s i = { s with mem := (ledgerStore s i).mem } := stN_memory _ s _

theorem ledgerStore_answering (s : State) (i : Nat) : Answering s (ledgerStore s i) := by
  rw [ledgerStore_memory]; exact (Answering.refl s).congr rfl rfl

theorem dropOffer_answering (s : State) (o : Offer) : Answering s (dropOffer s o) := by
  unfold dropOffer; split
  case h_1 => exact Answering.refl s
  case h_2 i hi =>
    have hset : Answering s (s.setLed i o.old) := (Answering.refl s).congr rfl rfl
    refine Affects.trans ?_ (answerOffer_answering _ _ _ _ _)
    split
    · exact hset.trans (ledgerStore_answering _ _)
    · exact hset

/-- Whether an offer whose pairing ends is refused: a strict stroke nearer than its standalone minimum lead (R441). -/
def unpairedLate (s : State) (o : Offer) : Bool :=
  strictClass o.stroke && t80Lt (strokeAt o.stroke) (s.afterNs (if strokeClass o.stroke = 4 then 2000 else 250))

/-- What becomes of one offer when pairing ends (R441). -/
def unpairOne (s : State) (o : Offer) : State :=
  if o.mirrored && !o.acked then
    if unpairedLate s o then dropOffer s o
    else if o.wrote then commitOffer s { o with mirrored := false }
    else { s with skb := { s.skb with offers := s.skb.offers ++ [{ o with mirrored := false }] } }
  else { s with skb := { s.skb with offers := s.skb.offers ++ [o] } }

theorem offersUnpaired_eq (s : State) :
    offersUnpaired s = s.skb.offers.foldl unpairOne { s with skb := { s.skb with offers := [] } } := rfl

theorem unpairOne_answering (s : State) (o : Offer) : Answering s (unpairOne s o) := by
  unfold unpairOne; split
  · split
    · exact dropOffer_answering _ _
    · split
      · exact commitOffer_answering _ _
      · exact (Answering.refl s).congr rfl rfl
  · exact (Answering.refl s).congr rfl rfl

theorem offersUnpaired_answering (s : State) : Answering s (offersUnpaired s) := by
  rw [offersUnpaired_eq]
  exact Affects.foldl _ (fun t o _ => unpairOne_answering t o) ((Answering.refl s).congr rfl rfl)

theorem reportSrc_affects {U : List Nat} (s : State) (n : Nat) (h : n < 256) (hU : 0x0F0 ∈ U := by decide) : Affects U s (reportSrc s n) := by
  have hev : Affects U s (s.event (FIX_STATUS (n / 40)) (n % 40)) :=
    (Affects.refl U s).event _ (by unfold FIX_STATUS; omega) (fun _ => by rw [show FIX_STATUS (n / 40) / 256 = 0x0F0 by unfold FIX_STATUS; omega]; exact hU)
  unfold reportSrc; dsimp only; split
  · exact hev
  · exact hev.congr rfl rfl

theorem reportSrc_reaction (s : State) (n : Nat) (h : n < 256) : Reaction s (reportSrc s n) := reportSrc_affects s n h

theorem twNewGen_reaction (s : State) : Reaction s (twNewGen s) :=
  (((Reaction.refl s).wr (a := TW_GEN) _).put (f := TW_GEN_UID_HI_val) _).put (f := TW_GEN_UID_LO_val) _

theorem leaveSync_reaction (s : State) : Reaction s (leaveSync s) := by
  unfold leaveSync
  extract_lets p s₁ tw s₂ s₃ s₄ s₅ s₆
  split
  · have h₄ : Reaction s s₄ := 
      ((Reaction.beside (u := s₂) ((Reaction.refl s).put (f := TW_STATUS_pstate) 4) rfl rfl).put (f := TW_STATUS_ready) 0).putB (f := SKB_CTL_mirror_en) false
    refine Affects.trans ?_ (offersUnpaired_answering _).reaction
    unfold s₆; split
    · have h₅ : Reaction s s₅ := (h₄.ev (f := TW_EVENTS_sync_lost)).trans (reportSrc_reaction _ _ (by decide))
      split
      · exact h₅.trans (twNewGen_reaction _)
      · exact h₅
    · exact h₄
  · exact Reaction.refl s

theorem twSend_reaction (s : State) (kind : Nat) (payload : List Word) : Reaction s (twSend s kind payload) := by
  unfold twSend; dsimp only; split
  · refine Affects.inc (Reaction.beside (Reaction.refl s) ?_ ?_)
    · rfl
    · rfl
  · exact Reaction.refl s

theorem coreEvent_reaction (s : State) (k bit : Nat) : Reaction s (coreEvent s k bit) := (Reaction.refl s).congr rfl rfl

theorem allCoresEvent_reaction (s : State) (bit : Nat) : Reaction s (allCoresEvent s bit) :=
  Affects.foldl (f := fun s k => coreEvent s k bit) _ (fun t k _ => coreEvent_reaction t k bit) (Reaction.refl s)

theorem dropAnswers_reaction (s : State) : Reaction s (dropAnswers s) := (Reaction.refl s).congr rfl rfl

theorem twRole_reaction (s : State) (r : Nat) : Reaction s (twRole s r) := by
  unfold twRole; split
  · exact Reaction.refl s
  · exact ((Reaction.refl s).put (f := TW_STATUS_role) r).trans ((allCoresEvent_reaction _ _).trans (dropAnswers_reaction _))

theorem outRelease_reaction (s : State) {k : Nat} (hk : k < 20) : Reaction s (outRelease s k) :=
  (Reaction.refl s).putB false (by simp only [OUTk_STATUS_driving, OUTk_STATUS]; omega)
    (by
      rw [show (OUTk_STATUS_driving k).addr / 256 = 0x028 + k by simp only [OUTk_STATUS_driving, OUTk_STATUS]; omega]
      exact List.mem_append_right _ (List.mem_map_of_mem (List.mem_range.2 hk)))
    (by simp only [OUTk_STATUS_driving, OUTk_STATUS]; omega)

theorem outGive_reaction (s : State) {k : Nat} (hk : k < 20) : Reaction s (outGive s k) := by
  unfold outGive; split
  · exact (Reaction.refl s).congr rfl rfl
  · exact outRelease_reaction s hk

theorem giveUpAt_reaction (t : T80) (s : State) : Reaction s (giveUpAt t s) := by
  unfold giveUpAt
  split
  · extract_lets skb s₁ s₂ s₃ s₄ tw s₅ s₆ s₇ tw' s₈
    have h₂ : Reaction s s₂ := ((Reaction.refl s).congr (u := s₁) rfl rfl (fun _ => rfl)).putT (hi := TW_T_STOP_HI) _ _
    have h₃ : Reaction s s₃ := h₂.trans (twSend_reaction _ _ _)
    have h₄ : Reaction s s₄ := Affects.foldl (f := outGive) (List.range 20) (fun t k hk => outGive_reaction t (List.mem_range.1 hk)) h₃
    clear_value s₄
    have h₆ : Reaction s s₆ := (Reaction.beside (u := s₅) h₄ rfl rfl).ev
    have h₇ : Reaction s s₇ := h₆.trans (leaveSync_reaction _)
    clear_value s₇
    exact ((Reaction.beside (u := s₈) h₇ rfl rfl).trans (twRole_reaction _ _)).trans (mbxQueue_answering _ _).reaction
  · exact Reaction.refl s

theorem giveUp_reaction (s : State) : Reaction s (giveUp s) := giveUpAt_reaction _ s

theorem stopExecutors_affects {U : List Nat} (s : State) (hU : 0x004 ∈ U := by decide) : Affects U s (stopExecutors s) := by
  unfold stopExecutors; dsimp only; split
  · exact ((Affects.refl U s).putT (hi := TB_RESET_T_HI) TB_RESET_T_LO s.now (by decide) hU).congr rfl rfl (fun _ => rfl)
  · exact (Affects.refl U s).congr rfl rfl (fun _ => rfl)

/-! ### A FATAL source -/

/-- As `Reacts`, and the FATAL state and what a reset still needs may have changed. -/
def FatalReacts (s t : State) : Prop :=
  t = { s with regs := t.regs, lat := t.lat, evc := t.evc, clkAt := t.clkAt, freeCtr := t.freeCtr, mem := t.mem, host := t.host,
               cores := t.cores, mbx := t.mbx, skb := t.skb, pal := t.pal, kv := t.kv, lp := t.lp, tw := t.tw, outs := t.outs,
               fix := t.fix, rst := t.rst }

namespace FatalReacts
variable {s t u : State}

theorem trans (h : FatalReacts s t) (k : FatalReacts t u) : FatalReacts s u := by
  unfold FatalReacts at *; rw [k, h]

theorem of_reacts (h : Reacts s t) : FatalReacts s t := by
  unfold Reacts at h; unfold FatalReacts; rw [h]

theorem tb (h : FatalReacts s t) : t.tb = s.tb := by unfold FatalReacts at h; rw [h]

end FatalReacts

theorem Within.firstFatal {U : List Nat} {s t : State} (h : Within U s t) (v x : Nat) : Within U s (t.put (UNIT_STATUS_first_fatal v) x) :=
  h.trans ⟨fun b hb _ => rd_put_ne t _ _ (by simp only [UNIT_STATUS_first_fatal, UNIT_STATUS]; omega),
    fun w f _ hlo => get_put_bits t _ f x ⟨Nat.le_refl 0, show 0 < 40 by decide⟩ (Or.inr hlo),
    fun n hn hs => by
      unfold srcStatus at *
      rw [rd_put_ne t _ _ (by simp only [UNIT_STATUS_first_fatal, UNIT_STATUS, FIX_STATUS]; omega)]; exact hs⟩

theorem Affects.firstFatal {U : List Nat} {s t : State} (h : Affects U s t) (v x : Nat) : Affects U s (t.put (UNIT_STATUS_first_fatal v) x) :=
  ⟨h.within.firstFatal v x, h.rest.trans rfl, h.disarmed, h.tw⟩

/-- One register of the sweep that clears first_fatal in every UNIT_STATUS. -/
def clearFirst (s : State) (e : Nat × Word) : State := if e.1 % 256 = 0xF1 then s.put (UNIT_STATUS_first_fatal (e.1 / 256)) 0 else s

theorem clearFirst_affects (U : List Nat) (s : State) (e : Nat × Word) : Affects U s (clearFirst s e) := by
  unfold clearFirst; split
  · exact (Affects.refl U s).firstFatal _ _
  · exact Affects.refl U s

theorem markFirstFatal_eq (s : State) (named : Option Nat) :
    markFirstFatal s named = match named with
      | none => s.regs.foldl clearFirst s
      | some u => (s.regs.foldl clearFirst s).put (UNIT_STATUS_first_fatal u) 1 := rfl

theorem markFirstFatal_affects (U : List Nat) (s : State) (named : Option Nat) : Affects U s (markFirstFatal s named) := by
  have hsweep : Affects U s (s.regs.foldl clearFirst s) := Affects.foldl _ (fun t e _ => clearFirst_affects U t e) (Affects.refl U s)
  rw [markFirstFatal_eq]
  cases named with
  | none => exact hsweep
  | some u => exact hsweep.firstFatal _ _

/-- The status bit of a source is set. -/
def markSrc (s : State) (n : Nat) : State := s.wr (FIX_STATUS (n / 40)) (s.rd (FIX_STATUS (n / 40)) ||| w40 (2 ^ (n % 40)))

theorem markSrc_affects {U : List Nat} (s : State) {n : Nat} (h : n < 256) (hU : 0x0F0 ∈ U := by decide) : Affects U s (markSrc s n) :=
  ⟨(Within.refl _ s).wrOr _ (by unfold FIX_STATUS; omega)
    (fun _ => by rw [show FIX_STATUS (n / 40) / 256 = 0x0F0 by unfold FIX_STATUS; omega]; exact hU), rfl, id, fun _ => rfl⟩

theorem markSrc_status (s : State) (n : Nat) : srcStatus (markSrc s n) n = true := by
  unfold srcStatus markSrc; rw [rd_wr_self]; exact bitAt_or_self _ (by omega)

/-- The outputs in mode 1 or 2 are to go to their safe state (R509). -/
def safeMark (t : T80) (s : State) (k : Nat) : State := if s.get (OUTk_CFG_mode k) = 0 then s else s.setOut k { s.out k with safeAt := some t }

theorem safeMark_reaction (t : T80) (s : State) (k : Nat) : Reaction s (safeMark t s k) := by
  unfold safeMark; split
  · exact Reaction.refl s
  · exact (Reaction.refl s).congr rfl rfl

/-- What a FATAL source records of itself, on the tick of the first one (R510). -/
def fatalRecord (s : State) (n : Nat) (named : Option Nat) : State :=
  markFirstFatal ((s.wr FIX_FIRST_SRC (w40 (0x100 + n))).putT FIX_FIRST_T_HI FIX_FIRST_T_LO s.now) named

/-- The reaction to the first FATAL source, before the service state follows (R509 to R511). -/
def fatalReact (s : State) (n : Nat) (named : Option Nat) : State :=
  let u := giveUp (stopExecutors (fatalRecord s n named))
  (List.range 20).foldl (safeMark u.steady) u

/-- The device is in its FATAL state (R510). -/
def fatalSet (s : State) : State := { s with fix := { s.fix with fatal := true, faultN := false } }

theorem fatalEnter_first {s : State} (n : Nat) (named : Option Nat) (h : s.fix.fatal = false) :
    fatalEnter s n named = mbxQueue { fatalReact (fatalSet (markSrc s n)) n named with
      rst := { (fatalReact (fatalSet (markSrc s n)) n named).rst with
        stopped := decide ((fatalReact (fatalSet (markSrc s n)) n named).rst.step < 8) } } 2 := by
  unfold fatalEnter; dsimp only
  rw [if_neg (by simp [h])]; rfl

/-- A FATAL source while the device is FATAL sets its status bit, and may be recorded as the first of its tick. -/
theorem fatalEnter_again {s : State} (n : Nat) (named : Option Nat) (h : s.fix.fatal = true) :
    fatalEnter s n named = markSrc s n ∨ fatalEnter s n named = markFirstFatal ((markSrc s n).wr FIX_FIRST_SRC (w40 (0x100 + n))) named := by
  unfold fatalEnter; dsimp only
  rw [if_pos (by exact h)]
  split
  · exact Or.inr rfl
  · exact Or.inl rfl

theorem fatalRecord_affects {U : List Nat} (s : State) (n : Nat) (named : Option Nat) (hU : 0x0F0 ∈ U := by decide) : Affects U s (fatalRecord s n named) :=
  (((Affects.refl U s).wr (a := FIX_FIRST_SRC) _ (by decide) hU).putT (hi := FIX_FIRST_T_HI) _ _ (by decide) hU).trans (markFirstFatal_affects U _ _)

theorem fatalReact_reaction (s : State) (n : Nat) (named : Option Nat) : Reaction s (fatalReact s n named) :=
  Affects.foldl _ (fun t k _ => safeMark_reaction _ t k)
    (((fatalRecord_affects s n named).trans (stopExecutors_affects _)).trans (giveUp_reaction _))

theorem fatalReact_disarmed (s : State) (n : Nat) (named : Option Nat) : (fatalReact s n named).skb.armed = false :=
  (Affects.foldl _ (fun t k _ => safeMark_reaction _ t k) (giveUp_reaction (stopExecutors (fatalRecord s n named)))).disarmed rfl

/-- The first FATAL source, before the service state follows. -/
def fatalFirst (s : State) (n : Nat) (named : Option Nat) : State :=
  { fatalReact (fatalSet (markSrc s n)) n named with
    rst := { (fatalReact (fatalSet (markSrc s n)) n named).rst with stopped := decide ((fatalReact (fatalSet (markSrc s n)) n named).rst.step < 8) } }

/-- A source's status bit set by a FATAL source, and all that may follow of it while the device is FATAL already. -/
theorem fatalEnter_cases (s : State) (n : Nat) (named : Option Nat) :
    (s.fix.fatal = false ∧ fatalEnter s n named = mbxQueue (fatalFirst s n named) 2) ∨
      (s.fix.fatal = true ∧ Reaction (markSrc s n) (fatalEnter s n named)) := by
  cases h : s.fix.fatal with
  | false => exact Or.inl ⟨rfl, fatalEnter_first n named h⟩
  | true =>
    refine Or.inr ⟨rfl, ?_⟩
    rcases fatalEnter_again n named h with e | e
    · rw [e]; exact Reaction.refl _
    · rw [e]; exact ((Reaction.refl (markSrc s n)).wr (a := FIX_FIRST_SRC) _).trans (markFirstFatal_affects _ _ _)

section
variable (s : State) {n : Nat} (named : Option Nat) (hn : n < 256)
include hn

omit hn in
theorem fatalFirst_within : Within reactUnits (markSrc s n) (fatalFirst s n named) :=
  Within.congr (u := fatalFirst s n named)
    ((Within.of_regs (s := markSrc s n) (t := fatalSet (markSrc s n)) rfl).trans (fatalReact_reaction _ n named).within) rfl

theorem fatalEnter_within : Within reactUnits s (fatalEnter s n named) := by
  have hmark := (markSrc_affects (U := reactUnits) s hn).within
  rcases fatalEnter_cases s n named with ⟨-, e⟩ | ⟨-, h⟩
  · rw [e]; exact (hmark.trans (fatalFirst_within s named)).trans (mbxQueue_answering _ _).reaction.within
  · exact hmark.trans h.within

theorem fatalEnter_status : srcStatus (fatalEnter s n named) n = true := by
  have hset := markSrc_status s n
  rcases fatalEnter_cases s n named with ⟨-, e⟩ | ⟨-, h⟩
  · rw [e]; exact ((fatalFirst_within s named).trans (mbxQueue_answering _ _).reaction.within).marks n hn hset
  · exact h.within.marks n hn hset

omit hn in
theorem fatalFirst_fix : (fatalFirst s n named).fix = { s.fix with fatal := true, faultN := false } :=
  (fatalReact_reaction (fatalSet (markSrc s n)) n named).rest.fix

omit hn in
theorem fatalEnter_fatal : (fatalEnter s n named).fix.fatal = true := by
  rcases fatalEnter_cases s n named with ⟨-, e⟩ | ⟨hfatal, h⟩
  · rw [e, (mbxQueue_answering _ _).reaction.rest.fix, fatalFirst_fix s named]
  · rw [h.rest.fix]; exact hfatal

omit hn in
theorem fatalEnter_rst : (fatalEnter s n named).rst = { s.rst with stopped := (fatalEnter s n named).rst.stopped } := by
  rcases fatalEnter_cases s n named with ⟨-, e⟩ | ⟨-, h⟩
  · rw [e, (mbxQueue_answering _ _).reaction.rest.rst]
    unfold fatalFirst
    rw [(fatalReact_reaction (fatalSet (markSrc s n)) n named).rest.rst]; rfl
  · rw [h.rest.rst]; rfl

omit hn in
theorem fatalEnter_reacts : FatalReacts s (fatalEnter s n named) := by
  have hmark : FatalReacts s (markSrc s n) := rfl
  rcases fatalEnter_cases s n named with ⟨-, e⟩ | ⟨-, h⟩
  · rw [e]
    have hset : FatalReacts s (fatalSet (markSrc s n)) := rfl
    have hreact := hset.trans (FatalReacts.of_reacts (fatalReact_reaction (fatalSet (markSrc s n)) n named).rest)
    exact (hreact.trans (u := fatalFirst s n named) rfl).trans (FatalReacts.of_reacts (mbxQueue_answering _ _).reaction.rest)
  · exact hmark.trans (FatalReacts.of_reacts h.rest)

omit hn in
theorem fatalEnter_disarmed (h : s.fix.fatal = false) : (fatalEnter s n named).skb.armed = false := by
  rw [fatalEnter_first n named h]
  exact (mbxQueue_answering _ _).reaction.disarmed (fatalReact_disarmed _ _ _)

end
end
end Sys2Proof.Machine
end

section
/-! PROOF. Units in and out of reset: what a local reset, a fence and a release leave alone (R24, R25, R31, R508). -/

namespace Sys2Proof.Machine

/-! ### A unit leaves reset -/

theorem kvRefresh_reaction (s : State) : Reaction s (kvRefresh s) :=
  ((((Reaction.refl s).putB (f := KV_STATUS_pair_root) _).putB (f := KV_STATUS_op_root) _).put (f := KV_STATUS_live) _).putB
    (f := KV_STATUS_busy) _

theorem keyRelease_reaction (s : State) : Reaction s (keyRelease s) := by
  unfold keyRelease
  extract_lets latched k k₁ epochOf k₂ s₁ s₂ s₃ s₄ s₅ s₆
  have h₁ : Reaction s s₁ := (Reaction.refl s).congr rfl rfl
  have h₂ : Reaction s s₂ := by
    unfold s₂; split
    · exact h₁.wr (a := KV_NTS_EPOCH) _
    · exact h₁
  have h₃ : Reaction s s₃ := by
    unfold s₃; split
    · exact h₂.wr (a := KV_NTS_PERIOD) _
    · exact h₂
  have h₆ : Reaction s s₆ :=
    (((h₃.putB (f := KV_STATUS_tampered) latched).putB (f := KV_STATUS_drbg_ok) true).putB (f := KV_STATUS_ready) _).trans (kvRefresh_reaction _)
  split
  · exact h₆.trans (mbxQueue_answering _ _).reaction
  · exact h₆

/-- A unit's release is a change of its in_reset bit, with what the vault does when it comes up. -/
theorem unitUp_reaction (s : State) (u : Nat) : Reaction (releaseUnit s u) (unitUp s u) := by
  unfold unitUp; dsimp only; split
  · exact keyRelease_reaction _
  · exact Reaction.refl _

theorem unitUp_rst (s : State) (u : Nat) : (unitUp s u).rst = s.rst := by
  rw [(unitUp_reaction s u).rest.rst]; unfold releaseUnit; split <;> rfl

/-- A field of a UNIT_STATUS but in_reset of the unit released. -/
theorem releaseUnit_get (s : State) (u : Nat) (f : Fld) (h : f.addr ≠ UNIT_STATUS u ∨ f.hi < 2 ∨ 2 < f.lo) :
    (releaseUnit s u).get f = s.get f := by
  unfold releaseUnit; split
  · rfl
  · rcases h with h | h
    · exact get_put_addr { s with tb := { s.tb with copies := tabDel s.tb.copies u } } (UNIT_STATUS_in_reset u) f _ h
    · exact get_put_bits { s with tb := { s.tb with copies := tabDel s.tb.copies u } } (UNIT_STATUS_in_reset u) f _
        (And.intro (Nat.le_refl 2) (show 2 < 40 by decide)) h

/-- A unit comes out of reset that no fence and no clock holds. -/
theorem releaseUnit_up {s : State} {u : Nat} (hf : s.on (UNIT_STATUS_fenced u) = false) (hc : u ∉ s.rst.clockBad) :
    (releaseUnit s u).on (UNIT_STATUS_in_reset u) = false := by
  unfold releaseUnit
  rw [if_neg (by simp [hf, hc])]
  exact on_putB_self _ _ _ (And.intro (Nat.le_refl 2) (show 2 < 40 by decide))

theorem unitUp_up {s : State} {u : Nat} (hf : s.on (UNIT_STATUS_fenced u) = false) (hc : u ∉ s.rst.clockBad) :
    (unitUp s u).on (UNIT_STATUS_in_reset u) = false := by
  rw [(unitUp_reaction s u).within.status_on (v := u) rfl (show 1 ≤ 2 by decide), releaseUnit_up hf hc]

/-! ### A unit's local reset -/

/-- The units that a local reset of `u` reaches: its own registers, the emitter terms, the FIFO's record of abandoned packets, and, for a
cluster's PLL, its outputs. -/
def resetUnits (u : Nat) : List Nat := u :: 0x012 :: 0x0E2 :: reactUnits

theorem reactUnits_sub (u : Nat) : reactUnits ⊆ resetUnits u := fun _ h => List.mem_cons_of_mem _ (List.mem_cons_of_mem _ (List.mem_cons_of_mem _ h))

/-- One register of the table that a reset returns. -/
def backOne (lvl : Nat) (p : Nat → Bool) (all t : Tab Word) (e : Nat × Word) : Tab Word :=
  if p e.1 then tabSet regReset t e.1 (keepPart lvl e.1 (tabGet regReset all e.1)) else t

theorem regsBack_eq (s : State) (lvl : Nat) (p : Nat → Bool) :
    regsBack s lvl p = { s with regs := s.regs.foldl (backOne lvl p s.regs) s.regs, lat := s.lat.foldl (backOne lvl p s.lat) s.lat } := rfl

theorem backOne_get (lvl : Nat) {p : Nat → Bool} (all t : Tab Word) (e : Nat × Word) {b : Nat} (h : p b = false) :
    tabGet regReset (backOne lvl p all t e) b = tabGet regReset t b := by
  unfold backOne; split
  next hp => exact tabGet_tabSet_ne _ _ _ (fun hb => absurd (h.symm.trans (hb ▸ hp)) (by decide))
  next => rfl

theorem regsBack_rd (s : State) (lvl : Nat) {p : Nat → Bool} {b : Nat} (h : p b = false) : (regsBack s lvl p).rd b = s.rd b :=
  foldl_frame (fun t => tabGet regReset t b) (backOne lvl p s.regs) (fun t e => backOne_get lvl s.regs t e h) s.regs s.regs

/-- Registers of the unit `u` alone, and none of the collector's, are returned. -/
theorem regsBack_within (s : State) (lvl : Nat) {p : Nat → Bool} {u : Nat} (hu : u ≠ 0x0F0)
    (hp : ∀ b, p b = true → b / 256 = u ∧ b % 256 < 0xF0) : Within (resetUnits u) s (regsBack s lvl p) := by
  have hne : ∀ b, (b / 256 ≠ u ∨ 0xF0 ≤ b % 256) → (regsBack s lvl p).rd b = s.rd b := fun b hb =>
    regsBack_rd s lvl (by
      cases hpb : p b with
      | false => rfl
      | true => obtain ⟨h1, h2⟩ := hp b hpb; omega)
  refine ⟨fun b _ hb => hne b (Or.inl fun e => hb (e ▸ List.mem_cons_self)), fun v f hf _ => ?_, fun n hn hs => ?_⟩
  · unfold State.get; rw [hne _ (Or.inr (by rw [hf]; unfold UNIT_STATUS; omega))]
  · unfold srcStatus at *; rw [hne _ (Or.inl (by unfold FIX_STATUS; omega))]; exact hs

theorem fifoAbandon_within (u : Nat) (s : State) (n : Nat) : Within (resetUnits u) s (fifoAbandon s n) := by
  unfold fifoAbandon; dsimp only; split
  · exact Within.refl _ s
  · refine Within.ev (f := FIFO_EVENTS_abandoned) ((Within.refl _ s).congr ?_) (by decide) (List.mem_cons_of_mem _ (List.mem_cons_of_mem _ List.mem_cons_self))
    rfl

theorem abandonBy_within (u : Nat) (s : State) (m : Nat) : Within (resetUnits u) s (abandonBy s m) := by
  unfold abandonBy
  refine Within.foldl _ (fun t e _ => ?_) (Within.refl _ s)
  split
  · exact fifoAbandon_within u t e.1
  · exact Within.refl _ t

theorem resetCore_regs (s : State) (k : Nat) : (resetCore s k).regs = s.regs := rfl

section
variable {u : Nat} {s t : State} (h : Within (resetUnits u) s t)
include h

/-- A write of an output's register. -/
theorem Within.out {k : Nat} (hk : k < 20) {a : Nat} (ha : a / 256 = 0x028 + k) (hb : a % 256 < 0xF0) (w : Word) :
    Within (resetUnits u) s (t.wr a w) :=
  h.wr w hb (by rw [ha]; exact reactUnits_sub u (List.mem_append_right _ (List.mem_map_of_mem (List.mem_range.2 hk)))) (by omega)

theorem Within.outEv {k : Nat} (hk : k < 20) {f : Fld} (ha : f.addr / 256 = 0x028 + k) (hb : f.addr % 256 < 0xF0) :
    Within (resetUnits u) s (t.ev f) :=
  h.ev hb (by rw [ha]; exact reactUnits_sub u (List.mem_append_right _ (List.mem_map_of_mem (List.mem_range.2 hk))))

/-- A write of an emitter term. -/
theorem Within.emit {k : Nat} (hk : k < 30) (w : Word) : Within (resetUnits u) s (t.wr (GLZ_EMITk k) w) :=
  h.wr w (by unfold GLZ_EMITk; omega)
    (by rw [show GLZ_EMITk k / 256 = 0x012 by unfold GLZ_EMITk; omega]; exact List.mem_cons_of_mem _ List.mem_cons_self)
    (by unfold GLZ_EMITk; omega)

end

theorem houseEmit_within (u : Nat) (s : State) {k : Nat} (hk : k < 30) : Within (resetUnits u) s (houseEmit s k) := by
  unfold houseEmit
  extract_lets more s₁
  have h₁ : Within (resetUnits u) s s₁ := by
    unfold s₁; split
    · exact (Within.refl _ s).emit hk _
    · exact Within.refl _ s
  split
  · exact h₁.emit (by decide) _
  · exact h₁

theorem setAligned_within (u : Nat) (s : State) {k : Nat} (hk : k < 20) (b : Bool) : Within (resetUnits u) s (setAligned s k b) := by
  unfold setAligned
  extract_lets was s₁ s₂
  have h₁ : Within (resetUnits u) s s₁ :=
    (Within.refl _ s).out hk (by simp only [OUTk_STATUS_aligned, OUTk_STATUS]; omega) (by simp only [OUTk_STATUS_aligned, OUTk_STATUS]; omega) _
  have h₂ : Within (resetUnits u) s s₂ := by
    unfold s₂; split
    · exact h₁.outEv hk (by simp only [OUTk_EVENTS_aligned_lost, OUTk_EVENTS]; omega) (by simp only [OUTk_EVENTS_aligned_lost, OUTk_EVENTS]; omega)
    · exact h₁
  split
  · exact h₂
  · unfold houseFollow; split
    · exact h₂.trans (houseEmit_within u s₂ (by omega))
    · exact h₂

theorem gateOut_within (u : Nat) (s : State) {k : Nat} (hk : k < 20) : Within (resetUnits u) s (gateOut s k) := by
  unfold gateOut
  extract_lets was s₁ o s₂
  split
  · have h₁ : Within (resetUnits u) s s₁ :=
      ((Within.refl _ s).out hk (by simp only [OUTk_STATUS_gated, OUTk_STATUS]; omega)
        (by simp only [OUTk_STATUS_gated, OUTk_STATUS]; omega) _).trans (setAligned_within u _ hk false)
    have h₂ : Within (resetUnits u) s s₂ := h₁.congr rfl
    split
    · exact h₂
    · exact h₂.outEv hk (by simp only [OUTk_EVENTS_gate, OUTk_EVENTS]; omega) (by simp only [OUTk_EVENTS_gate, OUTk_EVENTS]; omega)
  · exact Within.refl _ s

theorem clusterOuts_lt {n k : Nat} (hn : n < 4) (hk : k ∈ clusterOuts n) : k < 20 := by
  simp only [clusterOuts, List.mem_cons, List.not_mem_nil, or_false] at hk; omega

theorem gateCluster_within (s : State) {n : Nat} (hn : n < 4) : Within (resetUnits (0x020 + n)) s (gateCluster s n) := by
  unfold gateCluster
  refine Within.foldl _ (fun t k hk => gateOut_within _ t (clusterOuts_lt hn hk)) ?_
  exact (Within.refl _ s).putB true (by simp only [VARn_STATUS_gated, VARn_STATUS]; omega)
    (by rw [show (VARn_STATUS_gated n).addr / 256 = 0x020 + n by simp only [VARn_STATUS_gated, VARn_STATUS]; omega]; exact List.mem_cons_self)
    (by simp only [VARn_STATUS_gated, VARn_STATUS]; omega)

theorem Within.ite {U : List Nat} {c : Prop} [Decidable c] {s t u : State} (h : c → Within U s t) (k : ¬ c → Within U s u) :
    Within U s (if c then t else u) := by
  split
  next hc => exact h hc
  next hc => exact k hc

theorem unitInner_within (s : State) (u : Nat) : Within (resetUnits u) s (unitInner s u) := by
  have hkeep : ∀ t : State, t.regs = s.regs → Within (resetUnits u) s t := fun t ht => Within.of_regs ht
  unfold unitInner
  refine .ite (fun _ => (abandonBy_within u s _).congr (resetCore_regs _ _)) fun _ => .ite (fun _ => hkeep _ rfl) fun _ =>
    .ite (fun _ => hkeep _ rfl) fun _ => .ite (fun _ => hkeep _ rfl) fun _ => .ite (fun _ => hkeep _ rfl) fun _ => .ite (fun hvar => ?pll) fun _ =>
    .ite (fun _ => hkeep _ rfl) fun _ => .ite (fun _ => hkeep _ rfl) fun _ => .ite (fun _ => hkeep _ rfl) fun _ =>
    .ite (fun _ => hkeep _ rfl) fun _ => .ite (fun _ => hkeep _ rfl) fun _ => .ite (fun _ => ?engines) fun _ =>
    .ite (fun _ => hkeep _ rfl) fun _ => .ite (fun _ => hkeep _ rfl) fun _ => .ite (fun _ => hkeep _ rfl) fun _ =>
    .ite (fun _ => hkeep _ rfl) fun _ => .ite (fun _ => hkeep _ rfl) fun _ => .ite (fun _ => hkeep _ rfl) fun _ =>
    .ite (fun _ => hkeep _ rfl) fun _ => .ite (fun _ => hkeep _ rfl) fun _ => .refl _ s
  case pll =>
    have hcluster := gateCluster_within s (n := u - 0x020) (by omega)
    rw [show 0x020 + (u - 0x020) = u by omega] at hcluster
    exact hcluster.congr rfl
  case engines => exact Within.foldl _ (fun t k _ => Within.of_regs (resetCore_regs t k)) (abandonBy_within u s _)

theorem unitRegion_fix : unitRegion 0x0F0 = 0 := by decide

theorem unitLocalReset_within (s : State) (u : Nat) : Within (resetUnits u) s (unitLocalReset s u) := by
  unfold unitLocalReset
  split
  next hskb => exact regsBack_within s 2 (by omega) (fun b hb => by simp only [Bool.and_eq_true, decide_eq_true_eq] at hb; omega)
  split
  · exact Within.refl _ s
  next hregion =>
    have hu : u ≠ 0x0F0 := fun h => hregion (h ▸ unitRegion_fix)
    extract_lets s₁ gen s₂
    have h₂ : Within (resetUnits u) s s₂ := by
      refine Within.trans ?_ (unitInner_within _ u)
      refine (Within.of_regs (s := s) (t := s₁) rfl).trans (regsBack_within s₁ _ hu (fun b hb => ?_))
      simpa using hb
    split
    next hbrg =>
      have haddr : (BRGg_GEN_gen (u - 0x088)).addr / 256 = u ∧ (BRGg_GEN_gen (u - 0x088)).addr % 256 < 0xF0 := by
        simp only [BRGg_GEN_gen, BRGg_GEN]; omega
      exact h₂.put _ haddr.2 (by rw [haddr.1]; exact List.mem_cons_self) (fun h => absurd (haddr.1.symm.trans h) hu)
    next => exact h₂

/-! What a device reset still needs is no part of a unit's. -/

theorem fifoAbandon_rst (s : State) (n : Nat) : (fifoAbandon s n).rst = s.rst := by
  unfold fifoAbandon; dsimp only; split
  · rfl
  · rw [State.ev_rst]; rfl

theorem abandonBy_rst (s : State) (m : Nat) : (abandonBy s m).rst = s.rst := by
  unfold abandonBy
  refine foldl_frame State.rst _ (fun t e => ?_) _ s
  split
  · exact fifoAbandon_rst t e.1
  · rfl

theorem resetCore_rst (s : State) (k : Nat) : (resetCore s k).rst = s.rst := rfl

theorem houseEmit_rst (s : State) (k : Nat) : (houseEmit s k).rst = s.rst := by
  unfold houseEmit; dsimp only; split_ifs <;> rfl

theorem houseFollow_rst (s : State) (ks : List Nat) : (houseFollow s ks).rst = s.rst := by
  unfold houseFollow; split
  · exact foldl_frame State.rst houseEmit houseEmit_rst ks s
  · rfl

theorem setAligned_rst (s : State) (k : Nat) (b : Bool) : (setAligned s k b).rst = s.rst := by
  unfold setAligned
  extract_lets was s₁ s₂
  have h₂ : s₂.rst = s.rst := by
    unfold s₂; split
    · exact State.ev_rst _ _
    · rfl
  split
  · exact h₂
  · exact (houseFollow_rst _ _).trans h₂

theorem gateOut_rst (s : State) (k : Nat) : (gateOut s k).rst = s.rst := by
  unfold gateOut
  extract_lets was s₁ o s₂
  have h₂ : s₂.rst = s.rst := setAligned_rst _ k false
  split
  · split
    · exact h₂
    · exact (State.ev_rst _ _).trans h₂
  · rfl

theorem gateCluster_rst (s : State) (n : Nat) : (gateCluster s n).rst = s.rst :=
  foldl_frame State.rst gateOut gateOut_rst (clusterOuts n) (s.putB (VARn_STATUS_gated n) true)

theorem unitInner_rst (s : State) (u : Nat) : (unitInner s u).rst = s.rst := by
  have hite : ∀ {c : Prop} [Decidable c] {t v : State}, t.rst = s.rst → v.rst = s.rst → (if c then t else v).rst = s.rst := by
    intro c _ t v ht hv; split
    · exact ht
    · exact hv
  unfold unitInner
  refine hite (abandonBy_rst s _) (hite rfl (hite rfl (hite rfl (hite rfl (hite (gateCluster_rst s _) (hite rfl (hite rfl (hite rfl
    (hite rfl (hite rfl (hite ?_ (hite rfl (hite rfl (hite rfl (hite rfl (hite rfl (hite rfl (hite rfl (hite rfl rfl)))))))))))))))))))
  exact (foldl_frame State.rst resetCore resetCore_rst _ _).trans (abandonBy_rst s _)

theorem unitLocalReset_rst (s : State) (u : Nat) : (unitLocalReset s u).rst = s.rst := by
  unfold unitLocalReset; split
  · rfl
  · split
    · rfl
    · dsimp only; split
      · rw [State.put_rst, unitInner_rst]; rfl
      · rw [unitInner_rst]; rfl

/-! ### A fence -/

/-- The unit's local reset, the end of pairing where the unit is TW included (R24, R27). -/
def unitStopped (s : State) (u : Nat) : State := unitLocalReset (if u = 0x0DA then leaveSync s else s) u

theorem unitStopped_within (s : State) (u : Nat) : Within (resetUnits u) s (unitStopped s u) := by
  unfold unitStopped
  refine Within.trans ?_ (unitLocalReset_within _ u)
  split
  · exact (leaveSync_reaction s).within.mono (reactUnits_sub u)
  · exact Within.refl _ s

theorem unitStopped_rst (s : State) (u : Nat) : (unitStopped s u).rst = s.rst := by
  unfold unitStopped; rw [unitLocalReset_rst]; split
  · exact (leaveSync_reaction s).rest.rst
  · rfl

theorem nameUnit_within (U : List Nat) (s : State) (n u : Nat) : Within U s (nameUnit s n u) := by
  have hput : Within U s (s.put (UNIT_FAULT_source u) n) :=
    ⟨fun b hb _ => rd_put_ne s _ _ (by simp only [UNIT_FAULT_source, UNIT_FAULT]; omega),
      fun v f hf _ => get_put_addr s _ f n (by rw [hf]; simp only [UNIT_FAULT_source, UNIT_FAULT, UNIT_STATUS]; omega),
      fun m hm hs => by
        unfold srcStatus at *
        rw [rd_put_ne s _ _ (by simp only [UNIT_FAULT_source, UNIT_FAULT, FIX_STATUS]; omega)]; exact hs⟩
  have haddr : UNIT_FAULT u % 256 = 0xFC := by unfold UNIT_FAULT; omega
  exact ((hput.tally _ _).event (a := UNIT_FAULT u) 0 (by rw [haddr]; decide) (fun h => by omega)).congr rfl

theorem nameUnit_rst (s : State) (n u : Nat) : (nameUnit s n u).rst = s.rst := by
  show (State.ev _ _).rst = _
  rw [State.ev_rst, tally_rst]; rfl

/-- A fenced unit before its status shows it. -/
def fenceBegun (n : Nat) (s : State) (u : Nat) : State := unitStopped (nameUnit s n u) u

theorem fenceUnit_eq (n : Nat) (s : State) (u : Nat) : ∃ fix, fenceUnit n s u =
    { ((fenceBegun n s u).putB (UNIT_STATUS_in_reset u) true).putB (UNIT_STATUS_fenced u) true with fix := fix } := ⟨_, rfl⟩

theorem fenceBegun_within (n : Nat) (s : State) (u : Nat) : Within (resetUnits u) s (fenceBegun n s u) :=
  (nameUnit_within _ s n u).trans (unitStopped_within _ u)

end Sys2Proof.Machine
end

section
/-! PROOF. The clock monitors and the supply (O38): a unit whose clock goes bad or comes good, the PLLs, the oscillator, and a low supply. -/

namespace Sys2Proof.Machine

/-! ### Raising a source -/

/-- A FATAL source names no unit of its own (R506). -/
theorem raiseSrc_fatal (s : State) {n : Nat} (h : n ≤ 11) : raiseSrc s n none = fatalEnter s n none := by
  have hclass : srcClass s n = 2 := by unfold srcClass; rw [if_pos h]
  have hunit : srcFixedUnit n = none := by
    unfold srcFixedUnit
    rw [if_neg (by omega), if_neg (by omega), if_neg (by omega), if_neg (by omega), if_neg (by omega), if_neg (by omega), if_neg (by omega)]
  unfold raiseSrc; dsimp only; rw [hclass, hunit]; rfl

/-- As `Within`, of UNIT_STATUS the clock's bit alone. -/
structure ClockStays (U : List Nat) (s t : State) : Prop where
  rd : ∀ b, b % 256 < 0xF0 → b / 256 ∉ U → t.rd b = s.rd b
  clk : ∀ v, t.get (UNIT_STATUS_clk_on v) = s.get (UNIT_STATUS_clk_on v)
  marks : ∀ n < 256, srcStatus s n = true → srcStatus t n = true

theorem Within.clockStays {U : List Nat} {s t : State} (h : Within U s t) : ClockStays U s t :=
  ⟨h.rd, fun v => h.status v _ rfl (show 1 ≤ 3 by decide), h.marks⟩

namespace ClockStays
variable {U : List Nat} {s t u : State}

theorem trans (h : ClockStays U s t) (k : ClockStays U t u) : ClockStays U s u :=
  ⟨fun b hb hu => (k.rd b hb hu).trans (h.rd b hb hu), fun v => (k.clk v).trans (h.clk v), fun n hn hs => k.marks n hn (h.marks n hn hs)⟩

theorem get (h : ClockStays U s t) (f : Fld) (hb : f.addr % 256 < 0xF0) (hu : f.addr / 256 ∉ U) : t.get f = s.get f := by
  unfold State.get; rw [h.rd _ hb hu]

/-- The other bits of a UNIT_STATUS. -/
theorem putStatus (h : ClockStays U s t) (v : Nat) {f : Fld} (b : Bool) (hf : f.addr = UNIT_STATUS v) (hlo : f.lo ≤ f.hi) (hhi : f.hi < 3) :
    ClockStays U s (t.putB f b) :=
  h.trans ⟨fun b' hb _ => rd_put_ne t _ _ (by rw [hf]; unfold UNIT_STATUS; omega),
    fun w => get_put_bits t f _ _ ⟨hlo, by omega⟩ (Or.inr hhi),
    fun n hn hs => by
      unfold srcStatus at *
      rw [show (t.putB f b).rd (FIX_STATUS (n / 40)) = t.rd (FIX_STATUS (n / 40)) from
        rd_put_ne t _ _ (by rw [hf]; unfold UNIT_STATUS FIX_STATUS; omega)]; exact hs⟩

end ClockStays

theorem status_ok (u : Nat) : (UNIT_STATUS_clk_on u).ok ∧ (UNIT_STATUS_in_reset u).ok ∧ (UNIT_STATUS_fenced u).ok :=
  ⟨⟨Nat.le_refl 3, show 3 < 40 by decide⟩, ⟨Nat.le_refl 2, show 2 < 40 by decide⟩, ⟨Nat.le_refl 1, show 1 < 40 by decide⟩⟩

theorem on_put_bits (s : State) (f g : Fld) (v : Nat) (hf : f.ok) (h : g.hi < f.lo ∨ f.hi < g.lo) : (s.put f v).on g = s.on g := by
  unfold State.on; rw [get_put_bits s f g v hf h]

theorem on_put_addr (s : State) (f g : Fld) (v : Nat) (h : g.addr ≠ f.addr) : (s.put f v).on g = s.on g := by
  unfold State.on; rw [get_put_addr s f g v h]

section
variable (n : Nat) (s : State) (u : Nat)

theorem fenceUnit_regs :
    (fenceUnit n s u).regs = (((fenceBegun n s u).putB (UNIT_STATUS_in_reset u) true).putB (UNIT_STATUS_fenced u) true).regs := by
  obtain ⟨fix, h⟩ := fenceUnit_eq n s u
  rw [h]

theorem fenceUnit_rst : (fenceUnit n s u).rst = s.rst := by
  obtain ⟨fix, h⟩ := fenceUnit_eq n s u
  rw [h]
  show (unitStopped (nameUnit s n u) u).rst = s.rst
  rw [unitStopped_rst, nameUnit_rst]

theorem fenceUnit_in_reset : (fenceUnit n s u).on (UNIT_STATUS_in_reset u) = true := by
  rw [on_of_regs (fenceUnit_regs n s u)]
  exact (on_put_bits _ (UNIT_STATUS_fenced u) (UNIT_STATUS_in_reset u) _ (status_ok u).2.2 (Or.inr (show 1 < 2 by decide))).trans (on_putB_self _ _ _ (status_ok u).2.1)

theorem fenceUnit_clockStays : ClockStays (resetUnits u) s (fenceUnit n s u) := by
  have h := (((fenceBegun_within n s u).clockStays).putStatus u (f := UNIT_STATUS_in_reset u) true rfl (Nat.le_refl 2)
    (show 2 < 3 by decide)).putStatus u (f := UNIT_STATUS_fenced u) true rfl (Nat.le_refl 1) (show 1 < 3 by decide)
  exact h.trans (Within.of_regs (fenceUnit_regs n s u)).clockStays

end

/-- A unit fenced for its bad clock, which the source 25 then names. -/
def badClockNamed (s : State) (u : Nat) : State :=
  let t := fenceUnit 25 (reportSrc s 25) u
  { t with fix := { t.fix with srcUnit := tabSet (fun _ => 0) t.fix.srcUnit 25 u } }

theorem regionSource_lt (r : Nat) : regionSource r < 256 := by
  unfold regionSource
  rcases Nat.lt_or_ge r 9 with h | h
  · interval_cases r <;> decide
  · rw [List.getD_eq_default _ _ h]; decide

/-- The source 25 fences the unit that it names (R508), and is FATAL of an essential one (R507). -/
theorem raiseSrc_badClock (s : State) (u : Nat) : raiseSrc s 25 (some u) =
    if (reportSrc s 25).fix.fatal then reportSrc s 25
    else if essentialUnit u then fatalEnter (badClockNamed s u) (regionSource (unitRegion u)) (some u) else badClockNamed s u := by
  have hclass : srcClass s 25 = 1 := rfl
  have hunit : srcFixedUnit 25 = none := rfl
  have hnamed : (16 ≤ 25 ∧ 25 ≤ 26) ∨ (86 ≤ 25 ∧ 25 ≤ 101) := by decide
  unfold raiseSrc; dsimp only; rw [hclass, hunit]
  exact if_congr Iff.rfl rfl (if_congr (and_iff_left hnamed) rfl rfl)

theorem reportSrc_status (s : State) (n : Nat) (h : n < 256) : srcStatus (reportSrc s n) n = true := by
  have hev : srcStatus (s.event (FIX_STATUS (n / 40)) (n % 40)) n = true :=
    event_bitAt s _ _ (by unfold FIX_STATUS; omega) (by omega)
  unfold reportSrc; dsimp only; split
  · exact hev
  · exact hev

/-! ### A bad clock -/

/-- A unit held in reset by its bad clock. -/
structure ClockHeld (u : Nat) (s t : State) : Prop where
  stays : ClockStays (resetUnits u) s t
  inReset : s.on (UNIT_STATUS_in_reset u) = true → t.on (UNIT_STATUS_in_reset u) = true
  clockBad : t.rst.clockBad = s.rst.clockBad

namespace ClockHeld
variable {u : Nat} {s t v : State}

theorem trans (h : ClockHeld u s t) (k : ClockHeld u t v) : ClockHeld u s v :=
  ⟨h.stays.trans k.stays, fun hr => k.inReset (h.inReset hr), k.clockBad.trans h.clockBad⟩

theorem of_within (h : Within (resetUnits u) s t) (hr : t.rst.clockBad = s.rst.clockBad) : ClockHeld u s t :=
  ⟨h.clockStays, fun hs => (h.status_on (v := u) rfl (show 1 ≤ 2 by decide)).trans hs, hr⟩

end ClockHeld

theorem badClockNamed_held (s : State) (u : Nat) : ClockHeld u (reportSrc s 25) (badClockNamed s u) :=
  ⟨(fenceUnit_clockStays 25 (reportSrc s 25) u).trans (Within.of_regs (s := fenceUnit 25 (reportSrc s 25) u) (t := badClockNamed s u) rfl).clockStays, fun _ => fenceUnit_in_reset 25 (reportSrc s 25) u,
    congrArg RstSt.clockBad (fenceUnit_rst 25 (reportSrc s 25) u)⟩

theorem fatalEnter_held (u : Nat) (s : State) (n : Nat) (named : Option Nat) (hn : n < 256) : ClockHeld u s (fatalEnter s n named) :=
  .of_within ((fatalEnter_within s named hn).mono (reactUnits_sub u)) (by rw [fatalEnter_rst])

theorem reportSrc_held (u : Nat) (s : State) (n : Nat) (hn : n < 256) : ClockHeld u s (reportSrc s n) :=
  .of_within ((reportSrc_reaction s n hn).within.mono (reactUnits_sub u)) (by rw [(reportSrc_reaction s n hn).rest.rst])

theorem raiseSrc_badClock_held (s : State) (u : Nat) : ClockHeld u (reportSrc s 25) (raiseSrc s 25 (some u)) := by
  rw [raiseSrc_badClock]
  split
  · exact .of_within (Within.refl _ _) rfl
  · split
    · exact (badClockNamed_held s u).trans (fatalEnter_held u _ _ _ (regionSource_lt _))
    · exact badClockNamed_held s u

/-- The registers of a unit that its bad clock stops. -/
def clockOff (s : State) (u : Nat) : State :=
  ((unitStopped ((s.ev CKG_EVENTS_unit_clk_bad).put CKG_CLK_BAD_UNIT_unit u) u).putB (UNIT_STATUS_in_reset u) true).putB (UNIT_STATUS_clk_on u) false

/-- A unit that its bad clock holds, before the source is raised. -/
def clockStopped (s : State) (u : Nat) : State :=
  { clockOff s u with rst := { (clockOff s u).rst with clockBad := u :: (clockOff s u).rst.clockBad } }

theorem clockStopped_regs (s : State) (u : Nat) : (clockStopped s u).regs = (clockOff s u).regs := rfl

theorem clockBad_eq (s : State) (u : Nat) : clockBad s u = raiseSrc (clockStopped s u) 25 (some u) := rfl

theorem clockBad_held (s : State) (u : Nat) : ClockHeld u (clockStopped s u) (clockBad s u) :=
  (reportSrc_held u _ 25 (by decide)).trans (raiseSrc_badClock_held _ u)

theorem clockStopped_in_reset (s : State) (u : Nat) : (clockStopped s u).on (UNIT_STATUS_in_reset u) = true := by
  rw [on_of_regs (clockStopped_regs s u)]; unfold clockOff
  rw [State.putB, on_put_bits _ (UNIT_STATUS_clk_on u) (UNIT_STATUS_in_reset u) _ (status_ok u).1 (Or.inl (show 2 < 3 by decide)),
    on_putB_self _ _ _ (status_ok u).2.1]

theorem clockStopped_clk_on (s : State) (u : Nat) : (clockStopped s u).on (UNIT_STATUS_clk_on u) = false := by
  rw [on_of_regs (clockStopped_regs s u)]; unfold clockOff
  rw [on_putB_self _ _ _ (status_ok u).1]

/-- What a bad clock leaves of the registers that no local reset reaches. -/
theorem clockStopped_rd (s : State) {u a : Nat} (ha : a % 256 < 0xF0) (hu : a / 256 ∉ resetUnits u) :
    (clockStopped s u).rd a = ((s.ev CKG_EVENTS_unit_clk_bad).put CKG_CLK_BAD_UNIT_unit u).rd a := by
  have hne : ∀ f : Fld, f.addr = UNIT_STATUS u → a ≠ f.addr := fun f hf e => by rw [e, hf] at ha; unfold UNIT_STATUS at ha; omega
  rw [rd_of_regs (clockStopped_regs s u)]; unfold clockOff
  rw [State.putB, State.putB, rd_put_ne _ _ _ (hne (UNIT_STATUS_clk_on u) rfl), rd_put_ne _ _ _ (hne (UNIT_STATUS_in_reset u) rfl)]
  exact (unitStopped_within _ u).rd a ha hu

theorem ckg_outside {u : Nat} (h : u ≠ 0x005) : 0x005 ∉ resetUnits u := by
  intro hmem
  rcases List.mem_cons.1 hmem with h' | h'
  · exact h h'.symm
  · exact absurd h' (by decide)

theorem clockBad_rd (s : State) {u a : Nat} (h : u ≠ 0x005) (ha : a % 256 < 0xF0) (hu : a / 256 = 0x005) :
    (clockBad s u).rd a = ((s.ev CKG_EVENTS_unit_clk_bad).put CKG_CLK_BAD_UNIT_unit u).rd a := by
  have hout : a / 256 ∉ resetUnits u := hu ▸ ckg_outside h
  exact ((clockBad_held s u).stays.rd a ha hout).trans (clockStopped_rd s ha hout)

theorem clockBad_shows (s : State) {u : Nat} (hckg : u ≠ 0x005) (hu : u < 4096) :
    (clockBad s u).on (UNIT_STATUS_clk_on u) = false ∧ (clockBad s u).on (UNIT_STATUS_in_reset u) = true ∧
      (clockBad s u).on CKG_EVENTS_unit_clk_bad = true ∧ (clockBad s u).get CKG_CLK_BAD_UNIT_unit = u ∧
      u ∈ (clockBad s u).rst.clockBad ∧ srcStatus (clockBad s u) 25 = true := by
  have hheld := clockBad_held s u
  refine ⟨?_, hheld.inReset (clockStopped_in_reset s u), ?_, ?_, ?_, ?_⟩
  · unfold State.on; rw [hheld.stays.clk u]; exact clockStopped_clk_on s u
  · unfold State.on State.get; rw [clockBad_rd s hckg (by decide) (by decide)]
    exact (on_put_addr _ CKG_CLK_BAD_UNIT_unit CKG_EVENTS_unit_clk_bad u (by decide)).trans (ev_on s CKG_EVENTS_unit_clk_bad (by decide) rfl (by decide))
  · unfold State.get; rw [clockBad_rd s hckg (by decide) (by decide)]
    exact (get_put_self _ CKG_CLK_BAD_UNIT_unit u ⟨by decide, by decide⟩).trans (Nat.mod_eq_of_lt hu)
  · rw [hheld.clockBad]; exact List.mem_cons_self
  · rw [clockBad_eq]
    exact (raiseSrc_badClock_held _ u).stays.marks 25 (by decide) (reportSrc_status _ 25 (by decide))

/-! ### A good clock -/

theorem clockOn_fenced (s : State) (u : Nat) : (clockUse (s.putB (UNIT_STATUS_clk_on u) true) u).on (UNIT_STATUS_fenced u) = s.on (UNIT_STATUS_fenced u) :=
  on_put_bits s (UNIT_STATUS_clk_on u) (UNIT_STATUS_fenced u) _ (status_ok u).1 (Or.inl (show 1 < 3 by decide))

theorem clockOn_clk_on (s : State) (u : Nat) : (clockUse (s.putB (UNIT_STATUS_clk_on u) true) u).on (UNIT_STATUS_clk_on u) = true :=
  on_putB_self s _ _ (status_ok u).1

theorem unitUp_clk_on (s : State) (u : Nat) : (unitUp s u).on (UNIT_STATUS_clk_on u) = s.on (UNIT_STATUS_clk_on u) := by
  rw [(unitUp_reaction s u).within.status_on (v := u) rfl (show 1 ≤ 3 by decide)]
  unfold State.on; rw [releaseUnit_get s u _ (Or.inr (Or.inr (show 2 < 3 by decide)))]

/-- A unit with its clock started, whose clock is no longer bad. -/
def clockRestored (s : State) (u : Nat) : State :=
  let t := clockUse (s.putB (UNIT_STATUS_clk_on u) true) u
  { t with rst := { t.rst with clockBad := t.rst.clockBad.filter (fun x => decide (x ≠ u)) } }

theorem clockRestored_regs (s : State) (u : Nat) : (clockRestored s u).regs = (clockUse (s.putB (UNIT_STATUS_clk_on u) true) u).regs := rfl

theorem clockRestored_not_bad (s : State) (u : Nat) : u ∉ (clockRestored s u).rst.clockBad := by
  intro h; exact absurd (of_decide_eq_true (List.mem_filter.1 h).2) (fun h => h rfl)

theorem execClockGood_eq {s : State} {unit : BitVec 12} {d : Nat} (hd : unitDomain unit.toNat = some d) (hon : domainOn s d = true) :
    execClockGood unit s = .next (if s.rst.clockBad.contains unit.toNat then
      (if s.rst.localUnits.any (fun e => decide (e.1 = unit.toNat)) then clockRestored s unit.toNat else unitUp (clockRestored s unit.toNat) unit.toNat)
      else clockUse (s.putB (UNIT_STATUS_clk_on unit.toNat) true) unit.toNat) := by
  unfold execClockGood; dsimp only; rw [hd]; dsimp only; rw [hon, Bool.not_true, if_neg Bool.false_ne_true]; rfl

theorem clockRestored_clk_on (s : State) (u : Nat) : (clockRestored s u).on (UNIT_STATUS_clk_on u) = true := by
  rw [on_of_regs (clockRestored_regs s u), clockOn_clk_on]

theorem clockRestored_up {s : State} {u : Nat} (hf : s.on (UNIT_STATUS_fenced u) = false) :
    (unitUp (clockRestored s u) u).on (UNIT_STATUS_in_reset u) = false :=
  unitUp_up (by rw [on_of_regs (clockRestored_regs s u), clockOn_fenced, hf]) (clockRestored_not_bad s u)

theorem clockGood_shows {s : State} {unit : BitVec 12} {d : Nat} (hd : unitDomain unit.toNat = some d) (hon : domainOn s d = true) :
    Gives (execClockGood unit s) (fun t => t.on (UNIT_STATUS_clk_on unit.toNat) = true ∧
      (unit.toNat ∈ s.rst.clockBad → s.on (UNIT_STATUS_fenced unit.toNat) = false → (∀ e ∈ s.rst.localUnits, e.1 ≠ unit.toNat) →
        t.on (UNIT_STATUS_in_reset unit.toNat) = false ∧ unit.toNat ∉ t.rst.clockBad)) := by
  rw [execClockGood_eq hd hon]
  generalize unit.toNat = u
  refine ⟨_, rfl, ?_, fun hbad hf hlocal => ?_⟩
  · split
    · split
      · exact clockRestored_clk_on s u
      · rw [unitUp_clk_on, clockRestored_clk_on]
    · exact clockOn_clk_on s u
  · rw [if_pos (List.contains_iff_mem.2 hbad), if_neg (by rw [List.any_eq_true]; rintro ⟨e, he, hu⟩; exact hlocal e he (of_decide_eq_true hu))]
    exact ⟨clockRestored_up hf, by rw [unitUp_rst]; exact clockRestored_not_bad s u⟩

/-! ### The PLLs and the oscillator -/

/-- An event leaves every event bit that stands. -/
theorem ev_on_of_on (s : State) (f g : Fld) (hf : f.addr % 256 < 0xF0) (hflo : f.lo < 40) (hg : g.addr % 256 < 0xF0) (hbit : g.hi = g.lo) (h : s.on g = true) :
    (s.ev f).on g = true := by
  unfold State.on State.get State.ev at *
  rw [hbit, fieldOf_bit] at *
  by_cases ha : g.addr = f.addr
  · rw [ha] at h ⊢; rw [event_rd_self _ _ _ hf]
    by_cases hlo : g.lo = f.lo
    · rw [hlo, bitAt_or_self _ hflo]; rfl
    · rw [bitAt_or_ne _ hflo hlo]; exact h
  · rw [event_rd_ne _ _ _ hg ha]; exact h

/-- Of CKG, a bad clock leaves the status, and the events that stand. -/
structure CkgStays (s t : State) : Prop where
  status : t.rd CKG_STATUS = s.rd CKG_STATUS
  unlock : s.on CKG_EVENTS_pll_unlock = true → t.on CKG_EVENTS_pll_unlock = true

theorem clockBad_ckg (s : State) {u : Nat} (h : u ≠ 0x005) : CkgStays s (clockBad s u) := by
  refine ⟨?_, fun hs => ?_⟩
  · rw [clockBad_rd s h (by decide) (by decide), rd_put_ne _ _ _ (by decide)]
    exact event_rd_ne s _ _ (by decide) (by decide)
  · unfold State.on State.get; rw [clockBad_rd s h (by decide) (by decide)]
    exact (on_put_addr (s.ev CKG_EVENTS_unit_clk_bad) CKG_CLK_BAD_UNIT_unit CKG_EVENTS_pll_unlock u (by decide)).trans
      (ev_on_of_on s CKG_EVENTS_unit_clk_bad CKG_EVENTS_pll_unlock (by decide) (by decide) (by decide) rfl hs)

theorem clockBads_ckg (us : List Nat) (s : State) (h : 0x005 ∉ us) : CkgStays s (us.foldl clockBad s) := by
  induction us generalizing s with
  | nil => exact ⟨rfl, id⟩
  | cons u us ih =>
    have hu := clockBad_ckg s (u := u) fun e => h (e ▸ List.mem_cons_self)
    have hrest := ih (clockBad s u) fun hm => h (List.mem_cons_of_mem _ hm)
    exact ⟨hrest.status.trans hu.status, fun hs => hrest.unlock (hu.unlock hs)⟩

/-- Whether the fabric PLL's loss holds unit `u`: it is of a powered Canvas domain, and no engine. -/
def fabricHeld (s : State) (u : Nat) : Bool :=
  match unitDomain u with
  | none => false
  | some d => decide (4 ≤ d) && decide (d ≤ 10) && domainOn s d && !(decide (0x064 ≤ u) && decide (u ≤ 0x073))

theorem fabricHeld_ckg (s : State) : fabricHeld s 0x005 = false := rfl

theorem pllUnlock_fabric (s : State) :
    Gives (execPllUnlock 0 s) (fun t => t.on CKG_STATUS_fab_lock = false ∧ t.on CKG_EVENTS_pll_unlock = true) := by
  have hev := ev_on s CKG_EVENTS_pll_unlock (by decide) rfl (by decide)
  have hstays := clockBads_ckg (allUnits.filter (fabricHeld (s.ev CKG_EVENTS_pll_unlock))) ((s.ev CKG_EVENTS_pll_unlock).putB CKG_STATUS_fab_lock false)
    fun hm => absurd (List.mem_filter.1 hm).2 (by rw [fabricHeld_ckg]; decide)
  refine ⟨_, rfl, ?_, hstays.unlock ((on_put_addr _ CKG_STATUS_fab_lock CKG_EVENTS_pll_unlock _ (by decide)).trans hev)⟩
  refine Eq.trans ?_ (on_putB_self (s.ev CKG_EVENTS_pll_unlock) CKG_STATUS_fab_lock false ⟨by decide, by decide⟩)
  unfold State.on State.get; exact congrArg (fun w => decide (fieldOf w 2 2 ≠ 0)) hstays.status

/-- The DRAM PLL's loss, before its source is raised. -/
def dramUnlocked (s : State) : State :=
  (regionUnits 8).foldl (fun s u => s.putB (UNIT_STATUS_in_reset u) true) ((s.ev CKG_EVENTS_pll_unlock).putB CKG_STATUS_dram_lock false)

/-- A fold of writes to the units' in_reset bits. -/
theorem inResets_rd (us : List Nat) (s : State) {a : Nat} (h : a % 256 < 0xF0) :
    (us.foldl (fun s u => s.putB (UNIT_STATUS_in_reset u) true) s).rd a = s.rd a :=
  foldl_frame (fun t => State.rd t a) _ (fun t u => rd_put_ne t _ _ (by unfold UNIT_STATUS_in_reset UNIT_STATUS; dsimp only; omega)) us s

theorem inResets_stay (us : List Nat) (s : State) {v : Nat} (h : s.on (UNIT_STATUS_in_reset v) = true) :
    (us.foldl (fun s u => s.putB (UNIT_STATUS_in_reset u) true) s).on (UNIT_STATUS_in_reset v) = true := by
  induction us generalizing s with
  | nil => exact h
  | cons u us ih =>
    refine ih _ ?_
    by_cases huv : u = v
    · rw [huv]; exact on_putB_self _ _ _ (status_ok v).2.1
    · exact (on_put_addr s (UNIT_STATUS_in_reset u) (UNIT_STATUS_in_reset v) _ (by simp only [UNIT_STATUS_in_reset, UNIT_STATUS]; omega)).trans h

theorem inResets_set (us : List Nat) (s : State) {v : Nat} (h : v ∈ us) :
    (us.foldl (fun s u => s.putB (UNIT_STATUS_in_reset u) true) s).on (UNIT_STATUS_in_reset v) = true := by
  induction us generalizing s with
  | nil => exact absurd h List.not_mem_nil
  | cons u us ih =>
    rcases List.mem_cons.1 h with rfl | h'
    · exact inResets_stay us _ (on_putB_self s _ _ (status_ok v).2.1)
    · exact ih _ h'

theorem pllUnlock_dram (s : State) :
    Gives (execPllUnlock 1 s) (fun t => t.on CKG_STATUS_dram_lock = false ∧ t.on CKG_EVENTS_pll_unlock = true ∧ t.fix.fatal = true ∧ srcStatus t 11 = true ∧
      ∀ v ∈ regionUnits 8, t.on (UNIT_STATUS_in_reset v) = true) := by
  have hexec : execPllUnlock 1 s = .next (fatalEnter (dramUnlocked s) 11 none) := congrArg Host.Outcome.next (raiseSrc_fatal (dramUnlocked s) (n := 11) (by decide))
  have hw := fatalEnter_within (dramUnlocked s) none (n := 11) (by decide)
  have hev := ev_on s CKG_EVENTS_pll_unlock (by decide) rfl (by decide)
  refine ⟨_, hexec, ?_, ?_, fatalEnter_fatal _ _, fatalEnter_status _ _ (by decide), fun v hv => ?_⟩
  · rw [hw.on _ (by decide) (by decide)]
    refine Eq.trans ?_ (on_putB_self (s.ev CKG_EVENTS_pll_unlock) CKG_STATUS_dram_lock false ⟨by decide, by decide⟩)
    unfold State.on State.get dramUnlocked; rw [inResets_rd _ _ (by decide)]
  · rw [hw.on _ (by decide) (by decide)]
    refine Eq.trans ?_ ((on_put_addr _ CKG_STATUS_dram_lock CKG_EVENTS_pll_unlock (b2n false) (by decide)).trans hev)
    unfold State.on State.get dramUnlocked; rw [inResets_rd _ _ (by decide)]; rfl
  · rw [hw.status_on (v := v) rfl (show 1 ≤ 2 by decide)]; exact inResets_set _ _ hv

/-- The timebase PLL frozen for the lost oscillator, before the source is raised. -/
def oscFrozen (s : State) : State :=
  (((s.ev CKG_EVENTS_osc_lost).putB CKG_STATUS_osc_ok false).putB CKG_STATUS_tb_lock false).putB CKG_STATUS_tb_frozen true

theorem oscFrozen_shows (s : State) : (oscFrozen s).on CKG_STATUS_osc_ok = false ∧ (oscFrozen s).on CKG_STATUS_tb_lock = false ∧
    (oscFrozen s).on CKG_STATUS_tb_frozen = true ∧ (oscFrozen s).on CKG_EVENTS_osc_lost = true := by
  unfold oscFrozen
  refine ⟨?_, ?_, on_putB_self _ _ _ ⟨by decide, by decide⟩, ?_⟩
  · rw [State.putB, on_put_bits _ _ CKG_STATUS_osc_ok _ ⟨by decide, by decide⟩ (by decide), State.putB,
      on_put_bits _ _ CKG_STATUS_osc_ok _ ⟨by decide, by decide⟩ (by decide), on_putB_self _ _ _ ⟨by decide, by decide⟩]
  · rw [State.putB, on_put_bits _ _ CKG_STATUS_tb_lock _ ⟨by decide, by decide⟩ (by decide), on_putB_self _ _ _ ⟨by decide, by decide⟩]
  · rw [State.putB, on_put_addr _ _ CKG_EVENTS_osc_lost _ (by decide), State.putB, on_put_addr _ _ CKG_EVENTS_osc_lost _ (by decide), State.putB,
      on_put_addr _ _ CKG_EVENTS_osc_lost _ (by decide), ev_on s CKG_EVENTS_osc_lost (by decide) rfl (by decide)]

theorem oscLost_shows {s : State} (h : s.on CKG_STATUS_tb_frozen = false) :
    Gives (execOscLost s) (fun t => t.on CKG_STATUS_osc_ok = false ∧ t.on CKG_STATUS_tb_lock = false ∧
      t.on CKG_STATUS_tb_frozen = true ∧ t.on CKG_EVENTS_osc_lost = true ∧ t.fix.fatal = true ∧ srcStatus t 5 = true) := by
  have hexec : execOscLost s = .next (fatalEnter (oscFrozen s) 5 none) := by
    unfold execOscLost; rw [h, if_neg Bool.false_ne_true]; exact congrArg Host.Outcome.next (raiseSrc_fatal (oscFrozen s) (n := 5) (by decide))
  have hw := fatalEnter_within (oscFrozen s) none (n := 5) (by decide)
  obtain ⟨hosc, hlock, hfrozen, hev⟩ := oscFrozen_shows s
  exact ⟨_, hexec, (hw.on _ (by decide) (by decide)).trans hosc, (hw.on _ (by decide) (by decide)).trans hlock,
    (hw.on _ (by decide) (by decide)).trans hfrozen, (hw.on _ (by decide) (by decide)).trans hev, fatalEnter_fatal _ _, fatalEnter_status _ _ (by decide)⟩

/-! ### A low supply -/

theorem coreEvent_cores (s : State) (k bit : Nat) : ∃ cores, coreEvent s k bit = { s with cores := cores } := ⟨_, rfl⟩

theorem allCoresEvent_cores (s : State) (bit : Nat) : ∃ cores, allCoresEvent s bit = { s with cores := cores } := by
  unfold allCoresEvent
  induction List.range 48 generalizing s with
  | nil => exact ⟨s.cores, rfl⟩
  | cons k ks ih =>
    obtain ⟨c, hc⟩ := coreEvent_cores s k bit
    obtain ⟨cs, hcs⟩ := ih { s with cores := c }
    exact ⟨cs, by rw [List.foldl_cons, hc, hcs]⟩

/-- A new role reaches TW's status, the cores and the responses that wait. -/
theorem twRole_eq (s : State) {r : Nat} (h : s.get TW_STATUS_role ≠ r) :
    ∃ cores lp, twRole s r = { s.put TW_STATUS_role r with cores := cores, lp := lp } := by
  obtain ⟨cores, hc⟩ := allCoresEvent_cores (s.put TW_STATUS_role r) 29
  unfold twRole; rw [if_neg h, hc]
  exact ⟨cores, _, rfl⟩

theorem twRole_role (s : State) {r : Nat} (h : r < 4) : (twRole s r).get TW_STATUS_role = r := by
  by_cases hr : s.get TW_STATUS_role = r
  · unfold twRole; rw [if_pos hr, hr]
  · obtain ⟨cores, lp, e⟩ := twRole_eq s hr
    rw [e]; exact (get_put_self s _ r ⟨by decide, by decide⟩).trans (Nat.mod_eq_of_lt h)

theorem twRole_tw (s : State) (r : Nat) : (twRole s r).tw = s.tw := by
  by_cases hr : s.get TW_STATUS_role = r
  · unfold twRole; rw [if_pos hr]
  · obtain ⟨cores, lp, e⟩ := twRole_eq s hr
    rw [e]; rfl

theorem twNewGen_tw (s : State) : (twNewGen s).tw = s.tw := by
  unfold twNewGen; rw [State.put_tw, State.put_tw, State.wr_tw]

theorem leaveSync_releasing (s : State) : (leaveSync s).tw.releasing = s.tw.releasing := by
  unfold leaveSync
  extract_lets p s₁ tw s₂ s₃ s₄ s₅ s₆
  split
  · rw [(offersUnpaired_answering s₆).tw (by decide)]
    have h₅ : s₅.tw = s₄.tw := ((reportSrc_affects (U := [0x0F0]) _ _ (by decide)).tw (by decide)).trans (State.ev_tw _ _)
    unfold s₆; split
    · split
      · rw [twNewGen_tw, h₅]; rfl
      · rw [h₅]; rfl
    · rfl
  · rfl

/-- A give-up ends as a unit that holds its outputs, with the role GAVE_UP (R448). -/
theorem giveUpAt_shows (t : T80) {s : State} (h : twActive s = true) :
    (giveUpAt t s).get TW_STATUS_role = 2 ∧ (giveUpAt t s).tw.releasing = true := by
  unfold giveUpAt
  extract_lets skb s₁ s₂ s₃ s₄ tw s₅ s₆ s₇ tw' s₈
  rw [if_pos h]
  have hq := mbxQueue_answering (twRole s₈ 2) 0
  constructor
  · rw [hq.within.get _ (by decide) (by decide)]; exact twRole_role s₈ (by decide)
  · have h₈ : s₈.tw.releasing = s₇.tw.releasing := rfl
    rw [hq.tw (by decide), twRole_tw, h₈, leaveSync_releasing, State.ev_tw]

theorem twActive_of_rd {s t : State} (hcfg : t.rd TW_CFG = s.rd TW_CFG) (hstatus : t.rd TW_STATUS = s.rd TW_STATUS) : twActive t = twActive s := by
  unfold twActive State.on State.get TW_CFG_en TW_STATUS_role; rw [hcfg, hstatus]

theorem supplyLow_shows (s : State) :
    Gives (execSupplyLow s) (fun t => t.on PWR_EVENTS_supply_low = true ∧ (twActive s = false → OnlyRegisters s t) ∧
      (twActive s = true → t.get TW_STATUS_role = 2 ∧ t.tw.releasing = true)) := by
  have hactive : twActive (s.ev PWR_EVENTS_supply_low) = twActive s :=
    twActive_of_rd (event_rd_ne s _ _ (by decide) (by decide)) (event_rd_ne s _ _ (by decide) (by decide))
  refine ⟨_, rfl, ?_, fun h => ?_, fun h => giveUpAt_shows _ (hactive.trans h)⟩
  · rw [(giveUp_reaction _).within.on _ (by decide) (by decide)]; exact ev_on s _ (by decide) rfl (by decide)
  · unfold giveUp giveUpAt
    rw [if_neg (by rw [hactive, h]; decide)]
    exact (event_regsOnly s _ _).onlyRegisters

/-! ### The obligation -/

/-- Settles O38: each monitor's step, by what a local reset, a fence and a FATAL source leave of the registers of CKG. -/
theorem clocksAndSupply : Obligations.ClocksAndSupply := by
  unfold Obligations.ClocksAndSupply
  intro s unit d u
  refine ⟨fun hd hon => ⟨clockGood_shows hd hon, fun _ hckg => ?_⟩, fun hd hoff => ?_, fun hd => ?_, fun hnone => ?_, oscLost_shows, pllUnlock_fabric s,
    pllUnlock_dram s, fun hatom => ?_, fun hatom => ?_, supplyLow_shows s⟩
  · have hexec : exec (.unitClockBad unit) s = .next (clockBad s u) := by
      show execUnitClockBad unit s = _
      unfold execUnitClockBad; rw [hd]; dsimp only; rw [if_pos hon]
    exact ⟨_, hexec, clockBad_shows s hckg unit.isLt⟩
  · constructor
    · show execClockGood unit s = _
      unfold execClockGood; dsimp only; rw [hd]; dsimp only; rw [hoff]; rfl
    · show execUnitClockBad unit s = _
      unfold execUnitClockBad; rw [hd]; dsimp only; rw [hoff]; rfl
  · have hexec : exec (.clockIdleStop unit) s =
        if s.passed (tabGet (fun _ => ⟨0, 0⟩) s.clkAt u) (s.get PWR_IDLE_idle_ns) then .next (s.putB (UNIT_STATUS_clk_on u) false) else .next s := by
      show execClockIdleStop unit s = _
      unfold execClockIdleStop; dsimp only; rw [hd]
    rw [hexec]
    split
    · exact ⟨_, rfl, on_putB_self s _ _ (status_ok u).1, (put_regsOnly s _ _).onlyRegisters⟩
    · rfl
  · refine ⟨?_, ?_, ?_⟩
    · show execClockGood unit s = _
      unfold execClockGood; dsimp only; rw [hnone]
    · show execUnitClockBad unit s = _
      unfold execUnitClockBad; rw [hnone]
    · show execClockIdleStop unit s = _
      unfold execClockIdleStop; dsimp only; rw [hnone]
  · have hexec : exec .atomInLost s = .next ((s.putB CKG_STATUS_atom_ok false).ev CKG_EVENTS_atom_lost) := by
      show execAtomInLost s = _
      unfold execAtomInLost; rw [if_pos hatom]
    refine ⟨_, hexec, ?_, ev_on _ _ (by decide) rfl (by decide), ((put_regsOnly s _ _).trans (event_regsOnly _ _ _)).onlyRegisters⟩
    unfold State.on; rw [ev_get_ne _ _ _ (by decide) (by decide)]
    exact on_putB_self s CKG_STATUS_atom_ok false ⟨by decide, by decide⟩
  · show execAtomInLost s = _
    unfold execAtomInLost; rw [hatom]; rfl

end Sys2Proof.Machine
end

section
/-! PROOF. Bring-up (O40): the units that a stage releases, the commit of priming, and the stages' ends. -/

namespace Sys2Proof.Machine

/-! ### Domains that come up -/

/-- What the steps of bring-up keep of the units' own status: the fences, and the units that are out of reset. -/
structure Rises (s t : State) : Prop where
  fenced : ∀ v, t.on (UNIT_STATUS_fenced v) = s.on (UNIT_STATUS_fenced v)
  up : ∀ v, s.on (UNIT_STATUS_in_reset v) = false → t.on (UNIT_STATUS_in_reset v) = false
  rst : t.rst = s.rst

namespace Rises
variable {s t u : State}

theorem refl (s : State) : Rises s s := ⟨fun _ => rfl, fun _ h => h, rfl⟩

theorem trans (h : Rises s t) (k : Rises t u) : Rises s u :=
  ⟨fun v => (k.fenced v).trans (h.fenced v), fun v hv => k.up v (h.up v hv), k.rst.trans h.rst⟩

/-- A write of a unit's own register. -/
theorem put (s : State) (f : Fld) (v : Nat) (h : f.addr % 256 < 0xF0) : Rises s (s.put f v) := by
  have hne : ∀ g : Fld, ∀ w, g.addr = UNIT_STATUS w → (s.put f v).on g = s.on g := fun g w hg =>
    on_put_addr s f g v (by rw [hg]; unfold UNIT_STATUS; omega)
  exact ⟨fun w => hne _ w rfl, fun w hw => (hne _ w rfl).trans hw, rfl⟩

theorem of_reaction (h : Reaction s t) : Rises s t :=
  ⟨fun v => h.within.status_on (v := v) rfl (Nat.le_refl 1), fun v hv => (h.within.status_on (v := v) rfl (show 1 ≤ 2 by decide)).trans hv, h.rest.rst⟩

end Rises

/-- A release writes the unit's own UNIT_STATUS. -/
theorem releaseUnit_rd (s : State) (u : Nat) {b : Nat} (hb : b % 256 < 0xF0) : (releaseUnit s u).rd b = s.rd b := by
  unfold releaseUnit; split
  · rfl
  · exact rd_put_ne { s with tb := { s.tb with copies := tabDel s.tb.copies u } } _ _ (by simp only [UNIT_STATUS_in_reset, UNIT_STATUS]; omega)

theorem releaseUnit_in_reset {s : State} (u : Nat) {v : Nat} (h : s.on (UNIT_STATUS_in_reset v) = false) :
    (releaseUnit s u).on (UNIT_STATUS_in_reset v) = false := by
  unfold releaseUnit; split
  · exact h
  · by_cases huv : u = v
    · rw [huv]; exact on_putB_self _ _ _ (status_ok v).2.1
    · exact (on_put_addr { s with tb := { s.tb with copies := tabDel s.tb.copies u } } (UNIT_STATUS_in_reset u) (UNIT_STATUS_in_reset v) _
        (by simp only [UNIT_STATUS_in_reset, UNIT_STATUS]; omega)).trans h

theorem releaseUnit_rises (s : State) (u : Nat) : Rises s (releaseUnit s u) := by
  refine ⟨fun v => ?_, fun v => releaseUnit_in_reset u, ?_⟩
  · unfold State.on; rw [releaseUnit_get s u _ (Or.inr (Or.inl (show 1 < 2 by decide)))]
  · unfold releaseUnit; split <;> rfl

theorem unitUp_rises (s : State) (u : Nat) : Rises s (unitUp s u) := (releaseUnit_rises s u).trans (.of_reaction (unitUp_reaction s u))

theorem unitUps_rises (us : List Nat) (s : State) : Rises s (us.foldl unitUp s) := by
  induction us generalizing s with
  | nil => exact .refl s
  | cons u us ih => exact (unitUp_rises s u).trans (ih _)

theorem unitUps_up (us : List Nat) {s : State} {v : Nat} (h : v ∈ us) (hf : s.on (UNIT_STATUS_fenced v) = false) (hc : v ∉ s.rst.clockBad) :
    (us.foldl unitUp s).on (UNIT_STATUS_in_reset v) = false := by
  induction us generalizing s with
  | nil => exact absurd h List.not_mem_nil
  | cons u us ih =>
    have hu := unitUp_rises s u
    rcases List.mem_cons.1 h with rfl | h'
    · exact (unitUps_rises us _).up v (unitUp_up hf hc)
    · exact ih h' ((hu.fenced v).trans hf) (by rw [hu.rst]; exact hc)

/-- The units of domain `d` that no fence and no bad clock holds in `s` are out of reset in `t`. -/
def DomainUp (s : State) (d : Nat) (t : State) : Prop :=
  ∀ v ∈ domainUnits d, s.on (UNIT_STATUS_fenced v) = false → v ∉ s.rst.clockBad → t.on (UNIT_STATUS_in_reset v) = false

theorem DomainUp.after {s t u : State} {d : Nat} (h : DomainUp s d t) (k : Rises t u) : DomainUp s d u :=
  fun v hv hf hc => k.up v (h v hv hf hc)

theorem DomainUp.of_rises {s t u : State} {d : Nat} (k : Rises s t) (h : DomainUp t d u) : DomainUp s d u :=
  fun v hv hf hc => h v hv ((k.fenced v).trans hf) (by rw [k.rst]; exact hc)

theorem releaseDomain_rises (s : State) (d : Nat) : Rises s (releaseDomain s d) := unitUps_rises _ s

theorem releaseDomain_up (s : State) (d : Nat) : DomainUp s d (releaseDomain s d) := fun _ hv hf hc => unitUps_up _ hv hf hc

theorem unitUp_rd (s : State) (u : Nat) {b : Nat} (hb : b % 256 < 0xF0) (hu : b / 256 ∉ reactUnits) : (unitUp s u).rd b = s.rd b :=
  ((unitUp_reaction s u).within.rd b hb hu).trans (releaseUnit_rd s u hb)

theorem releaseDomain_rd (s : State) (d : Nat) {b : Nat} (hb : b % 256 < 0xF0) (hu : b / 256 ∉ reactUnits) : (releaseDomain s d).rd b = s.rd b :=
  foldl_frame (fun t => State.rd t b) unitUp (fun t u => unitUp_rd t u hb hu) (domainUnits d) s

/-- What a unit's release keeps beside the registers: the counter runs on. -/
theorem unitUp_counting (s : State) (u : Nat) : (unitUp s u).tb.counting = s.tb.counting := by
  rw [(unitUp_reaction s u).rest.tb]; unfold releaseUnit; split <;> rfl

theorem releaseDomain_counting (s : State) (d : Nat) : (releaseDomain s d).tb.counting = s.tb.counting :=
  foldl_frame (fun t => t.tb.counting) unitUp unitUp_counting (domainUnits d) s

theorem setDomainOn_rises (s : State) (d : Nat) (b : Bool) : Rises s (setDomainOn s d b) := .put s PWR_STATE_on _ (by decide)

/-- The domains' state shows in PWR alone. -/
theorem setDomainOn_rd (s : State) (d : Nat) (b : Bool) {a : Nat} (h : a ≠ PWR_STATE) : (setDomainOn s d b).rd a = s.rd a := rd_put_ne s _ _ h

theorem domainRaised_rd (s : State) (d : Nat) {b : Nat} (hb : b % 256 < 0xF0) (hu : b / 256 ∉ reactUnits) (hp : b ≠ PWR_STATE) :
    (releaseDomain (setDomainOn s d true) d).rd b = s.rd b := (releaseDomain_rd _ d hb hu).trans (setDomainOn_rd s d true hp)

/-! ### Always-on and Backup -/

theorem alwaysOnUp_rises (s : State) : Rises s (alwaysOnUp s) :=
  (((setDomainOn_rises s 0 true).trans (setDomainOn_rises _ 1 true)).trans (releaseDomain_rises _ 0)).trans (releaseDomain_rises _ 1)

theorem alwaysOnUp_up (s : State) : DomainUp s 0 (alwaysOnUp s) ∧ DomainUp s 1 (alwaysOnUp s) := by
  have hon := (setDomainOn_rises s 0 true).trans (setDomainOn_rises (setDomainOn s 0 true) 1 true)
  exact ⟨(DomainUp.of_rises hon (releaseDomain_up _ 0)).after (releaseDomain_rises _ 1),
    .of_rises (hon.trans (releaseDomain_rises _ 0)) (releaseDomain_up _ 1)⟩

theorem alwaysOnUp_rd (s : State) {b : Nat} (hb : b % 256 < 0xF0) (hu : b / 256 ∉ reactUnits) (hp : b ≠ PWR_STATE) : (alwaysOnUp s).rd b = s.rd b := by
  unfold alwaysOnUp
  rw [releaseDomain_rd _ 1 hb hu, releaseDomain_rd _ 0 hb hu, setDomainOn_rd _ 1 _ hp, setDomainOn_rd _ 0 _ hp]

/-! ### A stage that fails -/

/-- A FATAL source that holds the device (R462, R464). -/
structure HeldBy (n : Nat) (s t : State) : Prop where
  held : t.rst.held = true
  fatal : t.fix.fatal = true
  status : srcStatus t n = true
  step : t.rst.step = s.rst.step

/-- The device held in its bring-up. -/
def holding (s : State) : State := { s with rst := { s.rst with held := true } }

theorem bringUpFail_eq (s : State) {n : Nat} (h : n ≤ 11) : bringUpFail s n = fatalEnter (holding s) n none := raiseSrc_fatal (holding s) h

theorem bringUpFail_held (s : State) {n : Nat} (h : n ≤ 11) : HeldBy n s (bringUpFail s n) := by
  rw [bringUpFail_eq s h]
  exact ⟨by rw [fatalEnter_rst]; rfl, fatalEnter_fatal _ _, fatalEnter_status _ _ (by omega), by rw [fatalEnter_rst]; rfl⟩

theorem bringUpFail_within (s : State) {n : Nat} (h : n ≤ 11) : Within reactUnits s (bringUpFail s n) := by
  rw [bringUpFail_eq s h]
  exact (Within.of_regs (s := s) (t := holding s) rfl).trans (fatalEnter_within (holding s) none (by omega))

/-! ### The die links -/

theorem execDieLinkTrain_eq {s : State} (ok : Bool) (hr : s.rst.resetN = true) (hp : s.rst.pwrGood = true) (hh : s.rst.held = false)
    (hstep : s.rst.step = 1) (hlink : s.rst.linkAt < 2) :
    execDieLinkTrain ok s = .next (
      if ok then { alwaysOnUp s with rst := { s.rst with linkAt := s.rst.linkAt + 1, linkTries := 0 } }
      else if s.rst.linkTries < 2 then { alwaysOnUp s with rst := { s.rst with linkTries := s.rst.linkTries + 1 } }
      else bringUpFail ((alwaysOnUp s).put RST_CAUSE_link_fail (s.rst.linkAt + 1)) 2) := by
  unfold execDieLinkTrain
  rw [if_neg (by simp [hr, hp, hh, hstep]; omega)]
  dsimp only; rw [(alwaysOnUp_rises s).rst]
  split
  · rfl
  · split <;> rfl

theorem dieLink_up (s t : State) (h : t.regs = (alwaysOnUp s).regs) : DomainUp s 0 t ∧ DomainUp s 1 t :=
  ⟨fun v hv hf hc => by rw [on_of_regs h]; exact (alwaysOnUp_up s).1 v hv hf hc, fun v hv hf hc => by rw [on_of_regs h]; exact (alwaysOnUp_up s).2 v hv hf hc⟩

/-- The third failure of a link, in a state `u` in which Always-on and Backup have come up. -/
theorem dieLink_failed {s u t : State} (hu : Rises s u) (h0 : DomainUp s 0 u) (h1 : DomainUp s 1 u) {n : Nat} (hn : n < 16)
    (ht : t = bringUpFail (u.put RST_CAUSE_link_fail n) 2) : DomainUp s 0 t ∧ DomainUp s 1 t ∧ HeldBy 2 s t ∧ t.get RST_CAUSE_link_fail = n := by
  have hput := Rises.put u RST_CAUSE_link_fail n (by decide)
  have hw : Within reactUnits (u.put RST_CAUSE_link_fail n) t := ht ▸ bringUpFail_within _ (by decide)
  have hheld : HeldBy 2 (u.put RST_CAUSE_link_fail n) t := ht ▸ bringUpFail_held _ (by decide)
  have hup : ∀ v, u.on (UNIT_STATUS_in_reset v) = false → t.on (UNIT_STATUS_in_reset v) = false := fun v hv =>
    (hw.status_on (v := v) rfl (show 1 ≤ 2 by decide)).trans (hput.up v hv)
  refine ⟨fun v hv hf hc => hup v (h0 v hv hf hc), fun v hv hf hc => hup v (h1 v hv hf hc),
    ⟨hheld.held, hheld.fatal, hheld.status, ?_⟩, ?_⟩
  · rw [hheld.step, hput.rst, hu.rst]
  · rw [hw.get _ (by decide) (by decide), get_put_self _ _ _ ⟨by decide, by decide⟩]
    exact Nat.mod_eq_of_lt hn

end Sys2Proof.Machine
end

section
/-! PROOF. Bring-up's first stages: power good, BK's loss, and the commit of priming. -/

namespace Sys2Proof.Machine

/-! ### BK found lost, and a counter out of step -/

/-- Keys are zeroized with no register written but those of PKE (R381). -/
theorem zeroize_rd (s : State) {b : Nat} (h : b ≠ PKE_STATUS) : (zeroize s).rd b = s.rd b := by
  unfold zeroize pkeRefresh
  extract_lets k s₁ abort s₂ n
  rw [State.putB, rd_put_ne _ _ _ h, rd_put_ne _ _ _ h]; rfl

theorem zeroize_rst (s : State) : (zeroize s).rst = s.rst := rfl

theorem zeroize_pair (s : State) : (zeroize s).kv.pair = none := rfl

theorem rd_incSat_ne (s : State) (f : Fld) {b : Nat} (h : b ≠ f.addr) : (s.incSat f).rd b = s.rd b := by
  unfold State.incSat; split
  · exact rd_put_ne s _ _ h
  · rfl

theorem rd_putT_ne (s : State) (hi lo : Nat) (t : T80) {b : Nat} (h : b ≠ hi) : (s.putT hi lo t).rd b = s.rd b := rd_wr_ne s _ h

/-- A bit of a register's field. -/
theorem bitAt_of_get {s : State} {a hi b : Nat} (h : (s.get ⟨a, hi, 0⟩).testBit b = true) : bitAt (s.rd a) b = true := by
  unfold State.get at h
  rw [fieldOf_testBit, Bool.and_eq_true, Nat.zero_add] at h
  exact h.2

/-- The time, the slow count, the number of alarms and the event, which follow a latched cause. -/
def tamperTimed (s : State) (slow : Word) : State :=
  let s := s.putT TMP_TIME_HI TMP_TIME_LO (if s.on TB_STATUS_time_valid then s.now else ⟨0, 0⟩)
  ((s.wr TMP_SLOW slow).incSat TMP_COUNT_count).ev TMP_EVENTS_alarm

/-- A source's alarm latched with its cause. -/
def tamperCaused (s : State) (b : Nat) (stays : Bool) : State :=
  let fresh := !s.on TMP_STATUS_latched
  let s := tmpRefresh (({ s with tmpOn := bitTo s.tmpOn b stays } : State).putB TMP_STATUS_latched true)
  s.put ⟨TMP_CAUSE, 11, 0⟩ (Nat.lor (if fresh then 0 else s.get ⟨TMP_CAUSE, 11, 0⟩) (2 ^ b))

theorem tamperLatch_eq (s : State) (b : Nat) (slow : Word) (stays : Bool) :
    tamperLatch s b slow stays = zeroize (tamperTimed (tamperCaused s b stays) slow) := rfl

theorem tamperTimed_rd (s : State) (slow : Word) {b : Nat} (h : b % 256 < 0xF0)
    (hne : b ≠ TMP_TIME_HI ∧ b ≠ TMP_SLOW ∧ b ≠ TMP_COUNT ∧ b ≠ TMP_EVENTS) : (tamperTimed s slow).rd b = s.rd b := by
  obtain ⟨htime, hslow, hcount, hev⟩ := hne
  unfold tamperTimed State.ev; dsimp only
  rw [event_rd_ne _ TMP_EVENTS_alarm.addr _ h hev, rd_incSat_ne _ _ hcount, rd_wr_ne _ _ hslow, rd_putT_ne _ _ _ _ htime]

theorem tamperCaused_rd (s : State) (b : Nat) (stays : Bool) {a : Nat} (h : a ≠ TMP_STATUS ∧ a ≠ TMP_CAUSE) : (tamperCaused s b stays).rd a = s.rd a := by
  unfold tamperCaused tmpRefresh
  rw [rd_put_ne _ _ _ h.2, State.putB, rd_put_ne _ _ _ h.1, State.putB, rd_put_ne _ _ _ h.1]; rfl

theorem tamperCaused_cause (s : State) {b : Nat} (hb : b < 12) (stays : Bool) : bitAt ((tamperCaused s b stays).rd TMP_CAUSE) b = true := by
  refine bitAt_of_get (hi := 11) ?_
  unfold tamperCaused
  rw [get_put_self _ _ _ ⟨by decide, by decide⟩, Nat.testBit_mod_two_pow]
  dsimp only
  rw [show Nat.lor (if (!s.on TMP_STATUS_latched) = true then 0 else _) (2 ^ b) = _ ||| 2 ^ b from rfl, Nat.testBit_or, Nat.testBit_two_pow_self,
    Bool.or_true, Bool.and_true]
  exact decide_eq_true hb

theorem tamperCaused_latched (s : State) (b : Nat) (stays : Bool) : (tamperCaused s b stays).on TMP_STATUS_latched = true := by
  unfold tamperCaused tmpRefresh
  rw [on_put_addr _ _ TMP_STATUS_latched _ (by decide), State.putB, on_put_bits _ _ TMP_STATUS_latched _ ⟨by decide, by decide⟩ (by decide)]
  exact on_putB_self _ _ _ ⟨by decide, by decide⟩

/-- A latched alarm (R381): the cause, the latch and the keys. -/
theorem tamperLatch_shows (s : State) {b : Nat} (hb : b < 12) (slow : Word) (stays : Bool) :
    (tamperLatch s b slow stays).on TMP_STATUS_latched = true ∧ bitAt ((tamperLatch s b slow stays).rd TMP_CAUSE) b = true ∧
      (tamperLatch s b slow stays).kv.pair = none := by
  rw [tamperLatch_eq]
  refine ⟨?_, ?_, zeroize_pair _⟩
  · unfold State.on State.get
    rw [zeroize_rd _ (by decide), tamperTimed_rd _ _ (by decide) (by decide)]; exact tamperCaused_latched s b stays
  · rw [zeroize_rd _ (by decide), tamperTimed_rd _ _ (by decide) (by decide)]; exact tamperCaused_cause s hb stays

theorem tamperLatch_rd (s : State) (b : Nat) (slow : Word) (stays : Bool) {a : Nat} (ha : a % 256 < 0xF0) (hu : a / 256 ≠ 0x003) (hpke : a ≠ PKE_STATUS) :
    (tamperLatch s b slow stays).rd a = s.rd a := by
  have hne : ∀ c, c / 256 = 0x003 → a ≠ c := fun c hc e => hu (e ▸ hc)
  rw [tamperLatch_eq, zeroize_rd _ hpke,
    tamperTimed_rd _ _ ha ⟨hne _ (by decide), hne _ (by decide), hne _ (by decide), hne _ (by decide)⟩,
    tamperCaused_rd _ _ _ ⟨hne _ (by decide), hne _ (by decide)⟩]

/-- BK's counter follows the anchors (R378). -/
theorem rollForward_counter (s : State) : (rollForward s).get KV_UPD_CTR_counter = (rollForward s).get KV_ANCHOR_anchors * 4096 := by
  have hanchors : s.get KV_ANCHOR_anchors < 2 ^ 11 := fieldOf_lt _ 10 0
  unfold rollForward; dsimp only
  obtain ⟨a, ha⟩ : ∃ a, s.get KV_ANCHOR_anchors = a := ⟨_, rfl⟩
  rw [ha] at hanchors ⊢
  split
  next h =>
    obtain ⟨-, hlt⟩ := h
    rw [get_put_self _ _ _ ⟨by decide, by decide⟩, get_put_addr _ _ KV_ANCHOR_anchors _ (by decide), get_put_self _ _ _ ⟨by decide, by decide⟩]
    simp only [KV_UPD_CTR_counter, KV_ANCHOR_anchors]; omega
  next =>
    rw [get_put_self _ _ _ ⟨by decide, by decide⟩, get_put_addr _ _ KV_ANCHOR_anchors _ (by decide), ha]
    simp only [KV_UPD_CTR_counter]; omega

theorem rollForward_rst (s : State) : (rollForward s).rst = s.rst := by
  unfold rollForward; dsimp only; split
  · rw [State.put_rst, State.put_rst]
  · rw [State.put_rst]

/-- The registers that BK keeps, which its loss returns (R378). -/
def inBk (a : Nat) : Bool :=
  decide (a / 256 = 0x003) || decide (a = RST_CAUSE) || decide (a = TW_GEN) || decide (a = TW_GEN_UID_HI) || decide (a = TW_GEN_UID_LO)

/-- BK's registers and memory empty. -/
def bkEmptied (s : State) : State :=
  let s := regsBack s 3 inBk
  { s with
    evc := tabFilter (fun k _ => !inBk (k / 64)) s.evc, gnsKeep := [],
    mem := tabFilter (fun x _ => !(decide (0x300000 ≤ x) && decide (x < 0x310000))) s.mem }

theorem bkEmptied_rd (s : State) {a : Nat} (h : inBk a = false) : (bkEmptied s).rd a = s.rd a := regsBack_rd s 3 h

/-- BK as its loss leaves it, before the alarm. -/
def bkCleared (s : State) : State := ((bkEmptied (rollForward s)).putB RST_CAUSE_bk_lost true).put RST_COUNT_count 1

/-- The source 104 names no unit and fences none. -/
theorem raiseSrc_tamper (s : State) : raiseSrc s 104 none = reportSrc s 104 := by
  have hclass : srcClass s 104 = 1 := rfl
  have hunit : srcFixedUnit 104 = none := rfl
  unfold raiseSrc; dsimp only; rw [hclass, hunit]
  show (if (reportSrc s 104).fix.fatal = true then reportSrc s 104 else reportSrc s 104) = _
  rw [ite_self]

theorem bkLoss_eq (s : State) (slow : Word) : bkLoss s slow = reportSrc (tamperLatch (bkCleared s) 11 slow false) 104 := raiseSrc_tamper _

theorem bkCleared_rst (s : State) : (bkCleared s).rst = s.rst := by
  unfold bkCleared; rw [State.put_rst, State.putB_rst]; exact rollForward_rst s

theorem bkCleared_rd (s : State) {a : Nat} (h : inBk a = false) (hc : a ≠ RST_CAUSE) (hn : a ≠ RST_COUNT) : (bkCleared s).rd a = (rollForward s).rd a := by
  unfold bkCleared
  rw [rd_put_ne _ RST_COUNT_count _ hn, State.putB, rd_put_ne _ RST_CAUSE_bk_lost _ hc, bkEmptied_rd _ h]

theorem bkCleared_lost (s : State) : (bkCleared s).on RST_CAUSE_bk_lost = true := by
  unfold bkCleared
  rw [on_put_addr _ _ RST_CAUSE_bk_lost _ (by decide)]
  exact on_putB_self _ _ _ ⟨by decide, by decide⟩

theorem reportSrc_kv (s : State) (n : Nat) : (reportSrc s n).kv = s.kv := by
  unfold reportSrc; dsimp only; split
  · exact State.event_kv _ _ _
  · exact State.event_kv _ _ _

theorem bkLoss_within (s : State) (slow : Word) : Within [0x0F0] (tamperLatch (bkCleared s) 11 slow false) (bkLoss s slow) := by
  rw [bkLoss_eq]; exact (reportSrc_affects _ 104 (by decide)).within

theorem bkLoss_counter (s : State) (slow : Word) : (bkLoss s slow).get KV_UPD_CTR_counter = (bkLoss s slow).get KV_ANCHOR_anchors * 4096 := by
  have hrd : ∀ a, a = KV_UPD_CTR ∨ a = KV_ANCHOR → (bkLoss s slow).rd a = (rollForward s).rd a := by
    rintro a (rfl | rfl)
    · rw [(bkLoss_within s slow).rd _ (by decide) (by decide), tamperLatch_rd _ _ _ _ (by decide) (by decide) (by decide), bkCleared_rd s (by decide) (by decide) (by decide)]
    · rw [(bkLoss_within s slow).rd _ (by decide) (by decide), tamperLatch_rd _ _ _ _ (by decide) (by decide) (by decide), bkCleared_rd s (by decide) (by decide) (by decide)]
  unfold State.get KV_UPD_CTR_counter KV_ANCHOR_anchors
  rw [hrd _ (Or.inl rfl), hrd _ (Or.inr rfl)]; exact rollForward_counter s

theorem tamperLatch_rst (s : State) (b : Nat) (slow : Word) (stays : Bool) : (tamperLatch s b slow stays).rst = s.rst := by
  rw [tamperLatch_eq, zeroize_rst]; unfold tamperTimed; rw [State.ev_rst, State.incSat_rst]; rfl

theorem bkLoss_rst (s : State) (slow : Word) : (bkLoss s slow).rst = s.rst := by
  rw [bkLoss_eq, (reportSrc_reaction _ 104 (by decide)).rest.rst, tamperLatch_rst, bkCleared_rst]

theorem bkLoss_shows (s : State) (slow : Word) : (bkLoss s slow).on RST_CAUSE_bk_lost = true ∧ (bkLoss s slow).kv.pair = none ∧
    (bkLoss s slow).on TMP_STATUS_latched = true ∧ bitAt ((bkLoss s slow).rd TMP_CAUSE) 11 = true := by
  have hw := bkLoss_within s slow
  obtain ⟨hlatched, hcause, hpair⟩ := tamperLatch_shows (bkCleared s) (b := 11) (by decide) slow false
  refine ⟨?_, ?_, (hw.on _ (by decide) (by decide)).trans hlatched, by rw [hw.rd _ (by decide) (by decide)]; exact hcause⟩
  · rw [hw.on _ (by decide) (by decide)]
    unfold State.on State.get
    rw [tamperLatch_rd _ _ _ _ (by decide) (by decide) (by decide)]; exact bkCleared_lost s
  · rw [bkLoss_eq, reportSrc_kv]; exact hpair

/-- The rise of POWER_GOOD. -/
theorem powerGoodRise_shows {s : State} (bk : Bool) (slow : Word) (h : s.rst.pwrGood = false) :
    Gives (execPowerGoodRise bk slow s) (fun t => t.rst.pwrGood = true ∧
      (bk = true → t.on RST_CAUSE_bk_lost = true ∧ t.kv.pair = none ∧ t.on TMP_STATUS_latched = true ∧ bitAt (t.rd TMP_CAUSE) 11 = true) ∧
      (bk = false → s.get KV_UPD_CTR_counter / 4096 = s.get KV_ANCHOR_anchors → t = { s with rst := { s.rst with pwrGood := true } }) ∧
      (s.get KV_UPD_CTR_counter / 4096 ≠ s.get KV_ANCHOR_anchors → t.get KV_UPD_CTR_counter = t.get KV_ANCHOR_anchors * 4096)) := by
  unfold execPowerGoodRise
  rw [h, if_neg Bool.false_ne_true]
  refine ⟨_, rfl, ?_, fun hbk => ?_, fun hbk heq => ?_, fun hne => ?_⟩
  · split
    · rw [bkLoss_rst]
    · split
      · rw [rollForward_rst]
      · rfl
  · rw [if_pos hbk]; exact bkLoss_shows _ slow
  · rw [hbk, if_neg Bool.false_ne_true]; exact if_neg (fun hne => hne heq)
  · split
    · exact bkLoss_counter _ slow
    · split
      · exact rollForward_counter _
      · exact absurd hne ‹_›

end Sys2Proof.Machine
end

section
/-! PROOF. Bring-up's stages from priming to the running House, and the PCIe link (O40). -/

namespace Sys2Proof.Machine

/-! ### Priming commits -/

/-- What the commit of priming keeps, once the record is chosen: the reset state, and PRM_STATUS. -/
structure PrimeKeeps (s t : State) : Prop where
  rst : t.rst = s.rst
  status : t.rd PRM_STATUS = s.rd PRM_STATUS

theorem PrimeKeeps.trans {s t u : State} (h : PrimeKeeps s t) (k : PrimeKeeps t u) : PrimeKeeps s u := ⟨k.rst.trans h.rst, k.status.trans h.status⟩

theorem PrimeKeeps.wr (s : State) {a : Nat} (w : Word) (h : PRM_STATUS ≠ a) : PrimeKeeps s (s.wr a w) := ⟨State.wr_rst _ _ _, rd_wr_ne s w h⟩

theorem PrimeKeeps.put (s : State) (f : Fld) (v : Nat) (h : PRM_STATUS ≠ f.addr) : PrimeKeeps s (s.put f v) := .wr s _ h

theorem lifeComplete_keeps (s : State) (t : Nat) : PrimeKeeps s (lifeComplete s t) := by
  have hzero : PrimeKeeps s (zeroize s) := ⟨zeroize_rst s, zeroize_rd s (by decide)⟩
  unfold lifeComplete; dsimp only; split
  · exact ⟨hzero.rst, hzero.status⟩
  · exact ⟨rfl, rfl⟩

theorem lifePrime_keeps (s : State) : PrimeKeeps s (lifePrime s) := by
  unfold lifePrime
  extract_lets begun s₁
  have h₁ : PrimeKeeps s s₁ :=
    ⟨foldl_frame State.rst lifeComplete (fun t n => (lifeComplete_keeps t n).rst) begun s,
      foldl_frame (fun t => State.rd t PRM_STATUS) lifeComplete (fun t n => (lifeComplete_keeps t n).status) begun s⟩
  exact (h₁.trans (.put s₁ LCY_STATE_state _ (by decide))).trans (.put _ LCY_STATE_resuming _ (by decide))

/-- A specification of UND that the record holds. -/
def primeSpec (s : State) (e : Nat × Nat) : State := if optWord s (34 + e.2) = 0 then s else s.wr e.1 (optWord s (34 + e.2))

theorem primeSpec_keeps (s : State) {e : Nat × Nat} (h : PRM_STATUS ≠ e.1) : PrimeKeeps s (primeSpec s e) := by
  unfold primeSpec; split
  · exact ⟨rfl, rfl⟩
  · exact .wr s _ h

theorem primeSpecs_keeps (l : List (Nat × Nat)) (h : ∀ e ∈ l, PRM_STATUS ≠ e.1) (s : State) : PrimeKeeps s (l.foldl primeSpec s) := by
  induction l generalizing s with
  | nil => exact ⟨rfl, rfl⟩
  | cons e l ih => exact (primeSpec_keeps s (h e List.mem_cons_self)).trans (ih (fun e he => h e (List.mem_cons_of_mem _ he)) _)

theorem primeFields_keeps (s : State) : PrimeKeeps s (primeFields s) := by
  unfold primeFields
  extract_lets s₁ s₂ s₃ s₄
  have h₄ : PrimeKeeps s s₄ :=
    (((PrimeKeeps.put s GLZ_TLV_ORG_org _ (by decide)).trans (.put s₁ TW_CFG_home _ (by decide))).trans (.put s₂ STB_CFG_node _ (by decide))).trans
      (.put s₃ ATL_CHASSIS_chassis _ (by decide))
  have hspecs : ∀ e ∈ [UND_SPEC_Y, UND_SPEC_DRIFT, UND_SPEC_TC, UND_SPEC_WF, UND_SPEC_RW].zipIdx, PRM_STATUS ≠ e.1 := by decide
  exact h₄.trans (primeSpecs_keeps _ hspecs s₄)

/-- The copy of the option record that priming commits, none where neither checks. -/
def primeRecord (r : StageResult) : List Word := if copyOk r.copyA then r.copyA else if !copyOk r.copyA && copyOk r.copyB then r.copyB else []

/-- Whether a deferred setting is noted: a warm reset has found another record than the last cold one (R466). -/
def primeDeferred (r : StageResult) (s : State) : Bool := !s.rst.cold && decide (keptFields (primeRecord r) ≠ keptFields s.rst.optCold)

/-- The record chosen, before PRM_STATUS and the fields show it. -/
def primeChosen (r : StageResult) (s : State) : State :=
  { s with rst := { s.rst with optRecord := primeRecord r, optCold := if s.rst.cold then primeRecord r else s.rst.optCold } }

/-- PRM_STATUS after a commit (R465). -/
def primeWord (deferred fused bad second : Bool) : Word := w40 (b2n deferred * 32 + b2n fused * 16 + b2n bad * 8 + b2n second * 4 + 1)

theorem primeWord_committed (deferred fused bad second : Bool) : fieldOf (primeWord deferred fused bad second) 0 0 = 1 := by
  revert deferred fused bad second; decide

theorem primeWord_bad (deferred fused bad second : Bool) : fieldOf (primeWord deferred fused bad second) 3 3 = b2n bad := by
  revert deferred fused bad second; decide

/-- PRM_STATUS written by the commit. -/
def primeShown (r : StageResult) (s : State) : State :=
  (primeChosen r s).wr PRM_STATUS (primeWord (primeDeferred r s) (decide (r.fuse = 1)) (!copyOk r.copyA && !(!copyOk r.copyA && copyOk r.copyB))
    (!copyOk r.copyA && copyOk r.copyB))

theorem primeCommit_keeps (r : StageResult) (s : State) : PrimeKeeps (primeShown r s) (primeCommit r s) := by
  unfold primeCommit
  extract_lets a b record cold deferred rst s₁ s₂ s₃ s₄ w
  have hshown : s₂ = primeShown r s := rfl
  have h₃ : PrimeKeeps s₂ s₃ := (PrimeKeeps.put s₂ PRM_OPT_CRC_crc _ (by decide)).trans (.put _ PRM_OPT_VER_version _ (by decide))
  have h₄ : PrimeKeeps s₂ s₄ := h₃.trans (((PrimeKeeps.put s₃ PRM_TIME_us _ (by decide)).trans (lifePrime_keeps _)).trans (primeFields_keeps _))
  rw [← hshown]
  split
  · exact h₄
  · exact h₄.trans (.wr s₄ _ (by decide))

theorem primeCommit_status (r : StageResult) (s : State) : (primeCommit r s).rd PRM_STATUS =
    primeWord (primeDeferred r s) (decide (r.fuse = 1)) (!copyOk r.copyA && !(!copyOk r.copyA && copyOk r.copyB)) (!copyOk r.copyA && copyOk r.copyB) := by
  rw [(primeCommit_keeps r s).status]; exact rd_wr_self _ _ _

theorem primeCommit_rst (r : StageResult) (s : State) : (primeCommit r s).rst = (primeChosen r s).rst := by
  rw [(primeCommit_keeps r s).rst]; exact State.wr_rst _ _ _

theorem stagePrime_shows (r : StageResult) (s : State) (h : r.fuse ≠ 2) :
    (stagePrime r s).rst.step = (if s.rst.cold then 3 else 5) ∧ (stagePrime r s).on PRM_STATUS_committed = true ∧
      (copyOk r.copyA = true → (stagePrime r s).rst.optRecord = r.copyA) ∧
      (copyOk r.copyA = false → copyOk r.copyB = true → (stagePrime r s).rst.optRecord = r.copyB) ∧
      (copyOk r.copyA = false → copyOk r.copyB = false → (stagePrime r s).rst.optRecord = [] ∧ (stagePrime r s).on PRM_STATUS_opt_bad = true) := by
  have heq : stagePrime r s = nextStep (primeCommit r s) (if (primeCommit r s).rst.cold then 3 else 5) := by
    unfold stagePrime; rw [if_neg h]
  have hregs : (stagePrime r s).regs = (primeCommit r s).regs := by rw [heq]; rfl
  have hrecord : (stagePrime r s).rst.optRecord = primeRecord r := by
    rw [heq]; show (primeCommit r s).rst.optRecord = _; rw [primeCommit_rst]; rfl
  refine ⟨?_, ?_, fun ha => ?_, fun ha hb => ?_, fun ha hb => ⟨?_, ?_⟩⟩
  · rw [heq, primeCommit_rst]; rfl
  · rw [on_of_regs hregs]
    unfold State.on State.get PRM_STATUS_committed; dsimp only; rw [primeCommit_status, primeWord_committed]; rfl
  · rw [hrecord, primeRecord, if_pos ha]
  · rw [hrecord, primeRecord, ha, hb]; rfl
  · rw [hrecord, primeRecord, ha, hb]; rfl
  · rw [on_of_regs hregs]
    unfold State.on State.get PRM_STATUS_opt_bad; dsimp only; rw [primeCommit_status, primeWord_bad, ha, hb]; rfl

/-! ### The clocks, DRAM and the control domain -/

theorem stageClk_shows (r : StageResult) (s : State) (h : r.pllOk = true) :
    (stageClk r s).rst.step = 4 ∧ (stageClk r s).tb.counting = true ∧ (stageClk r s).on CKG_STATUS_tb_lock = true := by
  unfold stageClk
  extract_lets s₁ s₂ tb s₃
  rw [h, Bool.not_true, if_neg Bool.false_ne_true]
  refine ⟨rfl, ?_, ?_⟩
  · show (releaseDomain (setDomainOn s₃ 2 true) 2).tb.counting = true
    rw [releaseDomain_counting]; rfl
  · show (releaseDomain (setDomainOn s₃ 2 true) 2).on CKG_STATUS_tb_lock = true
    unfold State.on State.get CKG_STATUS_tb_lock; dsimp only
    rw [domainRaised_rd s₃ 2 (by decide) (by decide) (by decide)]
    have hword : s₃.rd CKG_STATUS = w40 (0x2F + b2n r.atomOk * 16) := rd_wr_self s₁ _ _
    rw [hword]
    cases r.atomOk <;> decide

theorem stageMem_shows (s : State) : (stageMem s).rst.step = 5 ∧ (stageMem s).on MEM_STATUS_ready = true ∧ (stageMem s).on MEM_STATUS_trained = true := by
  have hrd : (stageMem s).rd MEM_STATUS = ((s.putB MEM_STATUS_trained true).putB MEM_STATUS_ready true).rd MEM_STATUS :=
    domainRaised_rd ((s.putB MEM_STATUS_trained true).putB MEM_STATUS_ready true) 11 (by decide) (by decide) (by decide)
  refine ⟨rfl, ?_, ?_⟩
  · unfold State.on State.get MEM_STATUS_ready; dsimp only; rw [hrd]
    exact on_putB_self (s.putB MEM_STATUS_trained true) MEM_STATUS_ready true ⟨by decide, by decide⟩
  · unfold State.on State.get MEM_STATUS_trained; dsimp only; rw [hrd]
    exact (on_put_bits (s.putB MEM_STATUS_trained true) MEM_STATUS_ready MEM_STATUS_trained _ ⟨by decide, by decide⟩ (by decide)).trans
      (on_putB_self s MEM_STATUS_trained true ⟨by decide, by decide⟩)

theorem startCore_core (s : State) (k : Nat) (keeper : Bool) : ((startCore s k keeper).core k).halted = false ∧ ((startCore s k keeper).core k).keeper = keeper := by
  unfold startCore; dsimp only
  have hcore : ∀ (t : State) f v, (t.put f v).core k = t.core k := fun _ _ _ => rfl
  rw [hcore, core_setCore_self]; exact ⟨rfl, rfl⟩

theorem stageCtl_shows (s : State) : (stageCtl s).rst.step = 6 ∧ ((stageCtl s).core 0).halted = false ∧ ((stageCtl s).core 0).keeper = true :=
  ⟨rfl, startCore_core _ 0 true⟩

/-! ### The vault, and where House places its memory -/

theorem unitUp_plain (s : State) {u : Nat} (h : u ≠ 0x0C0) : unitUp s u = releaseUnit s u := by
  unfold unitUp; dsimp only; rw [if_neg (fun hc => h hc.1)]

/-- The release of a domain that is not the vault's writes no unit's own register. -/
theorem releaseDomain_plain_rd (s : State) {d : Nat} (hd : d ≠ 8) {b : Nat} (hb : b % 256 < 0xF0) : (releaseDomain s d).rd b = s.rd b := by
  have hkv : ∀ u ∈ domainUnits d, u ≠ 0x0C0 := by
    intro u hu e
    have h8 : unitDomain 0x0C0 = some 8 := by decide
    have hdom : unitDomain u = some d := of_decide_eq_true (List.mem_filter.1 hu).2
    rw [e, h8] at hdom
    exact hd (Option.some.inj hdom).symm
  unfold releaseDomain
  revert hkv
  generalize domainUnits d = us
  intro hkv
  induction us generalizing s with
  | nil => rfl
  | cons u us ih =>
    rw [List.foldl_cons, ih _ fun v hv => hkv v (List.mem_cons_of_mem _ hv), unitUp_plain s (hkv u List.mem_cons_self), releaseUnit_rd s u hb]

/-- Domains that come up with no vault among them. -/
theorem releaseDomains_plain_rd (ds : List Nat) (h : 8 ∉ ds) (s : State) {b : Nat} (hb : b % 256 < 0xF0) : (ds.foldl releaseDomain s).rd b = s.rd b := by
  induction ds generalizing s with
  | nil => rfl
  | cons d ds ih =>
    rw [List.foldl_cons, ih (fun hm => h (List.mem_cons_of_mem _ hm)), releaseDomain_plain_rd s (fun e => h (e ▸ List.mem_cons_self)) hb]

theorem releaseDomains_rst (ds : List Nat) (s : State) : (ds.foldl releaseDomain s).rst = s.rst :=
  foldl_frame State.rst releaseDomain (fun t d => (releaseDomain_rises t d).rst) ds s

/-- What a request of domains keeps: all but PWR_REQ and PWR_STATE. -/
structure RequestKeeps (s t : State) : Prop where
  rd : ∀ a, a ≠ PWR_REQ → a ≠ PWR_STATE → t.rd a = s.rd a
  rst : t.rst = s.rst

theorem setDomainBusy_rd (s : State) (d : Nat) (b : Bool) {a : Nat} (h : a ≠ PWR_STATE) : (setDomainBusy s d b).rd a = s.rd a := rd_put_ne s _ _ h

theorem setDomainBusy_rst (s : State) (d : Nat) (b : Bool) : (setDomainBusy s d b).rst = s.rst := State.put_rst _ _ _

theorem powerRequest_keeps {s t : State} {w : Nat} (h : powerRequest s w = some t) : RequestKeeps s t := by
  unfold powerRequest at h
  extract_lets old new off broken pkaFirst s₁ at h
  split at h
  · cases h
  · obtain rfl := Option.some.inj h
    refine ⟨fun a hreq hstate => ?_, ?_⟩
    · refine Eq.trans (foldl_frame (fun t => State.rd t a) _ (fun t d => ?_) switched s₁) (rd_put_ne s _ _ hreq)
      split
      · exact setDomainBusy_rd t d true hstate
      · exact setDomainBusy_rd t d false hstate
    · refine Eq.trans (foldl_frame State.rst _ (fun t d => ?_) switched s₁) (State.put_rst _ _ _)
      split
      · exact setDomainBusy_rst t d true
      · exact setDomainBusy_rst t d false

theorem houseRequest_keeps (s : State) (mask : Nat) : RequestKeeps s (houseRequest s mask) := by
  unfold houseRequest; split
  · exact ⟨fun _ _ _ => rfl, rfl⟩
  next t h => exact powerRequest_keeps h

/-- A protected window of `n` words at `a` (R488). -/
def protectWindow (s : State) (k a n : Nat) : State :=
  ((s.put (MEM_PROTk_BASE_addr k) a).putB (MEM_PROTk_BASE_en k) true).put (MEM_PROTk_LIMIT_addr k) (a + n - 1)

theorem protectWindow_rd (s : State) (k a n : Nat) {b : Nat} (hbase : b ≠ MEM_PROTk_BASE k) (hlimit : b ≠ MEM_PROTk_LIMIT k) :
    (protectWindow s k a n).rd b = s.rd b := by
  unfold protectWindow
  rw [rd_put_ne _ (MEM_PROTk_LIMIT_addr k) _ hlimit, State.putB, rd_put_ne _ (MEM_PROTk_BASE_en k) _ hbase, rd_put_ne _ (MEM_PROTk_BASE_addr k) _ hbase]

theorem protectWindow_shows (s : State) (k a n : Nat) : (protectWindow s k a n).on (MEM_PROTk_BASE_en k) = true ∧
    (protectWindow s k a n).get (MEM_PROTk_BASE_addr k) = a % 2 ^ 32 ∧ (protectWindow s k a n).get (MEM_PROTk_LIMIT_addr k) = (a + n - 1) % 2 ^ 32 := by
  have haddr : (MEM_PROTk_BASE_en k).addr ≠ (MEM_PROTk_LIMIT_addr k).addr ∧ (MEM_PROTk_BASE_addr k).addr ≠ (MEM_PROTk_LIMIT_addr k).addr := by
    simp only [MEM_PROTk_BASE_en, MEM_PROTk_BASE_addr, MEM_PROTk_LIMIT_addr, MEM_PROTk_BASE, MEM_PROTk_LIMIT]; omega
  have hen : (MEM_PROTk_BASE_en k).ok := ⟨Nat.le_refl 39, show 39 < 40 by decide⟩
  have hbase : (MEM_PROTk_BASE_addr k).ok := ⟨Nat.zero_le 31, show 31 < 40 by decide⟩
  have hlimit : (MEM_PROTk_LIMIT_addr k).ok := ⟨Nat.zero_le 31, show 31 < 40 by decide⟩
  unfold protectWindow
  refine ⟨?_, ?_, ?_⟩
  · rw [on_put_addr _ _ _ _ haddr.1, on_putB_self _ _ _ hen]
  · rw [get_put_addr _ _ _ _ haddr.2, State.putB, get_put_bits _ _ _ _ hen (Or.inl (show 31 < 39 by decide)), get_put_self _ _ _ hbase]; rfl
  · rw [get_put_self _ _ _ hlimit]; rfl

/-- Where House places the ledger (log 173). -/
def ledgerPlace (s : State) : Nat := 0x10000000 + 12 * (Config.housePlace.toNat % ((50331648 - (placedWords s).sum) / 12 + 1))

theorem ledgerPlace_lt (s : State) : ledgerPlace s + 393216 < 2 ^ 32 := by
  have h : Config.housePlace.toNat % ((50331648 - (placedWords s).sum) / 12 + 1) < (50331648 - (placedWords s).sum) / 12 + 1 := Nat.mod_lt _ (Nat.succ_pos _)
  unfold ledgerPlace; omega

/-- The three bases written. -/
def basesPlaced (s : State) : State :=
  ((s.put SKB_LEDGER_BASE_base (ledgerPlace s)).put GLZ_LIN_BASE_base (ledgerPlace s + (placedWords s).getD 0 0)).put GLZ_ATT_BASE_base
    (ledgerPlace s + (placedWords s).getD 0 0 + (placedWords s).getD 1 0)

theorem basesPlaced_ledger (s : State) : (basesPlaced s).get SKB_LEDGER_BASE_base = ledgerPlace s := by
  unfold basesPlaced
  rw [get_put_addr _ _ SKB_LEDGER_BASE_base _ (by decide), get_put_addr _ _ SKB_LEDGER_BASE_base _ (by decide), get_put_self _ _ _ ⟨by decide, by decide⟩]
  exact Nat.mod_eq_of_lt (by have := ledgerPlace_lt s; show ledgerPlace s < 2 ^ 32; omega)

theorem housePlace_eq (s : State) : housePlace s =
    protectWindow (protectWindow (protectWindow (basesPlaced s) 0 (ledgerPlace s) 393216) 1 (ledgerPlace s + (placedWords s).getD 0 0) ((placedWords s).getD 1 0))
      2 (ledgerPlace s + (placedWords s).getD 0 0 + (placedWords s).getD 1 0) ((placedWords s).getD 2 0) := rfl

/-- The ledger's window (R488). -/
def LedgerPlaced (t : State) : Prop :=
  t.on (MEM_PROTk_BASE_en 0) = true ∧ t.get (MEM_PROTk_BASE_addr 0) = t.get SKB_LEDGER_BASE_base ∧
    t.get (MEM_PROTk_LIMIT_addr 0) = t.get SKB_LEDGER_BASE_base + 393215

theorem LedgerPlaced.of_rd {s t : State} (h : LedgerPlaced s)
    (hrd : ∀ a, a = MEM_PROTk_BASE 0 ∨ a = MEM_PROTk_LIMIT 0 ∨ a = SKB_LEDGER_BASE → t.rd a = s.rd a) : LedgerPlaced t := by
  unfold LedgerPlaced State.on State.get at *
  rw [show t.rd (MEM_PROTk_BASE_en 0).addr = _ from hrd _ (Or.inl rfl), show t.rd (MEM_PROTk_BASE_addr 0).addr = _ from hrd _ (Or.inl rfl),
    show t.rd (MEM_PROTk_LIMIT_addr 0).addr = _ from hrd _ (Or.inr (Or.inl rfl)), show t.rd SKB_LEDGER_BASE_base.addr = _ from hrd _ (Or.inr (Or.inr rfl))]
  exact h

theorem housePlace_placed (s : State) : LedgerPlaced (housePlace s) := by
  have hwindow : LedgerPlaced (protectWindow (basesPlaced s) 0 (ledgerPlace s) 393216) := by
    have hlt := ledgerPlace_lt s
    obtain ⟨hen, hbase, hlimit⟩ := protectWindow_shows (basesPlaced s) 0 (ledgerPlace s) 393216
    have hledger : (protectWindow (basesPlaced s) 0 (ledgerPlace s) 393216).get SKB_LEDGER_BASE_base = ledgerPlace s := by
      unfold State.get; rw [protectWindow_rd _ 0 _ _ (by decide) (by decide)]; exact basesPlaced_ledger s
    refine ⟨hen, ?_, ?_⟩
    · rw [hbase, hledger, Nat.mod_eq_of_lt (by omega)]
    · rw [hlimit, hledger, Nat.mod_eq_of_lt (by omega)]; omega
  rw [housePlace_eq]
  refine (hwindow.of_rd fun a ha => protectWindow_rd _ 1 _ _ ?_ ?_).of_rd fun a ha => protectWindow_rd _ 2 _ _ ?_ ?_
  all_goals rcases ha with rfl | rfl | rfl <;> decide

/-- The vault's domain requested and switched on by a cold bring-up, and released. -/
def vaultRaised (s : State) : State :=
  let s := if s.rst.cold then setDomainOn (s.put PWR_REQ_on 0xD27) 8 true else s
  if domainOn s 8 then releaseDomain s 8 else s

/-- Step 7 begun, with House's windows placed by a cold bring-up. -/
def windowsPlaced (s : State) : State := nextStep (if s.rst.cold then housePlace s else s) 7

/-- The other domains that are on. -/
def raisedDomains (s : State) : List Nat := [3, 4, 6, 7, 9, 10].filter (fun d => domainOn s d)

/-- Step 6 after the domains have come up. -/
def keyRaised (s : State) : State := (raisedDomains (windowsPlaced (vaultRaised s))).foldl releaseDomain (windowsPlaced (vaultRaised s))

/-- The ledger's recovery begun. -/
def recoveryBegun (s : State) : State :=
  let s := s.putB SKB_STATUS_recovering true
  { s with skb := { s.skb with waits := 1 } }

/-- The domains that House's functions need are requested by a cold bring-up. -/
def functionsRequested (s : State) : State := if s.rst.cold then houseRequest s 0x2D8 else s

/-- The PCIe link may train. -/
def pcieReady (s : State) : State := { s with rst := { s.rst with pcieTraining := s.rst.perstN } }

theorem recoveryBegun_regs (s : State) : (recoveryBegun s).regs = (s.putB SKB_STATUS_recovering true).regs := rfl

theorem recoveryBegun_rst (s : State) : (recoveryBegun s).rst = s.rst := by
  unfold recoveryBegun; dsimp only; rw [State.putB_rst]

theorem pcieReady_regs (s : State) : (pcieReady s).regs = s.regs := rfl

theorem pcieReady_step (s : State) : (pcieReady s).rst.step = s.rst.step := rfl

theorem stageKey_eq (s : State) : stageKey s = pcieReady (functionsRequested (recoveryBegun (keyRaised s))) := rfl

theorem vaultRaised_rst (s : State) : (vaultRaised s).rst = s.rst := by
  unfold vaultRaised
  extract_lets s₁
  have h₁ : s₁.rst = s.rst := by
    unfold s₁; split
    · rw [(setDomainOn_rises _ 8 true).rst, State.put_rst]
    · rfl
  split
  · rw [(releaseDomain_rises _ 8).rst, h₁]
  · exact h₁

theorem protectWindow_rst (s : State) (k a n : Nat) : (protectWindow s k a n).rst = s.rst := by
  unfold protectWindow; rw [State.put_rst, State.putB_rst, State.put_rst]

theorem housePlace_rst (s : State) : (housePlace s).rst = s.rst := by
  rw [housePlace_eq, protectWindow_rst, protectWindow_rst, protectWindow_rst, basesPlaced, State.put_rst, State.put_rst, State.put_rst]

theorem nextStep_rst (s : State) (n : Nat) : (nextStep s n).rst = { s.rst with step := n } := rfl

theorem nextStep_regs (s : State) (n : Nat) : (nextStep s n).regs = s.regs := rfl

theorem windowsPlaced_rst (s : State) : (windowsPlaced s).rst = { s.rst with step := 7 } := by
  unfold windowsPlaced; rw [nextStep_rst]; split
  · rw [housePlace_rst]
  · rfl

theorem windowsPlaced_placed {s : State} (h : s.rst.cold = true) : LedgerPlaced (windowsPlaced s) := by
  unfold windowsPlaced; rw [if_pos h]
  exact (housePlace_placed s).of_rd fun a _ => rd_of_regs (nextStep_regs _ _) a

theorem keyRaised_rst (s : State) : (keyRaised s).rst = { s.rst with step := 7 } := by
  unfold keyRaised; rw [releaseDomains_rst, windowsPlaced_rst, vaultRaised_rst]

theorem raisedDomains_vault (s : State) : 8 ∉ raisedDomains s := fun h => absurd (List.mem_filter.1 h).1 (by decide)

theorem keyRaised_placed {s : State} (h : s.rst.cold = true) : LedgerPlaced (keyRaised s) := by
  refine (windowsPlaced_placed (s := vaultRaised s) (by rw [vaultRaised_rst]; exact h)).of_rd fun a ha => ?_
  exact releaseDomains_plain_rd _ (raisedDomains_vault _) _ (by rcases ha with rfl | rfl | rfl <;> decide)

theorem functionsRequested_keeps (s : State) : RequestKeeps s (functionsRequested s) := by
  unfold functionsRequested; split
  · exact houseRequest_keeps s _
  · exact ⟨fun _ _ _ => rfl, rfl⟩

theorem stageKey_rd (s : State) {a : Nat} (hreq : a ≠ PWR_REQ) (hstate : a ≠ PWR_STATE) : (stageKey s).rd a = (recoveryBegun (keyRaised s)).rd a := by
  rw [stageKey_eq, rd_of_regs (pcieReady_regs _), (functionsRequested_keeps _).rd a hreq hstate]

theorem stageKey_on (s : State) (f : Fld) (hreq : f.addr ≠ PWR_REQ) (hstate : f.addr ≠ PWR_STATE) :
    (stageKey s).on f = (recoveryBegun (keyRaised s)).on f := by
  unfold State.on State.get; rw [stageKey_rd s hreq hstate]

theorem recoveryBegun_rd (s : State) {a : Nat} (h : a ≠ SKB_STATUS) : (recoveryBegun s).rd a = s.rd a := by
  rw [rd_of_regs (recoveryBegun_regs s), State.putB, rd_put_ne s SKB_STATUS_recovering _ h]

theorem stageKey_shows (s : State) : (stageKey s).rst.step = 7 ∧ (stageKey s).on SKB_STATUS_recovering = true ∧ (s.rst.cold = true → LedgerPlaced (stageKey s)) := by
  refine ⟨?_, ?_, fun hcold => (keyRaised_placed hcold).of_rd fun a ha => ?_⟩
  · rw [stageKey_eq, pcieReady_step, (functionsRequested_keeps _).rst, recoveryBegun_rst, keyRaised_rst]
  · rw [stageKey_on s _ (by decide) (by decide), on_of_regs (recoveryBegun_regs _), on_putB_self _ _ _ ⟨by decide, by decide⟩]
  · have hne : a ≠ PWR_REQ ∧ a ≠ PWR_STATE ∧ a ≠ SKB_STATUS := by rcases ha with rfl | rfl | rfl <;> decide
    rw [stageKey_rd s hne.1 hne.2.1, recoveryBegun_rd _ hne.2.2]

/-! ### The House set runs -/

theorem roleState_ne (s : State) : roleState s ≠ 0 := by unfold roleState; split <;> decide

theorem roleState_lt (s : State) : roleState s < 8 := by unfold roleState; split <;> decide

theorem mbxIrq_rd (s : State) (bit : Nat) {b : Nat} (hb : b % 256 < 0xF0) (h : b ≠ MBX_IRQ) : (mbxIrq s bit).rd b = s.rd b := by
  unfold mbxIrq; dsimp only; split
  · exact event_rd_ne s _ _ hb h
  · exact event_rd_ne s _ _ hb h

/-- What a command's end writes of MBX_STATUS. -/
theorem statusPuts_state (s : State) (status seq : Nat) :
    ((((s.put MBX_STATUS_busy 0).put MBX_STATUS_resp_valid 1).put MBX_STATUS_last_status status).put MBX_STATUS_last_seq seq).get MBX_STATUS_state =
      s.get MBX_STATUS_state := by
  rw [get_put_bits _ MBX_STATUS_last_seq _ _ ⟨by decide, by decide⟩ (by decide), get_put_bits _ MBX_STATUS_last_status _ _ ⟨by decide, by decide⟩ (by decide),
    get_put_bits _ MBX_STATUS_resp_valid _ _ ⟨by decide, by decide⟩ (by decide), get_put_bits _ MBX_STATUS_busy _ _ ⟨by decide, by decide⟩ (by decide)]

/-- The end of a command leaves the service state. -/
theorem mbxFinish_state (s : State) (status : Nat) (res : List Word) : (mbxFinish s status res).get MBX_STATUS_state = s.get MBX_STATUS_state := by
  unfold mbxFinish; split
  · rfl
  · extract_lets seq head slots slots' mbx skb kv s₁ s₂ s₃ s₄ s₅ s₆
    have h₅ : s₅.get MBX_STATUS_state = s.get MBX_STATUS_state := by
      have h₁ : s₁.get MBX_STATUS_state = s.get MBX_STATUS_state := get_of_regs (s := s) (t := s₁) rfl _
      exact (statusPuts_state s₁ status seq).trans h₁
    have h₆ : s₆.get MBX_STATUS_state = s₅.get MBX_STATUS_state := by
      unfold s₆; split
      · exact get_put_addr s₅ MBX_REFUSED_refused MBX_STATUS_state _ (by decide)
      · rfl
    unfold State.get; rw [mbxIrq_rd _ _ (by decide) (by decide)]
    exact h₆.trans h₅

/-- The service state that a change sets. -/
theorem mbxState_state (s : State) {st : Nat} (h : st < 8) : (mbxState s st).get MBX_STATUS_state = st := by
  unfold mbxState
  extract_lets old s₁ s₂ s₃
  split
  next hold => exact hold.symm
  next =>
    have h₁ : s₁.get MBX_STATUS_state = st := by
      unfold s₁ State.get
      rw [mbxIrq_rd _ _ (by decide) (by decide)]
      exact (get_put_self s MBX_STATUS_state st ⟨by decide, by decide⟩).trans (Nat.mod_eq_of_lt h)
    have h₂ : s₂.get MBX_STATUS_state = st := by
      unfold s₂; split
      · exact (get_put_addr s₁ LCY_JTAG_ext_en MBX_STATUS_state _ (by decide)).trans h₁
      · exact h₁
    have h₃ : s₃.get MBX_STATUS_state = st := by
      unfold s₃; split
      · rw [get_put_addr _ LCY_NONCE_LO_val _ _ (by decide), get_put_addr _ LCY_NONCE_HI_val _ _ (by decide)]
        exact (get_of_regs rfl _).trans h₂
      · exact h₂
    split
    · exact h₃
    · rw [mbxFinish_state, h₃]

/-- The end of bring-up leaves no BOOTING state (R122). -/
theorem mbxQueue_started (s : State) : (mbxQueue s 3).get MBX_STATUS_state ≠ 0 := by
  show (if s.get MBX_STATUS_state = 0 then mbxState s (if s.on KV_STATUS_tampered then 4 else roleState s) else s).get MBX_STATUS_state ≠ 0
  split
  · split
    · rw [mbxState_state s (st := 4) (by decide)]; decide
    · rw [mbxState_state s (roleState_lt s)]; exact roleState_ne s
  · assumption

/-- House's emitters for its running clients and clusters. -/
def houseEmitting (s : State) : State :=
  let s := (List.range 28).foldl houseEmit s
  if houseReplaced s 2 then s
  else (List.range 9).foldl (fun s n => s.wr (GLZ_Sn_MEAS n) (if n = 8 then 12 else 21)) (s.wr (GLZ_EMITk 29) (w40 1003))

/-- The boot images loaded, or the invalid record reported. -/
def imagesLoaded (r : StageResult) (s : State) : State :=
  if s.on PRM_STATUS_opt_bad then raiseSrc s 112 none else (List.range 8).foldl (fun s i => bootImage s i (r.images.getD i [])) s

/-- Bring-up ended. -/
def bringUpEnded (s : State) : State := nextStep { s with house := { s.house with bringUpDone := true } } 8

theorem stageRest_eq (r : StageResult) (s : State) : stageRest r s = mbxQueue (houseEmitting (bringUpEnded (imagesLoaded r s))) 3 := rfl

theorem houseEmitting_frame {α : Type} (p : State → α) (hp : ∀ (t : State) a w, p (t.wr a w) = p t) (s : State) : p (houseEmitting s) = p s := by
  have hemit : ∀ (t : State) k, p (houseEmit t k) = p t := fun t k => by
    unfold houseEmit; dsimp only; split_ifs <;> simp only [hp]
  unfold houseEmitting; dsimp only; split
  · exact foldl_frame p houseEmit hemit _ s
  · rw [foldl_frame p _ (fun t n => hp t _ _), hp]; exact foldl_frame p houseEmit hemit _ s

theorem stageRest_shows (r : StageResult) (s : State) :
    (stageRest r s).rst.step = 8 ∧ (stageRest r s).house.bringUpDone = true ∧ (stageRest r s).get MBX_STATUS_state ≠ 0 := by
  have hq := (mbxQueue_answering (houseEmitting (bringUpEnded (imagesLoaded r s))) 3).rest
  rw [stageRest_eq]
  refine ⟨?_, ?_, mbxQueue_started _⟩
  · rw [hq.rst, houseEmitting_frame State.rst State.wr_rst]; rfl
  · rw [hq.house, houseEmitting_frame State.house State.wr_house]; rfl

/-! ### The obligation -/

theorem stageAo_shows (s : State) : (stageAo s).rst.step = 2 ∧ (stageAo s).on PRM_STATUS_busy = true ∧ DomainUp s 1 (stageAo s) := by
  have hput := Rises.put s PRM_STATUS_busy (b2n true) (by decide)
  have hregs : (stageAo s).regs = (alwaysOnUp (s.putB PRM_STATUS_busy true)).regs := rfl
  refine ⟨rfl, ?_, fun v hv hf hc => ?_⟩
  · rw [on_of_regs hregs]; unfold State.on State.get
    rw [alwaysOnUp_rd _ (by decide) (by decide) (by decide)]
    exact on_putB_self s PRM_STATUS_busy true ⟨by decide, by decide⟩
  · rw [on_of_regs hregs]; exact (DomainUp.of_rises hput (alwaysOnUp_up _).2) v hv hf hc

/-- A step that is not held back. -/
def Ready (s : State) : Prop := s.rst.resetN = true ∧ s.rst.pwrGood = true ∧ s.rst.held = false ∧ s.rst.stopped = false

/-- The end of step `n`. -/
def stageEnd (r : StageResult) (s : State) : Nat → State
  | 1 => if s.rst.linkAt = 2 then stageAo s else s
  | 2 => stagePrime r s
  | 3 => stageClk r s
  | 4 => stageMem s
  | 5 => stageCtl s
  | 6 => stageKey s
  | 7 => if s.get PWR_STATE_busy = 0 then stageRest r s else s
  | _ => s

theorem execBringUpStageDone_eq {r : StageResult} {s : State} {n : Nat} (h : Ready s) (hstep : s.rst.step = n) :
    execBringUpStageDone r s = .next (stageEnd r s n) := by
  obtain ⟨hreset, hpower, hheld, hstopped⟩ := h
  unfold execBringUpStageDone
  rw [if_neg (by simp [hreset, hpower, hheld, hstopped]), hstep]
  match n with
  | 0 | 1 | 2 | 3 | 4 | 5 | 6 | 7 | _ + 8 => rfl

/-- Settles O40: what each stage leaves, by what a release of units and a FATAL source keep. -/
theorem bringUp : Obligations.BringUp := by
  unfold Obligations.BringUp
  intro s r bk slow ready up stage failed
  have hfail : ∀ {n : Nat} {t : State}, HeldBy n s t → failed n t := fun h => ⟨h.held, h.fatal, h.status, h.step⟩
  have hexec : ∀ n, ready → s.rst.step = n → exec (.bringUpStageDone r) s = .next (stageEnd r s n) := fun _ h hn => execBringUpStageDone_eq h hn
  refine ⟨fun hready hstep hlink => ?_, powerGoodRise_shows bk slow, fun hgood => ?_, fun hlink hready hstep => ?_, fun hfuse hready hstep => ?_,
    fun hfuse hready hstep => ?_, fun hpll hready hstep => ?_, fun hpll hready hstep => ?_, fun hready hstep => ?_, fun hready hstep => ?_,
    fun hready hstep => ?_, fun hbusy hready hstep => ?_, fun hperst => ?_, fun htraining hperst => ?_, fun htraining => ?_⟩
  · have hdie : ∀ ok, exec (.dieLinkTrain ok) s = _ := fun ok => execDieLinkTrain_eq ok hready.1 hready.2.1 hready.2.2.1 hstep hlink
    refine ⟨⟨_, hdie true, ?_⟩, fun htries => ⟨_, hdie false, ?_⟩, fun htries => ⟨_, hdie false, ?_⟩⟩
    · have hregs := dieLink_up s { alwaysOnUp s with rst := { s.rst with linkAt := s.rst.linkAt + 1, linkTries := 0 } } rfl
      exact ⟨hregs.1, hregs.2, rfl⟩
    · rw [if_neg Bool.false_ne_true, if_pos htries]
      have hregs := dieLink_up s { alwaysOnUp s with rst := { s.rst with linkTries := s.rst.linkTries + 1 } } rfl
      exact ⟨hregs.1, hregs.2, rfl⟩
    · rw [if_neg Bool.false_ne_true, if_neg (Nat.not_lt.2 htries)]
      obtain ⟨h0, h1, hheld, hfail2⟩ := dieLink_failed (alwaysOnUp_rises s) (alwaysOnUp_up s).1 (alwaysOnUp_up s).2 (n := s.rst.linkAt + 1) (by omega) rfl
      exact ⟨h0, h1, hfail hheld, hfail2⟩
  · show execPowerGoodRise bk slow s = _
    unfold execPowerGoodRise; rw [if_pos hgood]
  · refine ⟨_, hexec 1 hready hstep, ?_⟩
    unfold stageEnd; rw [if_pos hlink]; exact stageAo_shows s
  · refine ⟨_, hexec 2 hready hstep, hfail ?_⟩
    unfold stageEnd stagePrime; rw [if_pos hfuse]; exact bringUpFail_held s (by decide)
  · exact ⟨_, hexec 2 hready hstep, stagePrime_shows r s hfuse⟩
  · refine ⟨_, hexec 3 hready hstep, hfail ?_⟩
    unfold stageEnd stageClk; rw [hpll]; exact bringUpFail_held s (by decide)
  · exact ⟨_, hexec 3 hready hstep, stageClk_shows r s hpll⟩
  · exact ⟨_, hexec 4 hready hstep, stageMem_shows s⟩
  · exact ⟨_, hexec 5 hready hstep, stageCtl_shows s⟩
  · exact ⟨_, hexec 6 hready hstep, stageKey_shows s⟩
  · obtain ⟨hend, hdone, hstate⟩ := stageRest_shows r s
    refine ⟨_, hexec 7 hready hstep, ?_⟩
    unfold stageEnd; rw [if_pos hbusy]
    exact ⟨hend, hdone, fun _ => hstate⟩
  · show execPciePerstRelease s = _
    unfold execPciePerstRelease; rw [hperst, if_neg Bool.false_ne_true]
  · show execPcieLinkUp s = _
    unfold execPcieLinkUp; rw [if_pos ⟨htraining, hperst⟩]
  · show execPcieLinkUp s = _
    unfold execPcieLinkUp; rw [if_neg (fun h => absurd (htraining.symm.trans h.1) (by decide))]

end Sys2Proof.Machine
end

section
/-! PROOF. URD, UWR and their responses (O17): what a register read leaves of the cores, how a waiting access ends, and the trap of a
privilege error. -/

namespace Sys2Proof.Machine

/-! ### The cores, memory and a core's run bit -/

/-- The cores, memory and the run bit of core `k` are as before. -/
structure CoreStays (k : Nat) (s t : State) : Prop where
  cores : t.cores = s.cores
  mem : t.mem = s.mem
  ctl : t.rd (coreBlock k) = s.rd (coreBlock k)

namespace CoreStays
variable {k : Nat} {s t u : State}

theorem refl (k : Nat) (s : State) : CoreStays k s s := ⟨rfl, rfl, rfl⟩

theorem trans (h : CoreStays k s t) (h' : CoreStays k t u) : CoreStays k s u :=
  ⟨h'.cores.trans h.cores, h'.mem.trans h.mem, h'.ctl.trans h.ctl⟩

theorem of_regsOnly (h : RegsOnly s t) (hctl : t.rd (coreBlock k) = s.rd (coreBlock k)) : CoreStays k s t := ⟨h.cores, h.mem, hctl⟩

theorem wr (s : State) {a : Nat} (w : Word) (h : coreBlock k ≠ a) : CoreStays k s (s.wr a w) := ⟨rfl, rfl, rd_wr_ne s w h⟩

theorem core (h : CoreStays k s t) (j : Nat) : t.core j = s.core j := core_of_cores h.cores j

theorem on (h : CoreStays k s t) : t.on (coreCtl k) = s.on (coreCtl k) := by
  unfold State.on State.get; exact congrArg (fun w => decide (fieldOf w 0 0 ≠ 0)) h.ctl

end CoreStays

/-- A core's block stands at a multiple of sixteen of a unit's own offsets. -/
theorem coreBlock_unit (k : CoreId) : (coreBlock k / 256 = 0x064 + k ∧ k.val < 16 ∨ coreBlock k / 256 = 0x088 + (k - 16) / 8 ∧ 16 ≤ k.val) ∧
    coreBlock k % 256 ≤ 0x70 := by
  have hk := k.isLt
  unfold coreBlock; split <;> omega

theorem coreBlock_plain (k : CoreId) : coreBlock k % 256 < 0xF0 := by have := (coreBlock_unit k).2; omega

/-- A core's block is of an engine's or a group's unit. -/
theorem coreBlock_ne (k : CoreId) {a : Nat} (h : a / 256 < 0x064 ∨ (0x074 ≤ a / 256 ∧ a / 256 < 0x088) ∨ 0x08C ≤ a / 256) : coreBlock k ≠ a := by
  have hk := k.isLt
  intro e; have := (coreBlock_unit k).1; omega

theorem coreCtl_no_rc : ∀ k : CoreId, (regFields (coreBlock k)).any (fun f => decide (f.ty = .rc)) = false := by decide

theorem hiReg_no_core : ∀ a ∈ hiRegs, ∀ k : CoreId, coreBlock k ≠ a ∧ coreBlock k ≠ a + 1 := by decide

/-! ### A register read -/

theorem touchedByRead_coreStays (k : CoreId) (s : State) (a : Nat) : CoreStays k s (touchedByRead s a) :=
  .of_regsOnly (touchedByRead_regsOnly s a) (touchedByRead_rd s a (coreBlock_plain k))

theorem hiLatch_coreStays (k : CoreId) {a : Nat} (h : a ∈ hiRegs) (s : State) : CoreStays k s (hiLatch a s) := by
  obtain ⟨hhi, hlo⟩ := hiReg_no_core a h k
  unfold hiLatch; split
  · exact (CoreStays.wr s _ hhi).trans (.wr _ _ hlo)
  · exact .wr s _ hlo

theorem ev_coreStays (k : CoreId) (s : State) (f : Fld) (h : coreBlock k ≠ f.addr) : CoreStays k s (s.ev f) :=
  .of_regsOnly (event_regsOnly s _ _) (event_rd_ne s _ _ (coreBlock_plain k) h)

theorem CoreStays.foldl {α : Type} {k : Nat} {f : State → α → State} (hf : ∀ t a, CoreStays k t (f t a)) (l : List α) (s : State) :
    CoreStays k s (l.foldl f s) := by
  induction l generalizing s with
  | nil => exact .refl k s
  | cons a l ih => exact (hf s a).trans (ih (f s a))

/-- A register of a line port is no core's. -/
theorem coreBlock_ne_port (k : CoreId) {p : Nat} (hp : p < 4) {a : Nat} (h : a / 256 = 0x080 + p) : coreBlock k ≠ a := coreBlock_ne k (by omega)

/-- One stamp that has aged out of a port's queue. -/
def stampDropped (p : Nat) (s : State) (_ : Nat × Word × T80) : State := (s.inc (LPp_CNT_TSQ_AGED_count p)).ev (LPp_EVENTS_tsq_aged p)

theorem tsqPop_coreStays (k : CoreId) {p : Nat} (hp : p < 4) (s : State) : CoreStays k s (tsqPop p s) := by
  unfold tsqPop
  extract_lets old x aged s₁ q s₂
  have h₁ : CoreStays k s s₁ := by
    refine CoreStays.foldl (f := stampDropped p) (fun t _ => ?_) aged s
    refine CoreStays.trans (CoreStays.wr t _ (coreBlock_ne_port k hp ?_)) (ev_coreStays k _ _ (coreBlock_ne_port k hp ?_))
    · simp only [LPp_CNT_TSQ_AGED_count, LPp_CNT_TSQ_AGED]; omega
    · simp only [LPp_EVENTS_tsq_aged, LPp_EVENTS]; omega
  have h₂ : CoreStays k s s₂ := by
    refine h₁.trans (CoreStays.trans (t := s₁.setPort p { x with tsq := q.tail }) ⟨rfl, rfl, rfl⟩ (.wr _ _ (coreBlock_ne_port k hp ?_)))
    simp only [LPp_STATUS_tsq_level, LPp_STATUS]; omega
  have hid : coreBlock k ≠ LPp_TSQ_ID p := coreBlock_ne_port k hp (by unfold LPp_TSQ_ID; omega)
  split
  · exact h₂.trans (.wr _ _ hid)
  · exact h₂.trans ((CoreStays.wr _ _ hid).trans (.wr _ _ (coreBlock_ne_port k hp (by unfold LPp_TSQ_STAMP; omega))))

theorem regPrepare_coreStays (k : CoreId) (s : State) (a : Nat) : CoreStays k s (regPrepare s a) := by
  unfold regPrepare; split
  next h => exact hiLatch_coreStays k (List.contains_iff_mem.1 h) s
  next =>
    split
    next p hp => exact tsqPop_coreStays k (List.mem_range.1 (List.mem_of_find?_eq_some hp)) s
    next => exact .refl _ s

/-- What a read shows may draw free values and no more. -/
theorem slotGroup8_coreStays (k : CoreId) (s : State) (p : Nat) : CoreStays k s (slotGroup8 s p).2 := by
  unfold slotGroup8; split
  · exact .refl _ s
  · dsimp only; split <;> exact ⟨rfl, rfl, rfl⟩

theorem regLive_coreStays (k : CoreId) (s : State) (a : Nat) : CoreStays k s (regLive s a).2 := by
  have hite : ∀ {c : Prop} [Decidable c] {x y : Word × State}, (CoreStays k s x.2) → (CoreStays k s y.2) → CoreStays k s (if c then x else y).2 := by
    intro c _ x y hx hy; split
    · exact hx
    · exact hy
  have hsame : ∀ w : Word, CoreStays k s (w, s).2 := fun _ => .refl _ s
  unfold regLive
  split
  · exact hsame _
  · refine hite (hsame _) (hite (hsame _) (hite (hsame _) (hite (hsame _) (hite (hsame _) (hite (hsame _) (hite (hsame _) (hite (hsame _)
      (hite (hsame _) (hite (hsame _) (hite (hsame _) (hite (hsame _) (hite (hsame _) (hite (hsame _) (hite (hsame _) (hite (hsame _) (hite (hsame _)
      (hite (hsame _) (hite (hsame _) (hite ?_ (hite (hsame _) (hite (hsame _) ?_)))))))))))))))))))))
    · exact slotGroup8_coreStays k s _
    · split
      · exact hsame _
      · exact hsame _

theorem regTouched_coreStays (k : CoreId) (s : State) (a : Nat) : CoreStays k s (regTouched s a) := by
  unfold regTouched; split_ifs with hkeep hbuf hcount hrc
  · exact .wr s _ (coreBlock_ne k (by decide))
  · exact .wr s _ (coreBlock_ne k (by decide))
  · exact ⟨rfl, rfl, rfl⟩
  · exact .wr s _ fun e => absurd (hrc.symm.trans (e ▸ coreCtl_no_rc k)) (by decide)
  · exact .refl _ s

/-- The state in which a performed read finds the register's value, and what the read leaves. -/
def readBegun (s : State) (a : Nat) : State := regPrepare (touchedByRead s a) a

def readEnded (s : State) (a : Nat) : State := regTouched (regLive (readBegun s a) a).2 a

theorem regRead_performed {s : State} {m : Master} {a : Nat} (h : Reads s m a) :
    regRead m a s = ((.ok, (regLive (readBegun s a) a).1), readEnded s a) := by
  obtain ⟨herr, hinj⟩ := h
  unfold regRead
  rw [herr]; dsimp only
  rw [injectErr_of_uninjected hinj]; rfl

theorem readEnded_coreStays (k : CoreId) (s : State) (a : Nat) : CoreStays k s (readEnded s a) :=
  (((touchedByRead_coreStays k s a).trans (regPrepare_coreStays k _ a)).trans (regLive_coreStays k _ a)).trans (regTouched_coreStays k _ a)

/-- A register that shows what it holds is read as its fields say. -/
theorem readBegun_word {s : State} {a : Nat} (hplain : a % 256 < 0xF0) (h : ShowsItsWord a) :
    (regLive (readBegun s a) a).1 = readFields (regFields a) (s.rd a) := by
  obtain ⟨hprepare, -, -⟩ := h (touchedByRead s a)
  obtain ⟨-, hlive, -⟩ := h (readBegun s a)
  rw [hlive]; unfold readBegun
  rw [hprepare, touchedByRead_rd s a hplain]

/-! ### A waiting access ends -/

theorem coreBoundary_goesOn {s : State} {k : CoreId} (hrun : s.on (coreCtl k) = true) (hback : (s.core k).stBack = []) : coreBoundary s k = s := by
  unfold coreBoundary
  dsimp only
  rw [hrun, hback]
  split
  · rfl
  · rfl

/-- A core past a wait. -/
def Core.woken (c : Core) : Core := { c with waiting := .none, pc := (c.pc + 1) % 2 ^ 32 }

theorem finishWait_goesOn {s : State} {k : CoreId} {c : Core} (hrun : s.on (coreCtl k) = true) (hback : c.stBack = []) :
    finishWait s k c = s.setCore k c.woken := by
  refine coreBoundary_goesOn (s := s.setCore k c.woken) ((on_of_regs rfl _).trans hrun) ?_
  rw [core_setCore_self]; exact hback

theorem mtxErr_coreStays (k : CoreId) (s : State) (m : Master) (kind addr : Nat) (write : Bool) : CoreStays k s (mtxErr s m kind addr write) :=
  .of_regsOnly (mtxRecord_regsOnly s m kind addr write 3 false)
    (mtxRecord_rd s m kind addr write 3 false (fun h => coreBlock_ne k (a := coreBlock k) (by omega) rfl) (coreBlock_plain k))

/-- A core with the result of a unit access in its flags. -/
def Core.answered (c : Core) (f : Core → Core) (e : Bool) : Core := { f c with flags := { c.flags with e := e } }

section
variable {s : State} {k : CoreId} {f : Core → Core} (m : Master) (a : Nat) (write : Bool) (hrun : s.on (coreCtl k) = true)
  (hback : (f (s.core k)).stBack = [])
include hrun hback

theorem unitDone_ok : unitDone k m a write .ok f s = s.setCore k ((s.core k).answered f false).woken := by
  unfold unitDone noteResp; dsimp only
  rw [if_neg (by decide)]
  exact finishWait_goesOn (c := (s.core k).answered f false) hrun hback

theorem unitDone_err {kind : Nat} (hk : kind ≠ 1) :
    unitDone k m a write (.err kind) f s = (mtxErr s m kind a write).setCore k ((s.core k).answered f true).woken := by
  have hstays := mtxErr_coreStays k s m kind a write
  unfold unitDone noteResp; dsimp only
  rw [if_neg (by intro h; exact hk (Resp.err.inj h)), hstays.core]
  exact finishWait_goesOn (c := (s.core k).answered f true) (hstays.on.trans hrun) hback

end

/-- An access that has erred shows in the core and in the matrix's events. -/
theorem unitDone_err_shows {s : State} {k : CoreId} {f : Core → Core} (m : Master) (a : Nat) (write : Bool) (h : GoesOn s k)
    (hf : (f (s.core k)).stBack = (s.core k).stBack) {kind : Nat} (hk : kind ≠ 1) :
    Awake (unitDone k m a write (.err kind) f s) k ((s.core k).answered f true) ∧
      (unitDone k m a write (.err kind) f s).on MTX_EVENTS_err = true := by
  rw [unitDone_err m a write h.1 (hf.trans h.2) hk]
  exact ⟨core_setCore_self _ _ _, mtxRecord_on_events s m kind a write 3 false⟩

theorem setG_stBack (c : Core) (r : Nat) (w : Word) : (c.setG r w).stBack = c.stBack := by unfold Core.setG; split <;> rfl

/-- A unit as it stands answers no privilege error: only the master's privilege does. -/
theorem unitErr_ne_privilege (s : State) (a : Nat) : (unitErr s a).getD 2 ≠ 1 := by
  unfold unitErr; split
  · decide
  · split_ifs <;> decide

/-! ### A trap -/

/-- The detail word of a trap (R105). -/
def trapInfo (c : Core) (cause code : Nat) : Word := w40 (code % 2 ^ 19 * 2 ^ 15 + b2n c.keeper * 2 ^ 14 + flagBits c.flags * 2 ^ 8 + cause)

/-- The three trap registers written. -/
def trapSaved (s : State) (k cause code addr pc : Nat) : State :=
  ((s.wr (coreBlock k + 3) (w40 (pc % 2 ^ 32))).wr (coreBlock k + 4) (trapInfo (s.core k) cause code)).wr (coreBlock k + 5) (w40 (addr % 2 ^ 32))

/-- The core as a trap enters it. -/
def Core.trapped (c : Core) : Core := { c with inTrap := true, keeper := true, waiting := .none, held := c.waiting }

/-- The trap words and the frame stored. -/
def trapStored (s : State) (k cause code addr pc : Nat) : State :=
  let t := trapSaved s k cause code addr pc
  (if k < 16 then t else t.stN (trapWords k) [w40 (pc % 2 ^ 32), trapInfo (s.core k) cause code, w40 (addr % 2 ^ 32)]).stN
    (trapFrame k) [(s.core k).g 1, (s.core k).g 2]

theorem trapEnter_eq (s : State) (k cause code addr pc : Nat) :
    trapEnter s k cause code addr pc = slotInc ((trapStored s k cause code addr pc).setCore k (s.core k).trapped) k 7 := rfl

theorem trapStored_memory (s : State) (k cause code addr pc : Nat) :
    ∃ mem, trapStored s k cause code addr pc = { trapSaved s k cause code addr pc with mem := mem } := by
  unfold trapStored; dsimp only; split
  · exact ⟨_, stN_memory _ _ _⟩
  · rw [stN_memory, stN_memory [_, _, _]]; exact ⟨_, rfl⟩

theorem trapStored_frame (s : State) (k cause code addr pc : Nat) :
    (trapStored s k cause code addr pc).ld (trapFrame k) = (s.core k).g 1 ∧ (trapStored s k cause code addr pc).ld (trapFrame k + 1) = (s.core k).g 2 := by
  unfold trapStored
  exact ⟨ld_stN_inside [(s.core k).g 1, (s.core k).g 2] _ (trapFrame k) 0 Nat.zero_lt_two, ld_stN_inside [(s.core k).g 1, (s.core k).g 2] _ (trapFrame k) 1 Nat.one_lt_two⟩

/-- What the dispatcher finds (R105): the trap registers, the core, and the frame. -/
structure TrapBegun (s t : State) (k : CoreId) (cause code addr pc : Nat) : Prop where
  pc : t.rd (coreBlock k + 3) = w40 (pc % 2 ^ 32)
  info : t.rd (coreBlock k + 4) = trapInfo (s.core k) cause code
  addr : t.rd (coreBlock k + 5) = w40 (addr % 2 ^ 32)
  tvec : t.rd (coreBlock k + 2) = s.rd (coreBlock k + 2)
  core : t.core k = (s.core k).trapped
  others : ∀ j, j ≠ k.val → t.core j = s.core j
  frame : t.ld (trapFrame k) = (s.core k).g 1 ∧ t.ld (trapFrame k + 1) = (s.core k).g 2

theorem trapEnter_begun (s : State) (k : CoreId) (cause code addr pc : Nat) : TrapBegun s (trapEnter s k cause code addr pc) k cause code addr pc := by
  obtain ⟨mem, hstored⟩ := trapStored_memory s k cause code addr pc
  have hregs : (trapEnter s k cause code addr pc).regs = (trapSaved s k cause code addr pc).regs := by
    rw [trapEnter_eq, hstored]; rfl
  have hmem : (trapEnter s k cause code addr pc).mem = (trapStored s k cause code addr pc).mem := by rw [trapEnter_eq]; rfl
  have hcore : ∀ j, (trapStored s k cause code addr pc).core j = s.core j := fun j => by rw [hstored]; rfl
  refine ⟨?_, ?_, ?_, ?_, ?_, fun j hj => ?_, ?_⟩
  · rw [rd_of_regs hregs, trapSaved, rd_wr_ne _ _ (by omega), rd_wr_ne _ _ (by omega), rd_wr_self]
  · rw [rd_of_regs hregs, trapSaved, rd_wr_ne _ _ (by omega), rd_wr_self]
  · rw [rd_of_regs hregs, trapSaved, rd_wr_self]
  · rw [rd_of_regs hregs, trapSaved, rd_wr_ne _ _ (by omega), rd_wr_ne _ _ (by omega), rd_wr_ne _ _ (by omega)]
  · rw [trapEnter_eq]; exact core_setCore_self _ _ _
  · rw [trapEnter_eq]; exact (core_setCore_ne _ _ hj).trans (hcore j)
  · obtain ⟨hg1, hg2⟩ := trapStored_frame s k cause code addr pc
    exact ⟨(ld_of_mem hmem _).trans hg1, (ld_of_mem hmem _).trans hg2⟩

/-- A source of class NOTE that names no unit reports, and no more (R508). -/
theorem raiseSrc_halt (s : State) (k : CoreId) : raiseSrc s (haltSource k) none = reportSrc s (haltSource k) := by
  have hrange : 42 ≤ haltSource k ∧ haltSource k ≤ 57 ∨ 146 ≤ haltSource k ∧ haltSource k ≤ 177 := by
    have := k.isLt; unfold haltSource; split <;> omega
  generalize haltSource k = n at hrange
  have hclass : srcClass s n = 0 := by
    unfold srcClass
    rcases hrange with h | h
    · rw [if_neg (by omega), if_neg (by omega), if_neg (by omega), if_neg (by omega), if_pos (by omega)]
    · rw [if_neg (by omega), if_neg (by omega), if_neg (by omega), if_neg (by omega), if_neg (by omega), if_neg (by omega), if_neg (by omega),
        if_neg (by omega), if_pos (by omega)]
  have hunit : srcFixedUnit n = none := by
    unfold srcFixedUnit
    rw [if_neg (by omega), if_neg (by omega), if_neg (by omega), if_neg (by omega), if_neg (by omega), if_neg (by omega), if_neg (by omega)]
  unfold raiseSrc; dsimp only; rw [hclass, hunit]
  show (if (reportSrc s n).fix.fatal = true then reportSrc s n else reportSrc s n) = _
  rw [ite_self]

/-- A report to the host and a notice keep the cores and memory, and no register of theirs is a core's. -/
structure Noticed (s t : State) : Prop where
  cores : t.cores = s.cores
  mem : t.mem = s.mem
  rd : ∀ b, b % 256 < 0xF0 → b / 256 ≠ 0x0F0 → b / 256 ≠ 0x079 → t.rd b = s.rd b

theorem reportSrc_noticed (s : State) {n : Nat} (h : n < 256) : Noticed s (reportSrc s n) := by
  have hrd := (reportSrc_affects (U := [0x0F0]) s n h).within.rd
  refine ⟨?_, ?_, fun b hb hfix _ => hrd b hb (by simpa using hfix)⟩
  · unfold reportSrc; dsimp only; split
    · exact State.event_cores _ _ _
    · exact State.event_cores _ _ _
  · unfold reportSrc; dsimp only; split
    · exact State.event_mem _ _ _
    · exact State.event_mem _ _ _

theorem mbxIrq_noticed (s : State) (bit : Nat) : Noticed s (mbxIrq s bit) := by
  refine ⟨?_, ?_, fun b hb _ hmbx => mbxIrq_rd s bit hb fun e => hmbx (by rw [e]; decide)⟩
  · unfold mbxIrq; dsimp only; split
    · exact State.event_cores _ _ _
    · exact State.event_cores _ _ _
  · unfold mbxIrq; dsimp only; split
    · exact State.event_mem _ _ _
    · exact State.event_mem _ _ _

theorem mbxIrq_raised (s : State) {bit : Nat} (h : bit < 40) : bitAt ((mbxIrq s bit).rd MBX_IRQ) bit = true := by
  have hev : bitAt ((s.event MBX_IRQ bit).rd MBX_IRQ) bit = true := event_bitAt s _ _ (by decide) h
  unfold mbxIrq; dsimp only; split
  · exact hev
  · exact hev

/-- A halted core's report and notice (R109, R124). -/
def haltTold (s : State) (k : Nat) : State := mbxNotice (raiseSrc (haltCore s k) (haltSource k) none)

theorem haltSource_lt (k : CoreId) : haltSource k < 256 := by have := k.isLt; unfold haltSource; split <;> omega

theorem haltTold_noticed (s : State) (k : CoreId) : Noticed (haltCore s k) (haltTold s k) := by
  have hreport := reportSrc_noticed (haltCore s k) (haltSource_lt k)
  have hnotice := mbxIrq_noticed (reportSrc (haltCore s k) (haltSource k)) 2
  unfold haltTold mbxNotice; rw [raiseSrc_halt]
  exact ⟨hnotice.cores.trans hreport.cores, hnotice.mem.trans hreport.mem,
    fun b hb hfix hmbx => (hnotice.rd b hb hfix hmbx).trans (hreport.rd b hb hfix hmbx)⟩

theorem haltTold_told (s : State) (k : CoreId) : srcStatus (haltTold s k) (haltSource k) = true ∧ bitAt ((haltTold s k).rd MBX_IRQ) 2 = true := by
  unfold haltTold mbxNotice; rw [raiseSrc_halt]
  exact ⟨(mbxIrq_answering _ 2).within.marks _ (haltSource_lt k) (reportSrc_status _ _ (haltSource_lt k)), mbxIrq_raised _ (by decide)⟩

theorem haltCore_rd (s : State) (k : Nat) {b : Nat} (h : b ≠ coreBlock k) : (haltCore s k).rd b = s.rd b :=
  rd_put_ne ((coreMuted s k).setCore k _) (coreCtl k) 0 h

theorem haltCore_core (s : State) (k : Nat) :
    (haltCore s k).core k = { s.core k with halted := true, waiting := .none, loads := [], stErr := [], stBack := [], held := .none } :=
  core_setCore_self (coreMuted s k) k _

theorem haltCore_core_ne (s : State) {k j : Nat} (h : j ≠ k) : (haltCore s k).core j = s.core j := core_setCore_ne (coreMuted s k) _ h

theorem haltCore_mem (s : State) (k : Nat) : (haltCore s k).mem = s.mem := rfl

/-- A core's trap register, as a trap's report and notice find it. -/
theorem coreReg_plain (k : CoreId) {i : Nat} (h : i < 0x10) : (coreBlock k + i) % 256 < 0xF0 ∧ (coreBlock k + i) / 256 ≠ 0x0F0 ∧ (coreBlock k + i) / 256 ≠ 0x079 := by
  have hk := k.isLt
  have := coreBlock_unit k
  omega

theorem takeTrap_eq {s : State} {k : Nat} (h : (s.core k).inTrap = false) (cause code addr pc : Nat) :
    takeTrap s k cause (some code) (some addr) pc = trapForward (trapEnter s k cause code addr pc) k := by
  unfold takeTrap; rw [h]; rfl

/-- With no handler the core halts, and the host hears of it (R106). -/
theorem trapForward_halted {s u : State} {k : CoreId} {cause code addr pc : Nat} (h : TrapBegun s u k cause code addr pc)
    (hvec : s.rd (coreBlock k + 2) = 0) : trapForward u k = haltTold u k := by
  unfold trapForward; dsimp only; rw [h.tvec, hvec]; rfl

theorem trapForward_handled {s u : State} {k : CoreId} {cause code addr pc : Nat} (h : TrapBegun s u k cause code addr pc)
    (hvec : s.rd (coreBlock k + 2) ≠ 0) : trapForward u k = u.setCore k { (((s.core k).trapped.setG 1 (trapInfo (s.core k) cause code)).setG 2
      (w40 (addr % 2 ^ 32))) with pc := (s.rd (coreBlock k + 2)).toNat, keeper := false } := by
  have h0 : (s.rd (coreBlock k + 2)).toNat ≠ 0 := fun h0 => hvec (BitVec.eq_of_toNat_eq h0)
  unfold trapForward; dsimp only
  rw [h.tvec, if_neg h0, h.info, h.addr, h.core]

theorem haltTold_kept {s u : State} {k : CoreId} {cause code addr pc : Nat} (h : TrapBegun s u k cause code addr pc) :
    (∀ i, i < 0x10 → i ≠ 0 → (haltTold u k).rd (coreBlock k + i) = u.rd (coreBlock k + i)) ∧
      (∀ j, j ≠ k.val → (haltTold u k).core j = s.core j) ∧ (∀ a, (haltTold u k).ld a = u.ld a) ∧
      (haltTold u k).core k = { (s.core k).trapped with halted := true, waiting := .none, loads := [], stErr := [], stBack := [], held := .none } := by
  have htold := haltTold_noticed u k
  refine ⟨fun i hi h0 => ?_, fun j hj => ?_, fun a => ld_of_mem (htold.mem.trans (haltCore_mem u k)) a, ?_⟩
  · obtain ⟨hplain, hfix, hmbx⟩ := coreReg_plain k hi
    exact (htold.rd _ hplain hfix hmbx).trans (haltCore_rd u k (by omega))
  · rw [core_of_cores htold.cores, haltCore_core_ne u hj, h.others j hj]
  · rw [core_of_cores htold.cores, haltCore_core, h.core]

theorem setG_trapped (c : Core) (x y : Word) (r : Nat) : ((c.trapped.setG 1 x).setG 2 y).g r = if r = 0 then 0 else if r = 2 then y else if r = 1 then x else c.g r := by
  rw [g_setG, g_setG]
  split_ifs <;> rfl

/-- A trap is taken (R105, R106): forwarded to the image's handler, or to no handler. -/
theorem takeTrap_trapped {s : State} {k : CoreId} (h : (s.core k).inTrap = false) {code : Nat} (hcode : code < 2 ^ 19) (cause addr pc : Nat) :
    Trapped s (takeTrap s k cause (some code) (some addr) pc) k cause code addr pc := by
  have hbegun := trapEnter_begun s k cause code addr pc
  have hinfo : trapInfo (s.core k) cause code = w40 (code * 2 ^ 15 + b2n (s.core k).keeper * 2 ^ 14 + flagBits (s.core k).flags * 2 ^ 8 + cause) := by
    unfold trapInfo; rw [Nat.mod_eq_of_lt hcode]
  rw [takeTrap_eq h]
  generalize trapEnter s k cause code addr pc = u at hbegun
  unfold Trapped; dsimp only; rw [← hinfo]
  by_cases hvec : s.rd (coreBlock k + 2) = 0
  · obtain ⟨hrd, hothers, hld, hcore⟩ := haltTold_kept hbegun
    rw [trapForward_halted hbegun hvec, if_pos hvec, hcore]
    exact ⟨(hrd 3 (by decide) (by decide)).trans hbegun.pc, (hrd 4 (by decide) (by decide)).trans hbegun.info,
      (hrd 5 (by decide) (by decide)).trans hbegun.addr, hothers, rfl, rfl, (hld _).trans hbegun.frame.1, (hld _).trans hbegun.frame.2, rfl, haltTold_told u k⟩
  · rw [trapForward_handled hbegun hvec, if_neg hvec, core_setCore_self]
    have hkeep : ((s.core k).trapped.setG 1 (trapInfo (s.core k) cause code)).setG 2 (w40 (addr % 2 ^ 32)) =
        { (s.core k).trapped with regs := (((s.core k).trapped.setG 1 (trapInfo (s.core k) cause code)).setG 2 (w40 (addr % 2 ^ 32))).regs } := rfl
    refine ⟨hbegun.pc, hbegun.info, hbegun.addr, fun j hj => (core_setCore_ne u _ hj).trans (hbegun.others j hj), ?_, ?_, hbegun.frame.1, hbegun.frame.2,
      rfl, rfl, ?_, setG_trapped (s.core k) _ _ 1, setG_trapped (s.core k) _ _ 2, fun r h1 h2 => ?_⟩
    · rw [hkeep]; rfl
    · rw [hkeep]; rfl
    · rw [hkeep]; rfl
    · refine (setG_trapped (s.core k) _ _ r).trans ?_
      rw [if_neg h2, if_neg h1]
      split
      next h0 => rw [h0]; rfl
      next => rfl

/-- A trap of a core whose wait has ended is the trap of that core. -/
theorem Trapped.of_ended {s u t : State} {k : CoreId} {cause code addr pc : Nat} (h : Trapped u t k cause code addr pc)
    (hcore : u.core k = { s.core k with waiting := .none }) (hothers : ∀ j, j ≠ k.val → u.core j = s.core j)
    (hvec : u.rd (coreBlock k + 2) = s.rd (coreBlock k + 2)) : Trapped s t k cause code addr pc := by
  unfold Trapped at *; dsimp only at *
  rw [hcore, hvec] at h
  obtain ⟨hpc, hinfo, haddr, hrest, hin, hwait, hg1, hg2, hend⟩ := h
  exact ⟨hpc, hinfo, haddr, fun j hj => (hrest j hj).trans (hothers j hj), hin, hwait, hg1, hg2, hend⟩

/-! ### The two instructions -/

theorem respDue_undelayed {s : State} (h : Undelayed s) (a : Nat) : respDue s a = (⟨0, 0⟩, s) := by
  unfold respDue; dsimp only
  rw [if_neg]
  rintro ⟨hopen, hen, -⟩
  rcases h with h | h
  · rw [h] at hopen; cases hopen
  · rw [h] at hen; cases hen

/-- A core whose unit access has issued, with no delay of its response. -/
def accessIssued (s : State) (k : CoreId) (w : CoreWait) : State := retireWait s k { s.core k with due := ⟨0, 0⟩ } w

theorem accessIssued_issued (s : State) (k : CoreId) (w : CoreWait) :
    Issued s (accessIssued s k w) k { { s.core k with due := ⟨0, 0⟩ } with waiting := w } :=
  ⟨core_setCore_self _ _ _, fun _ hj => core_setCore_ne s _ hj, rfl⟩

theorem urd_issues {s : State} {k : CoreId} {rd rs1 : GReg} {off : BitVec 8} (hu : Undelayed s) (h : CanIssue s k [rd.val, rs1.val] true) :
    exec (.urd k rd rs1 off) s = .next (accessIssued s k (.urd rd (((s.core k).g rs1).toNat % 4096) off.toNat)) := by
  show execUrd k rd rs1 off s = _
  unfold execUrd; rw [issue_of_CanIssue _ h]; dsimp only; rw [respDue_undelayed hu]; rfl

theorem uwr_issues {s : State} {k : CoreId} {rs1 rs2 : GReg} {off : BitVec 8} (hu : Undelayed s) (h : CanIssue s k [rs1.val, rs2.val] true) :
    exec (.uwr k rs1 rs2 off) s = .next (accessIssued s k (.uwr (((s.core k).g rs1).toNat % 4096) off.toNat ((s.core k).g rs2))) := by
  show execUwr k rs1 rs2 off s = _
  unfold execUwr; rw [issue_of_CanIssue _ h]; dsimp only; rw [respDue_undelayed hu]; rfl

/-- A register's address is one of the matrix's register window (R479). -/
theorem targetOf_regs {a : Nat} (h : a < 0x10000) : targetOf (0x400000 + a) = .regs := by
  unfold targetOf
  rw [if_neg (by omega), if_neg (by omega), if_neg (by omega), if_neg (by omega), if_pos (by omega)]

theorem busRead_regs (m : Master) {a : Nat} (h : a < 0x10000) (s : State) : busRead m (0x400000 + a) s = regRead m a s := by
  unfold busRead; rw [targetOf_regs h]; dsimp only; rw [Nat.add_sub_cancel_left]

theorem busWrite_regs (m : Master) {a : Nat} (h : a < 0x10000) (w : Word) (s : State) : busWrite m (0x400000 + a) w s = regWrite m a w s := by
  unfold busWrite busWriteBy; rw [targetOf_regs h]; dsimp only; rw [Nat.add_sub_cancel_left]

/-- The response to a waiting URD. -/
theorem urdResponse_eq {s : State} {k : CoreId} {rd u o : Nat} (hw : (s.core k).waiting = .urd rd u o) (hdue : s.elapsed (s.core k).due = true)
    (hu : u < 256) (ho : o < 256) :
    let m := coreAs k (s.core k).keeper
    let r := regRead m (u * 256 + o) s
    exec (.unitAccessResponse k) s = .next (unitDone k m (0x400000 + u * 256 + o) false r.1.1 (fun c => c.setG rd r.1.2) r.2) := by
  show execUnitAccessResponse k s = _
  unfold execUnitAccessResponse; dsimp only
  rw [hdue, hw, Bool.not_true, if_neg Bool.false_ne_true]; dsimp only
  rw [Nat.add_assoc, busRead_regs _ (by omega)]

/-- The response to a waiting UWR. -/
theorem uwrResponse_eq {s t : State} {k : CoreId} {u o : Nat} {w : Word} {r : Resp} (hw : (s.core k).waiting = .uwr u o w) (hdue : s.elapsed (s.core k).due = true)
    (hu : u < 256) (ho : o < 256) (hwrite : regWrite (coreAs k (s.core k).keeper) (u * 256 + o) w s = (r, .next t)) (ht : (t.core k).waiting = .uwr u o w) :
    exec (.unitAccessResponse k) s = .next (unitDone k (coreAs k (s.core k).keeper) (0x400000 + u * 256 + o) true r (fun c => c) t) := by
  show execUnitAccessResponse k s = _
  unfold execUnitAccessResponse; dsimp only
  rw [hdue, hw, Bool.not_true, if_neg Bool.false_ne_true]; dsimp only
  rw [Nat.add_assoc, busWrite_regs _ (by omega), hwrite]; dsimp only [thenOut]
  rw [ht]

theorem loads_of_drain {c : Core} {rs : List Nat} (h : loadStall c rs true = false) : c.loads = [] := by
  unfold loadStall at h
  cases hl : c.loads with
  | nil => rfl
  | cons l ls => rw [hl] at h; simp at h

theorem regErr_of_regs {s t : State} (h : t.regs = s.regs) (m : Master) (a : Nat) (write : Bool) : regErr t m a write = regErr s m a write := by
  have hunit : unitErr t a = unitErr s a := by
    unfold unitErr domainOn; simp only [get_of_regs h, on_of_regs h]
  unfold regErr; rw [hunit]

theorem uninjected_of_lcy {s t : State} (h : t.regs = s.regs) (hlcy : tstOpen t = tstOpen s) (hu : Uninjected s) : Uninjected t := by
  unfold Uninjected at *; rw [hlcy, on_of_regs h]; exact hu

/-- An access that issued finds its register as it stood. -/
theorem accessIssued_regs (s : State) (k : CoreId) (w : CoreWait) : (accessIssued s k w).regs = s.regs := rfl

theorem accessIssued_uninjected {s : State} (k : CoreId) (w : CoreWait) (h : Uninjected s) : Uninjected (accessIssued s k w) :=
  uninjected_of_lcy (accessIssued_regs s k w) rfl h

/-- A core whose waiting URD has answered is past it. -/
theorem urd_woken {c : Core} (hwait : c.waiting = .none) (hloads : c.loads = []) (w : CoreWait) (rd : GReg) (x : Word) :
    (({ { c with due := ⟨0, 0⟩ } with waiting := w } : Core).answered (fun c => c.setG rd x) false).woken =
      ({ c with due := ⟨0, 0⟩ } : Core).result rd x { c.flags with e := false } := by
  unfold Core.answered Core.woken Core.result Core.went Core.setG
  split <;> simp [hwait, hloads]

theorem uwr_woken {c : Core} (hwait : c.waiting = .none) (hloads : c.loads = []) (w : CoreWait) :
    (({ { c with due := ⟨0, 0⟩ } with waiting := w } : Core).answered (fun c => c) false).woken =
      ({ { c with due := ⟨0, 0⟩ } with flags := { c.flags with e := false } } : Core).went (c.pc + 1) := by
  unfold Core.answered Core.woken Core.went; simp [hwait, hloads]

theorem elapsed_epoch (s : State) : s.elapsed ⟨0, 0⟩ = true := by
  unfold State.elapsed t80Le t80Units; simp

/-- The response to a waiting URD whose read is performed. -/
theorem urdResponse_performed {s : State} {k : CoreId} {rd u o : Nat} (hw : (s.core k).waiting = .urd rd u o) (hgo : GoesOn s k)
    (hdue : s.elapsed (s.core k).due = true) (hu : u < 256) (ho : o < 256) (hread : Reads s (coreAs k (s.core k).keeper) (u * 256 + o)) :
    exec (.unitAccessResponse k) s = .next ((readEnded s (u * 256 + o)).setCore k
      ((s.core k).answered (fun c => c.setG rd (regLive (readBegun s (u * 256 + o)) (u * 256 + o)).1) false).woken) := by
  have hstays := readEnded_coreStays k s (u * 256 + o)
  have hcore := hstays.core k
  rw [urdResponse_eq hw hdue hu ho, regRead_performed hread]; dsimp only
  rw [unitDone_ok _ _ _ (hstays.on.trans hgo.1) (by rw [hcore, setG_stBack]; exact hgo.2), hcore]

/-- The response to a waiting UWR whose write leaves `t` and wakes no core. -/
theorem uwrResponse_performed {s : State} {k : CoreId} {u o : Nat} {w : Word} (hw : (s.core k).waiting = .uwr u o w) (hgo : GoesOn s k)
    (hdue : s.elapsed (s.core k).due = true) (hu : u < 256) (ho : o < 256) (hwrites : Writes s (coreAs k (s.core k).keeper) (u * 256 + o) w)
    (hctl : u * 256 + o ≠ coreBlock k)
    (heff : regEffect (coreAs k (s.core k).keeper) (u * 256 + o) w (touched s (u * 256 + o)) = .next (plainWrite (touched s (u * 256 + o)) (u * 256 + o) w)) :
    exec (.unitAccessResponse k) s = .next ((plainWrite (touched s (u * 256 + o)) (u * 256 + o) w).setCore k ((s.core k).answered (fun c => c) false).woken) := by
  have htouched : CoreStays k s (touched s (u * 256 + o)) := .of_regsOnly (touched_regsOnly s _) (touched_rd s _ _ (coreBlock_plain k))
  have hstays : CoreStays k s (plainWrite (touched s (u * 256 + o)) (u * 256 + o) w) := htouched.trans (.wr _ _ hctl.symm)
  have hcore := hstays.core k
  have hwrite : regWrite (coreAs k (s.core k).keeper) (u * 256 + o) w s = (.ok, .next (plainWrite (touched s (u * 256 + o)) (u * 256 + o) w)) := by
    obtain ⟨herr, hreserved, hlegal, hinj⟩ := hwrites
    unfold regWrite
    rw [herr]; dsimp only
    rw [hreserved, hlegal, injectErr_of_uninjected hinj]
    exact congrArg (Prod.mk Resp.ok) heff
  rw [uwrResponse_eq hw hdue hu ho hwrite (by rw [hcore, hw]), unitDone_ok _ _ _ (hstays.on.trans hgo.1) (by rw [hcore]; exact hgo.2), hcore]

/-- A URD and its response (R91, R92). -/
theorem urd_then_response {s : State} {k : CoreId} {rd rs1 : GReg} {off : BitVec 8} (h : CanIssue s k [rd.val, rs1.val] true)
    {u : Nat} (hu : u < 256) (hread : Reads s (coreAs k (s.core k).keeper) (u * 256 + off.toNat)) :
    Gives (exec (.unitAccessResponse k) (accessIssued s k (.urd rd u off.toNat))) (fun v => ∃ w,
      v.core k = ({ s.core k with due := ⟨0, 0⟩ } : Core).result rd w { (s.core k).flags with e := false } ∧ (∀ j, j ≠ k.val → v.core j = s.core j) ∧
        SameMemory s v ∧ (off.toNat < 0xF0 → ShowsItsWord (u * 256 + off.toNat) →
          w = readFields (regFields (u * 256 + off.toNat)) (s.rd (u * 256 + off.toNat)))) := by
  obtain ⟨-, hrun, hwait, -, hback, hstall⟩ := h
  obtain ⟨hcore, hothers, hrest⟩ := accessIssued_issued s k (.urd rd u off.toNat)
  have hgo : GoesOn (accessIssued s k (.urd rd u off.toNat)) k := ⟨hrun, by rw [hcore]; exact hback⟩
  have ho : off.toNat < 256 := off.isLt
  have hread' : Reads (accessIssued s k (.urd rd u off.toNat)) (coreAs k ((accessIssued s k (.urd rd u off.toNat)).core k).keeper) (u * 256 + off.toNat) := by
    rw [hcore]
    exact ⟨(regErr_of_regs (accessIssued_regs _ _ _) _ _ _).trans hread.1, accessIssued_uninjected k _ hread.2⟩
  have hexec := urdResponse_performed (s := accessIssued s k (.urd rd u off.toNat)) (by rw [hcore]) hgo (by rw [hcore]; exact elapsed_epoch _) hu ho hread'
  have hstays := readEnded_coreStays k (accessIssued s k (.urd rd u off.toNat)) (u * 256 + off.toNat)
  refine ⟨_, hexec, (regLive (readBegun (accessIssued s k (.urd rd u off.toNat)) (u * 256 + off.toNat)) (u * 256 + off.toNat)).1, ?_, fun j hj => ?_,
    fun a => ?_, fun hplain hshows => ?_⟩
  · rw [core_setCore_self, hcore]; exact urd_woken hwait (loads_of_drain hstall) _ rd _
  · rw [core_setCore_ne _ _ hj, hstays.core, hothers j hj]
  · exact (ld_of_mem hstays.mem a).trans rfl
  · exact readBegun_word (s := accessIssued s k (.urd rd u off.toNat)) (by omega) hshows

/-- A UWR of a register that no unit gives an effect, and its response. -/
theorem uwr_then_response {s : State} {k : CoreId} {rs1 rs2 : GReg} {off : BitVec 8} (h : CanIssue s k [rs1.val, rs2.val] true)
    {u : Nat} (hu : u < 256) {w : Word} (hwrites : Writes s (coreAs k (s.core k).keeper) (u * 256 + off.toNat) w)
    (hctl : u * 256 + off.toNat ≠ coreBlock k) (hholds : HoldsItsWord (coreAs k (s.core k).keeper) (u * 256 + off.toNat) w) :
    Gives (exec (.unitAccessResponse k) (accessIssued s k (.uwr u off.toNat w))) (fun v =>
      v.core k = ({ { s.core k with due := ⟨0, 0⟩ } with flags := { (s.core k).flags with e := false } } : Core).went ((s.core k).pc + 1) ∧
        (∀ j, j ≠ k.val → v.core j = s.core j) ∧ SameMemory s v ∧
        (off.toNat < 0xF0 → v.rd (u * 256 + off.toNat) = writeFields (regFields (u * 256 + off.toNat)) (s.rd (u * 256 + off.toNat)) w)) := by
  obtain ⟨-, hrun, hwait, -, hback, hstall⟩ := h
  obtain ⟨hcore, hothers, hrest⟩ := accessIssued_issued s k (.uwr u off.toNat w)
  have hgo : GoesOn (accessIssued s k (.uwr u off.toNat w)) k := ⟨hrun, by rw [hcore]; exact hback⟩
  have ho : off.toNat < 256 := off.isLt
  have hkeeper : ((accessIssued s k (.uwr u off.toNat w)).core k).keeper = (s.core k).keeper := by rw [hcore]
  have hwrites' : Writes (accessIssued s k (.uwr u off.toNat w)) (coreAs k ((accessIssued s k (.uwr u off.toNat w)).core k).keeper) (u * 256 + off.toNat) w := by
    obtain ⟨herr, hreserved, hlegal, hinj⟩ := hwrites
    rw [hkeeper]
    exact ⟨(regErr_of_regs (accessIssued_regs _ _ _) _ _ _).trans herr, hreserved, hlegal, accessIssued_uninjected k _ hinj⟩
  have hexec := uwrResponse_performed (s := accessIssued s k (.uwr u off.toNat w)) (by rw [hcore]) hgo (by rw [hcore]; exact elapsed_epoch _) hu ho hwrites' hctl
    (by rw [hkeeper]; exact hholds _)
  have hregs := touched_regsOnly (accessIssued s k (.uwr u off.toNat w)) (u * 256 + off.toNat)
  refine ⟨_, hexec, ?_, fun j hj => ?_, fun a => ?_, fun hplain => ?_⟩
  · rw [core_setCore_self, hcore]; exact uwr_woken hwait (loads_of_drain hstall) _
  · rw [core_setCore_ne _ _ hj]; exact (core_of_cores hregs.cores j).trans (hothers j hj)
  · exact ld_of_mem hregs.mem a
  · exact (rd_wr_self _ _ _).trans (by rw [touched_rd _ _ _ (by omega)]; rfl)

/-! ### A response that errs -/

theorem regRead_err {s : State} {m : Master} {a e : Nat} (h : regErr s m a false = some e) : regRead m a s = ((.err e, 0), errTally s e a) := by
  unfold regRead; rw [h]; rfl

theorem errTally_coreStays (k : CoreId) (s : State) (e a : Nat) : CoreStays k s (errTally s e a) :=
  .of_regsOnly (errTally_regsOnly s e a) (errTally_rd s e a (coreBlock_plain k))

theorem GoesOn.of_coreStays {s t : State} {k : CoreId} (h : GoesOn s k) (hst : CoreStays k s t) : GoesOn t k :=
  ⟨hst.on.trans h.1, by rw [hst.core]; exact h.2⟩

/-- A URD that errs answers 0 (R92). -/
theorem urdResponse_err {s : State} {k : CoreId} {rd : GReg} {u o e : Nat} (hw : (s.core k).waiting = .urd rd u o) (hgo : GoesOn s k)
    (hdue : s.elapsed (s.core k).due = true) (hu : u < 256) (ho : o < 256) (herr : regErr s (coreAs k (s.core k).keeper) (u * 256 + o) false = some e)
    (he : e ≠ 1) : Gives (exec (.unitAccessResponse k) s) (fun t =>
      Awake t k { (s.core k).setG rd 0 with flags := { (s.core k).flags with e := true } } ∧ t.on MTX_EVENTS_err = true) := by
  have hstays := errTally_coreStays k s e (u * 256 + o)
  have hshows := unitDone_err_shows (f := fun c => c.setG rd 0) (coreAs k (s.core k).keeper) (0x400000 + u * 256 + o) false (hgo.of_coreStays hstays)
    (setG_stBack _ _ _) he
  rw [hstays.core] at hshows
  exact ⟨_, (urdResponse_eq hw hdue hu ho).trans (by rw [regRead_err herr]), hshows⟩

/-- A User's access of a Keeper register ends in the trap (R92, R105). -/
theorem unitDone_trapped {s t : State} {k : CoreId} (m : Master) (addr : Nat) (write : Bool) (f : Core → Core) (ht : ∀ j, t.core j = s.core j)
    (hvec : t.rd (coreBlock k + 2) = s.rd (coreBlock k + 2)) (hin : (s.core k).inTrap = false) :
    Trapped s (unitDone k m addr write (.err 1) f t) k 5 1 addr (s.core k).pc := by
  have hcore : ∀ j, (mtxErr t m 1 addr write).core j = s.core j := fun j => ((mtxErr_coreStays k t m 1 addr write).core j).trans (ht j)
  have hrec : (mtxErr t m 1 addr write).rd (coreBlock k + 2) = s.rd (coreBlock k + 2) := by
    obtain ⟨hplain, -, -⟩ := coreReg_plain k (i := 2) (by decide)
    have hunit := coreBlock_unit k
    exact (mtxRecord_rd _ _ _ _ _ _ _ (by have := k.isLt; omega) hplain).trans hvec
  unfold unitDone noteResp; dsimp only
  rw [if_pos rfl, hcore]
  generalize mtxErr t m 1 addr write = v at hcore hrec
  have hended : (v.setCore k { s.core k with waiting := .none }).core k = { s.core k with waiting := .none } := core_setCore_self _ _ _
  exact Trapped.of_ended (takeTrap_trapped (s := v.setCore k { s.core k with waiting := .none }) (by rw [hended]; exact hin) (by decide) _ _ _) hended
    (fun j hj => (core_setCore_ne v _ hj).trans (hcore j)) ((rd_of_regs (State.setCore_regs _ _ _) _).trans hrec)

theorem uwrResponse_trapped {s : State} {k : CoreId} {u o : Nat} {w : Word} (hw : (s.core k).waiting = .uwr u o w) (hin : (s.core k).inTrap = false)
    (hdue : s.elapsed (s.core k).due = true) (hu : u < 256) (ho : o < 256) (herr : regErr s (coreAs k (s.core k).keeper) (u * 256 + o) true = some 1) :
    Gives (exec (.unitAccessResponse k) s) (fun t => Trapped s t k 5 1 (0x400000 + (u * 256 + o)) (s.core k).pc) := by
  have htally := errTally_coreStays k s 1 (u * 256 + o)
  have hwrite : regWrite (coreAs k (s.core k).keeper) (u * 256 + o) w s = (.err 1, .next (errTally s 1 (u * 256 + o))) := by
    unfold regWrite; rw [herr]; rfl
  rw [← Nat.add_assoc]
  exact ⟨_, uwrResponse_eq hw hdue hu ho hwrite (by rw [htally.core, hw]),
    unitDone_trapped _ _ _ _ htally.core (errTally_rd _ _ _ (coreReg_plain k (i := 2) (by decide)).1) hin⟩

/-- An access that its unit's wrapper has ended (R25): the register of a URD is 0. -/
theorem endedResponse {s : State} {k : CoreId} {rd : Option Nat} {u o : Nat} (hw : (s.core k).waiting = .unitErr rd u o) (hgo : GoesOn s k)
    (hdue : s.elapsed (s.core k).due = true) (f : Core → Core) (hf : ∀ c, f c = match rd with | some r => c.setG r 0 | none => c) :
    Gives (exec (.unitAccessResponse k) s) (fun t => Awake t k ((s.core k).answered f true) ∧ t.on MTX_EVENTS_err = true) := by
  have hexec : exec (.unitAccessResponse k) s = .next (unitDone k (coreAs k (s.core k).keeper) (0x400000 + u * 0x100 + o) rd.isNone
      (.err ((unitErr s (u * 0x100)).getD 2)) f s) := by
    rw [funext hf]
    show execUnitAccessResponse k s = _
    unfold execUnitAccessResponse; dsimp only
    rw [hdue, Bool.not_true, if_neg Bool.false_ne_true]
    cases rd with
    | none => simp only [hw]
    | some r => simp only [hw]
  have hback : (f (s.core k)).stBack = (s.core k).stBack := by
    rw [hf]; cases rd with
    | none => rfl
    | some r => exact setG_stBack _ _ _
  exact ⟨_, hexec, unitDone_err_shows (coreAs k (s.core k).keeper) (0x400000 + u * 0x100 + o) rd.isNone hgo hback (unitErr_ne_privilege s (u * 0x100))⟩

/-! ### The read of a unit's own ID -/

theorem unitId_not_hi (u : Nat) : hiRegs.contains (UNIT_ID u) = false := by
  rw [← Bool.not_eq_true, List.contains_iff_mem]
  intro h
  have hall : ∀ a ∈ hiRegs, a % 256 ≠ 0xF0 := by decide
  exact hall _ h (by unfold UNIT_ID; omega)

theorem unitId_prepare (s : State) (u : Nat) : regPrepare s (UNIT_ID u) = s := by
  have hport : ∀ p : Nat, p ∈ List.range 4 → ¬ decide (UNIT_ID u = LPp_TSQ_ID p) = true := fun p _ h => by
    have := of_decide_eq_true h; unfold UNIT_ID LPp_TSQ_ID at this; omega
  unfold regPrepare
  rw [unitId_not_hi, if_neg Bool.false_ne_true, List.find?_eq_none.2 hport]

theorem unitId_ne (u : Nat) {b : Nat} (h : b % 256 ≠ 0xF0) : UNIT_ID u ≠ b := fun e => h (by rw [← e]; unfold UNIT_ID; omega)

theorem unitId_block (u : Nat) : blockCore (UNIT_ID u) = none := by
  unfold blockCore UNIT_ID; dsimp only
  rw [if_neg (by omega), if_neg (by omega)]

theorem unitId_fifo (s : State) (u : Nat) : fifoLive s (UNIT_ID u) = none := by
  have hne : ∀ b, b % 256 ≠ 0xF0 → UNIT_ID u ≠ b := fun _ => unitId_ne u
  unfold fifoLive; dsimp only
  rw [if_neg (hne _ (by decide)), if_neg (hne _ (by decide)), if_neg (hne _ (by decide)), if_neg (hne _ (by decide)), if_neg (hne _ (by decide))]

/-- UNIT_ID shows what it holds. -/
theorem unitId_live (s : State) (u : Nat) : regLive s (UNIT_ID u) = (readFields (regFields (UNIT_ID u)) (s.rd (UNIT_ID u)), s) := by
  have hne : ∀ b, b % 256 ≠ 0xF0 → UNIT_ID u ≠ b := fun _ => unitId_ne u
  have hoff : UNIT_ID u % 256 = 0xF0 := by unfold UNIT_ID; omega
  unfold regLive
  rw [unitId_block]; dsimp only
  rw [if_neg (hne TB_SLEW_REM (by decide)), if_neg (hne TB_STATUS (by decide)), if_neg (hne TB_RESET_T_LO (by decide)), if_neg (hne SKB_STATUS (by decide)),
    if_neg (hne SKB_REPORTS (by decide)), if_neg (hne GNS_BANK_LIST (by decide)), if_neg (hne GNS_BANK_AID (by decide)), if_neg (hne GNS_CH_CTL (by decide)),
    if_neg (hne GNS_CH_AID (by decide)), if_neg (hne GNS_CH_STATUS (by decide)), if_neg (hne GNS_KEEP_DATA (by decide)), if_neg (hne KV_H_INFO (by decide)),
    if_neg (hne ATL_RT_DATA (by decide)), if_neg (hne (TDCn_CDT_DATA 0) (by decide)), if_neg (hne (TDCn_CDT_DATA 1) (by decide)), if_neg (by omega),
    if_neg (hne MEM_STATUS (by decide)), if_neg (hne FIX_SRC (by decide)), if_neg (hne TLY_BUF_DATA (by decide)), if_neg (hne TLY_SLOT_DATA (by decide)),
    if_neg (by omega), if_neg (by omega), unitId_fifo]

theorem unitId_fields {u d : Nat} (h : unitDomain u = some d) : regFields (UNIT_ID u) = [fd 11 0 .ro] := by
  have hunit : UNIT_ID u / 256 = u := by unfold UNIT_ID; omega
  have hoff : UNIT_ID u % 256 = 0xF0 := by unfold UNIT_ID; omega
  have hreg : regD (UNIT_ID u) = some (rg 0xF0 [fd 11 0 .ro]) := by
    unfold regD unitRegs; rw [hunit, hoff, if_neg (by decide), h]; rfl
  unfold regFields; rw [hreg]; rfl

/-- A unit's ID field holds the unit's number. -/
theorem unitId_word {u : Nat} (h : u < 4096) : readFields [fd 11 0 .ro] (w40 u) = w40 u := by
  have hfield : fieldOf (w40 u) 11 0 = u := by
    unfold fieldOf bitsOf w40; rw [BitVec.toNat_ofNat, Nat.shiftRight_zero]; omega
  unfold readFields sumFields
  simp only [List.foldl_cons, List.foldl_nil, fd, hfield]
  simp [Nat.mod_eq_of_lt h]

/-- The response to a URD of a unit's ID (R26). -/
theorem unitIdResponse {s : State} {k : CoreId} {rd : GReg} {u : Nat} (hw : (s.core k).waiting = .urd rd u 0xF0) (hgo : GoesOn s k)
    (hdue : s.elapsed (s.core k).due = true) (hu : u < 256) (hread : Reads s (coreAs k (s.core k).keeper) (UNIT_ID u)) (hid : s.rd (UNIT_ID u) = w40 u) :
    Gives (exec (.unitAccessResponse k) s) (fun t => Awake t k { (s.core k).setG rd (w40 u) with flags := { (s.core k).flags with e := false } }) := by
  have hdomain : ∃ d, unitDomain u = some d := by
    have hunit : UNIT_ID u / 256 = u := by unfold UNIT_ID; omega
    have herr := hread.1
    unfold regErr unitErr at herr; rw [hunit] at herr
    cases hd : unitDomain u with
    | none => rw [hd] at herr; cases herr
    | some d => exact ⟨d, rfl⟩
  obtain ⟨d, hd⟩ := hdomain
  have hrd : (readBegun s (UNIT_ID u)).rd (UNIT_ID u) = w40 u := by
    unfold readBegun
    rw [unitId_prepare, ← hid]
    unfold touchedByRead startClock
    rw [tally_rd _ _ _ _ (fun i _ => by unfold UNIT_ID UNIT_TALLY; omega), if_pos (by unfold UNIT_ID; omega)]
  have hword : (regLive (readBegun s (UNIT_ID u)) (UNIT_ID u)).1 = w40 u := by
    rw [unitId_live, hrd, unitId_fields hd]; exact unitId_word (by omega)
  have hexec := urdResponse_performed hw hgo hdue hu (by decide) hread
  refine ⟨_, hexec, ?_⟩
  rw [show u * 256 + 0xF0 = UNIT_ID u from rfl, hword]
  exact core_setCore_self _ _ _

/-! ### The obligation -/

/-- Settles O17: what a performed access leaves by `readEnded` and `plainWrite`, what an erring one records, and the trap of a privilege error. -/
theorem unitInstructions : Obligations.UnitInstructions := by
  unfold Obligations.UnitInstructions
  intro s k rd rs1 rs2 off c u d hdelay
  refine ⟨fun h => ⟨_, urd_issues hdelay h, accessIssued_issued s k _⟩, fun h => ⟨_, uwr_issues hdelay h, accessIssued_issued s k _⟩, fun hu => ?_,
    fun rd u o hw hgo hdue => ?_, fun unit o w hunit ho hgo hdue => ?_⟩
  · exact ⟨fun h hread => ⟨_, urd_issues hdelay h, urd_then_response h hu hread⟩,
      fun h hwrites hctl hholds => ⟨_, uwr_issues hdelay h, uwr_then_response h hu hwrites hctl hholds⟩⟩
  · cases rd with
    | none => exact endedResponse hw hgo hdue (fun c => c) (fun _ => rfl)
    | some r => exact endedResponse hw hgo hdue (fun c => c.setG r 0) (fun _ => rfl)
  · refine ⟨fun hw hread hoff hid => ?_, fun hw e herr he => urdResponse_err hw hgo hdue hunit ho herr he, fun hw hwrites hctl heff => ?_,
      fun hw hin herr => uwrResponse_trapped hw hin hdue hunit ho herr⟩
    · subst hoff; exact unitIdResponse hw hgo hdue hunit hread hid
    · exact ⟨_, uwrResponse_performed hw hgo hdue hunit ho hwrites hctl heff, core_setCore_self _ _ _, rd_wr_self _ _ _⟩

end Sys2Proof.Machine
end

section
/-! PROOF. The answers of offers, the mailbox's answer, and what a FATAL source leaves of the ledger of a unit that is not active. -/

namespace Sys2Proof.Machine

/-! ### The ledger beside the answers -/

/-- Memory, the slots of the state table, and which slots the offers hold, are as before. -/
structure LedgerStays (s t : State) : Prop where
  mem : t.mem = s.mem
  slots : t.skb.slots = s.skb.slots
  offers : t.skb.offers.map Offer.slot = s.skb.offers.map Offer.slot

namespace LedgerStays
variable {s t u : State}

theorem refl (s : State) : LedgerStays s s := ⟨rfl, rfl, rfl⟩

theorem trans (h : LedgerStays s t) (k : LedgerStays t u) : LedgerStays s u := ⟨k.mem.trans h.mem, k.slots.trans h.slots, k.offers.trans h.offers⟩

/-- A step that reaches neither memory nor the Sketchbook. -/
theorem of_skb (hmem : t.mem = s.mem) (hskb : t.skb = s.skb) : LedgerStays s t := ⟨hmem, by rw [hskb], by rw [hskb]⟩

theorem of_regsOnly (h : RegsOnly s t) : LedgerStays s t := of_skb h.mem h.skb

theorem led (h : LedgerStays s t) (i : Nat) : t.led i = s.led i := by unfold State.led; rw [h.slots]

theorem inNear (h : LedgerStays s t) (i : Nat) : inNear t i = inNear s i := by unfold Machine.inNear; rw [h.led, h.slots]

theorem foldl {α : Type} {f : State → α → State} (hf : ∀ t a, LedgerStays t (f t a)) (l : List α) (s : State) : LedgerStays s (l.foldl f s) := by
  induction l generalizing s with
  | nil => exact refl s
  | cons a l ih => exact (hf s a).trans (ih (f s a))

end LedgerStays

theorem mbxIrq_ledger (s : State) (bit : Nat) : LedgerStays s (mbxIrq s bit) := by
  have h : LedgerStays s (s.event MBX_IRQ bit) := .of_regsOnly (event_regsOnly _ _ _)
  unfold mbxIrq; dsimp only; split
  · exact h.trans (.of_skb rfl rfl)
  · exact h

/-- A command's end frees the offers that it asked of their asker, and no slot of theirs. -/
theorem mbxFinish_ledger (s : State) (status : Nat) (res : List Word) : LedgerStays s (mbxFinish s status res) := by
  unfold mbxFinish
  split
  · exact .refl s
  extract_lets seq head slots slots' mbx skb kv s₁ s₂ s₃ s₄ s₅ s₆
  have h₁ : LedgerStays s s₁ := by
    refine ⟨rfl, rfl, ?_⟩
    show (s.skb.offers.map _).map Offer.slot = _
    rw [List.map_map]
    refine List.map_congr_left fun o _ => ?_
    show (if o.asker = Asker.mailbox then { o with asker := Asker.nobody } else o).slot = o.slot
    split <;> rfl
  have h₅ : LedgerStays s s₅ := h₁.trans (.of_regsOnly (((put_regsOnly s₁ _ _).trans (put_regsOnly _ _ _)).trans ((put_regsOnly _ _ _).trans (put_regsOnly _ _ _))))
  refine LedgerStays.trans ?_ (mbxIrq_ledger _ _)
  unfold s₆; split
  · exact h₅.trans (.of_regsOnly (inc_regsOnly _ _))
  · exact h₅

theorem mbxState_ledger (s : State) (st : Nat) : LedgerStays s (mbxState s st) := by
  unfold mbxState
  extract_lets old s₁ s₂ s₃
  split
  · exact .refl s
  have h₁ : LedgerStays s s₁ := (LedgerStays.of_regsOnly (put_regsOnly s _ _)).trans (mbxIrq_ledger _ _)
  have h₂ : LedgerStays s s₂ := by
    unfold s₂; split
    · exact h₁.trans (.of_regsOnly (put_regsOnly s₁ _ _))
    · exact h₁
  have h₃ : LedgerStays s s₃ := by
    unfold s₃; split
    · exact h₂.trans (LedgerStays.trans (t := s₂.free.2.free.2) (.of_skb rfl rfl) (.of_regsOnly ((put_regsOnly _ _ _).trans (put_regsOnly _ _ _))))
    · exact h₂
  split
  · exact h₃
  · exact h₃.trans (mbxFinish_ledger _ _ _)

theorem mbxQueue_ledger (s : State) (e : Nat) : LedgerStays s (mbxQueue s e) := by
  unfold mbxQueue; dsimp only; split
  · split
    · exact mbxState_ledger _ _
    · exact .refl s
  · split
    · exact .refl s
    · exact mbxState_ledger _ _
  · exact mbxState_ledger _ _
  · split
    · exact mbxState_ledger _ _
    · exact .refl s
  · split
    · exact mbxState_ledger _ _
    · exact .refl s

theorem countAnswer_regsOnly (s : State) (code : Nat) : RegsOnly s (countAnswer s code) := by
  unfold countAnswer; split_ifs
  · exact inc_regsOnly _ _
  · exact inc_regsOnly _ _
  · exact (inc_regsOnly s SKB_CNT_FULL_count).trans (event_regsOnly _ _ _)
  · exact inc_regsOnly _ _
  · rfl

theorem kvAnswered_ledger (s : State) (slot code seq : Nat) : LedgerStays s (kvAnswered s slot code seq) := by
  unfold kvAnswered
  extract_lets u waits kv s₁ s₂ kv' s₃
  clear_value u
  have h₁ : LedgerStays s s₁ := by
    unfold s₁; split
    · exact .of_skb rfl rfl
    · exact .refl s
  have h₂ : LedgerStays s s₂ := by
    unfold s₂; split
    · exact h₁.trans (.of_regsOnly ((put_regsOnly _ _ _).trans (put_regsOnly _ _ _)))
    · exact h₁
  have h₃ : LedgerStays s s₃ := h₁.trans (.of_skb rfl rfl)
  by_cases hcode : code ≤ 1
  · rw [if_pos hcode]
    split
    · exact h₂.trans (mbxFinish_ledger _ _ _)
    · exact h₂
  · rw [if_neg hcode]
    split
    · exact h₃.trans (mbxFinish_ledger _ _ _)
    · exact h₃

theorem answerOffer_ledger (s : State) (o : Offer) (code seq : Nat) (late : Bool) : LedgerStays s (answerOffer s o code seq late) := by
  have h : LedgerStays s (countAnswer s code) := .of_regsOnly (countAnswer_regsOnly s code)
  unfold answerOffer; dsimp only; split
  · split
    · exact h.trans (.of_skb rfl rfl)
    · exact h
  · split
    · exact h.trans (mbxFinish_ledger _ _ _)
    · exact h
  · exact h.trans (kvAnswered_ledger _ _ _ _)
  · split
    · exact h.trans (.of_skb rfl rfl)
    · exact h
  · exact h

/-! ### A FATAL source of a unit that is not active -/

theorem giveUpAt_inactive (t : T80) {s : State} (h : twActive s = false) : giveUpAt t s = s := by
  unfold giveUpAt; rw [h, if_neg Bool.false_ne_true]

theorem Within.twActive {U : List Nat} {s t : State} (h : Within U s t) (hU : 0x0DA ∉ U := by decide) : twActive t = twActive s :=
  twActive_of_rd (h.rd TW_CFG (by decide) hU) (h.rd TW_STATUS (by decide) hU)

theorem markFirstFatal_regsOnly (s : State) (named : Option Nat) : RegsOnly s (markFirstFatal s named) := by
  have hsweep : RegsOnly s (s.regs.foldl clearFirst s) := by
    suffices h : ∀ (l : List (Nat × Word)) (t : State), RegsOnly t (l.foldl clearFirst t) from h _ _
    intro l
    induction l with
    | nil => exact fun t => rfl
    | cons e l ih =>
      intro t
      refine RegsOnly.trans ?_ (ih (clearFirst t e))
      unfold clearFirst; split
      · exact put_regsOnly _ _ _
      · rfl
  rw [markFirstFatal_eq]
  cases named with
  | none => exact hsweep
  | some u => exact hsweep.trans (put_regsOnly _ _ _)

theorem putT_regsOnly (s : State) (hi lo : Nat) (t : T80) : RegsOnly s (s.putT hi lo t) := rfl

theorem fatalRecord_regsOnly (s : State) (n : Nat) (named : Option Nat) : RegsOnly s (fatalRecord s n named) :=
  ((wr_regsOnly _ _ _).trans (putT_regsOnly _ _ _ _)).trans (markFirstFatal_regsOnly _ named)

theorem stopExecutors_ledger (s : State) : LedgerStays s (stopExecutors s) := by
  unfold stopExecutors; dsimp only; split
  · exact ⟨rfl, rfl, rfl⟩
  · exact ⟨rfl, rfl, rfl⟩

theorem safeMark_ledger (t : T80) (s : State) (k : Nat) : LedgerStays s (safeMark t s k) := by
  unfold safeMark; split
  · exact .refl s
  · exact .of_skb rfl rfl

theorem fatalReact_ledger {s : State} (n : Nat) (named : Option Nat) (h : twActive s = false) : LedgerStays s (fatalReact s n named) := by
  have hactive : twActive (stopExecutors (fatalRecord s n named)) = false := by
    have hw : Affects [0x0F0, 0x004] s (stopExecutors (fatalRecord s n named)) := (fatalRecord_affects s n named).trans (stopExecutors_affects _)
    rw [hw.within.twActive]; exact h
  have hgive : giveUp (stopExecutors (fatalRecord s n named)) = stopExecutors (fatalRecord s n named) := giveUpAt_inactive _ hactive
  unfold fatalReact; dsimp only; rw [hgive]
  exact ((LedgerStays.of_regsOnly (fatalRecord_regsOnly s n named)).trans (stopExecutors_ledger _)).trans
    (LedgerStays.foldl (fun t k => safeMark_ledger _ t k) _ _)

theorem fatalFirst_ledger {s : State} {n : Nat} (named : Option Nat) (hn : n < 256) (h : twActive s = false) : LedgerStays s (fatalFirst s n named) := by
  have hset : twActive (fatalSet (markSrc s n)) = false := by
    have hregs : (fatalSet (markSrc s n)).regs = (markSrc s n).regs := rfl
    have hmark : twActive (markSrc s n) = twActive s := (markSrc_affects (U := [0x0F0]) s hn).within.twActive
    rw [twActive_of_rd (rd_of_regs hregs _) (rd_of_regs hregs _), hmark, h]
  have hreact := fatalReact_ledger n named hset
  unfold fatalFirst
  exact ⟨hreact.mem, hreact.slots, hreact.offers⟩

/-- A FATAL source leaves the ledger of a unit that is not active: it gives nothing up (R509). -/
theorem fatalEnter_ledger {s : State} {n : Nat} (named : Option Nat) (hn : n < 256) (h : twActive s = false) : LedgerStays s (fatalEnter s n named) := by
  cases hf : s.fix.fatal with
  | false =>
    rw [show fatalEnter s n named = mbxQueue (fatalFirst s n named) 2 from fatalEnter_first n named hf]
    exact (fatalFirst_ledger named hn h).trans (mbxQueue_ledger _ _)
  | true =>
    have hmark : LedgerStays s (markSrc s n) := .of_skb rfl rfl
    rcases fatalEnter_again n named hf with e | e
    · rw [e]; exact hmark
    · rw [e]; exact hmark.trans (.of_regsOnly ((wr_regsOnly _ _ _).trans (markFirstFatal_regsOnly _ _)))

/-! ### The mailbox's answer -/

/-- A table of the values that are not 0 reads as the function that it lists. -/
theorem tabGet_filter_nonzero (f : Nat → BitVec 64) (l : List Nat) (i : Nat) :
    tabGet (fun _ => 0) ((l.map (fun i => (i, f i))).filter (fun e => decide (e.2 ≠ 0))) i = if i ∈ l then f i else 0 := by
  induction l with
  | nil => rfl
  | cons j l ih =>
    rw [List.map_cons, List.filter_cons]
    by_cases hj : j = i
    · subst hj
      by_cases h0 : f j = 0
      · rw [if_neg (by simp [h0]), ih, h0]; simp
      · rw [if_pos (decide_eq_true h0)]; simp [tabGet]
    · have hmem : (i ∈ j :: l) ↔ i ∈ l := by simp [Ne.symm hj]
      rw [if_congr hmem rfl rfl, ← ih]
      split
      · simp only [tabGet]; rw [if_neg hj]
      · rfl

/-- The word in a response slot (R118). -/
def respValue (seq status : Nat) (res : List Word) (i : Nat) : BitVec 64 :=
  BitVec.ofNat 64 (seq * 2 ^ 40 + (res.getD i 0).toNat + (if i = 0 then 2 ^ 63 + status * 2 ^ 56 + res.length * 2 ^ 48 else 0))

/-- What the end of a command leaves of the mailbox's own state. -/
def mbxEnded (s : State) (status : Nat) (res : List Word) : State :=
  { s with
    mbx := { s.mbx with resp := ((List.range 64).map (fun i => (i, respValue (s.get MBX_DOORBELL_seq) status res i))).filter (fun e => decide (e.2 ≠ 0)),
                        cmd := [], started := false, image := [], section_ := 0 },
    skb := { s.skb with offers := s.skb.offers.map (fun (o : Offer) => if o.asker = Asker.mailbox then { o with asker := .nobody } else o) },
    kv := { s.kv with updWaits := none } }

/-- MBX_STATUS at the end of a command. -/
def statusEnded (s : State) (status seq : Nat) : State :=
  (((s.put MBX_STATUS_busy 0).put MBX_STATUS_resp_valid 1).put MBX_STATUS_last_status status).put MBX_STATUS_last_seq seq

theorem mbxFinish_eq {s : State} (status : Nat) (res : List Word) (h : s.on MBX_STATUS_busy = true) :
    mbxFinish s status res = mbxIrq (if status = 1 then (statusEnded (mbxEnded s status res) status (s.get MBX_DOORBELL_seq)).inc MBX_REFUSED_refused
      else statusEnded (mbxEnded s status res) status (s.get MBX_DOORBELL_seq)) 0 := by
  unfold mbxFinish; rw [h, Bool.not_true, if_neg Bool.false_ne_true]; rfl

theorem mbxIrq_mbx (s : State) (bit : Nat) : (mbxIrq s bit).mbx = s.mbx := by
  unfold mbxIrq; dsimp only; split
  · exact State.event_mbx _ _ _
  · exact State.event_mbx _ _ _

theorem statusEnded_shows (s : State) {status : Nat} (seq : Nat) (h : status < 128) :
    (statusEnded s status seq).on MBX_STATUS_busy = false ∧ (statusEnded s status seq).on MBX_STATUS_resp_valid = true ∧
      (statusEnded s status seq).get MBX_STATUS_last_status = status := by
  have hok : MBX_STATUS_busy.ok ∧ MBX_STATUS_resp_valid.ok ∧ MBX_STATUS_last_status.ok ∧ MBX_STATUS_last_seq.ok := by unfold Fld.ok; decide
  obtain ⟨hbusy, hvalid, hstatus, hseq⟩ := hok
  unfold statusEnded
  refine ⟨?_, ?_, ?_⟩
  · rw [on_put_bits _ _ MBX_STATUS_busy _ hseq (by decide), on_put_bits _ _ MBX_STATUS_busy _ hstatus (by decide),
      on_put_bits _ _ MBX_STATUS_busy _ hvalid (by decide)]
    exact on_putB_self s MBX_STATUS_busy false hbusy
  · rw [on_put_bits _ _ MBX_STATUS_resp_valid _ hseq (by decide), on_put_bits _ _ MBX_STATUS_resp_valid _ hstatus (by decide)]
    exact on_putB_self _ MBX_STATUS_resp_valid true hvalid
  · rw [get_put_bits _ _ MBX_STATUS_last_status _ hseq (by decide), get_put_self _ _ _ hstatus]
    exact Nat.mod_eq_of_lt h

/-- The response words are read back as they were filled in. -/
theorem respWord_ended {s t : State} {status : Nat} {res : List Word} (h : t.mbx = (mbxEnded s status res).mbx) {i : Nat} (hi : i < 64) :
    respWord t i = (respValue (s.get MBX_DOORBELL_seq) status res i).toNat := by
  unfold respWord; rw [h]
  show (tabGet (fun _ => 0) (((List.range 64).map (fun i => (i, respValue (s.get MBX_DOORBELL_seq) status res i))).filter (fun e => decide (e.2 ≠ 0))) i).toNat = _
  rw [tabGet_filter_nonzero, if_pos (List.mem_range.2 hi)]

theorem respValue_head {seq status : Nat} {res : List Word} (hseq : seq < 256) (hstatus : status < 128) (hres : res.length < 256) :
    (respValue seq status res 0).toNat / 2 ^ 63 = 1 ∧ (respValue seq status res 0).toNat / 2 ^ 56 % 128 = status ∧
      (respValue seq status res 0).toNat / 2 ^ 48 % 256 = res.length := by
  have hword : (res.getD 0 0).toNat < 2 ^ 40 := (res.getD 0 0).isLt
  unfold respValue
  rw [if_pos rfl, BitVec.toNat_ofNat]
  generalize (res.getD 0 0).toNat = w at hword
  omega

theorem respValue_word (seq status : Nat) {res : List Word} {i : Nat} (hi : i < res.length) : (respValue seq status res i).toNat % 2 ^ 40 = (res[i]).toNat := by
  have hget : res.getD i 0 = res[i] := List.getD_eq_getElem _ _ hi
  have hword : (res[i]).toNat < 2 ^ 40 := (res[i]).isLt
  unfold respValue
  rw [hget, BitVec.toNat_ofNat]
  generalize (res[i]).toNat = w at hword
  split <;> omega

/-- A command that runs ends with its status and result words (R118, R121). -/
theorem mbxFinish_answered {s : State} {status : Nat} {res : List Word} (hbusy : s.on MBX_STATUS_busy = true) (hstatus : status < 128) (hres : res.length ≤ 64) :
    Answered (mbxFinish s status res) status res := by
  have hseq : s.get MBX_DOORBELL_seq < 256 := fieldOf_lt _ _ _
  have hmbx : (mbxFinish s status res).mbx = (mbxEnded s status res).mbx := by
    rw [mbxFinish_eq status res hbusy, mbxIrq_mbx]; split <;> rfl
  have hrd : ∀ b, b % 256 < 0xF0 → b ≠ MBX_IRQ → b ≠ MBX_REFUSED → (mbxFinish s status res).rd b =
      (statusEnded (mbxEnded s status res) status (s.get MBX_DOORBELL_seq)).rd b := fun b hb hirq hrefused => by
    rw [mbxFinish_eq status res hbusy, mbxIrq_rd _ _ hb hirq]
    split
    · exact rd_put_ne _ MBX_REFUSED_refused _ hrefused
    · rfl
  obtain ⟨hidle, hvalid, hlast⟩ := statusEnded_shows (mbxEnded s status res) (s.get MBX_DOORBELL_seq) hstatus
  have hstat := hrd MBX_STATUS (by decide) (by decide) (by decide)
  obtain ⟨h63, h56, h48⟩ := respValue_head (res := res) hseq hstatus (by omega)
  refine ⟨?_, ?_, ?_, ?_, ?_, ?_, ?_, fun i hi => ?_⟩
  · unfold State.on State.get at *; exact (congrArg (fun w => decide (fieldOf w 0 0 ≠ 0)) hstat).trans hidle
  · unfold State.on State.get at *; exact (congrArg (fun w => decide (fieldOf w 1 1 ≠ 0)) hstat).trans hvalid
  · unfold State.get at *; exact (congrArg (fun w => fieldOf w 22 16) hstat).trans hlast
  · rw [mbxFinish_eq status res hbusy]; exact mbxIrq_raised _ (by decide)
  · rw [respWord_ended hmbx (by decide)]; exact h63
  · rw [respWord_ended hmbx (by decide)]; exact h56
  · rw [respWord_ended hmbx (by decide)]; exact h48
  · rw [respWord_ended hmbx (by omega)]; exact respValue_word _ _ hi

end Sys2Proof.Machine
end

section
/-! PROOF. The ledger in DRAM and its recovery (O30). -/

namespace Sys2Proof.Machine

/-! ### A write of a slot and of its burst -/

theorem slotWords_length (x : Slot) : (slotWords x).length = 6 := rfl

/-- A slot's words in DRAM after they are stored. -/
theorem ledgerStore_ld (s : State) (i b : Nat) : (ledgerStore s i).ld b =
    if slotAddr s i ≤ b ∧ b < slotAddr s i + 6 then (slotWords (s.led i)).getD (b - slotAddr s i) 0 else s.ld b := by
  unfold ledgerStore
  split
  next h =>
    have hlt : b - slotAddr s i < (slotWords (s.led i)).length := by rw [slotWords_length]; omega
    rw [List.getD_eq_getElem _ _ hlt, ← ld_stN_inside (slotWords (s.led i)) s (slotAddr s i) (b - slotAddr s i) hlt,
      Nat.add_sub_cancel' h.1]
  next h => exact ld_stN_outside _ _ _ _ (by rw [slotWords_length]; omega)

/-- The other slot of a burst (R149). -/
def burstMate (i : Nat) : Nat := if i % 2 = 0 then i + 1 else i - 1

theorem burstMate_ne (i : Nat) : burstMate i ≠ i := by unfold burstMate; split <;> omega

/-- The word at `b` of a burst as a write of slot `i` leaves the other slot's words. -/
def mateWord (s : State) (i b : Nat) : Word :=
  if slotAddr s (burstMate i) ≤ b ∧ b < slotAddr s (burstMate i) + 6 ∧ inFlight s (burstMate i) = false ∧ onChip s (burstMate i) = true then
    (slotWords (s.led (burstMate i))).getD (b - slotAddr s (burstMate i)) 0
  else s.ld b

theorem ledgerBurst_eq {s : State} {i : Nat} (h : s.badBurst (burstOf (slotAddr s i)) = false) : ledgerBurst s i =
    if inFlight s (burstMate i) = false ∧ onChip s (burstMate i) = true then ledgerStore (s.setBurst (burstOf (slotAddr s i)) false) (burstMate i) else s := by
  unfold ledgerBurst; dsimp only
  rw [h, if_neg Bool.false_ne_true, if_neg Bool.false_ne_true]
  show (if inFlight s (burstMate i) = true then s else if onChip s (burstMate i) = true then _ else s) = _
  cases inFlight s (burstMate i) with
  | true => rw [if_pos rfl, if_neg (fun hc => absurd hc.1 (by decide))]
  | false =>
    rw [if_neg Bool.false_ne_true]
    exact if_congr ⟨fun hc => ⟨rfl, hc⟩, fun hc => hc.2⟩ rfl rfl

/-- A write of a burst that can be read changes memory and the burst's own state alone. -/
theorem ledgerBurst_memory {s : State} {i : Nat} (h : s.badBurst (burstOf (slotAddr s i)) = false) :
    ∃ mem err, ledgerBurst s i = { s with mem := mem, dramErr := err } := by
  rw [ledgerBurst_eq h]; split
  · rw [ledgerStore_memory]; exact ⟨_, _, rfl⟩
  · exact ⟨_, _, rfl⟩

theorem ledgerBurst_ld {s : State} {i : Nat} (h : s.badBurst (burstOf (slotAddr s i)) = false) (b : Nat) : (ledgerBurst s i).ld b = mateWord s i b := by
  rw [ledgerBurst_eq h]; unfold mateWord
  split
  next hc =>
    refine (ledgerStore_ld (s.setBurst (burstOf (slotAddr s i)) false) (burstMate i) b).trans (if_congr ?_ rfl rfl)
    exact ⟨fun hb => ⟨hb.1, hb.2, hc⟩, fun hb => ⟨hb.1, hb.2.1⟩⟩
  next hc => exact (if_neg fun hb => hc hb.2.2).symm

theorem ledgerWrite_memory {s : State} {i : Nat} (h : s.badBurst (burstOf (slotAddr s i)) = false) :
    ∃ mem err, ledgerWrite s i = { s with mem := mem, dramErr := err } := by
  obtain ⟨mem, err, hb⟩ := ledgerBurst_memory h
  unfold ledgerWrite
  rw [ledgerStore_memory, hb]; exact ⟨_, _, rfl⟩

/-- What a full-burst write of slot `i` leaves in DRAM (R149). -/
theorem ledgerWrite_ld {s : State} {i : Nat} (h : s.badBurst (burstOf (slotAddr s i)) = false) (b : Nat) : (ledgerWrite s i).ld b =
    if slotAddr s i ≤ b ∧ b < slotAddr s i + 6 then (slotWords (s.led i)).getD (b - slotAddr s i) 0 else mateWord s i b := by
  obtain ⟨mem, err, hb⟩ := ledgerBurst_memory h
  have haddr : slotAddr (ledgerBurst s i) i = slotAddr s i := by rw [hb]; rfl
  have hled : (ledgerBurst s i).led i = s.led i := by rw [hb]; rfl
  unfold ledgerWrite
  rw [ledgerStore_ld, haddr, hled, ledgerBurst_ld h]

/-- The words of slot `i` after a full-burst write, and of the other. -/
theorem ledgerWrite_words {s t : State} {i : Nat} (h : s.badBurst (burstOf (slotAddr s i)) = false) (ht : ∀ b, t.ld b = (ledgerWrite s i).ld b) :
    (∀ q < 6, t.ld (slotAddr s i + q) = (slotWords (s.led i)).getD q 0) ∧
      ∀ b, ¬ (slotAddr s i + 0 ≤ b ∧ b < slotAddr s i + 6) → t.ld b = mateWord s i b := by
  refine ⟨fun q hq => ?_, fun b hb => ?_⟩
  · rw [ht, ledgerWrite_ld h, if_pos ⟨by omega, by omega⟩, Nat.add_sub_cancel_left]
  · rw [ht, ledgerWrite_ld h, if_neg (fun h => hb ⟨by omega, h.2⟩)]

/-! ### A write completes -/

/-- The offer that slot `i`'s write completes is taken off the list. -/
def offerTaken (s : State) (o : Offer) : State := { s with skb := { s.skb with offers := s.skb.offers.filter (fun p => !decide (p = o)) } }

theorem offerTaken_inFlight (s : State) {o : Offer} {i j : Nat} (ho : o.slot = some i) (hj : j ≠ i) : inFlight (offerTaken s o) j = inFlight s j := by
  unfold inFlight offerTaken; dsimp only
  rw [List.any_filter]
  refine List.any_congr rfl fun p => ?_
  by_cases hp : p = o
  · subst hp
    have hne : decide (p.slot = some j) = false := decide_eq_false (by rw [ho]; intro e; exact hj (Option.some.inj e).symm)
    rw [hne]; simp
  · rw [decide_eq_false hp]; simp

theorem offerTaken_onChip (s : State) {o : Offer} {i j : Nat} (ho : o.slot = some i) (hj : j ≠ i) : onChip (offerTaken s o) j = onChip s j := by
  unfold onChip; rw [offerTaken_inFlight s ho hj]; rfl

theorem offerTaken_mateWord (s : State) {o : Offer} {i : Nat} (ho : o.slot = some i) (b : Nat) : mateWord (offerTaken s o) i b = mateWord s i b := by
  unfold mateWord; rw [offerTaken_inFlight s ho (burstMate_ne i), offerTaken_onChip s ho (burstMate_ne i)]; rfl

/-- With every offer in a slot, none waits to be taken up again. -/
theorem settleWaiters_none {s : State} (h : ∀ p ∈ s.skb.offers, p.slot.isSome = true) : settleWaiters s = s := by
  have hwait : s.skb.offers.filter (fun o => o.slot.isNone) = [] := by
    rw [List.filter_eq_nil_iff]; intro o ho hn
    have hs := h o ho
    cases hslot : o.slot with
    | none => rw [hslot] at hs; cases hs
    | some j => rw [hslot] at hn; cases hn
  have hheld : s.skb.offers.filter (fun o => o.slot.isSome) = s.skb.offers := List.filter_eq_self.2 h
  unfold settleWaiters; dsimp only
  rw [hwait, hheld]; rfl

theorem offers_slots {s t : State} (h : t.skb.offers.map Offer.slot = s.skb.offers.map Offer.slot) (hs : ∀ p ∈ s.skb.offers, p.slot.isSome = true) :
    ∀ p ∈ t.skb.offers, p.slot.isSome = true := by
  intro p hp
  have hmem : p.slot ∈ s.skb.offers.map Offer.slot := h ▸ List.mem_map_of_mem hp
  obtain ⟨q, hq, he⟩ := List.mem_map.1 hmem
  rw [← he]; exact hs q hq

theorem schedWord_ok (seq : Nat) : schedWord 0 seq = w40 seq := by unfold schedWord; simp

/-- A slot whose own write is complete, and which is in the near set or not. -/
def slotWritten (s : State) (i : Nat) : State := s.setLed i { s.led i with chip := inNear s i }

/-- The state in which an offer that commits is answered. -/
def offerCommitted (s : State) (i : Nat) : State := noteAccepted (s.setLed i { s.led i with commit := true }) (s.led i).seq

theorem commitOffer_eq (s : State) {o : Offer} {i : Nat} (h : o.slot = some i) :
    commitOffer s o = answerOffer (offerCommitted s i) o 0 ((offerCommitted s i).led i).seq o.late := by
  unfold commitOffer; rw [h]; rfl

theorem execLedgerWriteComplete_eq {s : State} {i : Fin 65536} {o : Offer}
    (hfind : s.skb.offers.find? (fun o => decide (o.slot = some i.val) && !o.wrote) = some o) (htwin : o.fromTwin = false)
    (hacked : o.mirrored = true → o.acked = true) :
    execLedgerWriteComplete i s = .next (settleWaiters (commitOffer (slotWritten (ledgerWrite (offerTaken s o) i) i) { o with wrote := true })) := by
  unfold execLedgerWriteComplete; rw [hfind]; dsimp only
  unfold offerProgress; dsimp only
  rw [htwin, if_neg Bool.false_ne_true, if_neg]
  · rfl
  · rw [Bool.and_eq_true, Bool.not_eq_true']; rintro ⟨hm, ha⟩; rw [hacked hm] at ha; cases ha

/-! An offer that commits changes the slot and SKB_SEQ alone. -/

theorem offerCommitted_skb (s : State) (i : Nat) : (offerCommitted s i).skb = (s.setLed i { s.led i with commit := true }).skb := State.put_skb _ _ _
theorem offerCommitted_mem (s : State) (i : Nat) : (offerCommitted s i).mem = s.mem := State.put_mem _ _ _
theorem offerCommitted_cores (s : State) (i : Nat) : (offerCommitted s i).cores = s.cores := State.put_cores _ _ _
theorem offerCommitted_mbx (s : State) (i : Nat) : (offerCommitted s i).mbx = s.mbx := State.put_mbx _ _ _
theorem offerCommitted_on (s : State) (i : Nat) {f : Fld} (h : f.addr ≠ SKB_SEQ) : (offerCommitted s i).on f = s.on f :=
  (on_put_addr _ SKB_SEQ_seq f _ h).trans (on_of_regs (State.setLed_regs _ _ _) f)

theorem slotCommitted_led (s : State) (i j : Nat) :
    (offerCommitted (slotWritten s i) i).led j = if j = i then { s.led i with commit := true, chip := inNear s i } else s.led j := by
  have hcommit : (offerCommitted (slotWritten s i) i).led j = ((slotWritten s i).setLed i { (slotWritten s i).led i with commit := true }).led j := led_of_skb (offerCommitted_skb _ i) j
  rw [hcommit]
  split
  next hj => subst hj; rw [led_setLed_self]; unfold slotWritten; rw [led_setLed_self]
  next hj => rw [led_setLed_ne _ _ hj]; unfold slotWritten; rw [led_setLed_ne _ _ hj]

/-! So does the write's end. -/

theorem slotCommitted_mem (s : State) (i : Nat) : (offerCommitted (slotWritten s i) i).mem = s.mem := (offerCommitted_mem _ i).trans (State.setLed_mem _ _ _)
theorem slotCommitted_cores (s : State) (i : Nat) : (offerCommitted (slotWritten s i) i).cores = s.cores :=
  (offerCommitted_cores _ i).trans (State.setLed_cores _ _ _)
theorem slotCommitted_mbx (s : State) (i : Nat) : (offerCommitted (slotWritten s i) i).mbx = s.mbx := (offerCommitted_mbx _ i).trans (State.setLed_mbx _ _ _)
theorem slotCommitted_on (s : State) (i : Nat) {f : Fld} (h : f.addr ≠ SKB_SEQ) : (offerCommitted (slotWritten s i) i).on f = s.on f :=
  (offerCommitted_on _ i h).trans (on_of_regs (State.setLed_regs _ _ _) f)

/-- The state in which the completed write's offer is answered, from the start. -/
def writeAnswered (s : State) (o : Offer) (i : Nat) : State := offerCommitted (slotWritten (ledgerWrite (offerTaken s o) i) i) i

section
variable {s : State} {o : Offer} {i : Nat} (hburst : s.badBurst (burstOf (slotAddr s i)) = false)
include hburst

theorem ledgerWrite_cores : (ledgerWrite s i).cores = s.cores := by obtain ⟨mem, err, hw⟩ := ledgerWrite_memory hburst; rw [hw]
theorem ledgerWrite_mbx : (ledgerWrite s i).mbx = s.mbx := by obtain ⟨mem, err, hw⟩ := ledgerWrite_memory hburst; rw [hw]
theorem ledgerWrite_regs : (ledgerWrite s i).regs = s.regs := by obtain ⟨mem, err, hw⟩ := ledgerWrite_memory hburst; rw [hw]
theorem ledgerWrite_skb : (ledgerWrite s i).skb = s.skb := by obtain ⟨mem, err, hw⟩ := ledgerWrite_memory hburst; rw [hw]

theorem writeAnswered_led (j : Nat) : (writeAnswered s o i).led j = if j = i then { s.led i with commit := true, chip := inNear s i } else s.led j := by
  have hskb : (ledgerWrite (offerTaken s o) i).skb = (offerTaken s o).skb := ledgerWrite_skb (s := offerTaken s o) hburst
  unfold writeAnswered; rw [slotCommitted_led]
  generalize ledgerWrite (offerTaken s o) i = X at hskb
  have hled : ∀ j, X.led j = s.led j := fun j => led_of_skb hskb j
  have hnear : inNear X i = inNear s i := by unfold inNear; rw [hled, hskb]; rfl
  rw [hled, hled, hnear]

theorem writeAnswered_ld (ho : o.slot = some i) (b : Nat) : (writeAnswered s o i).ld b =
    if slotAddr s i ≤ b ∧ b < slotAddr s i + 6 then (slotWords (s.led i)).getD (b - slotAddr s i) 0 else mateWord s i b := by
  have hw := ledgerWrite_ld (s := offerTaken s o) hburst b
  rw [offerTaken_mateWord s ho] at hw
  exact (ld_of_mem (slotCommitted_mem _ i) b).trans hw

theorem writeAnswered_cores : (writeAnswered s o i).cores = s.cores :=
  (slotCommitted_cores _ i).trans (ledgerWrite_cores (s := offerTaken s o) hburst)

theorem writeAnswered_mbx : (writeAnswered s o i).mbx = s.mbx :=
  (slotCommitted_mbx _ i).trans (ledgerWrite_mbx (s := offerTaken s o) hburst)

theorem writeAnswered_on {f : Fld} (h : f.addr ≠ SKB_SEQ) : (writeAnswered s o i).on f = s.on f :=
  (slotCommitted_on _ i h).trans (on_of_regs (ledgerWrite_regs (s := offerTaken s o) hburst) f)

theorem writeAnswered_offers : (writeAnswered s o i).skb.offers = s.skb.offers.filter (fun p => !decide (p = o)) := by
  have hskb : (ledgerWrite (offerTaken s o) i).skb = (offerTaken s o).skb := ledgerWrite_skb (s := offerTaken s o) hburst
  unfold writeAnswered; rw [offerCommitted_skb]
  generalize ledgerWrite (offerTaken s o) i = X at hskb
  show X.skb.offers = _
  rw [hskb]; rfl

end

/-- The offer answered: its asker hears ACCEPTED and the seq (R88). -/
def acceptedAnswer (s : State) (o : Offer) (i : Nat) : State := answerOffer (writeAnswered s o i) { o with wrote := true } 0 (s.led i).seq o.late

theorem ledgerWriteComplete_next {s : State} {i : Fin 65536} {o : Offer} (hburst : s.badBurst (burstOf (slotAddr s i)) = false)
    (hfind : s.skb.offers.find? (fun o => decide (o.slot = some i.val) && !o.wrote) = some o) (htwin : o.fromTwin = false)
    (hacked : o.mirrored = true → o.acked = true) (hslots : ∀ p ∈ s.skb.offers, p.slot.isSome = true) :
    exec (.ledgerWriteComplete i) s = .next (acceptedAnswer s o i) := by
  have ho : o.slot = some i.val := by
    have h := List.find?_some hfind
    rw [Bool.and_eq_true] at h; exact of_decide_eq_true h.1
  have hseq : ((writeAnswered s o i).led i).seq = (s.led i).seq := by rw [writeAnswered_led hburst, if_pos rfl]
  have hcommit : commitOffer (slotWritten (ledgerWrite (offerTaken s o) i) i) { o with wrote := true } = acceptedAnswer s o i := by
    have h := commitOffer_eq (slotWritten (ledgerWrite (offerTaken s o) i) i) (o := { o with wrote := true }) ho
    unfold acceptedAnswer
    rw [← hseq]; exact h
  have hsettle : settleWaiters (acceptedAnswer s o i) = acceptedAnswer s o i := by
    refine settleWaiters_none (offers_slots (answerOffer_ledger (writeAnswered s o i) _ _ _ _).offers ?_)
    rw [writeAnswered_offers hburst]
    exact fun p hp => hslots p (List.mem_filter.1 hp).1
  show execLedgerWriteComplete i s = _
  rw [execLedgerWriteComplete_eq hfind htwin hacked, hcommit, hsettle]

theorem acceptedAnswer_core {s : State} {o : Offer} {i k rd : Nat} (hburst : s.badBurst (burstOf (slotAddr s i)) = false) (hasker : o.asker = .core k)
    (hwait : (s.core k).waiting = .sched rd) : acceptedAnswer s o i =
      (writeAnswered s o i).setCore k { s.core k with waiting := .schedDone rd (w40 (s.led i).seq) o.late } := by
  have hcore : (writeAnswered s o i).core k = s.core k := core_of_cores (writeAnswered_cores hburst) k
  unfold acceptedAnswer answerOffer
  rw [show countAnswer (writeAnswered s o i) 0 = writeAnswered s o i from rfl]
  dsimp only
  rw [hasker]; dsimp only
  rw [hcore, hwait, schedWord_ok]

theorem acceptedAnswer_mailbox {s : State} {o : Offer} {i : Nat} (hburst : s.badBurst (burstOf (slotAddr s i)) = false) (hasker : o.asker = .mailbox)
    (hcode : mbxCode s = 0x05) : acceptedAnswer s o i = mbxFinish (writeAnswered s o i) 0 [w40 (s.led i).seq] := by
  have hmbx : mbxCode (writeAnswered s o i) = 0x05 := by unfold mbxCode at *; rw [writeAnswered_mbx hburst]; exact hcode
  unfold acceptedAnswer answerOffer
  rw [show countAnswer (writeAnswered s o i) 0 = writeAnswered s o i from rfl]
  dsimp only
  rw [hasker]; dsimp only
  rw [hmbx, if_pos rfl, schedWord_ok]; rfl

end Sys2Proof.Machine
end

section
/-! PROOF. The ledger's read-back and write-back, a stroke without a copy, and the recovery after a reset (O30). -/

namespace Sys2Proof.Machine

theorem slotAddr_of_rd {s t : State} (h : t.rd SKB_LEDGER_BASE = s.rd SKB_LEDGER_BASE) (i : Nat) : slotAddr t i = slotAddr s i := by
  unfold slotAddr State.get
  exact congrArg (fun w => fieldOf w _ _ + 6 * i) h

theorem slotAddr_of_regs {s t : State} (h : t.regs = s.regs) (i : Nat) : slotAddr t i = slotAddr s i := slotAddr_of_rd (rd_of_regs h _) i

theorem inFlight_of_skb {s t : State} (h : t.skb = s.skb) (i : Nat) : inFlight t i = inFlight s i := by unfold inFlight; rw [h]

theorem onChip_of_skb {s t : State} (h : t.skb = s.skb) (i : Nat) : onChip t i = onChip s i := by
  unfold onChip inNear; rw [inFlight_of_skb h, led_of_skb h, h]

theorem badBurst_of_dramErr {s t : State} (h : t.dramErr = s.dramErr) (b : Nat) : t.badBurst b = s.badBurst b := by unfold State.badBurst; rw [h]

theorem mateWord_of {s t : State} (hskb : t.skb = s.skb) (hmem : t.mem = s.mem) (haddr : ∀ j, slotAddr t j = slotAddr s j) (i b : Nat) :
    mateWord t i b = mateWord s i b := by
  unfold mateWord; rw [haddr, inFlight_of_skb hskb, onChip_of_skb hskb, led_of_skb hskb, ld_of_mem hmem]

/-! ### The read-back -/

/-- The stroke that four words of DRAM hold. -/
def storedStroke (s : State) (a : Nat) : Stroke :=
  { hi := s.ld a, lo := s.ld (a + 1), act := s.ld (a + 2), tag := fieldOf (s.ld (a + 3)) 39 32, chk := fieldOf (s.ld (a + 3)) 31 0 }

/-- The failed read-back of a slot is noted. -/
def checkFailed (s : State) : State := s.ev SKB_EVENTS_check_fail

theorem checkFailed_regsOnly (s : State) : RegsOnly s (checkFailed s) := by unfold checkFailed State.ev; exact event_regsOnly _ _ _

theorem checkFailed_slotAddr (s : State) (i : Nat) : slotAddr (checkFailed s) i = slotAddr s i := by
  unfold slotAddr checkFailed; rw [ev_get_ne s SKB_EVENTS_check_fail SKB_LEDGER_BASE_base (by decide) (by decide)]

theorem execLedgerReadback_eq {s : State} {i : Fin 65536} (hp : slotPending (s.led i) = true) (hb : s.badBurst (burstOf (slotAddr s i)) = false) :
    execLedgerReadback i s = .next (
      if (strokeOk (storedStroke s (slotAddr s i)) && (!onChip s i || decide (storedStroke s (slotAddr s i) = (s.led i).stroke))) = true then
        s.setLed i { s.led i with stroke := storedStroke s (slotAddr s i), chip := true }
      else if onChip (checkFailed s) i = true then ledgerWrite (checkFailed s) i else strokeLost (checkFailed s) i) := by
  have hk : (s.ldN (slotAddr s i) 4).getD 0 0 = s.ld (slotAddr s i) ∧ (s.ldN (slotAddr s i) 4).getD 1 0 = s.ld (slotAddr s i + 1) ∧
      (s.ldN (slotAddr s i) 4).getD 2 0 = s.ld (slotAddr s i + 2) ∧ (s.ldN (slotAddr s i) 4).getD 3 0 = s.ld (slotAddr s i + 3) := by
    generalize slotAddr s i = a; exact ⟨rfl, rfl, rfl, rfl⟩
  obtain ⟨h0, h1, h2, h3⟩ := hk
  unfold execLedgerReadback
  rw [hp, Bool.not_true, if_neg Bool.false_ne_true]; dsimp only
  rw [h0, h1, h2, h3, hb, Bool.not_false, Bool.true_and, if_neg Bool.false_ne_true]
  exact (apply_ite Host.Outcome.next _ _ _).symm

theorem ledgerReadback_taken {s : State} {i : Fin 65536} (hp : slotPending (s.led i) = true) (hb : s.badBurst (burstOf (slotAddr s i)) = false)
    (hok : strokeOk (storedStroke s (slotAddr s i)) = true) (hsame : onChip s i = true → storedStroke s (slotAddr s i) = (s.led i).stroke) :
    exec (.ledgerReadback i) s = .next (s.setLed i { s.led i with stroke := storedStroke s (slotAddr s i), chip := true }) := by
  show execLedgerReadback i s = _
  rw [execLedgerReadback_eq hp hb, if_pos]
  rw [hok, Bool.true_and, Bool.or_eq_true]
  cases h : onChip s i with
  | false => exact Or.inl rfl
  | true => exact Or.inr (decide_eq_true (hsame h))

theorem ledgerReadback_rewritten {s : State} {i : Fin 65536} (hp : slotPending (s.led i) = true) (hb : s.badBurst (burstOf (slotAddr s i)) = false)
    (hchip : onChip s i = true) (hne : storedStroke s (slotAddr s i) ≠ (s.led i).stroke) :
    exec (.ledgerReadback i) s = .next (ledgerWrite (checkFailed s) i) := by
  have hchip' : onChip (checkFailed s) i = true := by rw [onChip_of_skb (checkFailed_regsOnly s).skb]; exact hchip
  show execLedgerReadback i s = _
  rw [execLedgerReadback_eq hp hb, if_neg, if_pos hchip']
  rw [hchip, decide_eq_false hne]; simp

theorem ledgerReadback_lost {s : State} {i : Fin 65536} (hp : slotPending (s.led i) = true) (hb : s.badBurst (burstOf (slotAddr s i)) = false)
    (hchip : onChip s i = false) (hok : strokeOk (storedStroke s (slotAddr s i)) = false) :
    exec (.ledgerReadback i) s = .next (strokeLost (checkFailed s) i) := by
  have hchip' : ¬ onChip (checkFailed s) i = true := by rw [onChip_of_skb (checkFailed_regsOnly s).skb, hchip]; decide
  show execLedgerReadback i s = _
  rw [execLedgerReadback_eq hp hb, if_neg, if_neg hchip']
  rw [hok]; simp

theorem checkFailed_on (s : State) : (checkFailed s).on SKB_EVENTS_check_fail = true := ev_on s SKB_EVENTS_check_fail (by decide) rfl (by decide)

/-- The on-chip copy is written back over what did not verify. -/
theorem rewritten_shows {s : State} {i : Nat} (hb : s.badBurst (burstOf (slotAddr s i)) = false) :
    (ledgerWrite (checkFailed s) i).on SKB_EVENTS_check_fail = true ∧ (ledgerWrite (checkFailed s) i).skb = s.skb ∧
      (∀ q < 6, (ledgerWrite (checkFailed s) i).ld (slotAddr s i + q) = (slotWords (s.led i)).getD q 0) ∧
      ∀ b, ¬ (slotAddr s i + 0 ≤ b ∧ b < slotAddr s i + 6) → (ledgerWrite (checkFailed s) i).ld b = mateWord s i b := by
  have hu := checkFailed_regsOnly s
  have haddr := checkFailed_slotAddr s
  have hshown := checkFailed_on s
  generalize checkFailed s = u at hu haddr hshown
  have hburst : u.badBurst (burstOf (slotAddr u i)) = false := by rw [haddr, badBurst_of_dramErr hu.dramErr]; exact hb
  obtain ⟨hwords, hmate⟩ := ledgerWrite_words hburst (fun b => rfl)
  refine ⟨(on_of_regs (ledgerWrite_regs hburst) _).trans hshown, (ledgerWrite_skb hburst).trans hu.skb, fun q hq => ?_, fun b hb => ?_⟩
  · rw [← haddr, hwords q hq, led_of_skb hu.skb]
  · rw [hmate b (by rw [haddr]; exact hb), mateWord_of hu.skb hu.mem haddr]

/-! ### A stroke without a verifying copy -/

theorem noticeOfferer_answering (s : State) (o : Nat) : Answering s (noticeOfferer s o) := by
  unfold noticeOfferer; split
  · exact (Answering.refl s).congr rfl rfl
  · exact mbxIrq_answering s 2

/-- A report of a unit that is not in a pair goes to the offerer alone. -/
theorem finishSlot_answering {s : State} (i : Nat) {report : Nat} (late : Nat) (hreport : 2 < report) (h : s.on TW_CFG_en = false) :
    Answering s (finishSlot s i report late) := by
  unfold finishSlot
  extract_lets x s₁ s₂ s₃
  have h₁ : Answering s s₁ := (Answering.refl s).congr rfl rfl
  have h₂ : s₂ = s₁ := by unfold s₂; rw [if_neg (by omega), if_neg (by omega)]
  have h₃ : Answering s s₃ := by
    unfold s₃; rw [if_neg (by omega), h₂]
    exact (h₁.ev (f := SKB_EVENTS_report)).trans (noticeOfferer_answering _ _)
  have hinactive : twActive s₃ = false := by
    rw [h₃.within.twActive]; exact twActive_of_unpaired h
  rw [hinactive, Bool.false_and, if_neg Bool.false_ne_true]
  exact h₃

/-- A stroke lost by a unit that stands alone: reported, and the device FATAL (R35, R509). -/
theorem strokeLost_shows {s : State} (i : Nat) (hen : s.on TW_CFG_en = false) (hp : s.get TW_STATUS_pstate ≠ 3) :
    (strokeLost s i).led i = (s.led i).ended 4 0 ∧ (strokeLost s i).fix.fatal = true ∧ srcStatus (strokeLost s i) 0 = true ∧
      (s.fix.fatal = false → (strokeLost s i).skb.armed = false) := by
  have hlost : strokeLost s i = fatalEnter (finishSlot s i 4 0) 0 none := by
    unfold strokeLost; dsimp only; rw [if_neg hp]; exact raiseSrc_fatal _ (by decide)
  have hans := finishSlot_answering (s := s) i (report := 4) 0 (by decide) hen
  have htold := finishSlot_tells s i 4 0
  rw [hlost]
  generalize finishSlot s i 4 0 = u at hans htold
  have hinactive : twActive u = false := by rw [hans.within.twActive]; exact twActive_of_unpaired hen
  refine ⟨?_, fatalEnter_fatal _ _, fatalEnter_status _ _ (by decide), fun hf => fatalEnter_disarmed _ _ ?_⟩
  · rw [(fatalEnter_ledger none (by decide) hinactive).led, led_of_skb htold.skb]; exact led_setLed_self s i _
  · rw [hans.rest.fix]; exact hf

theorem checkFailed_on_ne (s : State) {f : Fld} (h : f.addr % 256 < 0xF0) (hne : f.addr ≠ SKB_EVENTS) : (checkFailed s).on f = s.on f := by
  unfold State.on checkFailed; rw [ev_get_ne s SKB_EVENTS_check_fail f h hne]

/-! ### The status write-back -/

/-- The two status words of a slot are written (R158). -/
def statusStored (s : State) (i : Nat) : State := s.stN (slotAddr s i + 4) ((slotWords (s.led i)).drop 4)

/-- The stroke's words are written from an on-chip copy. -/
def strokeStored (s : State) (i : Nat) : State := if onChip s i then s.stN (slotAddr s i) (strokeWords (s.led i).stroke) else s

/-- What a status write-back writes over the burst. -/
def statusWritten (s : State) (i : Nat) : State := statusStored (strokeStored s i) i

theorem execStatusWriteback_eq {s : State} {i : Fin 65536} (h : inFlight s i = false) :
    execStatusWriteback i s = .next (statusWritten (ledgerBurst s i) i) := by
  unfold execStatusWriteback; rw [h, if_neg Bool.false_ne_true]; rfl

theorem stored_twice {s u v : State} (hu : u = { s with mem := u.mem }) (hv : v = { u with mem := v.mem }) : v = { s with mem := v.mem } := by
  rw [hu] at hv; exact hv

theorem strokeStored_memory (s : State) (i : Nat) : strokeStored s i = { s with mem := (strokeStored s i).mem } := by
  unfold strokeStored; split
  · exact stN_memory _ s _
  · rfl

theorem statusStored_memory (s : State) (i : Nat) : statusStored s i = { s with mem := (statusStored s i).mem } := stN_memory _ s _

theorem statusWritten_memory (s : State) (i : Nat) : statusWritten s i = { s with mem := (statusWritten s i).mem } :=
  stored_twice (strokeStored_memory s i) (statusStored_memory _ i)

theorem statusStored_ld (s : State) (i b : Nat) : (statusStored s i).ld b =
    if slotAddr s i + 4 ≤ b ∧ b < slotAddr s i + 6 then (slotWords (s.led i)).getD (b - slotAddr s i) 0 else s.ld b := by
  unfold statusStored
  split
  next h =>
    obtain ⟨q, rfl⟩ : ∃ q, b = slotAddr s i + 4 + q := ⟨b - (slotAddr s i + 4), by omega⟩
    have hq : q < ((slotWords (s.led i)).drop 4).length := by rw [List.length_drop, slotWords_length]; omega
    rw [ld_stN_inside _ _ _ _ hq, List.getElem_drop, Nat.add_assoc, Nat.add_sub_cancel_left, List.getD_eq_getElem]
  next h => exact ld_stN_outside _ _ _ _ (by rw [List.length_drop, slotWords_length]; omega)

theorem strokeStored_ld {s : State} {i : Nat} (hc : onChip s i = true) (b : Nat) : (strokeStored s i).ld b =
    if slotAddr s i ≤ b ∧ b < slotAddr s i + 4 then (slotWords (s.led i)).getD (b - slotAddr s i) 0 else s.ld b := by
  have hlen : (strokeWords (s.led i).stroke).length = 4 := rfl
  unfold strokeStored; rw [if_pos hc]
  split
  next h =>
    obtain ⟨q, rfl⟩ : ∃ q, b = slotAddr s i + q := ⟨b - slotAddr s i, by omega⟩
    have hq : q < (strokeWords (s.led i).stroke).length := by omega
    rw [ld_stN_inside _ _ _ _ hq, Nat.add_sub_cancel_left]
    unfold slotWords
    rw [List.getD_append _ _ _ _ hq, List.getD_eq_getElem _ _ hq]
  next h => exact ld_stN_outside _ _ _ _ (by omega)

/-- The first word of the slot that a status write-back writes. -/
def writtenFrom (s : State) (i : Nat) : Nat := if onChip s i = true then 0 else 4

theorem statusWritten_ld (s : State) (i b : Nat) : (statusWritten s i).ld b =
    if slotAddr s i + writtenFrom s i ≤ b ∧ b < slotAddr s i + 6 then (slotWords (s.led i)).getD (b - slotAddr s i) 0 else s.ld b := by
  have hmem := strokeStored_memory s i
  have haddr : slotAddr (strokeStored s i) i = slotAddr s i := slotAddr_of_regs (by rw [hmem]) i
  have hled : (strokeStored s i).led i = s.led i := led_of_skb (by rw [hmem]) i
  unfold statusWritten writtenFrom
  rw [statusStored_ld, haddr, hled]
  by_cases hc : onChip s i = true
  · rw [if_pos hc, strokeStored_ld hc]
    by_cases h4 : slotAddr s i + 4 ≤ b
    · rw [if_neg (by omega : ¬(slotAddr s i ≤ b ∧ b < slotAddr s i + 4))]
      exact if_congr (by omega) rfl rfl
    · rw [if_neg (fun h => h4 h.1)]
      exact if_congr (by omega) rfl rfl
  · rw [if_neg hc]
    unfold strokeStored; rw [if_neg hc]

theorem statusWriteback_shows {s : State} {i : Nat} (hb : s.badBurst (burstOf (slotAddr s i)) = false) :
    (∃ mem err, statusWritten (ledgerBurst s i) i = { s with mem := mem, dramErr := err }) ∧
      (∀ q, writtenFrom s i ≤ q → q < 6 → (statusWritten (ledgerBurst s i) i).ld (slotAddr s i + q) = (slotWords (s.led i)).getD q 0) ∧
      ∀ b, ¬ (slotAddr s i + writtenFrom s i ≤ b ∧ b < slotAddr s i + 6) → (statusWritten (ledgerBurst s i) i).ld b = mateWord s i b := by
  obtain ⟨mem, err, hu⟩ := ledgerBurst_memory hb
  have hld := ledgerBurst_ld hb
  generalize ledgerBurst s i = u at hu hld
  have haddr : slotAddr u i = slotAddr s i := slotAddr_of_regs (by rw [hu]) i
  have hskb : u.skb = s.skb := by rw [hu]
  have hfrom : writtenFrom u i = writtenFrom s i := by unfold writtenFrom; rw [onChip_of_skb hskb]
  have hword := statusWritten_ld u i
  rw [haddr, hfrom, led_of_skb hskb] at hword
  refine ⟨?_, fun q hq h6 => ?_, fun b hb => ?_⟩
  · exact ⟨_, err, (statusWritten_memory u i).trans (by rw [hu])⟩
  · rw [hword, if_pos ⟨by omega, by omega⟩, Nat.add_sub_cancel_left]
  · rw [hword, if_neg hb, hld]

/-! ### The hand-over -/

theorem strokeHandoff_due {s : State} {i : Fin 65536} (hstate : (s.led i).state = 1) (hcommit : (s.led i).commit = true) (hchip : (s.led i).chip = true)
    (hnear : inNear s i = true) (ht : t80Le (strokeAt (s.led i).stroke) (s.afterNs 10000) = true) (hok : strokeOk (s.led i).stroke = true) :
    exec (.strokeHandoff i) s = .next (s.setLed i { s.led i with state := 2 }) := by
  show execStrokeHandoff i s = _
  unfold execStrokeHandoff; dsimp only
  rw [if_pos ⟨hstate, hcommit, hchip, hnear, ht⟩, verified_of_ok _ hok]

theorem strokeHandoff_early {s : State} {i : Fin 65536} (ht : t80Lt (s.afterNs 10000) (strokeAt (s.led i).stroke) = true) :
    exec (.strokeHandoff i) s = .next s := by
  have hle : ¬ t80Le (strokeAt (s.led i).stroke) (s.afterNs 10000) = true := by
    unfold t80Lt at ht; unfold t80Le; simp at ht ⊢; exact ht
  show execStrokeHandoff i s = _
  unfold execStrokeHandoff; dsimp only
  rw [if_neg (fun h => hle h.2.2.2.2)]

/-! ### The recovery -/

/-- The ledger's tables at the start of a recovery. -/
def tablesCleared (s : State) : State := { s with skb := { s.skb with slots := [], trails := [], pushWait := [] } }

/-- Keeper fixes t_resume. -/
def resumeFixed (s : State) (resume : T80) : State := (s.putT SKB_T_RESUME_HI SKB_T_RESUME_LO resume).putB SKB_STATUS_recovering false

/-- The registers of a ledger opened again. -/
def openedRegs (s : State) (resume : T80) : State :=
  if twStandby (resumeFixed s resume) then resumeFixed s resume else (resumeFixed s resume).putB SKB_CTL_accept_en true

/-- The ledger is open and its executors wait for t_resume. -/
def tablesOpened (s : State) : State := { s with skb := { s.skb with cold := false, waits := 2 } }

/-- Keeper opens the ledger. -/
def ledgerOpened (s : State) (resume : T80) : State := tablesOpened (openedRegs s resume)

/-- The slots that DRAM holds are read back into the table (R570). -/
def tablesRead (s : State) (ids : List Nat) : State := ids.foldl (fun s i => s.setLed i (recoverSlot s i)) (tablesCleared s)

/-- With no slot pending and none lost, the recovery opens the ledger with what DRAM holds. -/
theorem ledgerRecover_settled {s : State} {ids : List Nat} (hrec : s.on SKB_STATUS_recovering = true) (hids : (if s.skb.cold then [] else ledgerSlots s) = ids)
    (hbad : ids = [] ∨ (tablesRead s ids).dramErr = []) (hlost : ∀ i ∈ ids, checkLost (tablesRead s ids) i = false)
    (hplain : ∀ i ∈ ids, slotPending ((tablesRead s ids).led i) = false) :
    ledgerRecover s = settleWaiters (ledgerOpened (tablesRead s ids) (s.afterNs 10000)) := by
  have hbursts : ((tablesRead s ids).dramErr.filter (fun e => ids.any (fun i => decide (burstOf (slotAddr (tablesRead s ids) i) = e.1)))).map (fun e => e.1) = [] := by
    rcases hbad with h | h
    · subst h; rw [List.map_eq_nil_iff, List.filter_eq_nil_iff]; exact fun e _ h => absurd h Bool.false_ne_true
    · rw [h]; rfl
  have hfound : ids.filter (checkLost (tablesRead s ids)) = [] := List.filter_eq_nil_iff.2 (fun i hi h => by rw [hlost i hi] at h; cases h)
  have horder : ∀ l : List Nat, (∀ i ∈ l, i ∈ ids) →
      l.foldl (fun acc i => if slotPending ((tablesRead s ids).led i) then insertSlot (tablesRead s ids) i acc else acc) [] = [] := by
    intro l
    induction l with
    | nil => exact fun _ => rfl
    | cons i l ih =>
      intro hl
      rw [List.foldl_cons, hplain i (hl i List.mem_cons_self), if_neg Bool.false_ne_true]
      exact ih (fun j hj => hl j (List.mem_cons_of_mem i hj))
  unfold ledgerRecover
  rw [hrec, Bool.not_true, if_neg Bool.false_ne_true]
  dsimp only
  rw [hids]
  show settleWaiters _ = _
  unfold tablesRead at *
  rw [show ({ s with skb := { s.skb with slots := [], trails := [], pushWait := [] } } : State) = tablesCleared s from rfl]
  rw [hbursts, List.foldl_nil, hfound, List.foldl_nil, horder ids (fun i hi => hi), List.foldl_nil]
  rfl

end Sys2Proof.Machine
end

section
/-! PROOF. The recovery's end, the attestation records after a reset, and the settlement of the ledger's obligation (O30). -/

namespace Sys2Proof.Machine

/-! ### The ledger opened -/

theorem resumeFixed_rd (s : State) (resume : T80) {b : Nat} (hb : b ≠ SKB_T_RESUME_HI) (hstatus : b ≠ SKB_STATUS) : (resumeFixed s resume).rd b = s.rd b :=
  (rd_put_ne _ SKB_STATUS_recovering _ hstatus).trans (rd_putT_ne s _ _ _ hb)

theorem resumeFixed_skb (s : State) (resume : T80) : (resumeFixed s resume).skb = s.skb := State.put_skb _ _ _

theorem openedRegs_rd (s : State) (resume : T80) {b : Nat} (hctl : b ≠ SKB_CTL) : (openedRegs s resume).rd b = (resumeFixed s resume).rd b := by
  unfold openedRegs; split
  · rfl
  · exact rd_put_ne _ SKB_CTL_accept_en _ hctl

theorem openedRegs_skb (s : State) (resume : T80) : (openedRegs s resume).skb = s.skb := by
  unfold openedRegs; split
  · exact resumeFixed_skb s resume
  · exact (State.put_skb _ _ _).trans (resumeFixed_skb s resume)

theorem openedRegs_resume (s : State) (resume : T80) : (openedRegs s resume).rd SKB_T_RESUME_HI = T80hi resume :=
  (openedRegs_rd s resume (by decide)).trans ((rd_put_ne _ SKB_STATUS_recovering _ (by decide)).trans (rd_wr_self s _ _))

theorem openedRegs_recovering (s : State) (resume : T80) : (openedRegs s resume).on SKB_STATUS_recovering = false := by
  have hon : (resumeFixed s resume).on SKB_STATUS_recovering = false := on_putB_self _ SKB_STATUS_recovering false (by unfold Fld.ok; decide)
  have hrd := openedRegs_rd s resume (b := SKB_STATUS) (by decide)
  unfold State.on State.get at *
  exact (congrArg (fun w => decide (fieldOf w 28 28 ≠ 0)) hrd).trans hon

theorem openedRegs_accept {s : State} (resume : T80) (h : twStandby s = false) : (openedRegs s resume).on SKB_CTL_accept_en = true := by
  have hstandby : twStandby (resumeFixed s resume) = false := by
    unfold twStandby State.on State.get at *
    rw [resumeFixed_rd s resume (by decide) (by decide), resumeFixed_rd s resume (by decide) (by decide)]; exact h
  unfold openedRegs; rw [hstandby, if_neg Bool.false_ne_true]
  exact on_putB_self _ SKB_CTL_accept_en true (by unfold Fld.ok; decide)

/-- What an opened ledger shows (R159). -/
structure Opened (s t : State) (resume : T80) : Prop where
  resume : t.rd SKB_T_RESUME_HI = T80hi resume
  recovering : t.on SKB_STATUS_recovering = false
  waits : t.skb.waits = 2
  cold : t.skb.cold = false
  accepts : twStandby s = false → t.on SKB_CTL_accept_en = true
  slots : t.skb.slots = s.skb.slots

theorem tablesOpened_regs (s : State) : (tablesOpened s).regs = s.regs := rfl
theorem tablesOpened_skb (s : State) : (tablesOpened s).skb = { s.skb with cold := false, waits := 2 } := rfl

theorem ledgerOpened_skb (s : State) (resume : T80) : (ledgerOpened s resume).skb = { s.skb with cold := false, waits := 2 } := by
  rw [← openedRegs_skb s resume]; exact tablesOpened_skb _

theorem ledgerOpened_regs (s : State) (resume : T80) : (ledgerOpened s resume).regs = (openedRegs s resume).regs := tablesOpened_regs _

theorem ledgerOpened_opened (s : State) (resume : T80) : Opened s (ledgerOpened s resume) resume where
  resume := (rd_of_regs (ledgerOpened_regs s resume) _).trans (openedRegs_resume s resume)
  recovering := (on_of_regs (ledgerOpened_regs s resume) _).trans (openedRegs_recovering s resume)
  waits := by rw [ledgerOpened_skb]
  cold := by rw [ledgerOpened_skb]
  accepts := fun h => (on_of_regs (ledgerOpened_regs s resume) _).trans (openedRegs_accept resume h)
  slots := by rw [ledgerOpened_skb]

theorem ledgerOpened_offers (s : State) (resume : T80) : (ledgerOpened s resume).skb.offers = s.skb.offers := by rw [ledgerOpened_skb]

/-! ### The tables read back -/

theorem tablesRead_one (s : State) (i : Nat) : tablesRead s [i] = (tablesCleared s).setLed i (recoverSlot (tablesCleared s) i) := rfl

theorem ldN_of_mem {s t : State} (h : t.mem = s.mem) (n a : Nat) : t.ldN a n = s.ldN a n := by
  induction n generalizing a with
  | zero => rfl
  | succ n ih => show t.ld a :: t.ldN (a + 1) n = _; rw [ld_of_mem h, ih]; rfl

theorem badBurst_none {s : State} (h : s.dramErr = []) (b : Nat) : s.badBurst b = false := by unfold State.badBurst; rw [h]; rfl

/-- A slot that DRAM holds and that is not pending is recovered as it stands. -/
theorem recoverSlot_idle {s : State} {i : Nat} (herr : s.dramErr = []) (h : slotPending (slotOfWords (s.ldN (slotAddr s i) 6)) = false) :
    recoverSlot s i = slotOfWords (s.ldN (slotAddr s i) 6) := by
  unfold recoverSlot; rw [badBurst_none herr, if_neg Bool.false_ne_true]; dsimp only
  rw [h]; simp

theorem checkLost_idle {s : State} {i : Nat} (herr : s.dramErr = []) (h : slotPending (slotOfWords (s.ldN (slotAddr s i) 6)) = false) :
    checkLost s i = false := by
  unfold checkLost; dsimp only; rw [badBurst_none herr, h]; rfl

/-- The recovery after a cold reset (R159): the ledger is empty. -/
theorem ledgerRecover_cold {s : State} (hrec : s.on SKB_STATUS_recovering = true) (hoffers : s.skb.offers = []) (hcold : s.skb.cold = true) :
    ledgerRecover s = ledgerOpened (tablesCleared s) (s.afterNs 10000) := by
  have hsettled := ledgerRecover_settled (ids := []) hrec (by rw [hcold]; rfl) (Or.inl rfl) (fun i hi => absurd hi List.not_mem_nil)
    (fun i hi => absurd hi List.not_mem_nil)
  rw [hsettled]
  exact settleWaiters_none (fun p hp => by rw [ledgerOpened_offers, show (tablesRead s []).skb.offers = s.skb.offers from rfl, hoffers] at hp; cases hp)

/-- The recovery of one slot that is not pending. -/
theorem ledgerRecover_one {s : State} {i : Nat} (hrec : s.on SKB_STATUS_recovering = true) (hoffers : s.skb.offers = []) (hcold : s.skb.cold = false)
    (herr : s.dramErr = []) (hslots : ledgerSlots s = [i]) (hidle : slotPending (slotOfWords (s.ldN (slotAddr s i) 6)) = false) :
    ledgerRecover s = ledgerOpened ((tablesCleared s).setLed i (slotOfWords (s.ldN (slotAddr s i) 6))) (s.afterNs 10000) := by
  have haddr : ∀ t : State, t.regs = s.regs → t.mem = s.mem → slotOfWords (t.ldN (slotAddr t i) 6) = slotOfWords (s.ldN (slotAddr s i) 6) :=
    fun t hregs hmem => by rw [slotAddr_of_regs hregs, ldN_of_mem hmem]
  have hread : tablesRead s [i] = (tablesCleared s).setLed i (slotOfWords (s.ldN (slotAddr s i) 6)) := by
    have hsame := haddr (tablesCleared s) rfl rfl
    rw [tablesRead_one, recoverSlot_idle (s := tablesCleared s) herr (hsame ▸ hidle), hsame]
  have hsettled := ledgerRecover_settled (ids := [i]) hrec (by rw [hcold]; exact hslots)
    (Or.inr (by rw [hread]; exact herr))
    (fun j hj => by
      rw [List.mem_singleton.1 hj, hread]
      exact checkLost_idle herr (by rw [haddr _ rfl rfl]; exact hidle))
    (fun j hj => by rw [List.mem_singleton.1 hj, hread, led_setLed_self]; exact hidle)
  rw [hsettled, hread]
  refine settleWaiters_none (fun p hp => ?_)
  rw [ledgerOpened_offers] at hp
  rw [show ((tablesCleared s).setLed i (slotOfWords (s.ldN (slotAddr s i) 6))).skb.offers = s.skb.offers from rfl, hoffers] at hp
  cases hp

/-! ### The attestation records after a warm reset leave the Sketchbook alone -/

/-- The units whose registers the attestation records reach: GLZ and MBX. -/
def attUnits : List Nat := [0x012, 0x079]

theorem mbxIrq_att (s : State) (bit : Nat) : Within attUnits s (mbxIrq s bit) := by
  unfold mbxIrq; dsimp only; split
  · exact ((Within.refl _ s).event (a := MBX_IRQ) bit).congr rfl
  · exact (Within.refl _ s).event (a := MBX_IRQ) bit

theorem attStore_regs (s : State) (i : Nat) (ws : List Word) : (attStore s i ws).regs = s.regs ∧ (attStore s i ws).skb = s.skb := by
  have hburst : ∀ (l : List Nat) (b : Nat) (t : State), (l.foldl (fun s k => s.setBurst (b + k) false) t).regs = t.regs ∧
      (l.foldl (fun s k => s.setBurst (b + k) false) t).skb = t.skb := by
    intro l b
    induction l with
    | nil => exact fun t => ⟨rfl, rfl⟩
    | cons k l ih => exact fun t => ih (t.setBurst (b + k) false)
  unfold attStore; dsimp only
  rw [stN_memory]
  exact hburst _ _ _

theorem attBusy_within (s : State) : Within attUnits s (attBusy s) := (Within.refl _ s).putB (f := GLZ_STATUS_sign_busy) _

theorem attBusy_skb (s : State) : (attBusy s).skb = s.skb := State.put_skb _ _ _

theorem attEnd_within (s : State) (r : AttRec) (sig : List Nat) (state : Nat) :
    Within attUnits s (attEnd s r sig state) ∧ (attEnd s r sig state).skb = s.skb := by
  unfold attEnd
  extract_lets ws s₁ glz s₂ s₃ s₄
  obtain ⟨hregs, hskb⟩ := attStore_regs s r.serial ws
  have h₃ : s₃.regs = s₂.regs ∧ s₃.skb = s₂.skb := by unfold s₃; split <;> exact ⟨rfl, rfl⟩
  have h₄ : Within attUnits s s₄ := ((Within.of_regs (hregs : s₂.regs = s.regs)).congr h₃.1).trans (attBusy_within s₃)
  have hskb₄ : s₄.skb = s.skb := (attBusy_skb s₃).trans (h₃.2.trans hskb)
  split
  · exact ⟨(h₄.ev (f := GLZ_EVENTS_att_signed)).trans (mbxIrq_att _ _), (mbxIrq_tells _ _).skb.trans ((State.event_skb _ _ _).trans hskb₄)⟩
  · exact ⟨h₄.ev (f := GLZ_EVENTS_att_unsigned), (State.event_skb _ _ _).trans hskb₄⟩

theorem attRecover_within (s : State) : Within attUnits s (attRecover s) ∧ (attRecover s).skb = s.skb := by
  have hend : ∀ (l : List AttRec) (t : State), Within attUnits t (l.foldl (fun s r => if attLate s r then attEnd s r [] 3 else s) t) ∧
      (l.foldl (fun s r => if attLate s r then attEnd s r [] 3 else s) t).skb = t.skb := by
    intro l
    induction l with
    | nil => exact fun t => ⟨.refl _ t, rfl⟩
    | cons r l ih =>
      intro t
      have hone : Within attUnits t (if attLate t r then attEnd t r [] 3 else t) ∧ (if attLate t r then attEnd t r [] 3 else t).skb = t.skb := by
        split
        · exact attEnd_within t r [] 3
        · exact ⟨.refl _ t, rfl⟩
      obtain ⟨hw, hs⟩ := ih (if attLate t r then attEnd t r [] 3 else t)
      exact ⟨hone.1.trans hw, hs.trans hone.2⟩
  unfold attRecover
  extract_lets base size hits recs last s₁ open_ glz s₂
  clear_value last
  have h₁ : s₁.regs = s.regs ∧ s₁.skb = s.skb := by unfold s₁; cases last <;> exact ⟨rfl, rfl⟩
  obtain ⟨hw, hs⟩ := hend open_ s₂
  exact ⟨((Within.of_regs (t := s₂) h₁.1).trans hw).trans (attBusy_within _), (attBusy_skb _).trans (hs.trans h₁.2)⟩

theorem Opened.attRecover {s t : State} {resume : T80} (h : Opened s t resume) : Opened s (attRecover t) resume := by
  obtain ⟨hw, hskb⟩ := attRecover_within t
  refine ⟨?_, ?_, ?_, ?_, fun hs => ?_, ?_⟩
  · rw [hw.rd _ (by decide) (by decide)]; exact h.resume
  · rw [hw.on _ (by decide) (by decide)]; exact h.recovering
  · rw [hskb]; exact h.waits
  · rw [hskb]; exact h.cold
  · rw [hw.on _ (by decide) (by decide)]; exact h.accepts hs
  · rw [hskb]; exact h.slots

/-! ### Recovery and the lost stroke, as steps -/

/-- The ledger is open after a recovery (R159): its time fixed 10 µs on, and the executors wait for it. -/
def Recovered (s t : State) : Prop :=
  t.rd SKB_T_RESUME_HI = T80hi (s.afterNs 10000) ∧ t.on SKB_STATUS_recovering = false ∧ t.skb.waits = 2 ∧ t.skb.cold = false ∧
  (twStandby s = false → t.on SKB_CTL_accept_en = true)

theorem Opened.recovered {s u t : State} (h : Opened u t (s.afterNs 10000)) (hregs : u.regs = s.regs) : Recovered s t := by
  have hstandby : twStandby u = twStandby s := by unfold twStandby; rw [on_of_regs hregs, get_of_regs hregs]
  exact ⟨h.resume, h.recovering, h.waits, h.cold, fun hs => h.accepts (hstandby.trans hs)⟩

theorem execLedgerRecovery_closed {s : State} (hrec : s.on SKB_STATUS_recovering = false) : exec .ledgerRecovery s = .next s := by
  show execLedgerRecovery s = _
  unfold execLedgerRecovery; rw [hrec]; rfl

theorem execLedgerRecovery_cold {s : State} (hrec : s.on SKB_STATUS_recovering = true) (hoffers : s.skb.offers = []) (hcold : s.skb.cold = true) :
    Gives (exec .ledgerRecovery s) (fun t => Recovered s t ∧ t.skb.slots = []) := by
  have hexec : exec .ledgerRecovery s = .next (ledgerOpened (tablesCleared s) (s.afterNs 10000)) := by
    show execLedgerRecovery s = _
    unfold execLedgerRecovery; rw [hrec, Bool.not_true, if_neg Bool.false_ne_true]; dsimp only
    rw [hcold, if_pos rfl, ledgerRecover_cold hrec hoffers hcold]
  have h := ledgerOpened_opened (tablesCleared s) (s.afterNs 10000)
  exact ⟨_, hexec, h.recovered rfl, h.slots⟩

theorem execLedgerRecovery_one {s : State} {i : Nat} (hrec : s.on SKB_STATUS_recovering = true) (hoffers : s.skb.offers = [])
    (hcold : s.skb.cold = false) (herr : s.dramErr = []) (hslots : ledgerSlots s = [i])
    (hidle : slotPending (slotOfWords (s.ldN (slotAddr s i) 6)) = false) :
    Gives (exec .ledgerRecovery s) (fun t => Recovered s t ∧ t.led i = slotOfWords (s.ldN (slotAddr s i) 6) ∧ ∀ j, j ≠ i → t.led j = Slot.free) := by
  have hexec : exec .ledgerRecovery s =
      .next (attRecover (ledgerOpened ((tablesCleared s).setLed i (slotOfWords (s.ldN (slotAddr s i) 6))) (s.afterNs 10000))) := by
    show execLedgerRecovery s = _
    unfold execLedgerRecovery; rw [hrec, Bool.not_true, if_neg Bool.false_ne_true]; dsimp only
    rw [hcold, if_neg Bool.false_ne_true, ledgerRecover_one hrec hoffers hcold herr hslots hidle]
  have h := (ledgerOpened_opened ((tablesCleared s).setLed i (slotOfWords (s.ldN (slotAddr s i) 6))) (s.afterNs 10000)).attRecover
  have hled : ∀ j, (attRecover (ledgerOpened ((tablesCleared s).setLed i (slotOfWords (s.ldN (slotAddr s i) 6))) (s.afterNs 10000))).led j =
      ((tablesCleared s).setLed i (slotOfWords (s.ldN (slotAddr s i) 6))).led j := fun j => by
    unfold State.led; rw [h.slots]
  refine ⟨_, hexec, h.recovered rfl, ?_, fun j hj => ?_⟩
  · rw [hled, led_setLed_self]
  · rw [hled, led_setLed_ne _ _ hj]; rfl

theorem execLedgerReadback_lost {s : State} {i : Fin 65536} (hp : slotPending (s.led i) = true) (hb : s.badBurst (burstOf (slotAddr s i)) = false)
    (hchip : onChip s i = false) (hok : strokeOk (storedStroke s (slotAddr s i)) = false) (hen : s.on TW_CFG_en = false) (hps : s.get TW_STATUS_pstate ≠ 3) :
    Gives (exec (.ledgerReadback i) s) (fun t =>
      Finished s t i 4 0 ∧ t.fix.fatal = true ∧ srcStatus t 0 = true ∧ (s.fix.fatal = false → t.skb.armed = false)) := by
  have hskb := (checkFailed_regsOnly s).skb
  have hpstate : (checkFailed s).get TW_STATUS_pstate = s.get TW_STATUS_pstate := ev_get_ne s _ _ (by decide) (by decide)
  obtain ⟨hled, hfatal, hstatus, harm⟩ := strokeLost_shows (s := checkFailed s) i
    ((checkFailed_on_ne s (by decide) (by decide)).trans hen) (by rw [hpstate]; exact hps)
  refine ⟨_, ledgerReadback_lost hp hb hchip hok, ?_, hfatal, hstatus, fun hf => harm ?_⟩
  · rw [Finished, hled, led_of_skb hskb]; rfl
  · rw [(checkFailed_regsOnly s).fix]; exact hf

/-- Settles O30: a write and a write-back by the words they leave, a read-back by what it finds in DRAM, and recovery by what it reads back. -/
theorem ledger : Obligations.Ledger := by
  unfold Obligations.Ledger
  refine ⟨fun s i => ?_, fun s => ?_⟩
  · dsimp only
    refine ⟨fun hb o hfind htwin hacked hslots => ?_, fun hp => ⟨fun hb hok hsame => ?_, fun hb hchip hne => ?_, fun hb hchip hok hen hps => ?_⟩,
      fun hfl => ?_, fun hfl hb => ?_, fun hstate hcommit hchip hnear ht hok => ?_, fun _ ht => strokeHandoff_early ht⟩
    · have ho : o.slot = some i.val := by
        have h := List.find?_some hfind
        rw [Bool.and_eq_true] at h; exact of_decide_eq_true h.1
      have hledger := answerOffer_ledger (writeAnswered s o i) { o with wrote := true } 0 (s.led i).seq o.late
      have hld : ∀ b, (acceptedAnswer s o i).ld b = (writeAnswered s o i).ld b := fun b => ld_of_mem hledger.mem b
      have hled : ∀ j, (acceptedAnswer s o i).led j = (writeAnswered s o i).led j := hledger.led
      refine ⟨_, ledgerWriteComplete_next hb hfind htwin hacked hslots, fun q hq => ?_, fun b hnot => ?_, ?_, fun j hj => ?_, fun k rd hasker hwait => ?_,
        fun hasker hcode hbusy => ?_⟩
      · show (acceptedAnswer s o i).ld (slotAddr s i + q) = _
        rw [hld, writeAnswered_ld hb ho, if_pos ⟨Nat.le_add_right _ _, Nat.add_lt_add_left hq _⟩, Nat.add_sub_cancel_left]
      · rw [hld, writeAnswered_ld hb ho]
        exact if_neg hnot
      · rw [hled, writeAnswered_led hb, if_pos rfl]
      · rw [hled, writeAnswered_led hb, if_neg hj]
      · rw [acceptedAnswer_core hb hasker hwait]
        exact ⟨core_setCore_self _ _ _, fun j hj => (core_setCore_ne _ _ hj).trans (core_of_cores (writeAnswered_cores hb) j)⟩
      · rw [acceptedAnswer_mailbox hb hasker hcode]
        exact mbxFinish_answered ((writeAnswered_on hb (by decide)).trans hbusy) (by decide) (show 1 ≤ 64 by decide)
    · exact ⟨_, ledgerReadback_taken hp hb hok hsame, led_setLed_self _ _ _, fun j hj => led_setLed_ne _ _ hj, rfl⟩
    · exact ⟨_, ledgerReadback_rewritten hp hb hchip hne, rewritten_shows hb⟩
    · exact execLedgerReadback_lost hp hb hchip hok hen hps
    · show execStatusWriteback i s = _
      unfold execStatusWriteback; rw [if_pos hfl]
    · obtain ⟨⟨mem, err, hmem⟩, hwords, hrest⟩ := statusWriteback_shows hb
      refine ⟨_, execStatusWriteback_eq hfl, ?_, hwords, hrest⟩
      rw [hmem]
    · exact ⟨_, strokeHandoff_due hstate hcommit hchip hnear ht hok, led_setLed_self _ _ _, fun j hj => led_setLed_ne _ _ hj, rfl⟩
  · exact ⟨execLedgerRecovery_closed, fun hrec hoffers => ⟨execLedgerRecovery_cold hrec hoffers,
      fun i hcold herr hslots hidle => execLedgerRecovery_one hrec hoffers hcold herr hslots hidle⟩⟩

end Sys2Proof.Machine
end

section
/-! PROOF. The frames of the twin link: which count, what a frame sent leaves, and the frames of strokes, notes and state (O57). -/

namespace Sys2Proof.Machine

/-! ### Which frames count -/

theorem steady_of_tb {s t : State} (h : t.tb = s.tb) : t.steady = s.steady := by unfold State.steady State.now; rw [h]

/-- A frame that verifies is heard. -/
def frameHeard (s : State) (h : TwHdr) : State :=
  { s.inc TW_CNT_RX_count with tw := { (s.inc TW_CNT_RX_count).tw with lastRx := s.steady, lastDep := t80Of h.hi h.lo, silent := false } }

/-- What every frame that verifies leaves (R435 to R437). -/
def frameBase (s : State) (h : TwHdr) : State := swapSettled (takeAck (frameHeard s h) h.ack.toNat)

/-- What a frame taken in its sequence leaves before it acts. -/
def frameTaken (s : State) (h : TwHdr) : State := { frameBase s h with tw := { (frameBase s h).tw with rxSeq := h.seq.toNat } }

/-- Whether a frame is the next of its sequence (R436). -/
abbrev InSequence (s : State) (h : TwHdr) : Prop := h.seq.toNat = ((frameBase s h).tw.rxSeq + 1) % 65536

/-- Whether a frame verifies (R435, R437). -/
def GoodFrame (s : State) (h : TwHdr) : Prop := s.on TW_CFG_en = true ∧ h.lineOk = true ∧ s.tw.keyCopy = true ∧ h.tagOk = true

/-- What every frame of the link does before and beside its own effect (R435 to R437). -/
def FrameRule (s : State) (h : TwHdr) (inSequence : Prop) (o : Out) (Q : Prop) : Prop :=
  (¬ s.on TW_CFG_en = true → o = .next s) ∧ (s.on TW_CFG_en = true → h.lineOk = false → o = .next (s.inc TW_CNT_CRC_count)) ∧
    (s.on TW_CFG_en = true → h.lineOk = true → s.tw.keyCopy = false ∨ h.tagOk = false → o = .next (s.inc TW_CNT_AUTH_count)) ∧
    (GoodFrame s h → ¬ inSequence → o = .next (frameBase s h)) ∧ (GoodFrame s h → inSequence → Q)

theorem twFrame_good {s : State} {h : TwHdr} (idle hello : Bool) (f : State → Out) (hgood : GoodFrame s h) :
    twFrame h idle hello s f = if idle then f (frameBase s h)
      else if hello = true ∨ InSequence s h then f (frameTaken s h) else .next (frameBase s h) := by
  obtain ⟨hen, hline, hkey, htag⟩ := hgood
  have hsteady : (s.inc TW_CNT_RX_count).steady = s.steady := steady_of_tb (State.inc_tb _ _)
  unfold twFrame
  rw [hen, hline, hkey, htag]; dsimp only
  rw [hsteady]
  rfl

theorem twFrame_rule {s : State} {h : TwHdr} {idle hello : Bool} {f : State → Out} {inSequence Q : Prop}
    (hout : GoodFrame s h → ¬ inSequence → twFrame h idle hello s f = .next (frameBase s h)) (hin : GoodFrame s h → inSequence → Q) :
    FrameRule s h inSequence (twFrame h idle hello s f) Q := by
  refine ⟨fun hen => ?_, fun hen hline => ?_, fun hen hline hauth => ?_, hout, hin⟩
  · unfold twFrame; rw [Bool.eq_false_iff.2 hen]; rfl
  · unfold twFrame; rw [hen, hline]; rfl
  · unfold twFrame; rw [hen, hline]
    rcases hauth with hkey | htag
    · rw [hkey]; rfl
    · rw [htag, Bool.not_false, Bool.or_true]; rfl

/-- A frame that is taken in sequence only. -/
theorem twFrame_sequenced {s : State} {h : TwHdr} {f : State → Out} {Q : Prop} (hQ : twFrame h false false s f = f (frameTaken s h) → Q) :
    FrameRule s h (InSequence s h) (twFrame h false false s f) Q := by
  refine twFrame_rule (fun hgood hout => ?_) (fun hgood hin => hQ ?_)
  · rw [twFrame_good false false f hgood, if_neg Bool.false_ne_true, if_neg (not_or.2 ⟨Bool.false_ne_true, hout⟩)]
  · rw [twFrame_good false false f hgood, if_neg Bool.false_ne_true, if_pos (Or.inr hin)]

theorem twinIdleRx_rule (s : State) (h : TwHdr) : FrameRule s h False (execTwinIdleRx h s) True := by
  unfold execTwinIdleRx
  refine twFrame_rule (fun hgood _ => ?_) (fun _ hin => absurd hin not_false)
  rw [twFrame_good true false _ hgood, if_pos rfl]

/-! ### A frame sent -/

/-- Frames sent change the link's own queue and TW_CNT_TX alone. -/
structure Sends (s t : State) : Prop where
  rd : ∀ b, b ≠ TW_CNT_TX → t.rd b = s.rd b
  tells : Tells s t
  mem : t.mem = s.mem
  tw : t.tw = { s.tw with txSeq := t.tw.txSeq, sent := t.tw.sent, unacked := t.tw.unacked }

namespace Sends
variable {s t u : State}

theorem refl (s : State) : Sends s s := ⟨fun _ _ => rfl, Tells.refl s, rfl, rfl⟩

theorem trans (h : Sends s t) (k : Sends t u) : Sends s u :=
  ⟨fun b hb => (k.rd b hb).trans (h.rd b hb), h.tells.trans k.tells, k.mem.trans h.mem, by rw [k.tw, h.tw]⟩

theorem foldl {α : Type} {f : State → α → State} (hf : ∀ t a, Sends t (f t a)) (l : List α) (s : State) : Sends s (l.foldl f s) := by
  induction l generalizing s with
  | nil => exact refl s
  | cons a l ih => exact (hf s a).trans (ih (f s a))

theorem get (h : Sends s t) (f : Fld) (hf : f.addr ≠ TW_CNT_TX) : t.get f = s.get f := by unfold State.get; rw [h.rd _ hf]

theorem on (h : Sends s t) (f : Fld) (hf : f.addr ≠ TW_CNT_TX) : t.on f = s.on f := by unfold State.on; rw [h.get f hf]

end Sends

theorem twSend_sends (s : State) (kind : Nat) (payload : List Word) : Sends s (twSend s kind payload) := by
  have htells := twSend_tells s kind payload
  unfold twSend at *; dsimp only at *; split
  · rename_i hen
    rw [if_pos hen] at htells
    exact ⟨fun b hb => rd_put_ne _ TW_CNT_TX_count _ hb, htells, State.inc_mem _ _, by rw [State.inc_tw]⟩
  · exact Sends.refl s

theorem twSend_sent {s : State} (kind : Nat) (payload : List Word) (h : s.on TW_CFG_en = true) : (twSend s kind payload).tw.sent = (kind, payload) :: s.tw.sent := by
  unfold twSend; rw [if_pos h]; dsimp only; rw [State.inc_tw]

end Sys2Proof.Machine
end

section
/-! PROOF. Frames of the twin link that change the tables alone: notes, state, GIVE, SWAP and its acknowledgement (O57). -/

namespace Sys2Proof.Machine

/-! ### Notes (R445) -/

/-- The active-only stroke that a NOTE of seq `n` ends. -/
def notedSlot (u : State) (n : Nat) : Option (Nat × Slot) :=
  u.skb.slots.find? (fun e => decide (e.2.seq = n) && slotPending e.2 && !shadowStroke e.2.stroke)

theorem twinNoteRx_rule (s : State) (h : TwHdr) (seq : BitVec 32) (report : Fin 8) :
    FrameRule s h (InSequence s h) (execTwinNoteRx h seq report s) (
      (¬ twStandby (frameTaken s h) = true ∨ notedSlot (frameTaken s h) seq.toNat = none → execTwinNoteRx h seq report s = .next (frameTaken s h)) ∧
      (∀ e, twStandby (frameTaken s h) = true → notedSlot (frameTaken s h) seq.toNat = some e →
        execTwinNoteRx h seq report s = .next ((frameTaken s h).setLed e.1 { e.2 with state := 3 }))) := by
  unfold execTwinNoteRx
  refine twFrame_sequenced fun hf => ?_
  rw [hf]
  generalize frameTaken s h = u
  unfold notedSlot
  refine ⟨fun hnot => ?_, fun e hs hn => ?_⟩
  · cases hs : twStandby u with
    | false => rfl
    | true =>
      rcases hnot with hc | hn
      · exact absurd hs hc
      · dsimp only; rw [hn]; rfl
  · dsimp only; rw [hs, hn]; rfl

/-! ### Mirrored state (R439, R442) -/

/-- The units whose registers a STATE frame's items reach: PAL and UND. -/
def stateUnits : List Nat := [0x010, 0x011]

theorem applyServo_within (s : State) (a : Nat) (w : Word) : Within stateUnits s (applyServo s a w) ∧ (applyServo s a w).tw = s.tw := by
  unfold applyServo
  split
  · exact ⟨.of_regs rfl, rfl⟩
  split
  · exact ⟨((Within.refl _ s).put (f := UND_STATUS_learn_h) _).put (f := UND_STATUS_stage) _, (State.put_tw _ _ _).trans (State.put_tw _ _ _)⟩
  split
  next h =>
    unfold UND_M_Y0 at h
    have hunit : a / 256 = 0x011 := by omega
    exact ⟨(Within.refl _ s).wr w (by omega) (by rw [hunit]; decide) (fun hfix => by omega), State.wr_tw _ _ _⟩
  next => exact ⟨.refl _ s, rfl⟩

/-- An item enters the mirror. -/
def itemHeld (s : State) (e : Nat × Word) : State := { s with tw := { s.tw with mirror := tabSet (fun _ => 0) s.tw.mirror e.1 e.2 } }

/-- Glaze's B is the bound of Palette slot 23 on the standby (R443). -/
def itemBound (s : State) (e : Nat × Word) : State := if e.1 = GLZ_B then s.wr (PAL_Sn_BOUND 23) e.2 else s

theorem itemBound_within (s : State) (e : Nat × Word) : Within stateUnits s (itemBound s e) ∧ (itemBound s e).tw = s.tw := by
  unfold itemBound; split
  · exact ⟨(Within.refl _ s).wr e.2 (by decide) (by decide), State.wr_tw _ _ _⟩
  · exact ⟨.refl _ s, rfl⟩

theorem takeItem_eq (shared : Bool) (s : State) (e : Nat × Word) : takeItem shared s e =
    if shared && (itemBound (itemHeld s e) e).on TW_CFG_shared_atom then applyServo (itemBound (itemHeld s e) e) e.1 e.2 else itemBound (itemHeld s e) e := rfl

theorem takeItem_within (shared : Bool) (s : State) (e : Nat × Word) : Within stateUnits s (takeItem shared s e) ∧
    tabGet (fun _ => 0) (takeItem shared s e).tw.mirror e.1 = e.2 := by
  obtain ⟨hb, htw⟩ := itemBound_within (itemHeld s e) e
  have hheld : Within stateUnits s (itemHeld s e) := .of_regs rfl
  have hmirror : tabGet (fun _ => 0) (itemHeld s e).tw.mirror e.1 = e.2 := tabGet_tabSet_self _ _ _ _
  rw [takeItem_eq]
  split
  · obtain ⟨hs, htw'⟩ := applyServo_within (itemBound (itemHeld s e) e) e.1 e.2
    exact ⟨(hheld.trans hb).trans hs, by rw [htw', htw]; exact hmirror⟩
  · exact ⟨hheld.trans hb, by rw [htw]; exact hmirror⟩

theorem takeItem_bound (shared : Bool) (s : State) (w : Word) : (takeItem shared s (GLZ_B, w)).rd (PAL_Sn_BOUND 23) = w := by
  have hb : itemBound (itemHeld s (GLZ_B, w)) (GLZ_B, w) = (itemHeld s (GLZ_B, w)).wr (PAL_Sn_BOUND 23) w := if_pos rfl
  have hservo : ∀ u : State, applyServo u GLZ_B w = u := fun u => by
    unfold applyServo
    rw [if_neg (by decide), if_neg (by decide), if_neg (by decide)]
  rw [takeItem_eq, hservo, hb]
  split <;> exact rd_wr_self _ _ _

theorem takeItems_within (shared : Bool) (items : List (Nat × Word)) (s : State) : Within stateUnits s (items.foldl (takeItem shared) s) :=
  Within.foldl items (fun t e _ => (takeItem_within shared t e).1) (.refl _ s)

/-- The generation that a STATE frame brings (R439). -/
def generationTaken (s : State) (gen : Word) (setter : BitVec 64) : State :=
  (((s.wr TW_GEN gen).put TW_GEN_UID_HI_val (setter.toNat / 2 ^ 32)).put TW_GEN_UID_LO_val (setter.toNat % 2 ^ 32)).putB TW_STATUS_peer_own true

theorem generationTaken_shows (s : State) (gen : Word) (setter : BitVec 64) :
    (generationTaken s gen setter).rd TW_GEN = gen ∧ (generationTaken s gen setter).get TW_GEN_UID_HI_val = setter.toNat / 2 ^ 32 ∧
      (generationTaken s gen setter).get TW_GEN_UID_LO_val = setter.toNat % 2 ^ 32 ∧ (generationTaken s gen setter).on TW_STATUS_peer_own = true := by
  have hok : TW_GEN_UID_HI_val.ok ∧ TW_GEN_UID_LO_val.ok ∧ TW_STATUS_peer_own.ok := by unfold Fld.ok; decide
  obtain ⟨hhi, hlo, hown⟩ := hok
  have hlt := setter.isLt
  unfold generationTaken
  refine ⟨?_, ?_, ?_, on_putB_self _ TW_STATUS_peer_own true hown⟩
  · exact (rd_put_ne _ TW_STATUS_peer_own _ (by decide)).trans ((rd_put_ne _ TW_GEN_UID_LO_val _ (by decide)).trans
      ((rd_put_ne _ TW_GEN_UID_HI_val _ (by decide)).trans (rd_wr_self _ _ _)))
  · refine (get_put_addr _ TW_STATUS_peer_own TW_GEN_UID_HI_val _ (by decide)).trans
      ((get_put_addr _ TW_GEN_UID_LO_val TW_GEN_UID_HI_val _ (by decide)).trans ((get_put_self _ _ _ hhi).trans (Nat.mod_eq_of_lt ?_)))
    show setter.toNat / 2 ^ 32 < 2 ^ 32; omega
  · refine (get_put_addr _ TW_STATUS_peer_own TW_GEN_UID_LO_val _ (by decide)).trans ((get_put_self _ _ _ hlo).trans (Nat.mod_eq_of_lt ?_))
    show setter.toNat % 2 ^ 32 < 2 ^ 32; omega

theorem twinStateRx_rule (s : State) (h : TwHdr) (gen : Word) (setter : BitVec 64) (shared : Bool) (items : List (Nat × Word)) :
    FrameRule s h (InSequence s h) (execTwinStateRx h gen setter shared items s) (
      (¬ twStandby (frameTaken s h) = true → execTwinStateRx h gen setter shared items s = .next (frameTaken s h)) ∧
      (twStandby (frameTaken s h) = true → Gives (execTwinStateRx h gen setter shared items s) (fun t => t.rd TW_GEN = gen ∧
        t.get TW_GEN_UID_HI_val = setter.toNat / 2 ^ 32 ∧ t.get TW_GEN_UID_LO_val = setter.toNat % 2 ^ 32 ∧ t.on TW_STATUS_peer_own = true ∧
        (∀ a w, items = [(a, w)] → tabGet (fun _ => 0) t.tw.mirror a = w ∧ (a = GLZ_B → t.rd (PAL_Sn_BOUND 23) = w))))) := by
  unfold execTwinStateRx
  refine twFrame_sequenced fun hf => ?_
  rw [hf]
  generalize frameTaken s h = u
  refine ⟨fun hs => ?_, fun hs => ?_⟩
  · rw [Bool.eq_false_iff.2 hs]; rfl
  · rw [hs]
    obtain ⟨hgen, hhi, hlo, hown⟩ := generationTaken_shows u gen setter
    have hw := takeItems_within shared items (generationTaken u gen setter)
    refine ⟨items.foldl (takeItem shared) (generationTaken u gen setter), rfl, ?_, ?_, ?_, ?_, ?_⟩
    · rw [hw.rd _ (by decide) (by decide)]; exact hgen
    · rw [hw.get _ (by decide) (by decide)]; exact hhi
    · rw [hw.get _ (by decide) (by decide)]; exact hlo
    · rw [hw.on _ (by decide) (by decide)]; exact hown
    · rintro a w rfl
      refine ⟨(takeItem_within shared _ (a, w)).2, ?_⟩
      rintro rfl; exact takeItem_bound shared _ w

/-! ### GIVE (R450) -/

/-- A stroke that the former active unit has executed before `t` (R450). -/
def executedBefore (t : T80) (x : Slot) : Bool := slotPending x && x.twin && !shadowStroke x.stroke && t80Lt (strokeAt x.stroke) t

theorem tabGet_map {α : Type} (f : α → α) (d : α) (hf : f d = d) (l : List (Nat × α)) (i : Nat) :
    tabGet (fun _ => d) (l.map (fun e => (e.1, f e.2))) i = f (tabGet (fun _ => d) l i) := by
  induction l with
  | nil => exact hf.symm
  | cons e l ih =>
    obtain ⟨j, x⟩ := e
    show (if j = i then f x else tabGet _ (l.map _) i) = f (if j = i then x else tabGet _ l i)
    split
    · rfl
    · exact ih

theorem divideStrokes_led (s : State) (t : T80) (i : Nat) :
    (divideStrokes s t).led i = if executedBefore t (s.led i) = true then { s.led i with state := 3 } else s.led i :=
  tabGet_map (fun x : Slot => if executedBefore t x = true then { x with state := 3 } else x) Slot.free rfl s.skb.slots i

/-- GIVE fixes t_stop. -/
def giveTaken (u : State) (t : T80) : State :=
  { u.putT TW_T_STOP_HI TW_T_STOP_LO t with tw := { (u.putT TW_T_STOP_HI TW_T_STOP_LO t).tw with give := some t } }

theorem twinGiveRx_rule (s : State) (h : TwHdr) (hi lo : Word) (seq : BitVec 32) :
    FrameRule s h (InSequence s h) (execTwinGiveRx h hi lo seq s) (
      ((frameTaken s h).on TW_STATUS_give_missing = true ∧ (frameTaken s h).tw.driveAt ≠ none → execTwinGiveRx h hi lo seq s = .next (frameTaken s h)) ∧
      (¬ ((frameTaken s h).on TW_STATUS_give_missing = true ∧ (frameTaken s h).tw.driveAt ≠ none) → Gives (execTwinGiveRx h hi lo seq s) (fun t =>
        t.tw = { (frameTaken s h).tw with give := some (t80Of hi lo) } ∧ t.rd TW_T_STOP_HI = T80hi (t80Of hi lo) ∧ t.lo TW_T_STOP_LO = T80lo (t80Of hi lo) ∧
        ∀ i, t.led i = if (frameTaken s h).tw.driveAt ≠ none ∧ slotPending ((frameTaken s h).led i) = true ∧ ((frameTaken s h).led i).twin = true ∧
            shadowStroke ((frameTaken s h).led i).stroke = false ∧ t80Lt (strokeAt ((frameTaken s h).led i).stroke) (t80Of hi lo) = true
          then { (frameTaken s h).led i with state := 3 } else (frameTaken s h).led i))) := by
  unfold execTwinGiveRx
  refine twFrame_sequenced fun hf => ?_
  rw [hf]
  generalize frameTaken s h = u
  have hdrive : u.tw.driveAt ≠ none ↔ u.tw.driveAt.isSome = true := by cases u.tw.driveAt <;> simp
  refine ⟨fun hlate => if_pos ⟨hlate.1, hdrive.1 hlate.2⟩, fun hlate => ?_⟩
  have hrd : (giveTaken u (t80Of hi lo)).rd TW_T_STOP_HI = T80hi (t80Of hi lo) := (rd_of_regs rfl _).trans (rd_wr_self u _ _)
  have hlo : (giveTaken u (t80Of hi lo)).lo TW_T_STOP_LO = T80lo (t80Of hi lo) := tabGet_tabSet_self _ _ _ _
  have hled : ∀ i, (giveTaken u (t80Of hi lo)).led i = u.led i := fun i => led_of_skb rfl i
  refine ⟨if u.tw.driveAt.isSome then divideStrokes (giveTaken u (t80Of hi lo)) (t80Of hi lo) else giveTaken u (t80Of hi lo),
    if_neg (fun hc => hlate ⟨hc.1, hdrive.2 hc.2⟩), ?_⟩
  cases hd : u.tw.driveAt.isSome with
  | false =>
    refine ⟨rfl, hrd, hlo, fun i => ?_⟩
    exact (hled i).trans (if_neg (fun hc => by rw [hdrive.1 hc.1] at hd; cases hd)).symm
  | true =>
    refine ⟨rfl, (rd_of_regs rfl _).trans hrd, hlo, fun i => (divideStrokes_led _ _ i).trans ?_⟩
    rw [hled]
    refine if_congr ?_ rfl rfl
    unfold executedBefore
    have hne := hdrive.2 hd
    simp only [Bool.and_eq_true, Bool.not_eq_true', and_assoc, hne, ne_eq, not_false_eq_true, true_and]

/-! ### SWAP and its acknowledgement (R454, R455) -/

theorem twinSwapAckRx_rule (s : State) (h : TwHdr) (hi lo : Word) :
    FrameRule s h (InSequence s h) (execTwinSwapAckRx h hi lo s) (
      if (frameTaken s h).tw.swapAt = some (t80Of hi lo) ∧ twActive (frameTaken s h) = true ∧
          (frameTaken s h).elapsed (t80Add (frameTaken s h).tw.swapSent ((nsU 1000000 : Nat) : Int)) = false then
        execTwinSwapAckRx h hi lo s = .next { frameTaken s h with tw := { (frameTaken s h).tw with swapAck := true } }
      else execTwinSwapAckRx h hi lo s = .next (frameTaken s h)) := by
  unfold execTwinSwapAckRx
  refine twFrame_sequenced fun hf => ?_
  rw [hf]
  generalize frameTaken s h = u
  have hiff : (u.tw.swapAt = some (t80Of hi lo) ∧ twActive u = true ∧ (!u.elapsed (t80Add u.tw.swapSent ((nsU 1000000 : Nat) : Int))) = true) ↔
      (u.tw.swapAt = some (t80Of hi lo) ∧ twActive u = true ∧ u.elapsed (t80Add u.tw.swapSent ((nsU 1000000 : Nat) : Int)) = false) := by
    rw [Bool.not_eq_true']
  split
  next hc => exact if_pos (hiff.2 hc)
  next hc => exact if_neg (fun h => hc (hiff.1 h))

theorem en_of_standby {s : State} (h : twStandby s = true) : s.on TW_CFG_en = true := by unfold twStandby at h; rw [Bool.and_eq_true] at h; exact h.1

theorem standby_inactive {s : State} (h : twStandby s = true) : twActive s = false := by
  unfold twStandby at h; rw [Bool.and_eq_true] at h
  unfold twActive; rw [of_decide_eq_true h.2]; exact Bool.and_false _

theorem twinSwapRx_rule (s : State) (h : TwHdr) (hi lo : Word) :
    FrameRule s h (InSequence s h) (execTwinSwapRx h hi lo s) (
      (twStandby (frameTaken s h) = true → Gives (execTwinSwapRx h hi lo s) (fun t => t.tw.swapAt = some (t80Of hi lo) ∧ t.tw.swapping = false ∧
        t.tw.sent = (9, [hi, lo]) :: (frameTaken s h).tw.sent)) ∧
      (swapLegal (frameTaken s h) = true → Gives (execTwinSwapRx h hi lo s) (fun t => t.tw.swapAt ≠ none ∧ t.tw.swapAck = false ∧ t.tw.swapMbx = false)) ∧
      (¬ twStandby (frameTaken s h) = true → swapLegal (frameTaken s h) = false → execTwinSwapRx h hi lo s = .next (frameTaken s h))) := by
  unfold execTwinSwapRx
  refine twFrame_sequenced fun hf => ?_
  rw [hf]
  generalize frameTaken s h = u
  refine ⟨fun hs => ?_, fun hl => ?_, fun hs hl => ?_⟩
  · have hsends := twSend_sends { u with tw := { u.tw with swapAt := some (t80Of hi lo), swapping := false } } 9 [hi, lo]
    refine ⟨_, if_pos hs, ?_, ?_, ?_⟩
    · rw [hsends.tw]
    · rw [hsends.tw]
    · exact twSend_sent _ _ ((on_of_regs rfl _).trans (en_of_standby hs))
  · have hs : ¬ twStandby u = true := fun hs => by
      unfold swapLegal at hl; rw [standby_inactive hs] at hl; simp at hl
    refine ⟨startSwap u false, ?_, ?_⟩
    · dsimp only; rw [if_neg hs, if_pos hl]
    · unfold startSwap
      extract_lets first t tw u'
      dsimp only
      rw [(twSend_sends u' 8 [T80hi t, T80lo t]).tw]
      exact ⟨Option.some_ne_none _, rfl, rfl⟩
  · dsimp only; rw [if_neg hs, hl, if_neg Bool.false_ne_true]

end Sys2Proof.Machine
end

section
/-! PROOF. Frames of the twin link that carry strokes: a mirrored stroke, its acknowledgement, and the slots of a refill (O57). -/

namespace Sys2Proof.Machine

/-! ### The seq of a stroke received -/

theorem seqLater_lt {a b : Nat} (ha : a < 2 ^ 32) (hb : b < 2 ^ 32) : seqLater a b < 2 ^ 32 := by unfold seqLater; split <;> assumption

/-- The seq is no longer one that the twin's ledger has to show (R150). -/
def seqResolved (s : State) (n : Nat) : State := { s with skb := { s.skb with unresolved := s.skb.unresolved.filter (fun q => decide (q ≠ n)) } }

theorem noteSeq_eq (s : State) (n : Nat) : noteSeq s n = noteAccepted (seqResolved s n) n := rfl

theorem noteAccepted_skb (s : State) (n : Nat) : (noteAccepted s n).skb = s.skb := State.put_skb _ _ _

theorem noteAccepted_rd (s : State) (n : Nat) {b : Nat} (h : b ≠ SKB_SEQ) : (noteAccepted s n).rd b = s.rd b := rd_put_ne s SKB_SEQ_seq _ h

theorem noteAccepted_seq (s : State) {n : Nat} (h : n < 2 ^ 32) : (noteAccepted s n).get SKB_SEQ_seq = seqLater (s.get SKB_SEQ_seq) n := by
  have hold : s.get SKB_SEQ_seq < 2 ^ 32 := fieldOf_lt _ _ _
  have hnew := seqLater_lt hold h
  unfold noteAccepted
  exact (get_put_self s SKB_SEQ_seq _ (by unfold Fld.ok; decide)).trans (Nat.mod_eq_of_lt hnew)

theorem noteSeq_skb (s : State) (n : Nat) : (noteSeq s n).skb = { s.skb with unresolved := s.skb.unresolved.filter (fun q => decide (q ≠ n)) } :=
  noteAccepted_skb (seqResolved s n) n

theorem noteSeq_rd (s : State) (n : Nat) {b : Nat} (h : b ≠ SKB_SEQ) : (noteSeq s n).rd b = s.rd b :=
  (noteAccepted_rd (seqResolved s n) n h).trans (rd_of_regs (t := seqResolved s n) rfl b)

theorem noteSeq_led (s : State) (n i : Nat) : (noteSeq s n).led i = s.led i := by
  have hskb : (noteSeq s n).skb = (seqResolved s n).skb := by rw [noteSeq_eq]; exact noteAccepted_skb _ _
  unfold State.led; rw [hskb]; rfl

/-! ### A mirrored stroke (R146) -/

/-- The slot that a mirrored stroke fills. -/
def mirroredSlot (k : Stroke) (seq offerer : Nat) (keeper : Bool) : Slot :=
  { Slot.free with state := 1, keeper := keeper, seq := seq, offerer := offerer, chip := true, twin := true, stroke := k }

/-- The offer that stands for the write of a mirrored stroke. -/
def mirroredOffer (k : Stroke) (i : Nat) (keeper : Bool) (at_ : T80) : Offer :=
  { core := none, asker := .nobody, old := Slot.free, stroke := k, keeper := keeper, slot := some i, wrote := false, mirrored := false,
    acked := false, late := false, fromTwin := true, at_ := at_ }

/-- An offer enters the list of those that wait. -/
def offerAdded (s : State) (o : Offer) : State := { s with skb := { s.skb with offers := s.skb.offers ++ [o] } }

theorem offerAdded_led (s : State) (o : Offer) (j : Nat) : (offerAdded s o).led j = s.led j := rfl

theorem mem_offerAdded (s : State) (o : Offer) : o ∈ (offerAdded s o).skb.offers := List.mem_append_right _ (List.mem_singleton.2 rfl)

/-- A mirrored stroke is held, its write to come. -/
def strokeHeld (u : State) (k : Stroke) (i seq offerer : Nat) (keeper : Bool) : State :=
  offerAdded (noteSeq (u.setLed i (mirroredSlot k seq offerer keeper)) seq)
    (mirroredOffer k i keeper (noteSeq (u.setLed i (mirroredSlot k seq offerer keeper)) seq).steady)

theorem strokeHeld_shows (u : State) (k : Stroke) (i : Nat) {seq : Nat} (hseq : seq < 2 ^ 32) (offerer : Nat) (keeper : Bool) :
    (strokeHeld u k i seq offerer keeper).led i = mirroredSlot k seq offerer keeper ∧ (∀ j, j ≠ i → (strokeHeld u k i seq offerer keeper).led j = u.led j) ∧
      (strokeHeld u k i seq offerer keeper).get SKB_SEQ_seq = seqLater (u.get SKB_SEQ_seq) seq ∧
      (strokeHeld u k i seq offerer keeper).skb.offers.length = u.skb.offers.length + 1 := by
  have hled := noteSeq_led (u.setLed i (mirroredSlot k seq offerer keeper)) seq
  have hget : (noteSeq (u.setLed i (mirroredSlot k seq offerer keeper)) seq).get SKB_SEQ_seq = seqLater (u.get SKB_SEQ_seq) seq := by
    rw [noteSeq_eq, noteAccepted_seq _ hseq]
    exact congrArg (fun v => seqLater v seq) (get_of_regs rfl _)
  have hoffers : (noteSeq (u.setLed i (mirroredSlot k seq offerer keeper)) seq).skb.offers = u.skb.offers := by
    rw [noteSeq_eq, noteAccepted_skb]; rfl
  unfold strokeHeld
  generalize noteSeq (u.setLed i (mirroredSlot k seq offerer keeper)) seq = v at *
  refine ⟨?_, fun j hj => ?_, (get_of_regs rfl _).trans hget, ?_⟩
  · rw [offerAdded_led, hled, led_setLed_self]
  · rw [offerAdded_led, hled, led_setLed_ne _ _ hj]
  · show (v.skb.offers ++ [_]).length = _
    rw [List.length_append, hoffers]; rfl

/-- A stroke check failure of a standby (R34): the device FATAL, its ledger kept. -/
theorem standby_checkFails {u : State} (h : twStandby u = true) :
    srcStatus (raiseSrc u 0 none) 0 = true ∧ (raiseSrc u 0 none).fix.fatal = true ∧ (raiseSrc u 0 none).skb.slots = u.skb.slots := by
  rw [raiseSrc_fatal u (n := 0) (by decide)]
  exact ⟨fatalEnter_status _ _ (by decide), fatalEnter_fatal _ _, (fatalEnter_ledger none (by decide) (standby_inactive h)).slots⟩

/-- A mirrored stroke goes to its slot, where one is to be had. -/
def strokePlaced (u : State) (k : Stroke) (seq offerer : Nat) (keeper : Bool) : Option Nat → Out
  | none => .next u
  | some i => .next (strokeHeld u k i seq offerer keeper)

/-- What a mirrored stroke in its sequence does (R146). -/
def strokeTaken (k : Stroke) (seq offerer : Nat) (keeper : Bool) (u : State) : Out :=
  if !twStandby u ∨ (u.get TW_STATUS_pstate ≠ 2 ∧ u.get TW_STATUS_pstate ≠ 3) then .next u
  else if !strokeOk k then .next (raiseSrc u 0 none)
  else if strictClass k ∧ t80Lt (strokeAt k) (u.afterNs 100) then .next (twSend u 3 [w40 (2 ^ 32 + seq)])
  else strokePlaced u k seq offerer keeper (mirrorSlot u seq)

theorem twinStrokeRx_eq (h : TwHdr) (hi lo act : Word) (tag : BitVec 8) (chk seq : BitVec 32) (offerer : BitVec 8) (keeper : Bool) (s : State) :
    execTwinStrokeRx h hi lo act tag chk seq offerer keeper s =
      twFrame h false false s (strokeTaken { hi := hi, lo := lo, act := act, tag := tag.toNat, chk := chk.toNat } seq.toNat offerer.toNat keeper) := by
  unfold execTwinStrokeRx
  refine congrArg (twFrame h false false s) (funext fun u => ?_)
  unfold strokeTaken; dsimp only
  generalize mirrorSlot u seq.toNat = place
  cases place <;> rfl

section
variable {u : State} {k : Stroke} {seq offerer : Nat} {keeper : Bool}

/-- The states in which a mirrored stroke is taken. -/
abbrev TakesStrokes (u : State) : Prop := twStandby u = true ∧ (u.get TW_STATUS_pstate = 2 ∨ u.get TW_STATUS_pstate = 3)

/-- Whether a mirrored stroke comes too late (R146). -/
abbrev LateStroke (u : State) (k : Stroke) : Prop := strictClass k = true ∧ t80Lt (strokeAt k) (u.afterNs 100) = true

theorem strokeTaken_skips (h : ¬ TakesStrokes u) : strokeTaken k seq offerer keeper u = .next u := by
  unfold strokeTaken; rw [if_pos]
  unfold TakesStrokes at h
  rw [not_and_or, not_or] at h
  rwa [Bool.not_eq_true', ← Bool.not_eq_true]

theorem strokeTaken_takes (h : TakesStrokes u) : strokeTaken k seq offerer keeper u =
    if !strokeOk k then .next (raiseSrc u 0 none)
    else if strictClass k ∧ t80Lt (strokeAt k) (u.afterNs 100) then .next (twSend u 3 [w40 (2 ^ 32 + seq)])
    else strokePlaced u k seq offerer keeper (mirrorSlot u seq) := by
  obtain ⟨hs, hp⟩ := h
  unfold strokeTaken; rw [if_neg]
  rw [hs]; rintro (hc | ⟨h2, h3⟩)
  · cases hc
  · exact hp.elim h2 h3

end

/-- What a mirrored stroke in its sequence does, case by case. -/
theorem strokeTaken_cases (u : State) (k : Stroke) {seq : Nat} (hseq : seq < 2 ^ 32) (offerer : Nat) (keeper : Bool) :
    (¬ TakesStrokes u → strokeTaken k seq offerer keeper u = .next u) ∧
    (TakesStrokes u → strokeOk k = false → Gives (strokeTaken k seq offerer keeper u) (fun t =>
      srcStatus t 0 = true ∧ t.fix.fatal = true ∧ t.skb.slots = u.skb.slots)) ∧
    (TakesStrokes u → strokeOk k = true → LateStroke u k → Gives (strokeTaken k seq offerer keeper u) (fun t =>
      t.skb = u.skb ∧ t.tw.sent = (3, [w40 (2 ^ 32 + seq)]) :: u.tw.sent)) ∧
    (TakesStrokes u → strokeOk k = true → ¬ LateStroke u k → mirrorSlot u seq = none → strokeTaken k seq offerer keeper u = .next u) ∧
    (∀ i, TakesStrokes u → strokeOk k = true → ¬ LateStroke u k → mirrorSlot u seq = some i → Gives (strokeTaken k seq offerer keeper u) (fun t =>
      t.led i = mirroredSlot k seq offerer keeper ∧
      (∀ j, j ≠ i → t.led j = u.led j) ∧ t.get SKB_SEQ_seq = seqLater (u.get SKB_SEQ_seq) seq ∧ t.skb.offers.length = u.skb.offers.length + 1)) := by
  refine ⟨strokeTaken_skips, fun ht hok => ?_, fun ht hok hlate => ?_, fun ht hok hlate hplace => ?_, fun i ht hok hlate hplace => ?_⟩
  · refine ⟨raiseSrc u 0 none, ?_, standby_checkFails ht.1⟩
    rw [strokeTaken_takes ht, hok]; rfl
  · refine ⟨twSend u 3 [w40 (2 ^ 32 + seq)], ?_, (twSend_tells _ _ _).skb, twSend_sent _ _ (en_of_standby ht.1)⟩
    rw [strokeTaken_takes ht, hok, Bool.not_true, if_neg Bool.false_ne_true, if_pos hlate]
  · rw [strokeTaken_takes ht, hok, Bool.not_true, if_neg Bool.false_ne_true, if_neg hlate, hplace]; rfl
  · refine ⟨strokeHeld u k i seq offerer keeper, ?_, strokeHeld_shows u k i hseq offerer keeper⟩
    rw [strokeTaken_takes ht, hok, Bool.not_true, if_neg Bool.false_ne_true, if_neg hlate, hplace]; rfl

/-! ### The acknowledgement of a mirrored stroke (R36, R146) -/

/-- Whether a slot number names the slot whose stroke has seq `n`. -/
def holdsSeq (u : State) (n : Nat) : Option Nat → Bool
  | none => false
  | some i => decide ((u.led i).seq = n)

/-- The offer that the acknowledgement of seq `n` is for. -/
def awaitedOffer (u : State) (n : Nat) : Option Offer := u.skb.offers.find? (fun o => o.mirrored && !o.acked && holdsSeq u n o.slot)

/-- The state in which the twin's answer to an offer is taken. -/
def answerHeard (u : State) (o : Offer) : State := noteRtt (offerTaken u o) o

/-- What an acknowledgement in its sequence does. -/
def ackTaken (u : State) (refused : Bool) : Option Offer → Out
  | none => .next u
  | some o =>
    if refused then .next (settleWaiters (dropOffer (answerHeard u o) o))
    else if o.wrote then .next (settleWaiters (commitOffer (answerHeard u o) { o with acked := true }))
    else .next (offerAdded (answerHeard u o) { o with acked := true })

theorem twinStrokeAckRx_eq (h : TwHdr) (seq : BitVec 32) (refused : Bool) (s : State) :
    execTwinStrokeAckRx h seq refused s = twFrame h false false s (fun u => ackTaken u refused (awaitedOffer u seq.toNat)) := by
  unfold execTwinStrokeAckRx
  refine congrArg (twFrame h false false s) (funext fun u => ?_)
  rfl

theorem freeQ_beside (s : State) (x : Int) (d : Nat) : (freeQ s x d).2.skb = s.skb ∧ (freeQ s x d).2.mem = s.mem := by
  unfold freeQ; dsimp only; split <;> exact ⟨rfl, rfl⟩

/-- TW_RTT shows a round trip. -/
def rttShown (s : State) (tw : TwSt) (r : Nat) : State := { s with tw := tw }.put TW_RTT_rtt_ns r

theorem rttShown_beside (s : State) (tw : TwSt) (r : Nat) : (rttShown s tw r).skb = s.skb ∧ (rttShown s tw r).mem = s.mem :=
  ⟨State.put_skb _ _ _, State.put_mem _ _ _⟩

/-- The round trip of an acknowledgement is noted in registers and in the link's own state. (The definition is unfolded as a function, so that
the kernel never evaluates the time difference that it divides.) -/
theorem noteRtt_beside (s : State) (o : Offer) : (noteRtt s o).skb = s.skb ∧ (noteRtt s o).mem = s.mem := by
  have hfree := freeQ_beside s (t80Diff s.steady o.at_) 1024
  have hdef : noteRtt = noteRtt := rfl
  conv at hdef => rhs; delta noteRtt
  generalize hX : noteRtt s o = X
  rw [hdef] at hX
  beta_reduce at hX
  split at hX
  next ns u hq =>
  rw [hq] at hfree
  obtain ⟨hskb, hmem⟩ := hfree
  extract_lets old rtts r tw u₁ at hX
  have h₁ : u₁.skb = u.skb ∧ u₁.mem = u.mem := rttShown_beside u tw r
  clear_value u₁ r
  subst hX
  split
  · exact ⟨h₁.1.trans hskb, h₁.2.trans hmem⟩
  · exact ⟨(State.put_skb _ _ _).trans (h₁.1.trans hskb), (State.put_mem _ _ _).trans (h₁.2.trans hmem)⟩

theorem answerHeard_skb (u : State) (o : Offer) : (answerHeard u o).skb = (offerTaken u o).skb := (noteRtt_beside _ o).1

theorem answerHeard_led (u : State) (o : Offer) (i : Nat) : (answerHeard u o).led i = u.led i := by
  unfold State.led; rw [answerHeard_skb]; rfl

theorem offerTaken_slots {u : State} {o : Offer} (h : ∀ q ∈ u.skb.offers, q.slot ≠ none) : ∀ q ∈ (offerTaken u o).skb.offers, q.slot.isSome = true :=
  fun q hq => Option.isSome_iff_ne_none.2 (h q (List.mem_filter.1 hq).1)

theorem ledgerStore_skb (s : State) (i : Nat) : (ledgerStore s i).skb = s.skb := by
  have h := ledgerStore_memory s i
  generalize ledgerStore s i = u at h; rw [h]

theorem ledgerStore_regs (s : State) (i : Nat) : (ledgerStore s i).regs = s.regs := by
  have h := ledgerStore_memory s i
  generalize ledgerStore s i = u at h; rw [h]

theorem ledgerStore_tw (s : State) (i : Nat) : (ledgerStore s i).tw = s.tw := by
  have h := ledgerStore_memory s i
  generalize ledgerStore s i = u at h; rw [h]

/-- What an offer that is dropped leaves (R146): its slot holds what it held before. -/
theorem dropOffer_led {s : State} {o : Offer} {i : Nat} (ho : o.slot = some i) : (dropOffer s o).led i = o.old := by
  have hstore : ∀ t : State, (if o.wrote then ledgerStore t i else t).skb = t.skb := fun t => by
    split
    · exact ledgerStore_skb t i
    · rfl
  unfold dropOffer; rw [ho]; dsimp only
  rw [(answerOffer_ledger _ o 4 0 false).led, led_of_skb (hstore _)]
  exact led_setLed_self _ _ _

theorem dropOffer_offers {s : State} {o : Offer} (h : ∀ q ∈ s.skb.offers, q.slot.isSome = true) : ∀ q ∈ (dropOffer s o).skb.offers, q.slot.isSome = true := by
  cases ho : o.slot with
  | none => unfold dropOffer; rw [ho]; exact h
  | some i =>
    have hstore : ∀ t : State, (if o.wrote then ledgerStore t i else t).skb = t.skb := fun t => by
      split
      · exact ledgerStore_skb t i
      · rfl
    unfold dropOffer; rw [ho]; dsimp only
    refine offers_slots (answerOffer_ledger _ o 4 0 false).offers ?_
    rw [hstore]; exact h

theorem commitOffer_led {s : State} {o : Offer} {i : Nat} (ho : o.slot = some i) : (commitOffer s o).led i = { s.led i with commit := true } := by
  rw [commitOffer_eq s ho, (answerOffer_ledger _ o 0 _ o.late).led, led_of_skb (offerCommitted_skb s i)]
  exact led_setLed_self _ _ _

theorem commitOffer_offers {s : State} {o : Offer} {i : Nat} (ho : o.slot = some i) (h : ∀ q ∈ s.skb.offers, q.slot.isSome = true) :
    ∀ q ∈ (commitOffer s o).skb.offers, q.slot.isSome = true := by
  rw [commitOffer_eq s ho]
  refine offers_slots (answerOffer_ledger _ o 0 _ o.late).offers ?_
  rw [offerCommitted_skb]; exact h

theorem ackTaken_refused (u : State) (o : Offer) : ackTaken u true (some o) = .next (settleWaiters (dropOffer (answerHeard u o) o)) := by
  rw [ackTaken, if_pos rfl]

theorem ackTaken_written (u : State) {o : Offer} (hw : o.wrote = true) :
    ackTaken u false (some o) = .next (settleWaiters (commitOffer (answerHeard u o) { o with acked := true })) := by
  rw [ackTaken, if_neg Bool.false_ne_true, if_pos hw]

theorem ackTaken_writing (u : State) {o : Offer} (hw : ¬ o.wrote = true) :
    ackTaken u false (some o) = .next (offerAdded (answerHeard u o) { o with acked := true }) := by
  rw [ackTaken, if_neg Bool.false_ne_true, if_neg hw]

/-- What an offer's acknowledgement leaves of its slot and of the list. -/
def AckEffect (u : State) (refused : Bool) (o : Offer) (i : Nat) (t : State) : Prop :=
  (refused = true → t.led i = o.old) ∧ (refused = false → o.wrote = true → t.led i = { u.led i with commit := true }) ∧
    (refused = false → o.wrote = false → t.led i = u.led i ∧ { o with acked := true } ∈ t.skb.offers)

theorem ackTaken_cases {u : State} {o : Offer} {i : Nat} (refused : Bool) (ho : o.slot = some i) (h : ∀ q ∈ u.skb.offers, q.slot ≠ none) :
    Gives (ackTaken u refused (some o)) (AckEffect u refused o i) := by
  have hoffers : ∀ q ∈ (answerHeard u o).skb.offers, q.slot.isSome = true := by rw [answerHeard_skb]; exact offerTaken_slots h
  have hled := answerHeard_led u o i
  cases refused with
  | true =>
    refine ⟨_, ackTaken_refused u o, fun _ => ?_, nofun, nofun⟩
    rw [settleWaiters_none (dropOffer_offers hoffers)]
    exact dropOffer_led ho
  | false =>
    by_cases hw : o.wrote = true
    · refine ⟨_, ackTaken_written u hw, nofun, fun _ _ => ?_, fun _ hc => absurd (hw.symm.trans hc) nofun⟩
      rw [settleWaiters_none (commitOffer_offers (o := { o with acked := true }) ho hoffers), commitOffer_led (o := { o with acked := true }) ho, hled]
    · exact ⟨_, ackTaken_writing u hw, nofun, fun _ hc => absurd hc hw, fun _ _ =>
        ⟨(offerAdded_led _ _ i).trans hled, mem_offerAdded _ _⟩⟩

/-! ### The slots of a refill (R440) -/

/-- A ledger slot as the standby holds it. -/
def refilledSlot (x : Slot) : Slot := { x with state := if x.state = 2 then 1 else x.state, chip := true, twin := true }

/-- A slot of the twin's ledger is written to this ledger at `i`. -/
def slotTaken (s : State) (x : Slot) (i : Nat) : State := ledgerStore (s.setLed i (refilledSlot x)) i

theorem slotTaken_skb (s : State) (x : Slot) (i : Nat) : (slotTaken s x i).skb = (s.setLed i (refilledSlot x)).skb := ledgerStore_skb _ _

theorem slotTaken_regs (s : State) (x : Slot) (i : Nat) : (slotTaken s x i).regs = s.regs := (ledgerStore_regs _ _).trans (State.setLed_regs _ _ _)

/-- A slot of the twin's ledger enters this ledger at `i`. -/
def slotRefilled (s : State) (x : Slot) (i : Nat) : State := noteSeq (slotTaken s x i) x.seq

theorem refillSlot_none {s : State} {x : Slot} (h : mirrorSlot s x.seq = none) : refillSlot s x = s := by unfold refillSlot; rw [h]

theorem refillSlot_some {s : State} {x : Slot} {i : Nat} (h : mirrorSlot s x.seq = some i) : refillSlot s x = slotRefilled s x i := by
  unfold refillSlot; rw [h]; rfl

theorem slotRefilled_slots (s : State) (x : Slot) (i : Nat) : (slotRefilled s x i).skb.slots = tabSet (fun _ => Slot.free) s.skb.slots i (refilledSlot x) := by
  unfold slotRefilled; rw [noteSeq_skb, slotTaken_skb]; rfl

theorem slotRefilled_unresolved (s : State) (x : Slot) (i : Nat) :
    (slotRefilled s x i).skb.unresolved = (slotTaken s x i).skb.unresolved.filter (fun q => decide (q ≠ x.seq)) := by
  unfold slotRefilled; rw [noteSeq_skb]

theorem slotRefilled_rd (s : State) (x : Slot) (i : Nat) {b : Nat} (h : b ≠ SKB_SEQ) : (slotRefilled s x i).rd b = s.rd b := by
  unfold slotRefilled; rw [noteSeq_rd _ _ h]; exact rd_of_regs (slotTaken_regs s x i) b

theorem refillSlot_rd (s : State) (x : Slot) {b : Nat} (h : b ≠ SKB_SEQ) : (refillSlot s x).rd b = s.rd b := by
  cases hm : mirrorSlot s x.seq with
  | none => rw [refillSlot_none hm]
  | some i => rw [refillSlot_some hm]; exact slotRefilled_rd s x i h

/-! A table that has just been set at a key holds nothing else there. -/

theorem ne_of_mem_tabDel {α : Type} {t : Tab α} {k : Nat} {e : Nat × α} (h : e ∈ tabDel t k) : e.1 ≠ k := by
  induction t with
  | nil => cases h
  | cons x t ih =>
    obtain ⟨a, x⟩ := x
    unfold tabDel at h
    split at h
    · exact ih h
    next ha =>
      rcases List.mem_cons.1 h with rfl | h
      · exact ha
      · exact ih h

theorem mem_tabIns {α : Type} {t : Tab α} {k : Nat} {v : α} {e : Nat × α} (h : e ∈ tabIns t k v) : e = (k, v) ∨ e ∈ t := by
  induction t with
  | nil => exact Or.inl (List.mem_singleton.1 h)
  | cons x t ih =>
    obtain ⟨a, x⟩ := x
    unfold tabIns at h
    split at h
    · exact List.mem_cons.1 h
    · rcases List.mem_cons.1 h with rfl | h
      · exact Or.inr List.mem_cons_self
      · exact (ih h).imp_right (List.mem_cons_of_mem _)

theorem eq_of_mem_tabSet {α : Type} [DecidableEq α] {d : Nat → α} {t : Tab α} {k : Nat} {v : α} {e : Nat × α} (h : e ∈ tabSet d t k v)
    (hk : e.1 = k) : e.2 = v := by
  unfold tabSet at h
  split at h
  · exact absurd hk (ne_of_mem_tabDel h)
  · rcases mem_tabIns h with rfl | h
    · rfl
    · exact absurd hk (ne_of_mem_tabDel h)

/-! What the end of a refill discards (R150) is not the slot that the refill has just brought. -/

/-- The slots of strokes that the twin's ledger has not shown. -/
def unshownSlots (s : State) : List Nat := (s.skb.slots.filter (fun e => decide (e.2.state ≠ 0) && s.skb.unresolved.contains e.2.seq)).map (fun e => e.1)

/-- A slot is freed, in DRAM too. -/
def slotFreed (s : State) (i : Nat) : State := ledgerStore (s.setLed i Slot.free) i

/-- What a sweep that frees slots leaves. -/
structure Frees (s t : State) (ids : List Nat) : Prop where
  led : ∀ j, j ∉ ids → t.led j = s.led j
  regs : t.regs = s.regs
  tw : t.tw = s.tw

theorem slotFreed_frees (s : State) (i : Nat) : Frees s (slotFreed s i) [i] := by
  refine ⟨fun j hj => ?_, (ledgerStore_regs _ i).trans (State.setLed_regs _ _ _), (ledgerStore_tw _ i).trans (State.setLed_tw _ _ _)⟩
  unfold slotFreed; rw [led_of_skb (ledgerStore_skb _ i)]
  exact led_setLed_ne _ _ (fun e => hj (List.mem_singleton.2 e))

theorem slotsFreed_frees (ids : List Nat) (s : State) : Frees s (ids.foldl slotFreed s) ids := by
  induction ids generalizing s with
  | nil => exact ⟨fun _ _ => rfl, rfl, rfl⟩
  | cons i ids ih =>
    obtain ⟨hled, hregs, htw⟩ := slotFreed_frees s i
    obtain ⟨hled', hregs', htw'⟩ := ih (slotFreed s i)
    rw [List.foldl_cons]
    refine ⟨fun j hj => ?_, hregs'.trans hregs, htw'.trans htw⟩
    rw [List.mem_cons, not_or] at hj
    exact (hled' j hj.2).trans (hled j (fun h => hj.1 (List.mem_singleton.1 h)))

/-- Nothing more is to be shown by the twin. -/
def allResolved (s : State) : State := { s with skb := { s.skb with unresolved := [] } }

theorem dropUnresolved_eq (s : State) : dropUnresolved s = allResolved ((unshownSlots s).foldl slotFreed s) := rfl

theorem slotRefilled_shown (s : State) (x : Slot) (i : Nat) : i ∉ unshownSlots (slotRefilled s x i) := by
  intro h
  obtain ⟨e, he, hi⟩ := List.mem_map.1 h
  obtain ⟨hmem, hcond⟩ := List.mem_filter.1 he
  rw [slotRefilled_slots] at hmem
  rw [slotRefilled_unresolved] at hcond
  have hx : e.2 = refilledSlot x := eq_of_mem_tabSet hmem hi
  rw [Bool.and_eq_true, List.contains_iff_mem] at hcond
  have hseq : e.2.seq = x.seq := by rw [hx]; rfl
  rw [hseq] at hcond
  exact absurd rfl (of_decide_eq_true (List.mem_filter.1 hcond.2).2)

theorem slotRefilled_led (s : State) (x : Slot) (i : Nat) : (slotRefilled s x i).led i = refilledSlot x := by
  unfold State.led; rw [slotRefilled_slots]; exact tabGet_tabSet_self _ _ _ _

/-- The pair is in SYNC on the standby. -/
def syncEntered (s : State) : State := (s.put TW_STATUS_pstate 3).ev TW_EVENTS_paired

/-- The standby's executors are armed unless a reset still holds them. -/
def standbyArmed (s : State) : State :=
  { s with skb := { s.skb with armed := s.skb.armed || (decide (s.skb.waits = 0) && !s.fix.fatal && !s.lcy.stopped) },
           tw := { s.tw with coldReset := false } }

theorem refillEnd_eq (s : State) : refillEnd s = standbyArmed (syncEntered (dropUnresolved s)) := rfl

theorem syncEntered_shows (s : State) : (syncEntered s).get TW_STATUS_pstate = 3 ∧ (syncEntered s).on TW_EVENTS_paired = true ∧ (syncEntered s).skb = s.skb := by
  refine ⟨?_, ev_on _ TW_EVENTS_paired (by decide) rfl (by decide), (State.ev_skb _ _).trans (State.put_skb _ _ _)⟩
  exact (ev_get_ne _ TW_EVENTS_paired TW_STATUS_pstate (by decide) (by decide)).trans (get_put_self s TW_STATUS_pstate 3 (by unfold Fld.ok; decide))

theorem refillEnd_shows (s : State) : (refillEnd s).get TW_STATUS_pstate = 3 ∧ (refillEnd s).on TW_EVENTS_paired = true ∧
    (refillEnd s).skb.unresolved = [] ∧ ∀ i, i ∉ unshownSlots s → (refillEnd s).led i = s.led i := by
  obtain ⟨hp, hev, hskb⟩ := syncEntered_shows (dropUnresolved s)
  rw [refillEnd_eq]
  have hslots : (syncEntered (dropUnresolved s)).skb.slots = ((unshownSlots s).foldl slotFreed s).skb.slots := by rw [hskb]; rfl
  have hunres : (syncEntered (dropUnresolved s)).skb.unresolved = [] := by rw [hskb]; rfl
  generalize syncEntered (dropUnresolved s) = u at hp hev hslots hunres
  refine ⟨(get_of_regs rfl _).trans hp, (on_of_regs rfl _).trans hev, hunres, fun i hi => ?_⟩
  have hled : (standbyArmed u).led i = ((unshownSlots s).foldl slotFreed s).led i := congrArg (fun t => tabGet (fun _ => Slot.free) t i) hslots
  rw [hled, (slotsFreed_frees _ s).led i hi]

/-- What a slot of a refill, taken in its sequence, does. -/
def refillTaken (words : List Word) (done : Bool) (u : State) : Out :=
  if !twStandby u ∨ u.get TW_STATUS_pstate ≠ 2 then .next u
  else if slotPending (slotOfWords words) && !strokeOk (slotOfWords words).stroke then .next (raiseSrc u 0 none)
  else .next (if done then refillEnd (if (slotOfWords words).state = 0 then u else refillSlot u (slotOfWords words))
    else if (slotOfWords words).state = 0 then u else refillSlot u (slotOfWords words))

theorem twinRefillRx_eq (h : TwHdr) (words : List Word) (done : Bool) (s : State) :
    execTwinRefillRx h words done s = twFrame h false false s (refillTaken words done) := rfl

theorem refillTaken_cases (u : State) (words : List Word) (done : Bool) :
    let x := slotOfWords words
    let takes := twStandby u = true ∧ u.get TW_STATUS_pstate = 2
    let sound := slotPending x = false ∨ strokeOk x.stroke = true
    (¬ takes → refillTaken words done u = .next u) ∧
    (takes → ¬ sound → Gives (refillTaken words done u) (fun t => srcStatus t 0 = true ∧ t.fix.fatal = true ∧ t.skb.slots = u.skb.slots)) ∧
    (takes → sound → Gives (refillTaken words done u) (fun t =>
      (done = true → t.get TW_STATUS_pstate = 3 ∧ t.on TW_EVENTS_paired = true) ∧ (done = false → t.get TW_STATUS_pstate = 2) ∧
      (x.state = 0 → done = false → t.skb.slots = u.skb.slots) ∧ (done = true → t.skb.unresolved = []) ∧ (∀ i, x.state ≠ 0 → mirrorSlot u x.seq = some i →
        t.led i = refilledSlot x))) := by
  intro x takes sound
  have hx : slotOfWords words = x := rfl
  have htakes : ((!twStandby u) = true ∨ u.get TW_STATUS_pstate ≠ 2) ↔ ¬ takes := by
    show _ ↔ ¬ (twStandby u = true ∧ u.get TW_STATUS_pstate = 2)
    rw [Bool.not_eq_true', not_and_or, Bool.not_eq_true]
  have hsound : ((slotPending x && !strokeOk x.stroke) = true) ↔ ¬ sound := by
    show _ ↔ ¬ (slotPending x = false ∨ strokeOk x.stroke = true)
    rw [Bool.and_eq_true, Bool.not_eq_true', not_or, Bool.not_eq_false, Bool.not_eq_true]
  unfold refillTaken; rw [hx]
  refine ⟨fun ht => if_pos (htakes.2 ht), fun ht hs => ?_, fun ht hs => ?_⟩
  · refine ⟨raiseSrc u 0 none, ?_, standby_checkFails ht.1⟩
    rw [if_neg (fun hc => htakes.1 hc ht), if_pos (hsound.2 hs)]
  · have hbase : ∀ i, x.state ≠ 0 → mirrorSlot u x.seq = some i → (if x.state = 0 then u else refillSlot u x) = slotRefilled u x i := fun i h0 hm => by
      rw [if_neg h0, refillSlot_some hm]
    have hpstate : (if x.state = 0 then u else refillSlot u x).get TW_STATUS_pstate = 2 := by
      rw [← ht.2]
      split
      · rfl
      · unfold State.get; rw [refillSlot_rd u x (show TW_STATUS_pstate.addr ≠ SKB_SEQ by decide)]
    have hzero : x.state = 0 → (if x.state = 0 then u else refillSlot u x) = u := fun h0 => if_pos h0
    clear_value x
    generalize (if x.state = 0 then u else refillSlot u x) = v at *
    refine ⟨if done = true then refillEnd v else v, ?_, ?_⟩
    · rw [if_neg (fun hc => htakes.1 hc ht), if_neg (fun hc => hsound.1 hc hs)]
    · cases done with
      | true =>
        obtain ⟨hp, hev, hun, hled⟩ := refillEnd_shows v
        refine ⟨fun _ => ⟨hp, hev⟩, nofun, fun _ => nofun, fun _ => hun, fun i h0 hm => ?_⟩
        have hv := hbase i h0 hm
        subst hv
        rw [if_pos rfl, hled i (slotRefilled_shown u x i), slotRefilled_led]
      | false =>
        refine ⟨nofun, fun _ => hpstate, fun h0 _ => ?_, nofun, fun i h0 hm => ?_⟩
        · rw [if_neg Bool.false_ne_true, hzero h0]
        · rw [if_neg Bool.false_ne_true, hbase i h0 hm, slotRefilled_led]

end Sys2Proof.Machine
end

section
/-! PROOF. Leaving SYNC, entering HELLO, and the link's timers, lanes and commands (O57). -/

namespace Sys2Proof.Machine

/-! ### The answers of offers leave SKB_CTL as it is -/

/-- The units beside SKB whose registers an answer reaches: LCY, MBX and KV. -/
def askerUnits : List Nat := [0x006, 0x079, 0x0C0]

theorem mbxIrq_asker (s : State) (bit : Nat) : Within askerUnits s (mbxIrq s bit) := by
  unfold mbxIrq; dsimp only; split
  · exact ((Within.refl _ s).event (a := MBX_IRQ) bit).congr rfl
  · exact (Within.refl _ s).event (a := MBX_IRQ) bit

theorem mbxFinish_asker (s : State) (status : Nat) (res : List Word) : Within askerUnits s (mbxFinish s status res) := by
  unfold mbxFinish
  split
  · exact .refl _ s
  extract_lets seq head slots slots' mbx skb kv s₁ s₂ s₃ s₄ s₅ s₆
  have h₁ : Within askerUnits s s₁ := .of_regs rfl
  have h₅ : Within askerUnits s s₅ :=
    (((h₁.put (f := MBX_STATUS_busy) 0).put (f := MBX_STATUS_resp_valid) 1).put (f := MBX_STATUS_last_status) status).put (f := MBX_STATUS_last_seq) seq
  refine Within.trans ?_ (mbxIrq_asker _ _)
  unfold s₆; split
  · exact h₅.inc
  · exact h₅

theorem kvAnswered_asker (s : State) (slot code seq : Nat) : Within askerUnits s (kvAnswered s slot code seq) := by
  unfold kvAnswered
  extract_lets u waits kv s₁ s₂ kv' s₃
  clear_value u
  have h₁ : Within askerUnits s s₁ := by
    unfold s₁; split
    · exact .of_regs rfl
    · exact .refl _ s
  have h₂ : Within askerUnits s s₂ := by
    unfold s₂; split
    · exact (h₁.put (f := KV_UPD_CTR_counter) _).put (f := KV_ANCHOR_anchors) _
    · exact h₁
  have h₃ : Within askerUnits s s₃ := h₁.congr rfl
  by_cases hcode : code ≤ 1
  · rw [if_pos hcode]; split
    · exact h₂.trans (mbxFinish_asker _ _ _)
    · exact h₂
  · rw [if_neg hcode]; split
    · exact h₃.trans (mbxFinish_asker _ _ _)
    · exact h₃

theorem countAnswer_ctl (s : State) (code : Nat) : (countAnswer s code).rd SKB_CTL = s.rd SKB_CTL := by
  unfold countAnswer; split_ifs
  · exact rd_put_ne s SKB_CNT_REOFFER_count _ (by decide)
  · exact rd_put_ne s SKB_CNT_PAST_count _ (by decide)
  · exact (event_rd_ne _ _ _ (by decide) (by decide)).trans (rd_put_ne s SKB_CNT_FULL_count _ (by decide))
  · exact rd_put_ne s SKB_CNT_SOON_count _ (by decide)
  · rfl

theorem answerOffer_ctl (s : State) (o : Offer) (code seq : Nat) (late : Bool) : (answerOffer s o code seq late).rd SKB_CTL = s.rd SKB_CTL := by
  have hcount := countAnswer_ctl s code
  have hfinish : ∀ status res, (mbxFinish (countAnswer s code) status res).rd SKB_CTL = s.rd SKB_CTL := fun status res =>
    ((mbxFinish_asker _ status res).rd _ (by decide) (by decide)).trans hcount
  have hkv : ∀ j, (kvAnswered (countAnswer s code) j code seq).rd SKB_CTL = s.rd SKB_CTL := fun j =>
    ((kvAnswered_asker _ j code seq).rd _ (by decide) (by decide)).trans hcount
  unfold answerOffer; dsimp only
  generalize countAnswer s code = u at *
  cases o.asker with
  | core k =>
    dsimp only; split
    · exact (rd_of_regs (State.setCore_regs _ _ _) _).trans hcount
    · exact hcount
  | mailbox =>
    dsimp only; split
    · exact hfinish _ _
    · exact hcount
  | update j => exact hkv j
  | step =>
    dsimp only; split
    · exact (rd_of_regs rfl _).trans hcount
    · exact hcount
  | nobody => exact hcount

theorem commitOffer_ctl (s : State) (o : Offer) : (commitOffer s o).rd SKB_CTL = s.rd SKB_CTL := by
  cases ho : o.slot with
  | none => unfold commitOffer; rw [ho]
  | some i =>
    rw [commitOffer_eq s ho, answerOffer_ctl]
    exact (noteAccepted_rd _ _ (by decide)).trans (rd_of_regs (State.setLed_regs _ _ _) _)

theorem dropOffer_ctl (s : State) (o : Offer) : (dropOffer s o).rd SKB_CTL = s.rd SKB_CTL := by
  unfold dropOffer; split
  · rfl
  · rw [answerOffer_ctl]
    refine rd_of_regs ?_ _
    split
    · exact (ledgerStore_regs _ _).trans (State.setLed_regs _ _ _)
    · exact State.setLed_regs _ _ _

theorem unpairOne_ctl (s : State) (o : Offer) : (unpairOne s o).rd SKB_CTL = s.rd SKB_CTL := by
  unfold unpairOne
  split_ifs
  · exact dropOffer_ctl s o
  · exact commitOffer_ctl s _
  · exact rd_of_regs rfl _
  · exact rd_of_regs rfl _

theorem offersUnpaired_ctl (s : State) : (offersUnpaired s).rd SKB_CTL = s.rd SKB_CTL := by
  have hfold : ∀ (l : List Offer) (t : State), (l.foldl unpairOne t).rd SKB_CTL = t.rd SKB_CTL := by
    intro l
    induction l with
    | nil => exact fun _ => rfl
    | cons o l ih => exact fun t => (ih (unpairOne t o)).trans (unpairOne_ctl t o)
  rw [offersUnpaired_eq, hfold]
  exact rd_of_regs rfl _

/-! ### Leaving SYNC (R438, R441) -/

/-- The pair has lapsed. -/
def lapsed (s : State) : State := s.put TW_STATUS_pstate 4

/-- Mirroring ends. -/
def mirrorEnded (s : State) : State :=
  State.putB (State.put { s with tw := { s.tw with quietFrom := s.steady, readyFrom := none } } TW_STATUS_ready 0) SKB_CTL_mirror_en false

/-- The loss of SYNC is reported, and the active unit takes a new generation. -/
def syncLost (s : State) : State :=
  let u := reportSrc (s.ev TW_EVENTS_sync_lost) 106
  if twActive u then twNewGen u else u

theorem leaveSync_eq {s : State} (h : s.get TW_STATUS_pstate = 2 ∨ s.get TW_STATUS_pstate = 3) :
    leaveSync s = offersUnpaired (if s.get TW_STATUS_pstate = 3 then syncLost (mirrorEnded (lapsed s)) else mirrorEnded (lapsed s)) := by
  unfold leaveSync; dsimp only; rw [if_pos h]; rfl

theorem twStatus_ok : TW_STATUS_pstate.ok ∧ TW_STATUS_ready.ok ∧ TW_STATUS_take_fail.ok ∧ TW_STATUS_lane_ok.ok ∧ TW_STATUS_peer_own.ok ∧ SKB_CTL_mirror_en.ok ∧
    SKB_CTL_accept_en.ok ∧ TW_STATUS_stale.ok ∧ TW_STATUS_role.ok := by unfold Fld.ok; decide

/-- What the end of pairing shows (R438). -/
structure PairEnded (t : State) : Prop where
  pstate : t.get TW_STATUS_pstate = 4
  mirror : t.on SKB_CTL_mirror_en = false
  ready : t.on TW_STATUS_ready = false

theorem mirrorEnded_ended (s : State) : PairEnded (mirrorEnded (lapsed s)) := by
  obtain ⟨hp, hr, -, -, -, hm, -⟩ := twStatus_ok
  refine ⟨?_, on_putB_self _ SKB_CTL_mirror_en false hm, ?_⟩
  · exact (get_put_addr _ SKB_CTL_mirror_en TW_STATUS_pstate _ (by decide)).trans ((get_put_bits _ TW_STATUS_ready TW_STATUS_pstate _ hr (by decide)).trans
      (get_put_self s TW_STATUS_pstate 4 hp))
  · exact (on_put_addr _ SKB_CTL_mirror_en TW_STATUS_ready _ (by decide)).trans (on_putB_self _ TW_STATUS_ready false hr)

theorem PairEnded.of_rd {s t : State} (h : PairEnded s) (hctl : t.rd SKB_CTL = s.rd SKB_CTL) (hst : t.rd TW_STATUS = s.rd TW_STATUS) : PairEnded t := by
  refine ⟨?_, ?_, ?_⟩
  · exact (congrArg (fun w => fieldOf w 6 4) hst).trans h.pstate
  · exact (congrArg (fun w => decide (fieldOf w 1 1 ≠ 0)) hctl).trans h.mirror
  · exact (congrArg (fun w => decide (fieldOf w 12 12 ≠ 0)) hst).trans h.ready

theorem twNewGen_rd (s : State) {b : Nat} (h1 : b ≠ TW_GEN) (h2 : b ≠ TW_GEN_UID_HI) (h3 : b ≠ TW_GEN_UID_LO) : (twNewGen s).rd b = s.rd b :=
  (rd_put_ne _ TW_GEN_UID_LO_val _ h3).trans ((rd_put_ne _ TW_GEN_UID_HI_val _ h2).trans (rd_wr_ne _ _ h1))

theorem syncLost_rd (s : State) {b : Nat} (hb : b % 256 < 0xF0) (hfix : b / 256 ≠ 0x0F0) (hne : b ≠ TW_EVENTS) (h1 : b ≠ TW_GEN) (h2 : b ≠ TW_GEN_UID_HI)
    (h3 : b ≠ TW_GEN_UID_LO) : (syncLost s).rd b = s.rd b := by
  have hreport : (reportSrc (s.ev TW_EVENTS_sync_lost) 106).rd b = s.rd b :=
    ((reportSrc_affects (U := [0x0F0]) _ 106 (by decide)).within.rd b hb (fun h => hfix (List.mem_singleton.1 h))).trans (event_rd_ne _ _ _ hb hne)
  unfold syncLost; dsimp only
  generalize reportSrc (s.ev TW_EVENTS_sync_lost) 106 = u at hreport
  split
  · exact (twNewGen_rd u h1 h2 h3).trans hreport
  · exact hreport

theorem syncLost_on (s : State) : (syncLost s).on TW_EVENTS_sync_lost = true := by
  have hreport : (reportSrc (s.ev TW_EVENTS_sync_lost) 106).on TW_EVENTS_sync_lost = true :=
    ((reportSrc_affects (U := [0x0F0]) _ 106 (by decide)).within.on _ (by decide) (by decide)).trans
      (ev_on s TW_EVENTS_sync_lost (by decide) rfl (by decide))
  unfold syncLost; dsimp only
  generalize reportSrc (s.ev TW_EVENTS_sync_lost) 106 = u at hreport
  split
  · unfold State.on State.get at *; rw [twNewGen_rd u (by decide) (by decide) (by decide)]; exact hreport
  · exact hreport

theorem leaveSync_ended {s : State} (h : s.get TW_STATUS_pstate = 2 ∨ s.get TW_STATUS_pstate = 3) : PairEnded (leaveSync s) := by
  have hbase : PairEnded (if s.get TW_STATUS_pstate = 3 then syncLost (mirrorEnded (lapsed s)) else mirrorEnded (lapsed s)) := by
    split
    · exact (mirrorEnded_ended s).of_rd (syncLost_rd _ (by decide) (by decide) (by decide) (by decide) (by decide) (by decide))
        (syncLost_rd _ (by decide) (by decide) (by decide) (by decide) (by decide) (by decide))
    · exact mirrorEnded_ended s
  rw [leaveSync_eq h]
  exact hbase.of_rd (offersUnpaired_ctl _) ((offersUnpaired_answering _).within.rd _ (by decide) (by decide))

theorem leaveSync_reported {s : State} (h : s.get TW_STATUS_pstate = 3) : (leaveSync s).on TW_EVENTS_sync_lost = true := by
  rw [leaveSync_eq (Or.inr h), if_pos h, (offersUnpaired_answering _).within.on _ (by decide) (by decide)]
  exact syncLost_on _

theorem leaveSync_idle {s : State} (h2 : s.get TW_STATUS_pstate ≠ 2) (h3 : s.get TW_STATUS_pstate ≠ 3) : leaveSync s = s := by
  unfold leaveSync; dsimp only; rw [if_neg (not_or.2 ⟨h2, h3⟩)]

/-- What the end of pairing shows, from every state of the pair. -/
def EndsPairing (st : Nat) (t : State) : Prop :=
  (st = 2 ∨ st = 3 → t.get TW_STATUS_pstate = 4 ∧ t.on SKB_CTL_mirror_en = false ∧ t.on TW_STATUS_ready = false) ∧
    (st = 3 → t.on TW_EVENTS_sync_lost = true) ∧ (st ≠ 2 → st ≠ 3 → t.get TW_STATUS_pstate = st)

theorem leaveSync_ends (s : State) : EndsPairing (s.get TW_STATUS_pstate) (leaveSync s) := by
  refine ⟨fun h => ?_, leaveSync_reported, fun h2 h3 => by rw [leaveSync_idle h2 h3]⟩
  obtain ⟨hp, hm, hr⟩ := leaveSync_ended h
  exact ⟨hp, hm, hr⟩

theorem twinLinkTimeout_quiet {s : State} (h : s.elapsed (t80Add s.tw.lastRx ((nsU 2000 : Nat) : Int)) = true) :
    execTwinLinkTimeout s = .next (leaveSync s) := by
  unfold execTwinLinkTimeout; dsimp only
  rw [h, Bool.or_true, Bool.true_or, if_pos rfl]

theorem twinLinkTimeout_heard {s : State} (h : ¬ s.elapsed (t80Add s.tw.lastRx ((nsU 2000 : Nat) : Int)) = true) (hun : s.tw.unacked = [])
    (hoffers : s.skb.offers = []) : execTwinLinkTimeout s = .next s := by
  unfold execTwinLinkTimeout; dsimp only
  rw [Bool.eq_false_iff.2 h, hun, hoffers]; rfl

/-! ### Entering HELLO (R438) -/

/-- The link numbering starts anew. -/
def linkBegun (s : State) : State :=
  { s with tw := { s.tw with
      keyCopy := s.tw.keyCopy || (s.kv.pair.isSome && !tamperedNow s), helloRx := false, helloTx := true, unacked := [], txSeq := 0, rxSeq := 0,
      progressAt := s.steady, lastRx := s.steady, helloAt := s.steady } }

theorem linkBegun_regs (s : State) : (linkBegun s).regs = s.regs := rfl

theorem helloEnter_eq (s : State) : helloEnter s = twSend ((linkBegun s).put TW_STATUS_pstate 1) 1 (helloWords (linkBegun s)) := rfl

theorem helloEnter_sends (s : State) : Sends ((linkBegun s).put TW_STATUS_pstate 1) (helloEnter s) := by rw [helloEnter_eq]; exact twSend_sends _ _ _

theorem helloEnter_pstate (s : State) : (helloEnter s).get TW_STATUS_pstate = 1 :=
  ((helloEnter_sends s).get _ (by decide)).trans (get_put_self _ TW_STATUS_pstate 1 twStatus_ok.1)

/-- The other bits of TW_STATUS are kept. -/
theorem helloEnter_get (s : State) {f : Fld} (hf : f.addr ≠ TW_CNT_TX) (h : f.hi < 4 ∨ 6 < f.lo) : (helloEnter s).get f = s.get f :=
  ((helloEnter_sends s).get _ hf).trans ((get_put_bits _ TW_STATUS_pstate f _ twStatus_ok.1 h).trans (get_of_regs (linkBegun_regs s) f))

theorem helloEnter_tw (s : State) : (helloEnter s).tw.helloRx = false ∧ (helloEnter s).tw.rxSeq = 0 := by
  have htw := (helloEnter_sends s).tw
  rw [State.put_tw] at htw
  exact ⟨by rw [htw]; rfl, by rw [htw]; rfl⟩

theorem helloEnter_sent {s : State} (h : s.on TW_CFG_en = true) : (helloEnter s).tw.sent.head?.map (fun f => f.1) = some 1 := by
  have hen : ((linkBegun s).put TW_STATUS_pstate 1).on TW_CFG_en = true :=
    (on_put_addr _ TW_STATUS_pstate TW_CFG_en _ (by decide)).trans ((on_of_regs (linkBegun_regs s) _).trans h)
  rw [helloEnter_eq, twSend_sent _ _ hen]; rfl

/-! ### Lanes -/

theorem laneOk_set (s : State) {v : Nat} (h : v < 4) : (s.put TW_STATUS_lane_ok v).get TW_STATUS_lane_ok = v :=
  (get_put_self s TW_STATUS_lane_ok v twStatus_ok.2.2.2.1).trans (Nat.mod_eq_of_lt h)

theorem laneOk_lt (s : State) : s.get TW_STATUS_lane_ok < 4 := fieldOf_lt _ _ _

/-- The mask of two lanes, with one gained or lost. -/
theorem setMask_lanes : ∀ m < 4, ∀ lane : Fin 2, (setMask m lane true < 4 ∧ (setMask m lane true).testBit lane = true) ∧
    (setMask m lane false < 4 ∧ ∀ j < 2, (setMask m lane false).testBit j = (m.testBit j && decide (j ≠ lane.val))) := by decide

theorem raiseSrc_lane (s : State) : raiseSrc s 105 none = reportSrc s 105 := by
  have hclass : srcClass s 105 = 1 := rfl
  have hunit : srcFixedUnit 105 = none := rfl
  unfold raiseSrc; dsimp only; rw [hclass, hunit]
  show (if (reportSrc s 105).fix.fatal = true then reportSrc s 105 else reportSrc s 105) = _
  rw [ite_self]

theorem twinLaneLoss_lost {s : State} {lane : Fin 2} (h : (s.get TW_STATUS_lane_ok).testBit lane = true) :
    Gives (execTwinLaneLoss lane s) (fun t => t.on TW_EVENTS_lane_fail = true ∧ srcStatus t 105 = true ∧
      ∀ j, j < 2 → (t.get TW_STATUS_lane_ok).testBit j = ((s.get TW_STATUS_lane_ok).testBit j && decide (j ≠ lane.val))) := by
  obtain ⟨-, hlt, hbits⟩ := setMask_lanes _ (laneOk_lt s) lane
  have hset := laneOk_set s hlt
  have hexec : execTwinLaneLoss lane s = .next (reportSrc ((s.put TW_STATUS_lane_ok (setMask (s.get TW_STATUS_lane_ok) lane false)).ev TW_EVENTS_lane_fail) 105) := by
    unfold execTwinLaneLoss; rw [if_pos h]; dsimp only; rw [raiseSrc_lane]
  generalize s.put TW_STATUS_lane_ok (setMask (s.get TW_STATUS_lane_ok) lane false) = u at hexec hset
  have hreport := (reportSrc_affects (U := [0x0F0]) (u.ev TW_EVENTS_lane_fail) 105 (by decide)).within
  refine ⟨_, hexec, ?_, reportSrc_status _ 105 (by decide), fun j hj => ?_⟩
  · rw [hreport.on _ (by decide) (by decide)]; exact ev_on u TW_EVENTS_lane_fail (by decide) rfl (by decide)
  · rw [hreport.get _ (by decide) (by decide), ev_get_ne u TW_EVENTS_lane_fail TW_STATUS_lane_ok (by decide) (by decide), hset]
    exact hbits j hj

theorem twinLaneLock_locks (s : State) (lane : Fin 2) :
    Gives (execTwinLaneLock lane s) (fun t => (t.get TW_STATUS_lane_ok).testBit lane = true ∧
      (s.on TW_CFG_en = true → s.get TW_STATUS_pstate = 0 → t.get TW_STATUS_pstate = 1 ∧ t.tw.helloRx = false ∧ t.tw.rxSeq = 0 ∧
        (t.tw.sent.head?.map (fun f => f.1)) = some 1) ∧
      (¬ s.on TW_CFG_en = true ∨ s.get TW_STATUS_pstate ≠ 0 → OnlyRegisters s t ∧ t.get TW_STATUS_pstate = s.get TW_STATUS_pstate)) := by
  obtain ⟨⟨hlt, hbit⟩, -⟩ := setMask_lanes _ (laneOk_lt s) lane
  have hset := laneOk_set s hlt
  have hregs := put_regsOnly s TW_STATUS_lane_ok (setMask (s.get TW_STATUS_lane_ok) lane true)
  have hen : (s.put TW_STATUS_lane_ok (setMask (s.get TW_STATUS_lane_ok) lane true)).on TW_CFG_en = s.on TW_CFG_en := on_put_addr _ _ _ _ (by decide)
  have hp : (s.put TW_STATUS_lane_ok (setMask (s.get TW_STATUS_lane_ok) lane true)).get TW_STATUS_pstate = s.get TW_STATUS_pstate :=
    get_put_bits _ _ _ _ twStatus_ok.2.2.2.1 (by decide)
  unfold execTwinLaneLock; dsimp only
  generalize s.put TW_STATUS_lane_ok (setMask (s.get TW_STATUS_lane_ok) lane true) = u at *
  refine ⟨_, rfl, ?_⟩
  rw [hen, hp]
  split
  next h =>
    refine ⟨?_, fun hon _ => ⟨helloEnter_pstate u, (helloEnter_tw u).1, (helloEnter_tw u).2, helloEnter_sent (hen.trans hon)⟩,
      fun hnot => absurd h (fun hc => hnot.elim (fun hne => hne hc.1) (fun hne => hne hc.2))⟩
    rw [helloEnter_get u (by decide) (by decide), hset]; exact hbit
  next h => exact ⟨by rw [hset]; exact hbit, fun hon h0 => absurd ⟨hon, h0⟩ h, fun _ => ⟨hregs.onlyRegisters, hp⟩⟩

/-! ### Timers -/

theorem lapsedQuietExpiry_due {s : State} (h : s.get TW_STATUS_pstate = 4 ∧ s.elapsed (t80Add s.tw.quietFrom ((nsU 10000000 : Nat) : Int)) = true ∧
    s.elapsed (t80Add s.tw.lastRx ((nsU 2000 : Nat) : Int)) = false) : execLapsedQuietExpiry s = .next (helloEnter s) := by
  obtain ⟨hp, hquiet, hheard⟩ := h
  unfold execLapsedQuietExpiry; rw [if_pos ⟨hp, hquiet, by rw [hheard]; rfl⟩]

theorem lapsedQuietExpiry_idle {s : State} (h : ¬ (s.get TW_STATUS_pstate = 4 ∧ s.elapsed (t80Add s.tw.quietFrom ((nsU 10000000 : Nat) : Int)) = true ∧
    s.elapsed (t80Add s.tw.lastRx ((nsU 2000 : Nat) : Int)) = false)) : execLapsedQuietExpiry s = .next s := by
  unfold execLapsedQuietExpiry; rw [if_neg (fun hc => h ⟨hc.1, hc.2.1, by have := hc.2.2; rwa [Bool.not_eq_true'] at this⟩)]

/-- A HELLO is due again: those still queued are taken out. -/
def helloAgain (s : State) : State :=
  { s with tw := { s.tw with helloTx := true, helloAt := s.steady, unacked := s.tw.unacked.filter (fun f => decide (f.kind ≠ 1)) } }

theorem twinHelloSend_due {s : State} (h : s.get TW_STATUS_pstate = 1 ∧ s.elapsed (secsAfter s.tw.helloAt 1) = true) :
    Gives (execTwinHelloSend s) (fun t => t.tw.helloTx = true ∧ t.tw.helloAt = s.steady ∧ (s.on TW_CFG_en = true → t.tw.sent = (1, helloWords s) :: s.tw.sent)) := by
  have hsends := twSend_sends (helloAgain s) 1 (helloWords s)
  refine ⟨twSend (helloAgain s) 1 (helloWords s), if_pos h, by rw [hsends.tw]; rfl, by rw [hsends.tw]; rfl, fun hen => ?_⟩
  exact twSend_sent 1 (helloWords s) ((on_of_regs (t := helloAgain s) rfl _).trans hen)

theorem twinHelloSend_idle {s : State} (h : ¬ (s.get TW_STATUS_pstate = 1 ∧ s.elapsed (secsAfter s.tw.helloAt 1) = true)) :
    execTwinHelloSend s = .next s := if_neg h

/-- The silence is reported once. -/
def silenceNoted (s : State) : State := { s with tw := { s.tw with silent := true } }

/-- Whether a silence of the peer is to be reported (R456). -/
def SilenceDue (s : State) : Prop :=
  s.on TW_CFG_en = true ∧ s.tw.silent = false ∧ s.on TW_STATUS_peer_own = true ∧ s.elapsed (t80Add s.tw.lastRx ((nsU 10000 : Nat) : Int)) = true

theorem twinSilent_due {s : State} (h : SilenceDue s) :
    Gives (execTwinSilent s) (fun t => OnlyRegisters (silenceNoted s) t ∧ t.on TW_EVENTS_silent = true) := by
  obtain ⟨hen, hsilent, hown, hquiet⟩ := h
  refine ⟨(silenceNoted s).ev TW_EVENTS_silent, if_pos ⟨hen, by rw [hsilent]; rfl, hown, hquiet⟩,
    RegsOnly.onlyRegisters (by unfold State.ev; exact event_regsOnly _ _ _), ev_on _ TW_EVENTS_silent (by decide) rfl (by decide)⟩

theorem twinSilent_idle {s : State} (h : ¬ SilenceDue s) : execTwinSilent s = .next s :=
  if_neg (fun hc => h ⟨hc.1, by have := hc.2.1; rwa [Bool.not_eq_true'] at this, hc.2.2.1, hc.2.2.2⟩)

/-- The instant from which the oldest frame waits for progress (R436). -/
def waitsFrom (s : State) (f : TwFrame) : T80 := if t80Lt s.tw.progressAt f.at_ then f.at_ else s.tw.progressAt

/-- The frames that wait, sent again. -/
def framesResent (s : State) : List TwFrame := s.tw.unacked.map (fun g => { g with sends := g.sends + 1, at_ := s.steady })

/-- The frames sent again are counted. -/
def resendsCounted (s : State) : State := s.put TW_CNT_RETX_count (s.get TW_CNT_RETX_count + (framesResent s).length)

/-- The frames that wait stand as sent at `x`. -/
def queueSet (s : State) (fs : List TwFrame) (x : T80) : State := { s with tw := { s.tw with unacked := fs, progressAt := x } }

/-- The state in which the frames that wait have been sent again. -/
def resent (s : State) : State := queueSet (resendsCounted s) (framesResent s) s.steady

theorem twinResend_none {s : State} (h : s.tw.unacked = []) : execTwinResend s = .next s := by unfold execTwinResend; rw [h]

theorem twinResend_due {s : State} {f : TwFrame} {rest : List TwFrame} (hun : s.tw.unacked = f :: rest)
    (h : f.sends < 4 ∧ s.elapsed (t80Add (waitsFrom s f) ((nsU 500 : Nat) : Int)) = true) : execTwinResend s = .next (resent s) := by
  have hsteady : ∀ v, (s.put TW_CNT_RETX_count v).steady = s.steady := fun v => steady_of_tb (State.put_tb _ _ _)
  unfold execTwinResend; rw [hun]; dsimp only
  unfold waitsFrom at h
  rw [if_pos h, hsteady]
  unfold resent resendsCounted framesResent queueSet; rw [hun]

theorem twinResend_idle {s : State} {f : TwFrame} {rest : List TwFrame} (hun : s.tw.unacked = f :: rest)
    (h : ¬ (f.sends < 4 ∧ s.elapsed (t80Add (waitsFrom s f) ((nsU 500 : Nat) : Int)) = true)) : execTwinResend s = .next s := by
  unfold execTwinResend; rw [hun]; dsimp only
  unfold waitsFrom at h
  rw [if_neg h]

theorem queueSet_get (s : State) (fs : List TwFrame) (x : T80) (f : Fld) : (queueSet s fs x).get f = s.get f := get_of_regs (t := queueSet s fs x) rfl f

theorem resendsCounted_count (s : State) : (resendsCounted s).get TW_CNT_RETX_count = (s.get TW_CNT_RETX_count + (framesResent s).length) % 2 ^ 32 := by
  unfold resendsCounted
  generalize s.get TW_CNT_RETX_count + (framesResent s).length = v
  exact get_put_self s TW_CNT_RETX_count v (by unfold Fld.ok; decide)

theorem resent_shows (s : State) : (resent s).tw.unacked = framesResent s ∧ (resent s).tw.progressAt = s.steady ∧
    (resent s).get TW_CNT_RETX_count = (s.get TW_CNT_RETX_count + s.tw.unacked.length) % 2 ^ 32 := by
  have hlen : (framesResent s).length = s.tw.unacked.length := List.length_map _
  have hcount := resendsCounted_count s
  unfold resent
  generalize resendsCounted s = u at hcount
  refine ⟨rfl, rfl, ?_⟩
  rw [queueSet_get, hcount, hlen]

/-! ### The commands of TW_CMD -/

theorem endPairing_ends {s : State} {m : Master} (h : Writes s m TW_CMD 3) : Gives (execEndPairing m s) (EndsPairing (s.get TW_STATUS_pstate)) := by
  have hends := leaveSync_ends (touched s TW_CMD)
  rw [touched_get s TW_CMD TW_STATUS_pstate (by decide)] at hends
  exact ⟨_, writeReg_of_Writes twEnd h, hends⟩

theorem repair_clears {s : State} {m : Master} (h : Writes s m TW_CMD 2) : Gives (execRepair m s) (fun t => t.on TW_STATUS_take_fail = false ∧
    t.get TW_STATUS_pstate = if s.get TW_STATUS_pstate = 4 then 1 else s.get TW_STATUS_pstate) := by
  have hexec : execRepair m s = twRepair (touched s TW_CMD) := writeReg_of_Writes twRepair h
  have hfail := on_putB_self (touched s TW_CMD) TW_STATUS_take_fail false twStatus_ok.2.2.1
  have hp : ((touched s TW_CMD).putB TW_STATUS_take_fail false).get TW_STATUS_pstate = s.get TW_STATUS_pstate :=
    (get_put_bits _ TW_STATUS_take_fail TW_STATUS_pstate _ twStatus_ok.2.2.1 (by decide)).trans (touched_get s TW_CMD TW_STATUS_pstate (by decide))
  unfold twRepair at hexec; dsimp only at hexec
  generalize (touched s TW_CMD).putB TW_STATUS_take_fail false = u at *
  rw [hp] at hexec
  refine ⟨_, hexec, ?_⟩
  split
  · refine ⟨?_, helloEnter_pstate u⟩
    unfold State.on; rw [helloEnter_get u (by decide) (by decide)]; exact hfail
  · exact ⟨hfail, hp⟩

end Sys2Proof.Machine
end

section
/-! PROOF. HELLO and what follows it: the pentimento check, the refill and the standby's slots; the settlement of the twin link's obligation (O57). -/

namespace Sys2Proof.Machine

/-! ### What a HELLO has shown stays -/

/-- The peer's identity, the HELLO verified, the role and the peer's ownership stay. -/
structure Greeted (s t : State) : Prop where
  peer : t.rd TW_PEER_HI = s.rd TW_PEER_HI
  helloRx : t.tw.helloRx = s.tw.helloRx
  role : t.get TW_STATUS_role = s.get TW_STATUS_role
  own : t.on TW_STATUS_peer_own = s.on TW_STATUS_peer_own

namespace Greeted
variable {s t u : State}

theorem refl (s : State) : Greeted s s := ⟨rfl, rfl, rfl, rfl⟩

theorem trans (h : Greeted s t) (k : Greeted t u) : Greeted s u :=
  ⟨k.peer.trans h.peer, k.helloRx.trans h.helloRx, k.role.trans h.role, k.own.trans h.own⟩

/-- A step that keeps the registers of the twin unit that matter here. -/
theorem of_rd (hpeer : t.rd TW_PEER_HI = s.rd TW_PEER_HI) (hst : t.rd TW_STATUS = s.rd TW_STATUS) (htw : t.tw.helloRx = s.tw.helloRx) : Greeted s t := by
  refine ⟨hpeer, htw, ?_, ?_⟩
  · exact congrArg (fun w => fieldOf w 1 0) hst
  · exact congrArg (fun w => decide (fieldOf w 8 8 ≠ 0)) hst

theorem of_regs (h : t.regs = s.regs) (htw : t.tw.helloRx = s.tw.helloRx) : Greeted s t := of_rd (rd_of_regs h _) (rd_of_regs h _) htw

theorem of_sends (h : Sends s t) : Greeted s t := of_rd (h.rd _ (by decide)) (h.rd _ (by decide)) (by rw [h.tw])

theorem of_within {U : List Nat} (h : Within U s t) (hU : 0x0DA ∉ U) (htw : t.tw = s.tw) : Greeted s t :=
  of_rd (h.rd _ (by decide) hU) (h.rd _ (by decide) hU) (by rw [htw])

/-- Another field of TW_STATUS is written. -/
theorem put_status (s : State) {f : Fld} (v : Nat) (hf : f.addr = TW_STATUS) (hok : f.ok) (hrole : 1 < f.lo ∧ (8 < f.lo ∨ f.hi < 8)) : Greeted s (s.put f v) := by
  refine ⟨rd_put_ne s f v (by rw [hf]; decide), by rw [State.put_tw], get_put_bits s f _ v hok (Or.inl hrole.1), on_put_bits s f _ v hok ?_⟩
  exact hrole.2.imp id id

end Greeted

theorem sendItems_sends (n : Nat) (s : State) (items : List (Nat × Word)) : Sends s (sendItems s n items) := by
  induction n generalizing s items with
  | zero => exact .refl s
  | succ n ih =>
    unfold sendItems; split
    · exact .refl s
    · exact (twSend_sends s 5 _).trans (ih _ _)

/-- The mirror stands as sent. -/
def mirrorSentAs (s : State) (m : Tab Word) : State := { s with tw := { s.tw with mirrorSent := m } }

theorem sendState_eq (s : State) : ∃ m, sendState s =
    if twActive s ∧ (s.get TW_STATUS_pstate = 2 ∨ s.get TW_STATUS_pstate = 3) then sendItems (mirrorSentAs s m) 20 (mirrorItems s) else s := ⟨_, rfl⟩

theorem sendState_greeted (s : State) : Greeted s (sendState s) := by
  obtain ⟨m, h⟩ := sendState_eq s
  rw [h]; split
  · exact (Greeted.of_regs (s := s) (t := mirrorSentAs s m) rfl rfl).trans (.of_sends (sendItems_sends 20 _ _))
  · exact .refl s

theorem ev_greeted (s : State) : Greeted s (s.ev TW_EVENTS_paired) :=
  .of_rd (event_rd_ne _ _ _ (by decide) (by decide)) (event_rd_ne _ _ _ (by decide) (by decide)) (by rw [State.ev_tw])

theorem refillDone_greeted (s : State) : Greeted s (refillDone s) := by
  unfold refillDone; split
  · refine ((Greeted.put_status s (f := TW_STATUS_pstate) 3 rfl twStatus_ok.1 (by decide)).trans ?_).trans (ev_greeted _)
    exact .of_rd (rd_put_ne _ SKB_CTL_mirror_en _ (by decide)) (rd_put_ne _ SKB_CTL_mirror_en _ (by decide)) (by rw [State.putB_tw])
  · exact .refl s

/-- The slots of a refill are sent (R440). -/
def slotsSent (s : State) (full : Bool) (last : Nat) : State :=
  (s.skb.slots.filter (fun e => decide (e.2.state ≠ 0) && (full || seqBefore last e.2.seq))).foldl (fun s e => twSend s 6 (slotWords e.2)) s

/-- The whole mirror is to be sent. -/
def mirrorUnsent (s : State) : State := { s with tw := { s.tw with mirrorSent := [] } }

theorem sendRefill_eq (s : State) (full : Bool) (last : Nat) : sendRefill s full last = refillDone (sendState (mirrorUnsent (slotsSent s full last))) := rfl

theorem sendRefill_greeted (s : State) (full : Bool) (last : Nat) : Greeted s (sendRefill s full last) := by
  have hsent : Greeted s (slotsSent s full last) := .of_sends (Sends.foldl (α := Nat × Slot) (f := fun s e => twSend s 6 (slotWords e.2)) (fun t _ => twSend_sends t 6 _) _ s)
  rw [sendRefill_eq]
  generalize slotsSent s full last = u at hsent
  exact ((hsent.trans (.of_regs (s := u) (t := mirrorUnsent u) rfl rfl)).trans (sendState_greeted _)).trans (refillDone_greeted _)

/-! ### The standby's Palette slots (R443) -/

/-- The units whose registers the Palette slots are in: PAL. -/
def palUnits : List Nat := [0x010]

theorem palHeldWrite_within (s : State) {a : Nat} (w : Word) (ha : a % 256 < 0xF0) (hu : a / 256 = 0x010) :
    Within palUnits s (houseDo s (palHeldWrite a w)) ∧ (houseDo s (palHeldWrite a w)).tw = s.tw := by
  unfold houseDo palHeldWrite
  cases s.on PAL_STATE_switching with
  | true => exact ⟨.of_regs rfl, rfl⟩
  | false =>
    exact ⟨(Within.refl _ s).wr _ ha (by rw [hu]; decide) (fun h => by omega), State.wr_tw _ _ _⟩

theorem standbySlots_within (s : State) : Within palUnits s (standbySlots s) ∧ (standbySlots s).tw = s.tw := by
  unfold standbySlots; split
  · exact ⟨.refl _ s, rfl⟩
  · suffices h : ∀ (l : List Nat) (t : State), (∀ n ∈ l, n < 24) →
        Within palUnits t (l.foldl (fun s n =>
          let w := s.rd (PAL_Sn_CFG n)
          let w := if n = 23 then putField (putField (putField (putField w 11 4 0) 3 3 0) 2 1 2) 0 0 1 else putField w 3 3 1
          houseDo s (palHeldWrite (PAL_Sn_CFG n) w)) t) ∧ (l.foldl (fun s n =>
          let w := s.rd (PAL_Sn_CFG n)
          let w := if n = 23 then putField (putField (putField (putField w 11 4 0) 3 3 0) 2 1 2) 0 0 1 else putField w 3 3 1
          houseDo s (palHeldWrite (PAL_Sn_CFG n) w)) t).tw = t.tw from h _ s (fun n hn => List.mem_range.1 hn)
    intro l
    induction l with
    | nil => exact fun t _ => ⟨.refl _ t, rfl⟩
    | cons n l ih =>
      intro t hl
      have hn := hl n List.mem_cons_self
      have hone := palHeldWrite_within t (a := PAL_Sn_CFG n)
        (if n = 23 then putField (putField (putField (putField (t.rd (PAL_Sn_CFG n)) 11 4 0) 3 3 0) 2 1 2) 0 0 1 else putField (t.rd (PAL_Sn_CFG n)) 3 3 1)
        (by unfold PAL_Sn_CFG; omega) (by unfold PAL_Sn_CFG; omega)
      rw [List.foldl_cons]
      obtain ⟨hw, htw⟩ := ih _ (fun k hk => hl k (List.mem_cons_of_mem n hk))
      exact ⟨hone.1.trans hw, htw.trans hone.2⟩

/-! ### The pentimento check and REFILL (R438, R439) -/

/-- The stale standby's ledger is empty. -/
def ledgerDiscarded (s : State) : State :=
  { (s.skb.slots.map (fun e => e.1)).foldl slotFreed s with
    skb := { ((s.skb.slots.map (fun e => e.1)).foldl slotFreed s).skb with slots := [], offers := [], trails := [], pushWait := [], unresolved := [] } }

/-- The stale standby's mirror is empty. -/
def mirrorDiscarded (s : State) : State := { s with tw := { s.tw with mirror := [] } }

theorem discardStale_eq (s : State) : discardStale s =
    ((mirrorDiscarded (ledgerDiscarded s)).wr KV_NTS_EPOCH 0).wr KV_NTS_PERIOD (regReset KV_NTS_PERIOD) := rfl

theorem ledgerDiscarded_regs (s : State) : (ledgerDiscarded s).regs = s.regs ∧ (ledgerDiscarded s).tw = s.tw := by
  have h := slotsFreed_frees (s.skb.slots.map (fun e => e.1)) s
  unfold ledgerDiscarded
  generalize (s.skb.slots.map (fun e => e.1)).foldl slotFreed s = u at h
  exact ⟨h.regs, h.tw⟩

theorem discardStale_keeps (s : State) : (∀ b, b ≠ KV_NTS_EPOCH → b ≠ KV_NTS_PERIOD → (discardStale s).rd b = s.rd b) ∧
    (discardStale s).tw.helloRx = s.tw.helloRx := by
  obtain ⟨hregs, htw⟩ := ledgerDiscarded_regs s
  rw [discardStale_eq]
  generalize ledgerDiscarded s = u at hregs htw
  refine ⟨fun b he hp => ?_, ?_⟩
  · exact (rd_wr_ne _ _ hp).trans ((rd_wr_ne _ _ he).trans (rd_of_regs (t := mirrorDiscarded u) hregs b))
  · rw [State.wr_tw, State.wr_tw, ← htw]; rfl

/-- REFILL begins, with the result of the pentimento check. -/
def refillBegun (s : State) (stale : Bool) : State :=
  if stale then ((s.put TW_STATUS_pstate 2).putB TW_STATUS_stale stale).ev TW_EVENTS_stale else (s.put TW_STATUS_pstate 2).putB TW_STATUS_stale stale

/-- The standby's refill begins: no offers, and the Palette follows slot 23. -/
def standbyBegun (s : State) (stale : Bool) : State :=
  standbySlots ((if stale then discardStale s else s).putB SKB_CTL_accept_en false)

theorem startRefill_eq (s : State) (p : TwHello) : ∃ stale differ, startRefill s p =
    if twActive (refillBegun s stale) then sendRefill (refillBegun s stale) differ p.lastSeq.toNat else standbyBegun (refillBegun s stale) stale :=
  ⟨_, _, rfl⟩

theorem refillBegun_greeted (s : State) (stale : Bool) : Greeted s (refillBegun s stale) ∧ (refillBegun s stale).get TW_STATUS_pstate = 2 := by
  obtain ⟨hp, -, -, -, -, -, -, hstale, -⟩ := twStatus_ok
  have hg : Greeted s ((s.put TW_STATUS_pstate 2).putB TW_STATUS_stale stale) :=
    (Greeted.put_status s (f := TW_STATUS_pstate) 2 rfl hp (by decide)).trans (Greeted.put_status _ (f := TW_STATUS_stale) _ rfl hstale (by decide))
  have h2 : ((s.put TW_STATUS_pstate 2).putB TW_STATUS_stale stale).get TW_STATUS_pstate = 2 :=
    (get_put_bits _ TW_STATUS_stale TW_STATUS_pstate _ hstale (by decide)).trans (get_put_self s TW_STATUS_pstate 2 hp)
  unfold refillBegun
  generalize (s.put TW_STATUS_pstate 2).putB TW_STATUS_stale stale = u at hg h2
  split
  · exact ⟨hg.trans (.of_rd (event_rd_ne _ _ _ (by decide) (by decide)) (event_rd_ne _ _ _ (by decide) (by decide)) (by rw [State.ev_tw])),
      (ev_get_ne u TW_EVENTS_stale TW_STATUS_pstate (by decide) (by decide)).trans h2⟩
  · exact ⟨hg, h2⟩

theorem standbyBegun_shows (s : State) (stale : Bool) : Greeted s (standbyBegun s stale) ∧
    (standbyBegun s stale).get TW_STATUS_pstate = s.get TW_STATUS_pstate ∧ (standbyBegun s stale).on SKB_CTL_accept_en = false := by
  have hkeeps : (∀ b, b ≠ KV_NTS_EPOCH → b ≠ KV_NTS_PERIOD → (if stale then discardStale s else s).rd b = s.rd b) ∧
      (if stale then discardStale s else s).tw.helloRx = s.tw.helloRx := by
    split
    · exact discardStale_keeps s
    · exact ⟨fun _ _ _ => rfl, rfl⟩
  unfold standbyBegun
  generalize (if stale then discardStale s else s) = u at hkeeps
  obtain ⟨hrd, hhello⟩ := hkeeps
  have hv : ∀ b, b ≠ SKB_CTL → b ≠ KV_NTS_EPOCH → b ≠ KV_NTS_PERIOD → (u.putB SKB_CTL_accept_en false).rd b = s.rd b := fun b hb he hp =>
    (rd_put_ne u SKB_CTL_accept_en _ hb).trans (hrd b he hp)
  have hacc := on_putB_self u SKB_CTL_accept_en false twStatus_ok.2.2.2.2.2.2.1
  have hhello' : (u.putB SKB_CTL_accept_en false).tw.helloRx = s.tw.helloRx := by rw [State.putB_tw]; exact hhello
  generalize u.putB SKB_CTL_accept_en false = v at hv hacc hhello'
  obtain ⟨hw, htw⟩ := standbySlots_within v
  refine ⟨.of_rd ?_ ?_ ?_, ?_, ?_⟩
  · exact (hw.rd _ (by decide) (by decide)).trans (hv _ (by decide) (by decide) (by decide))
  · exact (hw.rd _ (by decide) (by decide)).trans (hv _ (by decide) (by decide) (by decide))
  · rw [htw]; exact hhello'
  · exact (hw.get _ (by decide) (by decide)).trans (congrArg (fun w => fieldOf w 6 4) (hv TW_STATUS (by decide) (by decide) (by decide)))
  · exact (hw.on _ (by decide) (by decide)).trans hacc

theorem startRefill_greeted (s : State) (p : TwHello) : Greeted s (startRefill s p) := by
  obtain ⟨stale, differ, h⟩ := startRefill_eq s p
  have hb := (refillBegun_greeted s stale).1
  rw [h]
  generalize refillBegun s stale = u at hb
  split
  · exact hb.trans (sendRefill_greeted u differ _)
  · exact hb.trans (standbyBegun_shows u stale).1

theorem startRefill_standby {s : State} (p : TwHello) (hrole : s.get TW_STATUS_role = 2) :
    (startRefill s p).get TW_STATUS_pstate = 2 ∧ (startRefill s p).on SKB_CTL_accept_en = false := by
  obtain ⟨stale, differ, h⟩ := startRefill_eq s p
  obtain ⟨hg, hp⟩ := refillBegun_greeted s stale
  rw [h]
  generalize refillBegun s stale = u at hg hp
  have hinactive : twActive u = false := by unfold twActive; rw [hg.role, hrole]; exact Bool.and_false _
  obtain ⟨-, hst, hacc⟩ := standbyBegun_shows u stale
  rw [hinactive, if_neg Bool.false_ne_true]
  exact ⟨hst.trans hp, hacc⟩

/-! ### HELLO (R435, R438) -/

/-- The peer is named. -/
def peerNamed (s : State) (p : TwHello) : State := (s.put TW_PEER_HI_val (p.uid.toNat / 2 ^ 32)).put TW_PEER_LO_val (p.uid.toNat % 2 ^ 32)

/-- Whether a HELLO is refused (R438). -/
abbrev helloRefused (s : State) (p : TwHello) : Prop :=
  p.house ≠ Config.houseVersion ∨ p.lc.val ≠ s.get LCY_STATE_state ∨ p.tampered = true ∨ s.on TMP_STATUS_latched = true

/-- A HELLO is verified. -/
def helloVerified (s : State) : State := { s with tw := { s.tw with helloRx := true } }

/-- The peer's claim of the pins is heard. -/
def claimHeard (p : TwHello) (s : State) : State :=
  if p.claim.val = 1 ∧ !s.on TW_STATUS_own then (twRole s 2).putB TW_STATUS_peer_own true else s

/-- The state once a HELLO agrees, before REFILL. -/
def helloAgreed (s : State) (p : TwHello) : State := claimHeard p (helloVerified (peerNamed s p))

/-- Whether both HELLO frames are verified. -/
def bothVerified (s : State) : Bool := s.tw.helloTx && !s.tw.unacked.any (fun f => decide (f.kind = 1))

/-- What a HELLO does. -/
def helloTaken (p : TwHello) (u : State) : Out :=
  if u.get TW_STATUS_pstate ≠ 1 then .next u
  else if p.house ≠ Config.houseVersion ∨ p.lc.val ≠ (peerNamed u p).get LCY_STATE_state ∨ p.tampered ∨ tamperedNow (peerNamed u p) then
    .next ((peerNamed u p).ev TW_EVENTS_mismatch)
  else .next (if bothVerified (helloAgreed u p) ∧ (helloAgreed u p).get TW_STATUS_role ≠ 0 then startRefill (helloAgreed u p) p else helloAgreed u p)

theorem twinHelloRx_eq (h : TwHdr) (p : TwHello) (s : State) : execTwinHelloRx h p s = twFrame h false true s (helloTaken p) := rfl

theorem peerNamed_rd (s : State) (p : TwHello) {b : Nat} (h1 : b ≠ TW_PEER_HI) (h2 : b ≠ TW_PEER_LO) : (peerNamed s p).rd b = s.rd b :=
  (rd_put_ne _ TW_PEER_LO_val _ h2).trans (rd_put_ne s TW_PEER_HI_val _ h1)

theorem peerNamed_get (s : State) (p : TwHello) {f : Fld} (h1 : f.addr ≠ TW_PEER_HI) (h2 : f.addr ≠ TW_PEER_LO) : (peerNamed s p).get f = s.get f := by
  unfold State.get; rw [peerNamed_rd s p h1 h2]

theorem peerNamed_peer (s : State) (p : TwHello) : (peerNamed s p).get TW_PEER_HI_val = p.uid.toNat / 2 ^ 32 ∧
    (peerNamed s p).get TW_PEER_LO_val = p.uid.toNat % 2 ^ 32 := by
  have hok : TW_PEER_HI_val.ok ∧ TW_PEER_LO_val.ok := by unfold Fld.ok; decide
  have hlt := p.uid.isLt
  unfold peerNamed
  refine ⟨(get_put_addr _ TW_PEER_LO_val TW_PEER_HI_val _ (by decide)).trans ((get_put_self _ _ _ hok.1).trans (Nat.mod_eq_of_lt ?_)),
    (get_put_self _ _ _ hok.2).trans (Nat.mod_eq_of_lt ?_)⟩
  · show p.uid.toNat / 2 ^ 32 < 2 ^ 32; omega
  · show p.uid.toNat % 2 ^ 32 < 2 ^ 32; omega

theorem twRole_rd (s : State) (r : Nat) {b : Nat} (h : b ≠ TW_STATUS) : (twRole s r).rd b = s.rd b := by
  by_cases hr : s.get TW_STATUS_role = r
  · unfold twRole; rw [if_pos hr]
  · obtain ⟨cores, lp, e⟩ := twRole_eq s hr
    rw [e]; exact (rd_of_regs rfl b).trans (rd_put_ne s TW_STATUS_role _ h)

theorem twRole_get (s : State) (r : Nat) {f : Fld} (h : 1 < f.lo) : (twRole s r).get f = s.get f := by
  by_cases hr : s.get TW_STATUS_role = r
  · unfold twRole; rw [if_pos hr]
  · obtain ⟨cores, lp, e⟩ := twRole_eq s hr
    rw [e]; exact (get_of_regs rfl f).trans (get_put_bits s TW_STATUS_role f _ twStatus_ok.2.2.2.2.2.2.2.2 (Or.inr h))

/-- The claim of the peer changes TW_STATUS's role and peer_own alone. -/
theorem claimHeard_keeps (p : TwHello) (s : State) : (claimHeard p s).rd TW_PEER_HI = s.rd TW_PEER_HI ∧ (claimHeard p s).tw = s.tw ∧
    (claimHeard p s).get TW_STATUS_pstate = s.get TW_STATUS_pstate ∧ (s.get TW_STATUS_role = 2 → (claimHeard p s).get TW_STATUS_role = 2) := by
  obtain ⟨-, -, -, -, hown, -⟩ := twStatus_ok
  unfold claimHeard; split
  · refine ⟨(rd_put_ne _ TW_STATUS_peer_own _ (by decide)).trans (twRole_rd s 2 (by decide)), (State.putB_tw _ _ _).trans (twRole_tw s 2), ?_, fun _ => ?_⟩
    · exact (get_put_bits _ TW_STATUS_peer_own TW_STATUS_pstate _ hown (by decide)).trans (twRole_get s 2 (by decide))
    · exact (get_put_bits _ TW_STATUS_peer_own TW_STATUS_role _ hown (by decide)).trans (twRole_role s (by decide))
  · exact ⟨rfl, rfl, rfl, id⟩

theorem claimHeard_claimed {p : TwHello} {s : State} (hc : p.claim.val = 1) (ho : s.on TW_STATUS_own = false) :
    (claimHeard p s).get TW_STATUS_role = 2 ∧ (claimHeard p s).on TW_STATUS_peer_own = true := by
  obtain ⟨-, -, -, -, hown, -⟩ := twStatus_ok
  unfold claimHeard; rw [if_pos ⟨hc, by rw [ho]; rfl⟩]
  exact ⟨(get_put_bits _ TW_STATUS_peer_own TW_STATUS_role _ hown (by decide)).trans (twRole_role s (by decide)),
    on_putB_self _ TW_STATUS_peer_own true hown⟩

theorem helloVerified_get (s : State) (f : Fld) : (helloVerified s).get f = s.get f := get_of_regs (t := helloVerified s) rfl f

/-- What a HELLO that agrees has shown, before REFILL. -/
theorem helloAgreed_shows (s : State) (p : TwHello) : (helloAgreed s p).get TW_PEER_HI_val = p.uid.toNat / 2 ^ 32 ∧ (helloAgreed s p).tw.helloRx = true ∧
    (p.claim.val = 1 → s.on TW_STATUS_own = false → (helloAgreed s p).get TW_STATUS_role = 2 ∧ (helloAgreed s p).on TW_STATUS_peer_own = true) ∧
    (helloAgreed s p).get TW_STATUS_pstate = s.get TW_STATUS_pstate ∧ (s.get TW_STATUS_role = 2 → (helloAgreed s p).get TW_STATUS_role = 2) ∧
    bothVerified (helloAgreed s p) = bothVerified s := by
  obtain ⟨hpeer, htw, hp, hrole⟩ := claimHeard_keeps p (helloVerified (peerNamed s p))
  have hbase : ∀ f : Fld, f.addr ≠ TW_PEER_HI → f.addr ≠ TW_PEER_LO → (helloVerified (peerNamed s p)).get f = s.get f := fun f h1 h2 =>
    (helloVerified_get _ f).trans (peerNamed_get s p h1 h2)
  have hpeerTw : (peerNamed s p).tw = s.tw := (State.put_tw _ _ _).trans (State.put_tw _ _ _)
  unfold helloAgreed
  refine ⟨?_, ?_, fun hc ho => claimHeard_claimed hc ?_, hp.trans (hbase _ (by decide) (by decide)), fun hr => hrole ((hbase _ (by decide) (by decide)).trans hr), ?_⟩
  · exact (congrArg (fun w => fieldOf w 31 0) hpeer).trans ((helloVerified_get _ TW_PEER_HI_val).trans (peerNamed_peer s p).1)
  · rw [htw]; rfl
  · unfold State.on; rw [hbase _ (by decide) (by decide)]; exact ho
  · unfold bothVerified; rw [htw]
    show ((peerNamed s p).tw.helloTx && _) = _
    rw [hpeerTw]
    show (_ && !(peerNamed s p).tw.unacked.any _) = _
    rw [hpeerTw]

/-- What a HELLO that is refused shows. -/
def HelloMismatch (p : TwHello) (t : State) : Prop :=
  t.on TW_EVENTS_mismatch = true ∧ t.get TW_STATUS_pstate = 1 ∧ t.get TW_PEER_HI_val = p.uid.toNat / 2 ^ 32 ∧ t.get TW_PEER_LO_val = p.uid.toNat % 2 ^ 32

/-- What a HELLO that agrees shows. -/
def HelloAgrees (u : State) (p : TwHello) (t : State) : Prop :=
  t.get TW_PEER_HI_val = p.uid.toNat / 2 ^ 32 ∧ t.tw.helloRx = true ∧
    (p.claim.val = 1 → u.on TW_STATUS_own = false → t.get TW_STATUS_role = 2 ∧ t.on TW_STATUS_peer_own = true) ∧
    (u.tw.helloTx = false ∨ (∃ f ∈ u.tw.unacked, f.kind = 1) → t.get TW_STATUS_pstate = 1) ∧
    (u.tw.helloTx = true → (∀ f ∈ u.tw.unacked, f.kind ≠ 1) → twStandby u = true → t.get TW_STATUS_pstate = 2 ∧ t.on SKB_CTL_accept_en = false)

theorem helloTaken_refused {u : State} {p : TwHello} (hp : u.get TW_STATUS_pstate = 1) (hr : helloRefused u p) :
    Gives (helloTaken p u) (HelloMismatch p) := by
  obtain ⟨hhi, hlo⟩ := peerNamed_peer u p
  have hst : (peerNamed u p).get TW_STATUS_pstate = 1 := (peerNamed_get u p (by decide) (by decide)).trans hp
  have hlc : (peerNamed u p).get LCY_STATE_state = u.get LCY_STATE_state := peerNamed_get u p (by decide) (by decide)
  have htamper : tamperedNow (peerNamed u p) = u.on TMP_STATUS_latched := by unfold tamperedNow State.on; rw [peerNamed_get u p (by decide) (by decide)]
  have hexec : helloTaken p u = .next ((peerNamed u p).ev TW_EVENTS_mismatch) := by
    unfold helloTaken; rw [hlc, htamper, if_neg (not_not.2 hp), if_pos hr]
  generalize peerNamed u p = v at *
  have hkeep : ∀ f : Fld, f.addr % 256 < 0xF0 → f.addr ≠ TW_EVENTS → (v.ev TW_EVENTS_mismatch).get f = v.get f := fun f h1 h2 => ev_get_ne v _ f h1 h2
  exact ⟨_, hexec, ev_on v TW_EVENTS_mismatch (by decide) rfl (by decide), (hkeep _ (by decide) (by decide)).trans hst, (hkeep _ (by decide) (by decide)).trans hhi,
    (hkeep _ (by decide) (by decide)).trans hlo⟩

theorem bothVerified_iff (s : State) : bothVerified s = true ↔ s.tw.helloTx = true ∧ ∀ f ∈ s.tw.unacked, f.kind ≠ 1 := by
  unfold bothVerified
  rw [Bool.and_eq_true, Bool.not_eq_true', List.any_eq_false]
  simp only [decide_eq_true_eq, ne_eq]

theorem helloTaken_agreed {u : State} {p : TwHello} (hp : u.get TW_STATUS_pstate = 1) (hr : ¬ helloRefused u p) :
    Gives (helloTaken p u) (HelloAgrees u p) := by
  obtain ⟨hpeer, hrx, hclaim, hst, hrole, hboth⟩ := helloAgreed_shows u p
  have hlc : (peerNamed u p).get LCY_STATE_state = u.get LCY_STATE_state := peerNamed_get u p (by decide) (by decide)
  have htamper : tamperedNow (peerNamed u p) = u.on TMP_STATUS_latched := by unfold tamperedNow State.on; rw [peerNamed_get u p (by decide) (by decide)]
  have hexec : helloTaken p u = .next (if bothVerified (helloAgreed u p) ∧ (helloAgreed u p).get TW_STATUS_role ≠ 0 then startRefill (helloAgreed u p) p
      else helloAgreed u p) := by
    unfold helloTaken; rw [hlc, htamper, if_neg (not_not.2 hp), if_neg hr]
  generalize helloAgreed u p = v at *
  refine ⟨_, hexec, ?_⟩
  rw [hboth]
  by_cases hgo : bothVerified u = true ∧ v.get TW_STATUS_role ≠ 0
  · have hg := startRefill_greeted v p
    obtain ⟨htx, hkinds⟩ := (bothVerified_iff u).1 hgo.1
    rw [if_pos hgo]
    refine ⟨?_, hg.helloRx.trans hrx, fun hc ho => ?_, fun hnot => ?_, fun _ _ hs => startRefill_standby p (hrole ?_)⟩
    · exact (congrArg (fun w => fieldOf w 31 0) hg.peer).trans hpeer
    · exact ⟨hg.role.trans (hclaim hc ho).1, hg.own.trans (hclaim hc ho).2⟩
    · rcases hnot with hno | ⟨f, hf, hk⟩
      · rw [htx] at hno; cases hno
      · exact absurd hk (hkinds f hf)
    · unfold twStandby at hs; rw [Bool.and_eq_true] at hs; exact of_decide_eq_true hs.2
  · rw [if_neg hgo]
    refine ⟨hpeer, hrx, hclaim, fun _ => hst.trans hp, fun htx hkinds hs => absurd ⟨(bothVerified_iff u).2 ⟨htx, hkinds⟩, ?_⟩ hgo⟩
    have h2 : u.get TW_STATUS_role = 2 := by unfold twStandby at hs; rw [Bool.and_eq_true] at hs; exact of_decide_eq_true hs.2
    rw [hrole h2]; decide

theorem twinHelloRx_rule (s : State) (h : TwHdr) (p : TwHello) :
    FrameRule s h True (execTwinHelloRx h p s) (
      ((frameTaken s h).get TW_STATUS_pstate ≠ 1 → execTwinHelloRx h p s = .next (frameTaken s h)) ∧
      ((frameTaken s h).get TW_STATUS_pstate = 1 → helloRefused (frameTaken s h) p → Gives (execTwinHelloRx h p s) (HelloMismatch p)) ∧
      ((frameTaken s h).get TW_STATUS_pstate = 1 → ¬ helloRefused (frameTaken s h) p → Gives (execTwinHelloRx h p s) (HelloAgrees (frameTaken s h) p))) := by
  rw [twinHelloRx_eq]
  refine twFrame_rule (fun _ hnot => absurd trivial hnot) (fun hgood _ => ?_)
  rw [twFrame_good false true _ hgood, if_neg Bool.false_ne_true, if_pos (Or.inl rfl)]
  exact ⟨fun hp => if_pos hp, helloTaken_refused, helloTaken_agreed⟩

end Sys2Proof.Machine
end

section
/-! PROOF. The settlement of the twin link's obligation (O57). -/

namespace Sys2Proof.Machine

theorem twinStrokeAckRx_rule (s : State) (h : TwHdr) (seq : BitVec 32) (refused : Bool) :
    FrameRule s h (InSequence s h) (execTwinStrokeAckRx h seq refused s) (
      (awaitedOffer (frameTaken s h) seq.toNat = none → execTwinStrokeAckRx h seq refused s = .next (frameTaken s h)) ∧
      (∀ o i, awaitedOffer (frameTaken s h) seq.toNat = some o → o.slot = some i → (∀ q ∈ (frameTaken s h).skb.offers, q.slot ≠ none) →
        Gives (execTwinStrokeAckRx h seq refused s) (AckEffect (frameTaken s h) refused o i))) := by
  rw [twinStrokeAckRx_eq]
  refine twFrame_sequenced fun hf => ?_
  rw [hf]
  generalize frameTaken s h = u
  refine ⟨fun hn => ?_, fun o i hsome ho hoffers => ?_⟩
  · rw [hn]; rfl
  · rw [hsome]; exact ackTaken_cases refused ho hoffers

theorem twinStrokeRx_rule (s : State) (h : TwHdr) (hi lo act : Word) (tag : BitVec 8) (chk seq : BitVec 32) (offerer : BitVec 8) (keeper : Bool) :
    let k : Stroke := { hi := hi, lo := lo, act := act, tag := tag.toNat, chk := chk.toNat }
    let o := execTwinStrokeRx h hi lo act tag chk seq offerer keeper s
    let u := frameTaken s h
    FrameRule s h (InSequence s h) o (
      (¬ TakesStrokes u → o = .next u) ∧
      (TakesStrokes u → strokeOk k = false → Gives o (fun t => srcStatus t 0 = true ∧ t.fix.fatal = true ∧ t.skb.slots = u.skb.slots)) ∧
      (TakesStrokes u → strokeOk k = true → LateStroke u k → Gives o (fun t => t.skb = u.skb ∧ t.tw.sent = (3, [w40 (2 ^ 32 + seq.toNat)]) :: u.tw.sent)) ∧
      (TakesStrokes u → strokeOk k = true → ¬ LateStroke u k → mirrorSlot u seq.toNat = none → o = .next u) ∧
      (∀ i, TakesStrokes u → strokeOk k = true → ¬ LateStroke u k → mirrorSlot u seq.toNat = some i → Gives o (fun t =>
        t.led i = mirroredSlot k seq.toNat offerer.toNat keeper ∧
        (∀ j, j ≠ i → t.led j = u.led j) ∧ t.get SKB_SEQ_seq = seqLater (u.get SKB_SEQ_seq) seq.toNat ∧ t.skb.offers.length = u.skb.offers.length + 1))) := by
  dsimp only
  rw [twinStrokeRx_eq]
  refine twFrame_sequenced fun hf => ?_
  rw [hf]
  exact strokeTaken_cases _ _ seq.isLt offerer.toNat keeper

theorem twinRefillRx_rule (s : State) (h : TwHdr) (words : List Word) (done : Bool) :
    let x := slotOfWords words
    let o := execTwinRefillRx h words done s
    let u := frameTaken s h
    let takes := twStandby u = true ∧ u.get TW_STATUS_pstate = 2
    let sound := slotPending x = false ∨ strokeOk x.stroke = true
    FrameRule s h (InSequence s h) o (
      (¬ takes → o = .next u) ∧
      (takes → ¬ sound → Gives o (fun t => srcStatus t 0 = true ∧ t.fix.fatal = true ∧ t.skb.slots = u.skb.slots)) ∧
      (takes → sound → Gives o (fun t =>
        (done = true → t.get TW_STATUS_pstate = 3 ∧ t.on TW_EVENTS_paired = true) ∧ (done = false → t.get TW_STATUS_pstate = 2) ∧
        (x.state = 0 → done = false → t.skb.slots = u.skb.slots) ∧ (done = true → t.skb.unresolved = []) ∧ (∀ i, x.state ≠ 0 → mirrorSlot u x.seq = some i →
          t.led i = refilledSlot x)))) := by
  dsimp only
  rw [twinRefillRx_eq]
  refine twFrame_sequenced fun hf => ?_
  rw [hf]
  exact refillTaken_cases _ words done

/-- Settles O57: each frame by the rule of frames (`FrameRule`) and what it then takes; the rest are the steps of the link's own clock. -/
theorem twinLink : Obligations.TwinLink := by
  unfold Obligations.TwinLink
  intro s m h p hi lo act gen tag offerer chk seq setter keeper refused shared done report items words lane
  refine ⟨twinIdleRx_rule s h, twinHelloRx_rule s h p, twinStrokeRx_rule s h hi lo act tag chk seq offerer keeper, twinStrokeAckRx_rule s h seq refused,
    twinNoteRx_rule s h seq report, twinStateRx_rule s h gen setter shared items, twinRefillRx_rule s h words done, twinGiveRx_rule s h hi lo seq,
    twinSwapRx_rule s h hi lo, twinSwapAckRx_rule s h hi lo, twinResend_none, fun f rest hun => ⟨fun hdue => ?_, twinResend_idle hun⟩,
    ⟨fun hq => ⟨_, twinLinkTimeout_quiet hq, leaveSync_ends s⟩, twinLinkTimeout_heard⟩, twinLaneLoss_lost, fun hl => ?_, twinLaneLock_locks s lane,
    ⟨fun hdue => ⟨_, lapsedQuietExpiry_due hdue, helloEnter_pstate s, (helloEnter_tw s).1⟩, lapsedQuietExpiry_idle⟩, twinHelloSend_due, twinHelloSend_idle,
    ⟨twinSilent_due, twinSilent_idle⟩, repair_clears, endPairing_ends⟩
  · exact ⟨_, twinResend_due hun hdue, resent_shows s⟩
  · show execTwinLaneLoss lane s = _
    unfold execTwinLaneLoss; rw [hl, if_neg Bool.false_ne_true]

end Sys2Proof.Machine
end

section
/-! PROOF. The timebase's registers (R128, R131, R133, R137, R569) and the comparison of its copies (R32). -/

namespace Sys2Proof.Machine

/-! ### Steering, slewing and loading -/

theorem execTbSteerWrite_gives {s : State} {m : Master} {w : Word} (hw : Writes s m TB_STEER w) :
    if s.on UND_CTL_run = true then exec (.tbSteerWrite m w) s = .fault .unpredictable
    else Gives (exec (.tbSteerWrite m w) s) (fun t => t.rd TB_STEER = w ∧ OnlyRegisters s t) := by
  have hexec : exec (.tbSteerWrite m w) s = steerWrite w (touched s TB_STEER) := writeReg_of_Writes _ hw
  rw [hexec]
  unfold steerWrite
  rw [touched_on s TB_STEER UND_CTL_run (by decide)]
  split
  · rfl
  · exact ⟨_, rfl, rd_wr_self _ _ _, ((touched_regsOnly _ _).trans (wr_regsOnly _ _ _)).onlyRegisters⟩

theorem sgn_toInt (w : Word) : sgn w = w.toInt := by
  unfold sgn signedOf
  rw [BitVec.toInt_eq_toNat_cond]
  congr 1
  exact propext (by omega)

/-- The remainder saturates at the limits of a P40 (R133). -/
theorem slewAdd_rem (s : State) (x : Int) : (slewAdd s x).tb.rem =
    max (-(2 ^ 39) * 1000000000000) (min ((2 ^ 39 - 1) * 1000000000000) (s.tb.rem + x * 1000000000000)) := by
  unfold slewAdd
  simp only [fineUnit]
  split
  · rw [State.ev_tb]; dsimp only; omega
  · split
    · rw [State.ev_tb]; dsimp only; omega
    · dsimp only; omega

/-- Of the timebase an addition of slew changes the remainder alone. -/
theorem slewAdd_tb (s : State) (x : Int) : (slewAdd s x).tb = { s.tb with rem := (slewAdd s x).tb.rem } := by
  unfold slewAdd
  dsimp only
  split
  · rw [State.ev_tb]
  · split
    · rw [State.ev_tb]
    · rfl

theorem now_of_parts {s t : State} (hsec : t.tb.sec = s.tb.sec) (hns : t.tb.ns = s.tb.ns) (hphi : t.tb.phi = s.tb.phi) : t.now = s.now := by
  unfold State.now; rw [hsec, hns, hphi]

theorem slewAdd_now (s : State) (x : Int) : (slewAdd s x).now = s.now := by unfold State.now; rw [slewAdd_tb]

theorem execTbSlewAddWrite_gives {s : State} {m : Master} {w : Word} (hw : Writes s m TB_SLEW_ADD w) :
    Gives (exec (.tbSlewAddWrite m w) s) (fun t =>
      t.tb.rem = max (-(2 ^ 39) * 1000000000000) (min ((2 ^ 39 - 1) * 1000000000000) (s.tb.rem + w.toInt * 1000000000000)) ∧ t.now = s.now) := by
  have htb : (touched s TB_SLEW_ADD).tb = s.tb := (touched_regsOnly _ _).tb
  have hexec : exec (.tbSlewAddWrite m w) s = .next (slewAdd (touched s TB_SLEW_ADD) (sgn w)) :=
    writeReg_of_Writes (fun s => .next (slewAdd s (sgn w))) hw
  refine ⟨_, hexec, ?_, (slewAdd_now _ _).trans (now_of_tb htb)⟩
  rw [slewAdd_rem, htb, sgn_toInt]

theorem loadLoWrite_ignored {s : State} (w : Word) (h : s.on TB_STATUS_time_valid = true ∨ s.tb.load.isSome = true) :
    loadLoWrite w s = .next (s.ev TB_EVENTS_load_ignored) := by
  unfold loadLoWrite
  rw [if_pos (by rw [Bool.or_eq_true]; exact h)]

theorem loadLoWrite_taken {s : State} (w : Word) (hv : s.on TB_STATUS_time_valid = false) (hl : s.tb.load = none) :
    loadLoWrite w s =
      (let r := timeOrFree (t80Of (s.rd TB_LOAD_HI) w) s
       .next { r.2 with tb := { r.2.tb with load := some (T80hi r.1, T80lo r.1) } }) := by
  unfold loadLoWrite
  rw [hv, hl]; rfl

theorem timeOrFree_normal {t : T80} (s : State) (h : t80Normal t = true) : timeOrFree t s = (t, s) := by
  unfold timeOrFree; rw [if_pos h]

theorem timeOrFree_tb (t : T80) (s : State) : (timeOrFree t s).2.tb = s.tb := by
  unfold timeOrFree; split <;> rfl

/-- The time that arms the load is always a normalized one. -/
theorem timeOrFree_low (t : T80) (s : State) : (timeOrFree t s).1.low < 1024000000000 := by
  unfold timeOrFree
  split
  next h => exact of_decide_eq_true h
  · exact Nat.mod_lt _ (by decide)

theorem T80hi_t80Of (hi lo : Word) : T80hi (t80Of hi lo) = hi := BitVec.ofNat_toNat _ _

theorem T80lo_t80Of (hi lo : Word) : T80lo (t80Of hi lo) = lo := BitVec.ofNat_toNat _ _

theorem execTbLoadLoWrite_gives {s : State} {m : Master} {w : Word} (hw : Writes s m TB_LOAD_LO w) :
    (s.on TB_STATUS_time_valid = true ∨ s.tb.load.isSome = true → Gives (exec (.tbLoadLoWrite m w) s) (fun t =>
      OnlyRegisters s t ∧ t.on TB_EVENTS_load_ignored = true)) ∧
    (s.on TB_STATUS_time_valid = false → s.tb.load = none → w.toNat < 1024000000000 → Gives (exec (.tbLoadLoWrite m w) s) (fun t =>
      t.tb = { s.tb with load := some (s.rd TB_LOAD_HI, w) })) ∧
    (s.on TB_STATUS_time_valid = false → s.tb.load = none → ¬ w.toNat < 1024000000000 → Gives (exec (.tbLoadLoWrite m w) s) (fun t =>
      ∃ hi lo, t.tb = { s.tb with load := some (hi, lo) } ∧ lo.toNat < 1024000000000)) := by
  have hexec : exec (.tbLoadLoWrite m w) s = loadLoWrite w (touched s TB_LOAD_LO) := writeReg_of_Writes _ hw
  have htouch := touched_regsOnly s TB_LOAD_LO
  have hon : (touched s TB_LOAD_LO).on TB_STATUS_time_valid = s.on TB_STATUS_time_valid := touched_on _ _ _ (by decide)
  have hhi : (touched s TB_LOAD_LO).rd TB_LOAD_HI = s.rd TB_LOAD_HI := touched_rd _ _ _ (by decide)
  rw [hexec, ← hon, ← htouch.tb, ← hhi]
  refine ⟨fun h => ?_, fun hv hl hlow => ?_, fun hv hl _ => ?_⟩
  · exact ⟨_, loadLoWrite_ignored w h, (htouch.trans (event_regsOnly _ _ _)).onlyRegisters, ev_on _ TB_EVENTS_load_ignored (by decide) rfl (by decide)⟩
  · refine ⟨_, loadLoWrite_taken w hv hl, ?_⟩
    rw [timeOrFree_normal _ (decide_eq_true hlow)]
    dsimp only
    rw [T80hi_t80Of, T80lo_t80Of]
  · refine ⟨_, loadLoWrite_taken w hv hl, ?_⟩
    dsimp only
    have hlow := timeOrFree_low (t80Of ((touched s TB_LOAD_LO).rd TB_LOAD_HI) w) (touched s TB_LOAD_LO)
    rw [timeOrFree_tb]
    refine ⟨_, _, rfl, ?_⟩
    unfold T80lo w40
    rw [BitVec.toNat_ofNat, Nat.mod_eq_of_lt (by omega)]
    exact hlow

theorem execTimeLoad_none {s : State} (h : s.tb.load = none) : exec .timeLoad s = .next s := by
  have hexec : exec .timeLoad s = execTimeLoad s := rfl
  rw [hexec]; unfold execTimeLoad; rw [h]

/-- The counter holds the pair that was armed (R131): its low word split into ns and the top ten bits of φ. -/
theorem execTimeLoad_gives {s : State} {hi w : Word} (h : s.tb.load = some (hi, w)) :
    Gives (exec .timeLoad s) (fun t => t.now = ⟨hi.toNat, w.toNat⟩ ∧ t.on TB_STATUS_time_valid = true ∧ t.tb.load = none) := by
  have hexec : exec .timeLoad s = execTimeLoad s := rfl
  rw [hexec]; unfold execTimeLoad; rw [h]
  refine ⟨_, rfl, ?_, on_putB_self _ _ _ (by unfold Fld.ok; decide), ?_⟩
  · unfold State.now; rw [State.putB_tb]; dsimp only; congr 1; omega
  · rw [State.putB_tb]

/-! ### Direct writes of the step registers, and the end of a leap second -/

theorem execTbDirectStepWrite_gives {s : State} {m : Master} {w : Word} {which : Fin 3}
    (h : regErr s m (([TB_STEP_US, TB_STEP_S, TB_LEAP_EXEC] : List Nat).getD which.val 0) true = none) :
    Gives (exec (.tbDirectStepWrite m which w) s) (fun t => OnlyRegisters s t ∧ t.on TB_EVENTS_direct_ignored = true ∧
      t.rd TB_UTC_OFS = s.rd TB_UTC_OFS) := by
  have hexec : exec (.tbDirectStepWrite m which w) s = directStepWrite m (([TB_STEP_US, TB_STEP_S, TB_LEAP_EXEC] : List Nat).getD which.val TB_LEAP_EXEC) s := rfl
  have ha : ([TB_STEP_US, TB_STEP_S, TB_LEAP_EXEC] : List Nat).getD which.val TB_LEAP_EXEC =
      ([TB_STEP_US, TB_STEP_S, TB_LEAP_EXEC] : List Nat).getD which.val 0 := by
    match which with
    | 0 => rfl
    | 1 => rfl
    | 2 => rfl
  rw [hexec, ha]
  generalize ([TB_STEP_US, TB_STEP_S, TB_LEAP_EXEC] : List Nat).getD which.val 0 = a at h ⊢
  unfold directStepWrite
  rw [h]
  refine ⟨_, rfl, ((startClock_regsOnly _ _).trans (event_regsOnly _ _ _)).onlyRegisters, ev_on _ TB_EVENTS_direct_ignored (by decide) rfl (by decide), ?_⟩
  rw [State.ev, event_rd_ne _ _ _ (by decide) (by decide), startClock_rd _ _ _ (by decide)]

theorem execLeapEnd_gives {s : State} (hin : s.on TB_STATUS_in_leap = true) (hr : s.reached s.tb.leapEnd = true) :
    Gives (exec .leapEnd s) (fun t => t.on TB_STATUS_in_leap = false ∧ OnlyRegisters s t) := by
  have hexec : exec .leapEnd s = execLeapEnd s := rfl
  rw [hexec]; unfold execLeapEnd; rw [if_pos ⟨hin, hr⟩]
  exact ⟨_, rfl, on_putB_self _ _ _ (by unfold Fld.ok; decide), (put_regsOnly _ _ _).onlyRegisters⟩

theorem execLeapEnd_early {s : State} (h : s.reached s.tb.leapEnd = false) : exec .leapEnd s = .next s := by
  have hexec : exec .leapEnd s = execLeapEnd s := rfl
  rw [hexec]; unfold execLeapEnd; rw [if_neg (by rw [h]; exact fun hc => Bool.false_ne_true hc.2)]

/-! ### The comparison of the copies -/

/-- A failure that has shifted unit `u`'s copy of the time by `slip` has struck; a unit in reset holds no copy (R32). -/
def copySlipped (s : State) (u : Nat) (slip : Int) : State :=
  if (unitErr s (u * 0x100)).isSome then s
  else { s with tb := { s.tb with copies := tabSet (fun _ => 0) s.tb.copies u (tabGet (fun _ => 0) s.tb.copies u + slip) } }

/-- The comparison of the millisecond `ms`. -/
def copiesCompared (s : State) (ms : Nat) : State :=
  let t : State := { s with tb := { s.tb with compared := ms } }
  if t.tb.copies.isEmpty then t else raiseSrc t 1 none

theorem execCopyCompare_eq (bad : CopySlip) (s : State) : execCopyCompare bad s =
    (let t := copySlipped s bad.unit.toNat (sgn bad.slip)
     let ms := t80Units t.steady / nsU 1000000
     if ms = t.tb.compared then .next t else .next (copiesCompared t ms)) := rfl

theorem copySlipped_cases (s : State) (u : Nat) (slip : Int) : ∃ copies, copySlipped s u slip = { s with tb := { s.tb with copies := copies } } := by
  unfold copySlipped; split
  · exact ⟨_, rfl⟩
  · exact ⟨_, rfl⟩

theorem copySlipped_steady (s : State) (u : Nat) (slip : Int) : (copySlipped s u slip).steady = s.steady := by
  obtain ⟨copies, h⟩ := copySlipped_cases s u slip
  rw [h]; rfl

theorem copySlipped_now (s : State) (u : Nat) (slip : Int) : (copySlipped s u slip).now = s.now := by
  obtain ⟨copies, h⟩ := copySlipped_cases s u slip
  rw [h]; rfl

theorem copySlipped_compared (s : State) (u : Nat) (slip : Int) : (copySlipped s u slip).tb.compared = s.tb.compared := by
  obtain ⟨copies, h⟩ := copySlipped_cases s u slip
  rw [h]

theorem copySlipped_self (s : State) (u : Nat) (slip : Int) : tabGet (fun _ => (0 : Int)) (copySlipped s u slip).tb.copies u =
    if unitErr s (u * 256) = none then tabGet (fun _ => (0 : Int)) s.tb.copies u + slip else tabGet (fun _ => (0 : Int)) s.tb.copies u := by
  unfold copySlipped
  cases unitErr s (u * 256) with
  | none => exact tabGet_tabSet_self _ _ _ _
  | some k => rfl

theorem copySlipped_ne (s : State) {u v : Nat} (slip : Int) (h : v ≠ u) :
    tabGet (fun _ => (0 : Int)) (copySlipped s u slip).tb.copies v = tabGet (fun _ => (0 : Int)) s.tb.copies v := by
  unfold copySlipped; split
  · rfl
  · exact tabGet_tabSet_ne _ _ _ h

/-- Copies that agree, and no failure: they agree still. -/
theorem copySlipped_agree {s : State} (u : Nat) (h : s.tb.copies = []) : (copySlipped s u 0).tb.copies = [] := by
  unfold copySlipped; split
  · exact h
  · dsimp only; rw [h]; rfl

theorem copiesCompared_tb (s : State) (ms : Nat) : (copiesCompared s ms).tb = { s.tb with compared := ms } := by
  unfold copiesCompared; dsimp only; split
  · rfl
  · rw [raiseSrc_fatal _ (by decide)]; exact (fatalEnter_reacts _ _).tb

theorem copiesCompared_copies (s : State) (ms : Nat) : (copiesCompared s ms).tb.copies = s.tb.copies := by rw [copiesCompared_tb]

theorem copiesCompared_compared (s : State) (ms : Nat) : (copiesCompared s ms).tb.compared = ms := by rw [copiesCompared_tb]

theorem copiesCompared_now (s : State) (ms : Nat) : (copiesCompared s ms).now = s.now := by
  unfold State.now; rw [copiesCompared_tb]

theorem copiesCompared_agree {s : State} (ms : Nat) (h : s.tb.copies = []) : copiesCompared s ms = { s with tb := { s.tb with compared := ms } } := by
  unfold copiesCompared; dsimp only
  rw [if_pos (by rw [h]; rfl)]

theorem copiesCompared_fatal {s : State} (ms : Nat) (h : s.tb.copies ≠ []) :
    (copiesCompared s ms).fix.fatal = true ∧ srcStatus (copiesCompared s ms) 1 = true := by
  unfold copiesCompared; dsimp only
  rw [if_neg (by rw [List.isEmpty_iff]; exact h), raiseSrc_fatal _ (by decide)]
  exact ⟨fatalEnter_fatal _ _, fatalEnter_status _ _ (by decide)⟩

theorem execCopyCompare_steps (s : State) (unit : BitVec 12) (w : Word) : exec (.copyCompare ⟨unit, w⟩) s =
    (let t := copySlipped s unit.toNat w.toInt
     let ms := t80Units s.steady / 1024000000
     if ms = s.tb.compared then .next t else .next (copiesCompared t ms)) := by
  have hexec : exec (.copyCompare ⟨unit, w⟩) s = execCopyCompare ⟨unit, w⟩ s := rfl
  have hms : nsU 1000000 = 1024000000 := rfl
  rw [hexec, execCopyCompare_eq]
  dsimp only
  rw [sgn_toInt, copySlipped_steady, copySlipped_compared, hms]

theorem execCopyCompare_gives (s : State) (unit : BitVec 12) (w : Word) :
    let u := unit.toNat
    let off := tabGet (fun _ => (0 : Int)) s.tb.copies u + w.toInt
    let ms := t80Units s.steady / 1024000000
    Gives (exec (.copyCompare ⟨unit, w⟩) s) (fun t =>
      tabGet (fun _ => (0 : Int)) t.tb.copies u = (if unitErr s (u * 256) = none then off else tabGet (fun _ => (0 : Int)) s.tb.copies u) ∧
      (∀ v, v ≠ u → tabGet (fun _ => (0 : Int)) t.tb.copies v = tabGet (fun _ => (0 : Int)) s.tb.copies v) ∧ t.tb.compared = ms ∧ t.now = s.now ∧
      (ms ≠ s.tb.compared → unitErr s (u * 256) = none → off ≠ 0 → t.fix.fatal = true ∧ srcStatus t 1 = true) ∧
      (ms = s.tb.compared ∨ (s.tb.copies = [] ∧ w = 0) → t = { s with tb := t.tb })) := by
  dsimp only
  have hself := copySlipped_self s unit.toNat w.toInt
  have hne := fun v (hv : v ≠ unit.toNat) => copySlipped_ne s w.toInt hv
  have hnow := copySlipped_now s unit.toNat w.toInt
  obtain ⟨copies, hslip⟩ := copySlipped_cases s unit.toNat w.toInt
  rw [execCopyCompare_steps]
  dsimp only
  generalize t80Units s.steady / 1024000000 = ms
  split
  next hsame =>
    exact ⟨_, rfl, hself, hne, (copySlipped_compared _ _ _).trans hsame.symm, hnow, fun h => absurd hsame h, fun _ => by rw [hslip]⟩
  next hnew =>
    refine ⟨_, rfl, (congrArg (tabGet _ · _) (copiesCompared_copies _ _)).trans hself,
      fun v hv => (congrArg (tabGet _ · v) (copiesCompared_copies _ _)).trans (hne v hv), copiesCompared_compared _ _,
      (copiesCompared_now _ _).trans hnow, fun _ hup hoff => ?_, fun hagree => ?_⟩
    · refine copiesCompared_fatal ms fun hnone => hoff ?_
      rw [hnone, if_pos hup] at hself
      exact hself.symm
    · obtain ⟨hcopies, hw⟩ := hagree.resolve_left hnew
      have hzero : w.toInt = 0 := by rw [hw]; exact BitVec.toInt_zero
      rw [hzero] at hslip ⊢
      rw [copiesCompared_agree ms (copySlipped_agree _ hcopies), hslip]

end Sys2Proof.Machine
end

section
/-! PROOF. What the timebase tick does beside the counter leaves of the timebase (R126, R132): of all it performs, an addition of slew alone
changes `tb`, and that in the remainder. -/

namespace Sys2Proof.Machine

theorem ite_tb {c : Prop} [Decidable c] {s t u : State} (ht : t.tb = s.tb) (hu : u.tb = s.tb) : (if c then t else u).tb = s.tb := by
  split
  · exact ht
  · exact hu

/-! ### House's offers -/

theorem Tells.tb {s t : State} (h : Tells s t) : t.tb = s.tb := by unfold Tells at h; rw [h]

theorem coreEvent_tb (s : State) (k bit : Nat) : (coreEvent s k bit).tb = s.tb := rfl

theorem allCoresEvent_tb (s : State) (bit : Nat) : (allCoresEvent s bit).tb = s.tb := foldl_frame State.tb _ (fun t k => coreEvent_tb t k bit) _ s

theorem evtSecond_tb (s : State) : (evtSecond s).tb = s.tb :=
  foldl_frame State.tb _ (fun t k => by dsimp only; split; exacts [rfl, State.put_tb _ _ _]) _ s

theorem secondTick_tb (s : State) : (secondTick s).tb = s.tb := (evtSecond_tb _).trans (allCoresEvent_tb s 27)

theorem oscOffset_tb (s : State) : (oscOffset s).tb = s.tb := by unfold oscOffset; split <;> rfl

theorem answerOffer_tb (s : State) (o : Offer) (code seq : Nat) (late : Bool) : (answerOffer s o code seq late).tb = s.tb :=
  (answerOffer_answering s o code seq late).rest.tb

theorem twSend_tb (s : State) (kind : Nat) (payload : List Word) : (twSend s kind payload).tb = s.tb := (twSend_tells s kind payload).tb

theorem houseEmit_tb (s : State) (k : Nat) : (houseEmit s k).tb = s.tb := by
  unfold houseEmit; dsimp only; split_ifs <;> rfl

theorem houseFollow_tb (s : State) (ks : List Nat) : (houseFollow s ks).tb = s.tb := by
  unfold houseFollow; split
  · exact foldl_frame State.tb _ houseEmit_tb ks s
  · rfl

theorem takeOffer_tb (s : State) (o : Offer) (i : Nat) : (takeOffer s o i).tb = s.tb := by
  unfold takeOffer
  extract_lets early free x mir o' s₁ skb s₂ s₃
  have h₃ : s₃.tb = s.tb := by
    unfold s₃; split
    · exact houseFollow_tb s₂ _
    · rfl
  split_ifs
  · exact (twSend_tb _ _ _).trans h₃
  · exact (twSend_tb _ _ _).trans h₃
  · exact h₃

theorem tryOffer_tb (s : State) (o : Offer) : (tryOffer s o).tb = s.tb := by
  unfold tryOffer; dsimp only; split
  · rfl
  · split
    · split
      · exact answerOffer_tb _ _ _ _ _
      · rfl
    · split
      · exact answerOffer_tb _ _ _ _ _
      · split
        · exact answerOffer_tb _ _ _ _ _
        · split
          · exact answerOffer_tb _ _ _ _ _
          · split
            · exact answerOffer_tb _ _ _ _ _
            · exact takeOffer_tb _ _ _

theorem settleWaiters_tb (s : State) : (settleWaiters s).tb = s.tb := foldl_frame State.tb _ tryOffer_tb _ _

theorem houseOfferFor_tb (asker : Asker) (s : State) (t : T80) (act : Word) : (houseOfferFor asker s t act).tb = s.tb := tryOffer_tb _ _

theorem houseOffer_tb (s : State) (t : T80) (act : Word) : (houseOffer s t act).tb = s.tb := houseOfferFor_tb _ _ _ _

theorem offerIrig_tb (s : State) (sec : Nat) : (offerIrig s sec).tb = s.tb := by
  unfold offerIrig; dsimp only; split
  · rfl
  · exact foldl_frame State.tb _ (fun t e => by split; exacts [rfl, houseOffer_tb _ _ _]) _ s

theorem offerPps_tb (s : State) (sec : Nat) : (offerPps s sec).tb = s.tb := by
  unfold offerPps; dsimp only; split
  · rfl
  · split
    · rfl
    · exact houseOffer_tb _ _ _

theorem offerRoll_tb (s : State) : (offerRoll s).tb = s.tb := by
  unfold offerRoll; dsimp only; split
  · rfl
  · exact tryOffer_tb _ _

/-! ### PLLs, outputs, FIFOs and the Tally -/

theorem ownTick_tb (s : State) : (ownTick s).tb = s.tb := by unfold ownTick; split <;> rfl

theorem varTick_tb (s : State) (n : Nat) : (varTick s n).tb = s.tb := by
  unfold varTick; split
  · rfl
  extract_lets v g base extra start v' s₁ rem rate mv
  have h₁ : s₁.tb = s.tb := by
    unfold s₁; split
    · exact State.putI_tb _ _ _
    · rfl
  clear_value v' s₁
  split
  · rw [State.putB_tb, State.wr_tb, State.setVar_tb]; exact h₁
  · rw [State.setVar_tb]; exact h₁

theorem outRelease_tb (s : State) (k : Nat) : (outRelease s k).tb = s.tb := State.putB_tb _ _ _

theorem outSafe_tb (s : State) (k : Nat) : (outSafe s k).tb = s.tb := by
  unfold outSafe
  extract_lets s₁ s₂
  have h₂ : s₂.tb = s.tb := (State.setLevel_tb _ _ _).trans (State.putB_tb _ _ _)
  split
  · rfl
  · split
    · exact h₂
    · exact (outRelease_tb _ _).trans h₂

theorem outSafeTick_tb (s : State) (k : Nat) : (outSafeTick s k).tb = s.tb := by
  unfold outSafeTick
  cases (s.out k).safeAt with
  | none => rfl
  | some t =>
    exact ite_tb (State.setOut_tb _ _ _) (ite_tb ((outSafe_tb _ _).trans (State.setOut_tb _ _ _)) rfl)

theorem setAligned_tb (s : State) (k : Nat) (b : Bool) : (setAligned s k b).tb = s.tb := by
  unfold setAligned
  extract_lets was s₁ s₂
  have h₂ : s₂.tb = s.tb := by
    unfold s₂; split
    · exact State.ev_tb _ _
    · rfl
  split
  · exact h₂
  · exact (houseFollow_tb _ _).trans h₂

theorem outUngate_tb (s : State) (k : Nat) : (outUngate s k).tb = s.tb := by
  unfold outUngate
  extract_lets n grid s₁
  clear_value n
  split
  · split
    · exact (setAligned_tb _ _ _).trans ((State.setOut_tb _ _ _).trans (State.putB_tb _ _ _))
    · exact State.setOut_tb _ _ _
  · rfl

theorem outClock_tb (s : State) (k : Nat) : (outClock s k).tb = s.tb := by
  unfold outClock
  extract_lets o s₁
  have h₁ : s₁.tb = s.tb := (State.setOut_tb _ _ _).trans (State.setLevel_tb _ _ _)
  split
  · rfl
  · split
    · split
      · exact (outRelease_tb _ _).trans h₁
      · exact h₁
    · exact State.setLevel_tb _ _ _

theorem outGiveTick_tb (s : State) (k : Nat) : (outGiveTick s k).tb = s.tb := by
  unfold outGiveTick; split
  · rfl
  · split
    · exact (outRelease_tb _ _).trans (State.setOut_tb _ _ _)
    · rfl

theorem outTick_tb (s : State) (k : Nat) : (outTick s k).tb = s.tb := by
  unfold outTick
  extract_lets out s₁ s₂ s₃
  have h₁ : s₁.tb = s.tb := by
    unfold s₁; split
    · exact (State.setOut_tb _ _ _).trans (State.putB_tb _ _ _)
    · rfl
  have h₃ : s₃.tb = s.tb :=
    ((((outGiveTick_tb _ k).trans (outClock_tb _ k)).trans (outUngate_tb _ k)).trans (outSafeTick_tb _ k)).trans h₁
  split
  · exact (State.setOut_tb _ _ _).trans h₃
  · exact h₃

theorem fifoDrainList_tb (s : State) (ws : List FifoWrite) : (fifoDrainList s ws).tb = s.tb := by
  induction ws generalizing s with
  | nil => rfl
  | cons x ws ih =>
    unfold fifoDrainList; split
    · exact ih s
    · split
      · exact ih _
      · exact ih _

theorem fifoDrain_tb (s : State) : (fifoDrain s).tb = s.tb := by
  unfold fifoDrain; split
  · rfl
  · exact fifoDrainList_tb _ _

theorem waitSlots_tb (s : State) : (waitSlots s).tb = s.tb :=
  foldl_frame State.tb _ (fun t e => by
    split
    · rfl
    · split_ifs <;> rfl) _ s

theorem bankSet_tb (s : State) (bank i : Nat) (w : Word) : (bankSet s bank i w).tb = s.tb := by
  unfold bankSet; split <;> rfl

theorem slotGroup8_tb (s : State) (p : Nat) : (slotGroup8 s p).2.tb = s.tb := by
  unfold slotGroup8; split
  · rfl
  · dsimp only; split <;> rfl

theorem sweepGroup_tb (s : State) (i : Nat) : (sweepGroup s i).2.tb = s.tb := by
  unfold sweepGroup; split
  · rfl
  · exact slotGroup8_tb _ _

theorem sweepSlot_tb (s : State) (i : Nat) : (sweepSlot s i).tb = s.tb := by
  unfold sweepSlot
  extract_lets first
  have hgroup : (if first then sweepGroup s i else (s.tly.group, s)).2.tb = s.tb := by
    split
    · exact sweepGroup_tb s i
    · rfl
  generalize (if first then sweepGroup s i else (s.tly.group, s)) = group at hgroup ⊢
  obtain ⟨ws, u⟩ := group
  have hset : ∀ (w : Word) (t : State), t.tb = (bankSet u (sweepSerial u % 2) (12 + i) w).tb → t.tb = s.tb :=
    fun w (t : State) ht => ht.trans ((bankSet_tb _ _ _ _).trans hgroup)
  dsimp only
  split
  · exact (bankSet_tb _ _ _ _).trans (hset _ _ rfl)
  · exact hset _ _ rfl

theorem sweepRead_tb (n : Nat) (s : State) : (sweepRead n s).tb = s.tb := by
  induction n generalizing s with
  | zero => rfl
  | succ n ih =>
    unfold sweepRead; split
    · exact (ih _).trans (sweepSlot_tb _ _)
    · rfl

theorem tallyTick_tb (s : State) : (tallyTick s).tb = s.tb := by
  unfold tallyTick
  refine (foldl_frame State.tb _ (fun t a => ?_) _ _).trans ((sweepRead_tb 4 _).trans (waitSlots_tb s))
  dsimp only; split
  · exact (foldl_frame State.tb _ (fun u _ => tally_tb u _ _) _ _).trans (tally_tb t _ _)
  · exact tally_tb t _ _

/-! ### The bound -/

/-- The bound shown to the emitter of a bridge group and of a span port, and with a rise its count (R223). -/
def emitterBound (m : Nat) (rise : Bool) (s : State) (i : Nat) : State :=
  if rise then ((((s.put (BRGg_BMAX_b i) m).put (SPp_BMAX_b i) m).inc (BRGg_BSEQ_bseq i)).inc (SPp_BSEQ_bseq i))
  else (s.put (BRGg_BMAX_b i) m).put (SPp_BMAX_b i) m

theorem emitterBound_regsOnly (m : Nat) (rise : Bool) (s : State) (i : Nat) : RegsOnly s (emitterBound m rise s i) := by
  have h : RegsOnly s ((s.put (BRGg_BMAX_b i) m).put (SPp_BMAX_b i) m) := (put_regsOnly _ _ _).trans (put_regsOnly _ _ _)
  unfold emitterBound; split
  · exact (h.trans (inc_regsOnly _ _)).trans (inc_regsOnly _ _)
  · exact h

theorem RegsOnly.foldl {α : Type} {f : State → α → State} (hf : ∀ t a, RegsOnly t (f t a)) (l : List α) (s : State) : RegsOnly s (l.foldl f s) := by
  induction l generalizing s with
  | nil => rfl
  | cons a l ih => exact (hf s a).trans (ih _)

theorem boundToEmitters_eq (s : State) (b : Nat) (rise : Bool) :
    boundToEmitters s b rise = (List.range 4).foldl (emitterBound (s.glz.bHist.foldl Nat.max b) rise) s := rfl

theorem boundToEmitters_regsOnly (s : State) (b : Nat) (rise : Bool) : RegsOnly s (boundToEmitters s b rise) := by
  rw [boundToEmitters_eq]; exact RegsOnly.foldl (emitterBound_regsOnly _ _) _ s

theorem publish_regsOnly (s : State) (mode : Nat) (t : Terms) : RegsOnly s (publish s mode t) := by
  unfold publish
  extract_lets b old s₁ s₂ s₃ s₄ s₅
  have h₁ : RegsOnly s s₁ := (((((wr_regsOnly _ _ _).trans (wr_regsOnly _ _ _)).trans (wr_regsOnly _ _ _)).trans
    (wr_regsOnly _ _ _)).trans (wr_regsOnly _ _ _)).trans (wr_regsOnly _ _ _)
  have h₃ : RegsOnly s s₃ := (h₁.trans (put_regsOnly _ _ _)).trans (put_regsOnly _ _ _)
  have h₄ : RegsOnly s₃ s₄ := by
    unfold s₄; split
    · exact event_regsOnly _ _ _
    · exact RegsOnly.refl _
  exact ((h₃.trans h₄).trans (put_regsOnly _ _ _)).trans (boundToEmitters_regsOnly _ _ _)

theorem glzRefresh_tb (s : State) : (glzRefresh s).tb = s.tb := by
  unfold glzRefresh; dsimp only; split
  · split
    · rfl
    · exact (publish_regsOnly _ _ _).tb
  · split
    · rfl
    · split
      · rfl
      · exact (publish_regsOnly _ _ _).tb

end Sys2Proof.Machine
end

section
/-! PROOF. The timebase tick moves the counter as `tbCount` does, and nothing else in the tick moves it (R126, R132). -/

namespace Sys2Proof.Machine

/-- From `s` to `t` the counter stands: T80, φ, the residue below it and the tick before. -/
structure CounterStays (s t : State) : Prop where
  residue : t.tb.residue = s.tb.residue
  phi : t.tb.phi = s.tb.phi
  ns : t.tb.ns = s.tb.ns
  sec : t.tb.sec = s.tb.sec
  prev : t.tb.prev = s.tb.prev

namespace CounterStays
variable {s t u : State}

theorem refl (s : State) : CounterStays s s := ⟨rfl, rfl, rfl, rfl, rfl⟩

theorem trans (h : CounterStays s t) (k : CounterStays t u) : CounterStays s u :=
  ⟨k.residue.trans h.residue, k.phi.trans h.phi, k.ns.trans h.ns, k.sec.trans h.sec, k.prev.trans h.prev⟩

theorem of_tb (h : t.tb = s.tb) : CounterStays s t := ⟨by rw [h], by rw [h], by rw [h], by rw [h], by rw [h]⟩

/-- A step beside the timebase. -/
theorem beside (h : CounterStays s t) (k : u.tb = t.tb) : CounterStays s u := h.trans (of_tb k)

theorem foldl {α : Type} {f : State → α → State} (hf : ∀ t a, CounterStays t (f t a)) (l : List α) (s : State) : CounterStays s (l.foldl f s) := by
  induction l generalizing s with
  | nil => exact refl s
  | cons a l ih => exact (hf s a).trans (ih _)

end CounterStays

/-! ### Slew that is added -/

theorem slewAdd_stays (s : State) (x : Int) : CounterStays s (slewAdd s x) := by
  have h := slewAdd_tb s x
  exact ⟨by rw [h], by rw [h], by rw [h], by rw [h], by rw [h]⟩

/-- The reference's offset is given over to the slew unless a step waits (R192). -/
theorem palSlew_cases (s : State) : ∃ t, palSlew s = .next t ∧ CounterStays s t := by
  unfold palSlew; split
  · exact ⟨_, rfl, .refl s⟩
  · split
    · exact ⟨_, rfl, .of_tb (State.putB_tb _ _ _)⟩
    · split
      · exact ⟨_, rfl, .refl s⟩
      · dsimp only; split
        · exact ⟨_, rfl, .refl s⟩
        · exact ⟨_, rfl, (slewAdd_stays _ _).beside (State.putB_tb _ _ _)⟩

theorem houseDo_next {s t : State} {f : State → Out} (h : f s = .next t) : houseDo s f = t := by unfold houseDo; rw [h]

theorem palSlew_stays (s : State) : CounterStays s (houseDo s palSlew) := by
  obtain ⟨t, ht, hs⟩ := palSlew_cases s
  rw [houseDo_next ht]; exact hs

theorem p40OrFree_tb (s : State) (x : Int) : (p40OrFree s x).2.tb = s.tb := by unfold p40OrFree; split <;> rfl

theorem roundQ_tb (s : State) (x : Int) (d : Nat) : (roundQ s x d).2.tb = s.tb := by
  unfold roundQ; dsimp only; split
  · rfl
  · split <;> rfl

theorem freeQ_tb (s : State) (x : Int) (d : Nat) : (freeQ s x d).2.tb = s.tb := by
  unfold freeQ; dsimp only; split <;> rfl

/-! ### What each second brings -/

theorem offerStep_stays (s : State) (sec : Nat) : CounterStays s (offerStep s sec) := by
  unfold offerStep
  extract_lets pal s₁ pal' s₂ t
  have h₁ : CounterStays s s₁ := by
    unfold s₁; split
    · refine CounterStays.trans ?_ (palSlew_stays _)
      exact .of_tb rfl
    · exact .refl s
  have h₂ : CounterStays s s₂ := h₁.beside rfl
  clear_value s₂ s₁
  split
  · exact h₁
  next us _ =>
    extract_lets secs rest s₃
    split
    · exact h₂.trans (palSlew_stays _)
    · have h₃ : CounterStays s s₃ := h₂.beside (ite_tb rfl (houseOfferFor_tb _ _ _ _))
      clear_value s₃
      exact h₃.beside (ite_tb rfl (houseOfferFor_tb _ _ _ _))

theorem houseSecond_stays (s : State) : CounterStays s (houseSecond s) := by
  unfold houseSecond; split
  · exact .refl s
  extract_lets sec s₁ s₂ s₃ t
  have h₁ : CounterStays s s₁ := by
    unfold s₁; split
    · exact offerStep_stays s sec
    · exact .refl s
  clear_value s₁
  have h₂ : CounterStays s s₂ := h₁.beside (ite_tb ((offerIrig_tb _ _).trans (offerPps_tb _ _)) rfl)
  clear_value s₂
  have h₃ : CounterStays s s₃ := h₂.beside (houseOffer_tb _ _ _)
  clear_value s₃
  exact h₃.beside (ite_tb (offerRoll_tb _) rfl)

/-! ### What is due on a tick -/

theorem switchBridge_tb (s : State) : (switchBridge s).tb = s.tb := by
  unfold switchBridge; dsimp only
  exact ite_tb (State.put_tb _ _ _) rfl

theorem switchAbsorb_tb (s : State) : (switchAbsorb s).tb = s.tb := by unfold switchAbsorb; split <;> rfl

theorem switchSlew_stays (s : State) : CounterStays s (switchSlew s) := by
  unfold switchSlew
  cases s.pal.sw with
  | none => exact .refl s
  | some w =>
    dsimp only
    cases w.a with
    | none => exact .refl s
    | some a =>
      dsimp only
      have hfree : ∀ (t : State) (x : Int), CounterStays t ((p40OrFree t x).2.wr PAL_LAST_ABS (p40OrFree t x).1) :=
        fun t x => (CounterStays.of_tb (p40OrFree_tb t x)).beside (State.wr_tb _ _ _)
      have h₁ := (CounterStays.of_tb (State.setSlot_tb s w.to_ { s.slot w.to_ with x := a })).trans (hfree (s.setSlot w.to_ { s.slot w.to_ with x := a }) (a.tdiv fineUnit))
      generalize (p40OrFree (s.setSlot w.to_ { s.slot w.to_ with x := a }) (a.tdiv fineUnit)).2.wr PAL_LAST_ABS _ = u at h₁ ⊢
      split
      · exact h₁
      · split
        · exact h₁.beside ((State.ev_tb _ _).trans (State.putB_tb _ _ _))
        · exact h₁.trans (slewAdd_stays _ _)

/-- The source of a steering that saturates names no unit, and fences none (R507). -/
theorem raiseSrc_steerSat (s : State) : raiseSrc s 102 none = reportSrc s 102 := by
  have hclass : srcClass s 102 = 1 := rfl
  have hunit : srcFixedUnit 102 = none := rfl
  have hsame : raiseSrc s 102 none = if (reportSrc s 102).fix.fatal = true then reportSrc s 102 else reportSrc s 102 := by
    unfold raiseSrc; dsimp only; rw [hclass, hunit]; rfl
  rw [hsame, ite_self]

theorem steerSat_tb (s : State) : (raiseSrc (s.ev UND_EVENTS_steer_sat) 102 none).tb = s.tb := by
  rw [raiseSrc_steerSat]
  exact (reportSrc_reaction _ 102 (by decide)).rest.tb.trans (State.ev_tb _ _)

theorem learnTick_tb (s : State) : (learnTick s).tb = s.tb := rfl

theorem steerNow_tb (s : State) : (steerNow s).tb = s.tb := by
  unfold steerNow; split
  · rfl
  extract_lets num
  have h₁ := roundQ_tb s num (modelDen * loopUnit)
  generalize roundQ s num (modelDen * loopUnit) = r₁ at h₁ ⊢
  obtain ⟨x, s₁⟩ := r₁
  dsimp only at h₁ ⊢
  generalize sat40 x = r₂
  obtain ⟨w, sat⟩ := r₂
  dsimp only
  have h₃ : (if (sat && !s₁.on UND_STATUS_steer_sat) = true then
      raiseSrc ((s₁.putB UND_STATUS_steer_sat sat).ev UND_EVENTS_steer_sat) 102 none else s₁.putB UND_STATUS_steer_sat sat).tb = s.tb :=
    ite_tb ((steerSat_tb _).trans ((State.putB_tb _ _ _).trans h₁)) ((State.putB_tb _ _ _).trans h₁)
  generalize (if (sat && !s₁.on UND_STATUS_steer_sat) = true then _ else _) = s₃ at h₃ ⊢
  have h₄ := (roundQ_tb s₃ (modelNum s₃) modelDen).trans h₃
  generalize roundQ s₃ (modelNum s₃) modelDen = r₄ at h₄ ⊢
  obtain ⟨m, s₄⟩ := r₄
  dsimp only at h₄ ⊢
  have h₅ := (roundQ_tb s₄ s₄.und.l loopUnit).trans h₄
  generalize roundQ s₄ s₄.und.l loopUnit = r₅ at h₅ ⊢
  obtain ⟨l, s₅⟩ := r₅
  dsimp only at h₅ ⊢
  rw [learnTick_tb, State.wr_tb, State.wr_tb, State.wr_tb, State.wr_tb]
  exact h₅

theorem holdMode_tb (s : State) : (holdMode s).tb = s.tb := by
  unfold holdMode; split
  · rw [State.put_tb, State.put_tb]
  · rfl

theorem lHold_tb (s : State) : (lHold s).2.tb = s.tb := by
  unfold lHold; split
  · rfl
  · extract_lets t0 hi a b
    split
    · rfl
    · exact freeQ_tb _ _ _

theorem holdL_tb (s : State) : (holdL s).tb = s.tb := by
  unfold holdL; split
  · exact lHold_tb s
  · rfl

theorem runTimed_stays (s : State) (e : Timed) : CounterStays s (runTimed s e) := by
  cases e with
  | bridge => exact .of_tb (switchBridge_tb s)
  | absorb => exact .of_tb (switchAbsorb_tb s)
  | slewA => exact switchSlew_stays s
  | steer => exact .of_tb (steerNow_tb s)
  | holdMode => exact .of_tb (holdMode_tb s)
  | holdL => exact .of_tb (holdL_tb s)

theorem runDue_stays (s : State) : CounterStays s (runDue s) := by
  unfold runDue; dsimp only
  refine CounterStays.trans ?_ (CounterStays.foldl (fun t (e : T80 × Timed) => runTimed_stays t e.2) _ _)
  exact .of_tb rfl

/-! ### The tick -/

/-- What the tick does once the counter has moved, `sec` the second before. -/
def tickRest (sec : Nat) (s : State) : State :=
  let s := if s.tb.sec ≠ sec then houseSecond (oscOffset (secondTick s)) else s
  let s := (List.range 20).foldl outTick ((List.range 4).foldl varTick (ownTick s))
  glzRefresh (settleWaiters (runDue (tallyTick (fifoDrain s))))

theorem tickRest_stays (sec : Nat) (s : State) : CounterStays s (tickRest sec s) := by
  unfold tickRest
  extract_lets s₁ s₂
  have h₁ : CounterStays s s₁ := by
    unfold s₁; split
    · exact (CounterStays.of_tb ((oscOffset_tb _).trans (secondTick_tb s))).trans (houseSecond_stays _)
    · exact .refl s
  have h₂ : CounterStays s s₂ :=
    ((h₁.beside (ownTick_tb s₁)).beside (foldl_frame State.tb varTick varTick_tb _ _)).beside (foldl_frame State.tb outTick outTick_tb _ _)
  exact (((h₂.beside ((tallyTick_tb _).trans (fifoDrain_tb s₂))).trans (runDue_stays _)).beside (settleWaiters_tb _)).beside (glzRefresh_tb _)

theorem execTimebaseTick_counting {s : State} (h : s.tb.counting = true) :
    exec .timebaseTick s = .next (tickRest s.tb.sec (tbCount { s with skb := { s.skb with tickPins := [] } })) := by
  have hexec : exec .timebaseTick s = execTimebaseTick s := rfl
  rw [hexec]; unfold execTimebaseTick; rw [if_pos h]; rfl

theorem execTimebaseTick_frozen {s : State} (h : s.tb.counting = false) : exec .timebaseTick s = .next s := by
  have hexec : exec .timebaseTick s = execTimebaseTick s := rfl
  rw [hexec]; unfold execTimebaseTick; rw [if_neg (by rw [h]; exact Bool.false_ne_true)]

/-- The counter after a tick (R126): the increment enters below the residue and carries upward. -/
def counted (s : State) : Nat × Nat × Nat × Nat :=
  let total := s.tb.residue + incUnits (s.getI TB_STEER_steer) (slewOfTick s)
  let phi := s.tb.phi + total / 2 ^ 32
  let ns := s.tb.ns + phi / 2 ^ 48
  (total % 2 ^ 32, phi % 2 ^ 48, ns % 1000000000, (s.tb.sec + ns / 1000000000) % 2 ^ 40)

theorem tbCount_counted (s : State) :
    ((tbCount s).tb.residue, (tbCount s).tb.phi, (tbCount s).tb.ns, (tbCount s).tb.sec) = counted s ∧ (tbCount s).tb.prev = s.now := by
  unfold tbCount counted
  dsimp only
  rw [Nat.shiftRight_eq_div_pow]
  exact ⟨rfl, rfl⟩

theorem counted_of_regs {s t : State} (hregs : t.regs = s.regs) (htb : t.tb = s.tb) : counted t = counted s := by
  have hsteer : t.getI TB_STEER_steer = s.getI TB_STEER_steer := by unfold State.getI; rw [get_of_regs hregs]
  have hslew : slewOfTick t = slewOfTick s := by unfold slewOfTick; rw [get_of_regs hregs, htb]
  unfold counted; rw [hsteer, hslew, htb]

theorem execTimebaseTick_gives {s : State} (h : s.tb.counting = true) : Gives (exec .timebaseTick s) (fun t =>
    t.tb.residue = (counted s).1 ∧ t.tb.phi = (counted s).2.1 ∧ t.tb.ns = (counted s).2.2.1 ∧ t.tb.sec = (counted s).2.2.2 ∧ t.tb.prev = s.now) := by
  refine ⟨_, execTimebaseTick_counting h, ?_⟩
  have hregs : ({ s with skb := { s.skb with tickPins := [] } } : State).regs = s.regs := rfl
  have htb : ({ s with skb := { s.skb with tickPins := [] } } : State).tb = s.tb := rfl
  generalize ({ s with skb := { s.skb with tickPins := [] } } : State) = u at hregs htb
  have hstays := tickRest_stays s.tb.sec (tbCount u)
  obtain ⟨hcount, hprev⟩ := tbCount_counted u
  rw [counted_of_regs hregs htb] at hcount
  rw [now_of_tb htb] at hprev
  rw [← hcount]
  exact ⟨hstays.residue, hstays.phi, hstays.ns, hstays.sec, hstays.prev.trans hprev⟩

end Sys2Proof.Machine
end

section
/-! PROOF. What the Palette tick does leaves the counter's time and the Palette's count of ticks (R168): the slots, their cross-check and the
disagreement of slots, the selection and a switch. -/

namespace Sys2Proof.Machine

/-- From `s` to `t` the time stands, and the Palette has noted no other tick. -/
structure PaletteStays (s t : State) : Prop where
  now : t.now = s.now
  ticks : t.pal.ticks = s.pal.ticks

namespace PaletteStays
variable {s t u : State}

theorem refl (s : State) : PaletteStays s s := ⟨rfl, rfl⟩

theorem trans (h : PaletteStays s t) (k : PaletteStays t u) : PaletteStays s u := ⟨k.now.trans h.now, k.ticks.trans h.ticks⟩

theorem of_regsOnly (h : RegsOnly s t) : PaletteStays s t := ⟨now_of_tb h.tb, by rw [h.pal]⟩

theorem foldl {α : Type} {f : State → α → State} (hf : ∀ t a, PaletteStays t (f t a)) (l : List α) (s : State) : PaletteStays s (l.foldl f s) := by
  induction l generalizing s with
  | nil => exact refl s
  | cons a l ih => exact (hf s a).trans (ih _)

theorem ite {c : Prop} [Decidable c] (ht : PaletteStays s t) (hu : PaletteStays s u) : PaletteStays s (if c then t else u) := by
  split
  · exact ht
  · exact hu

section
variable (h : PaletteStays s t)
include h

/-- A step that leaves the timebase and the count of ticks. -/
theorem congr (htb : u.tb = t.tb) (hticks : u.pal.ticks = t.pal.ticks) : PaletteStays s u := h.trans ⟨now_of_tb htb, hticks⟩

theorem regs (k : RegsOnly t u) : PaletteStays s u := h.trans (of_regsOnly k)

theorem wr (a : Nat) (w : Word) : PaletteStays s (t.wr a w) := h.regs (wr_regsOnly _ _ _)
theorem put (f : Fld) (v : Nat) : PaletteStays s (t.put f v) := h.regs (put_regsOnly _ _ _)
theorem putB (f : Fld) (b : Bool) : PaletteStays s (t.putB f b) := h.regs (put_regsOnly _ _ _)
theorem putI (f : Fld) (v : Int) : PaletteStays s (t.putI f v) := h.regs (put_regsOnly _ _ _)
theorem inc (f : Fld) : PaletteStays s (t.inc f) := h.regs (inc_regsOnly _ _)
theorem putT (hi lo : Nat) (x : T80) : PaletteStays s (t.putT hi lo x) := h.regs (putT_regsOnly _ _ _ _)
theorem ev (f : Fld) : PaletteStays s (t.ev f) := h.regs (event_regsOnly _ _ _)
theorem setSlot (n : Nat) (p : PalSlot) : PaletteStays s (t.setSlot n p) := h.congr (State.setSlot_tb _ _ _) rfl
theorem later (n : Nat) (e : Timed) : PaletteStays s (t.later n e) := h.congr (State.later_tb _ _ _) (by rw [State.later_pal])
theorem glz (g : GlzSt) : PaletteStays s { t with glz := g } := h.congr rfl rfl
theorem und (x : UndSt) : PaletteStays s { t with und := x } := h.congr rfl rfl
theorem tw (x : TwSt) : PaletteStays s { t with tw := x } := h.congr rfl rfl
theorem free : PaletteStays s t.free.2 := h.congr rfl rfl
theorem freeBelow (n : Nat) : PaletteStays s (t.freeBelow n).2 := h.congr rfl rfl

theorem p40OrFree (x : Int) : PaletteStays s (p40OrFree t x).2 := by
  unfold Machine.p40OrFree; split
  · exact h.free
  · exact h

theorem roundQ (x : Int) (d : Nat) : PaletteStays s (roundQ t x d).2 := by
  unfold Machine.roundQ; dsimp only; split
  · exact h
  · split
    · exact h
    · exact h.free

theorem freeQ (x : Int) (d : Nat) : PaletteStays s (freeQ t x d).2 := by
  unfold Machine.freeQ; dsimp only; split
  · exact h
  · exact h.free

end

end PaletteStays

/-! ### The offset of the selected slot, and writes that were held -/

theorem palFollow_stays (s : State) : PaletteStays s (palFollow s) := by
  unfold palFollow
  extract_lets d tb s₁
  have h₁ : PaletteStays s s₁ := ⟨rfl, rfl⟩
  clear_value s₁
  split
  · exact h₁.wr _ _
  next n _ =>
    have h₂ := h₁.setSlot n { s₁.slot n with x := (s₁.slot n).x + d }
    generalize s₁.setSlot n { s₁.slot n with x := (s₁.slot n).x + d } = s₂ at h₂ ⊢
    have h₃ := (h₂.p40OrFree ((s₂.slot n).x.tdiv fineUnit)).wr PAL_ABS_REM (p40OrFree s₂ ((s₂.slot n).x.tdiv fineUnit)).1
    dsimp only
    generalize (p40OrFree s₂ ((s₂.slot n).x.tdiv fineUnit)).2.wr PAL_ABS_REM _ = s₃ at h₃ ⊢
    exact .ite (h₃.congr rfl rfl) h₃

theorem plainWrite_regsOnly (s : State) (a : Nat) (w : Word) : RegsOnly s (plainWrite s a w) := wr_regsOnly _ _ _

theorem palRelease_stays (s : State) : PaletteStays s (palRelease s) := by
  unfold palRelease; split
  · exact .refl s
  · extract_lets ws
    refine PaletteStays.trans ?_ (PaletteStays.foldl (fun t (e : Nat × Word) => .of_regsOnly (plainWrite_regsOnly t e.1 e.2)) _ _)
    exact ⟨rfl, rfl⟩

/-! ### Slots -/

theorem palSample_stays (s : State) (n : Nat) (x : Int) : PaletteStays s (palSample s n x) := (PaletteStays.refl s).setSlot _ _

theorem oscSample_stays (s : State) : PaletteStays s (oscSample s) := by
  unfold oscSample; split
  · split
    · exact palSample_stays _ _ _
    · split
      · exact .refl s
      · exact (PaletteStays.refl s).setSlot _ _
  · exact .refl s

theorem slotIngest_stays (s : State) (n : Nat) : PaletteStays s (slotIngest s n).2.2 := by
  unfold slotIngest
  extract_lets p s₁
  have h₁ : PaletteStays s s₁ := (PaletteStays.refl s).setSlot _ _
  clear_value s₁ p
  cases p.pend with
  | nil => exact .refl s
  | cons x xs =>
    dsimp only
    split
    · exact ((((h₁.roundQ _ _).p40OrFree _).free).wr _ _).wr _ _
    · split
      · exact h₁.setSlot _ _
      · exact ((h₁.free.free).wr _ _).wr _ _

theorem slotQualify_stays (s : State) (n : Nat) : PaletteStays s (slotQualify s n) := ((PaletteStays.refl s).put _ _).setSlot _ _

theorem slotFail_stays (s : State) (n : Nat) : PaletteStays s (slotFail s n) := by
  have h := ((PaletteStays.refl s).put (PAL_Sn_STATUS_sstate n) 1).ev PAL_EVENTS_slot_fail
  exact .ite (h.putB _ _) h

theorem slotQualified_stays (s : State) (n : Nat) : PaletteStays s (slotQualified s n) := by
  have h := ((PaletteStays.refl s).put (PAL_Sn_STATUS_sstate n) 3).ev PAL_EVENTS_qualified
  exact .ite (h.putB _ _) h

theorem slotState_stays (s : State) (n : Nat) (jumped : Bool) : PaletteStays s (slotState s n jumped) := by
  unfold slotState
  extract_lets s₁ p s₂ f s₃ st
  have h₁ : PaletteStays s s₁ := .ite ((PaletteStays.refl s).put _ _) (.refl s)
  clear_value s₁
  split
  · exact ((h₁.setSlot _ _).put _ _).put _ _
  · have h₃ : PaletteStays s s₃ := h₁.put _ _
    clear_value s₃
    exact .ite (.ite (h₃.trans (slotQualify_stays _ _)) h₃) (.ite h₃ (h₃.trans (slotFail_stays _ _)))

theorem xcSource_stays (s : State) : PaletteStays s (xcSource s) := by
  unfold xcSource
  extract_lets und s₁
  split
  · exact .refl s
  · exact ((PaletteStays.refl s).putB _ _).trans (PaletteStays.foldl (fun t _ => (PaletteStays.refl t).setSlot _ _) _ _)

theorem slotXcheck_stays (s : State) (n : Nat) (fresh : Bool) : PaletteStays s (slotXcheck s n fresh) := by
  unfold slotXcheck
  extract_lets st p now x hist d budget ovr half from_ p' s₁
  have h₁ : PaletteStays s s₁ := (PaletteStays.refl s).setSlot _ _
  clear_value s₁
  exact .ite ((PaletteStays.refl s).setSlot _ _) (.ite (.refl s) (.ite ((h₁.put _ _).ev _) h₁))

theorem slotDisagree_stays (s : State) (n : Nat) : PaletteStays s (slotDisagree s n) := by
  unfold slotDisagree
  extract_lets st range ovr slot s₁ bad
  have h₁ : PaletteStays s s₁ := .ite ((PaletteStays.refl s).setSlot _ _) (.refl s)
  clear_value s₁
  exact .ite (.refl s) (.ite (.ite (slotQualified_stays _ _) (.refl s))
    (.ite (.ite ((h₁.put _ _).ev _) h₁) (.ite (h₁.trans (slotQualified_stays _ _)) h₁)))

theorem slotTimer_stays (s : State) (n : Nat) : PaletteStays s (slotTimer s n) := (PaletteStays.refl s).put _ _

end Sys2Proof.Machine
end

section
/-! PROOF. What the Palette tick does leaves the counter's time and the Palette's count of ticks (R184, R198, R201, R211, R222): the samples
of all slots, the first load of the time, the selection, the Underpainting and the Glaze. -/

namespace Sys2Proof.Machine

/-! ### All slots -/

theorem syncSample_stays (s : State) (p : Nat) :
    PaletteStays s (if syncELive s p then let (w, s) := s.free; palSample s (14 + p) (sgn w) else s) :=
  .ite ((PaletteStays.refl s).free.trans (palSample_stays _ _ _)) (.refl s)

theorem palSlots_stays (s : State) : PaletteStays s (palSlots s).2 := by
  unfold palSlots
  extract_lets s₀ step
  have h₀ : PaletteStays s s₀ := (oscSample_stays s).trans (PaletteStays.foldl syncSample_stays _ _)
  have hstep : ∀ (l : List Nat) (acc : List Nat × List Nat × State), PaletteStays acc.2.2 (l.foldl step acc).2.2 := by
    intro l
    induction l with
    | nil => exact fun acc => .refl _
    | cons n l ih =>
      intro acc
      refine PaletteStays.trans ?_ (ih (step acc n))
      unfold step; split
      · exact slotIngest_stays _ _
      · exact .refl _
  have h₁ := h₀.trans (hstep (List.range 24) ([], [], s₀))
  generalize (List.range 24).foldl step ([], [], s₀) = r at h₁ ⊢
  obtain ⟨fresh, jumped, s₁⟩ := r
  exact (((h₁.trans (PaletteStays.foldl (fun t n => slotState_stays t n (jumped.contains n)) (List.range 24) s₁)).trans (xcSource_stays _)).trans
    (PaletteStays.foldl (fun t n => slotXcheck_stays t n (fresh.contains n)) (List.range 24) _)).trans
    (PaletteStays.foldl (fun t n => (slotDisagree_stays t n).trans (slotTimer_stays _ n)) (List.range 24) _)

/-! ### The first load of the time -/

theorem loadLoWrite_cases (s : State) (w : Word) : ∃ t, loadLoWrite w s = .next t ∧ PaletteStays s t := by
  unfold loadLoWrite; split
  · exact ⟨_, rfl, (PaletteStays.refl s).ev _⟩
  · have htb := timeOrFree_tb (t80Of (s.rd TB_LOAD_HI) w) s
    have hpal : (timeOrFree (t80Of (s.rd TB_LOAD_HI) w) s).2.pal = s.pal := by unfold timeOrFree; split <;> rfl
    generalize timeOrFree (t80Of (s.rd TB_LOAD_HI) w) s = r at htb hpal ⊢
    obtain ⟨t, u⟩ := r
    have hu : PaletteStays s u := ⟨now_of_tb htb, by rw [hpal]⟩
    exact ⟨_, rfl, hu.trans ⟨now_of_parts rfl rfl rfl, rfl⟩⟩

theorem timeFirstLoad_stays (s : State) : PaletteStays s (timeFirstLoad s) := by
  unfold timeFirstLoad; split
  · exact .refl s
  · split
    · exact .refl s
    · extract_lets secs t
      obtain ⟨u, hu, hs⟩ := loadLoWrite_cases (s.wr TB_LOAD_HI (T80hi t)) (T80lo t)
      rw [houseDo_next hu]
      exact ((PaletteStays.refl s).wr _ _).trans hs

/-! ### The selection -/

theorem latchEntry_stays (s : State) : PaletteStays s (latchEntry s) := by
  unfold latchEntry
  exact ((PaletteStays.refl s).put UND_B_ENTRY_b (s.get GLZ_B_b)).glz _

theorem dropWaiting_stays (s : State) : PaletteStays s (dropWaiting s) := by
  unfold dropWaiting
  exact (PaletteStays.refl s).und _

theorem palState_stays (s : State) (st : Nat) : PaletteStays s (palState s st) := by
  have h := ((PaletteStays.refl s).put PAL_STATE_state st).ev PAL_EVENTS_state_change
  exact .ite (.refl s) (h.congr rfl rfl)

theorem holdEnter_stays (s : State) : PaletteStays s (holdEnter s) := by
  unfold holdEnter
  extract_lets s₁ s₂ s₃ und s₄
  have h₃ : PaletteStays s s₃ := ((latchEntry_stays s).putT _ _ _).ev _
  have h₄ : PaletteStays s s₄ := h₃.und _
  exact (h₄.later _ _).later _ _

theorem markSelected_stays (s : State) (n : Option Nat) : PaletteStays s (markSelected s n) := by
  have h : PaletteStays s ((List.range 24).foldl (fun s k => s.putB (PAL_Sn_STATUS_selected k) (decide (n = some k))) s) :=
    PaletteStays.foldl (fun t k => (PaletteStays.refl t).putB _ _) _ s
  unfold markSelected; dsimp only
  generalize (List.range 24).foldl (fun s k => s.putB (PAL_Sn_STATUS_selected k) (decide (n = some k))) s = u at h ⊢
  cases n with
  | none => exact (h.putB _ _).putB _ _
  | some k => exact ((h.put _ _).putB _ _).putB _ _

theorem switchTo_stays (s : State) (n reason : Nat) : PaletteStays s (switchTo s n reason) := by
  unfold switchTo
  extract_lets cur mode fromHold xo base w pal s₁ und s₂ s₃ pal' s₄ s₅ s₆ s₇
  have h₁ : PaletteStays s s₁ := (PaletteStays.refl s).congr rfl rfl
  clear_value s₁
  have h₂ : PaletteStays s s₂ := by
    unfold s₂; split
    · exact (h₁.und _).trans (latchEntry_stays _)
    · exact h₁
  clear_value s₂
  have h₃ : PaletteStays s s₃ := (h₂.putB _ _).putB _ _
  clear_value s₃
  have h₄ : PaletteStays s s₄ := h₃.congr rfl rfl
  clear_value s₄
  have h₅ : PaletteStays s s₅ := (((h₄.put _ _).putB _ _).put _ _).put _ _
  clear_value s₅
  have h₆ : PaletteStays s s₆ := (h₅.putT _ _ _).inc _
  clear_value s₆
  have h₇ : PaletteStays s s₇ := .ite (h₆.trans (dropWaiting_stays _)) h₆
  exact ((h₇.later _ _).later _ _).later _ _

theorem palLose_stays (s : State) (cands : List Nat) : PaletteStays s (palLose s cands) := by
  unfold palLose; split
  · exact .refl s
  extract_lets drift pal s₁ s₂ st
  have h₁ : PaletteStays s s₁ := (PaletteStays.refl s).congr rfl rfl
  have h₂ : PaletteStays s s₂ := h₁.trans (markSelected_stays _ _)
  clear_value s₂
  exact .ite ((h₂.trans (palState_stays _ _)).trans (holdEnter_stays _)) (.ite (h₂.trans (palState_stays _ _)) h₂)

theorem palDecide_stays (s : State) : PaletteStays s (palDecide s) := by
  unfold palDecide
  extract_lets run cands f forceIn best s₁ s₂
  have h₁ : PaletteStays s s₁ := .ite ((PaletteStays.refl s).ev _) (.refl s)
  have h₂ : PaletteStays s s₂ := h₁.putB _ _
  clear_value s₂ best cands forceIn
  have hswitch : ∀ n reason, PaletteStays s (switchTo s₂ n reason) := fun n reason => h₂.trans (switchTo_stays _ _ _)
  have hlose : PaletteStays s (palLose s₂ cands) := h₂.trans (palLose_stays _ _)
  split
  · exact h₂
  · exact hswitch _ _
  · exact hlose
  · exact .ite (.ite (hswitch _ _) (.ite h₂ (.ite (hswitch _ _) (.ite (hswitch _ _) h₂)))) (.ite (hswitch _ _) hlose)

theorem palStates_stays (s : State) : PaletteStays s (palStates s) := by
  unfold palStates; dsimp only; split
  · refine .ite (.ite ?_ ((PaletteStays.refl s).congr rfl rfl)) (.refl s)
    have h : PaletteStays s { s with pal := { s.pal with lockFrom := some (s.pal.lockFrom.getD s.steady) } } := (PaletteStays.refl s).congr rfl rfl
    exact .ite ((h.trans (palState_stays _ _)).putB _ _) h
  · exact .ite (palState_stays _ _) (.refl s)

/-! ### The Underpainting -/

theorem tempTick_stays (s : State) (sensor : Int) : PaletteStays s (tempTick s sensor) := by
  unfold tempTick
  extract_lets src ext ok
  have h₁ : PaletteStays s (if src = 1 then (s.getI UND_TEMP_EXT_ext, s)
    else if src = 2 ∧ ext then freeQ s (sensor + s.getI UND_TEMP_EXT_ext) 2 else (sensor, s)).2 := by
    split
    · exact .refl s
    · split
      · exact (PaletteStays.refl s).freeQ _ _
      · exact .refl s
  generalize (if src = 1 then (s.getI UND_TEMP_EXT_ext, s)
    else if src = 2 ∧ ext then freeQ s (sensor + s.getI UND_TEMP_EXT_ext) 2 else (sensor, s)) = r at h₁ ⊢
  obtain ⟨t, u⟩ := r
  replace h₁ : PaletteStays s u := h₁
  dsimp -zeta only
  extract_lets s₁ s₂ high s₃ und
  have h₂ : PaletteStays s s₂ := ((h₁.putI _ _).putB _ _).putB _ _
  clear_value s₂
  have h₃ : PaletteStays s s₃ := .ite (h₂.ev _) h₂
  clear_value s₃
  exact h₃.und _

theorem holdIntegrals_stays (s : State) : PaletteStays s (holdIntegrals s) := by
  unfold holdIntegrals
  extract_lets dt u u' u'' k
  exact (PaletteStays.refl s).und _

/-- The flywheel's frequency (R205): from the last two phases of the oscillator, else as it stands. -/
def flywheel (s : State) : Word × State :=
  match s.und.lastSample, s.und.osc, s.und.oscRef with
  | some _, some p, some q =>
    let (x, s) := freeQ s ((p - q) * 10 ^ 16) (1024 * 10 ^ 6 * (s.und.oscAge + 1))
    ((sat40 x).1, s)
  | _, _, _ => (s.rd UND_FLY, s)

theorem flywheel_stays (s : State) : PaletteStays s (flywheel s).2 := by
  unfold flywheel; split
  · exact (PaletteStays.refl s).freeQ _ _
  · exact .refl s

theorem flyTick_eq (s : State) : ∃ und : UndSt, flyTick s =
    ({ (flywheel s).2 with und := und } : State).wr UND_FLY (if ({ (flywheel s).2 with und := und } : State).on UND_CTL_flywheel then (flywheel s).1 else 0) :=
  ⟨_, rfl⟩

theorem flyTick_stays (s : State) : PaletteStays s (flyTick s) := by
  obtain ⟨und, h⟩ := flyTick_eq s
  rw [h]
  exact ((flywheel_stays s).und und).wr _ _

theorem xcStep_stays (s : State) : PaletteStays s (xcStep s) := by
  unfold xcStep
  extract_lets x
  have h := (PaletteStays.refl s).freeQ (x * 1024) (10 ^ 10 * loopUnit)
  generalize freeQ s (x * 1024) (10 ^ 10 * loopUnit) = r at h ⊢
  obtain ⟨p, u⟩ := r
  dsimp only at h ⊢
  exact (h.und _).wr _ _

theorem predict_stays (s : State) : PaletteStays s (predict s) := ((PaletteStays.refl s).put _ _).put _ _

theorem predictAsked_stays (s : State) : PaletteStays s (predictAsked s) := by
  unfold predictAsked
  exact .ite (((PaletteStays.refl s).und _).trans (predict_stays _)) (.refl s)

theorem firstModel_stays (s : State) : PaletteStays s (firstModel s) := by
  unfold firstModel
  extract_lets h n sum
  have hq := (PaletteStays.refl s).freeQ (sum * (modelDen : Nat) + (n : Int) * modelNum s * (loopUnit : Nat)) (n * modelDen * loopUnit)
  generalize freeQ s (sum * (modelDen : Nat) + (n : Int) * modelNum s * (loopUnit : Nat)) (n * modelDen * loopUnit) = r at hq ⊢
  obtain ⟨y, u⟩ := r
  dsimp only at hq ⊢
  exact ((hq.wr UND_M_Y0 _).und _).putT _ _ _

theorem narrow_stays (s : State) : PaletteStays s (narrow s) := by
  unfold narrow
  extract_lets und s₁ und' due bw s₂
  have h₁ : PaletteStays s s₁ := (PaletteStays.refl s).und _
  clear_value s₁
  have h₂ : PaletteStays s s₂ := h₁.und _
  clear_value s₂
  exact .ite (h₁.und _) (.ite (.ite (.ite ((h₂.put _ _).put _ _) (h₁.und _)) h₁) h₁)

/-- The time since the loop's last update, free at its first (R201). -/
def sinceUpdate (s : State) : Nat × State :=
  match s.und.lastUpd with
  | some t => ((t80Diff s.steady t).toNat, s)
  | none => s.freeBelow unitsPerSec

theorem sinceUpdate_stays (s : State) : PaletteStays s (sinceUpdate s).2 := by
  unfold sinceUpdate; split
  · exact .refl s
  · exact (PaletteStays.refl s).freeBelow _

/-- Beside I and L an update takes two free bits, for the roundings of its two terms (log 1). -/
theorem loopUpdate_eq (s : State) (e : Int) : ∃ und : UndSt, loopUpdate s e = { (sinceUpdate s).2.free.2.free.2 with und := und } := ⟨_, rfl⟩

theorem loopUpdate_stays (s : State) (e : Int) : PaletteStays s (loopUpdate s e) := by
  obtain ⟨und, h⟩ := loopUpdate_eq s e
  rw [h]
  exact (sinceUpdate_stays s).free.free.und _

theorem servoStart_stays (s : State) : PaletteStays s (servoStart s) := by
  unfold servoStart
  extract_lets track acq und s₁ s₂
  have h₁ : PaletteStays s s₁ := (PaletteStays.refl s).und _
  exact (h₁.putB _ _).put _ _

theorem undTick_stays (s : State) (fresh : Bool) (e sensor : Int) : PaletteStays s (undTick s fresh e sensor) := by
  unfold undTick
  extract_lets s₁ und s₂ s₃ s₄ s₅ st s₆ live s₇ s₈ und' s₉ s₁₀ s₁₁
  have h₂ : PaletteStays s s₂ := (tempTick_stays s sensor).und _
  clear_value s₂
  have h₃ : PaletteStays s s₃ := h₂.trans (holdIntegrals_stays _)
  clear_value s₃
  have h₄ : PaletteStays s s₄ := h₃.trans (flyTick_stays _)
  clear_value s₄
  have h₅ : PaletteStays s s₅ := h₄.trans (xcStep_stays _)
  clear_value s₅
  have h₆ : PaletteStays s s₆ := .ite (.ite (((h₄.put _ _).ev _).later _ _) (.ite (h₄.trans (servoStart_stays _)) h₄)) h₄
  clear_value s₆
  have h₇ : PaletteStays s s₇ := (PaletteStays.ite (h₆.trans (loopUpdate_stays _ _)) h₆).trans (narrow_stays _)
  clear_value s₇
  have h₈ : PaletteStays s s₈ := h₇.trans (xcStep_stays _)
  clear_value s₈
  have h₉ : PaletteStays s s₉ := .ite (h₈.und _) h₈
  clear_value s₉
  have h₁₀ : PaletteStays s s₁₀ := .ite (h₉.trans (firstModel_stays _)) h₉
  clear_value s₁₀
  have h₁₁ : PaletteStays s s₁₁ := h₁₀.wr _ _
  clear_value s₁₁
  exact .ite ((h₅.wr _ _).trans (predictAsked_stays _)) ((h₁₁.trans (predictAsked_stays _)).later _ _)

end Sys2Proof.Machine
end

section
/-! PROOF. The Palette tick (R168, R222, R442), and the settlement of the timebase's obligation (O34). -/

namespace Sys2Proof.Machine

/-! ### The Glaze -/

theorem publish_stays (s : State) (mode : Nat) (t : Terms) : PaletteStays s (publish s mode t) := .of_regsOnly (publish_regsOnly _ _ _)

theorem PaletteStays.stN {s t : State} (h : PaletteStays s t) (a : Nat) (ws : List Word) : PaletteStays s (t.stN a ws) :=
  h.congr (by rw [stN_memory]) (by rw [stN_memory])

theorem setBurst_stays (s : State) (b : Nat) (bad : Bool) : PaletteStays s (s.setBurst b bad) := by
  unfold State.setBurst
  exact (PaletteStays.refl s).congr rfl rfl

theorem lineageRecord_stays (s : State) (cause : Nat) : PaletteStays s (lineageRecord s cause) := by
  unfold lineageRecord
  extract_lets prev serial s₁ id s₂ glz s₃ n g fld up body at_ s₄ s₅ glz'
  have h₂ : PaletteStays s s₂ := ((PaletteStays.refl s).put _ _).wr _ _
  clear_value s₂
  have h₃ : PaletteStays s s₃ := h₂.glz _
  clear_value s₃
  have h₄ : PaletteStays s s₄ := (h₃.trans (setBurst_stays _ _ _)).stN _ _
  clear_value s₄
  have h₅ : PaletteStays s s₅ := h₄.ev _
  clear_value s₅
  exact h₅.glz _

theorem advUpdate_stays (s : State) : PaletteStays s (advUpdate s) := by
  unfold advUpdate
  generalize advertised s = r
  obtain ⟨cls, strat, li, ql⟩ := r
  have h : PaletteStays s ((((s.put GLZ_ADV_clock_class cls).put GLZ_ADV_stratum strat).put GLZ_ADV_li li).put GLZ_ADV_ql_rank ql) :=
    ((((PaletteStays.refl s).put _ _).put _ _).put _ _).put _ _
  exact .ite (h.ev _) h

theorem glzTick_stays (s : State) : PaletteStays s (glzTick s) := by
  unfold glzTick
  generalize termsNow s = r
  obtain ⟨mode, t⟩ := r
  dsimp -zeta only
  extract_lets s₁ glz s₂ s₃ s₄ rank causes s₅
  have h₁ : PaletteStays s s₁ := publish_stays s mode t
  clear_value s₁
  have h₂ : PaletteStays s s₂ := h₁.glz _
  clear_value s₂
  have h₃ : PaletteStays s s₃ := h₂.regs (boundToEmitters_regsOnly _ _ _)
  clear_value s₃
  have h₄ : PaletteStays s s₄ := .ite (h₃.put _ _) h₃
  clear_value s₄
  refine PaletteStays.trans ?_ (advUpdate_stays _)
  unfold s₅
  cases causes with
  | nil => exact h₄
  | cons c cs => exact (h₄.trans (lineageRecord_stays _ _)).glz _

/-! ### The mirror of the state, and a standby that sleeps -/

theorem Tells.pal {s t : State} (h : Tells s t) : t.pal = s.pal := by unfold Tells at h; rw [h]

theorem twSend_stays (s : State) (kind : Nat) (payload : List Word) : PaletteStays s (twSend s kind payload) :=
  (PaletteStays.refl s).congr (twSend_tb _ _ _) (congrArg PalSt.ticks (twSend_tells s kind payload).pal)

theorem sendItems_stays (n : Nat) (s : State) (items : List (Nat × Word)) : PaletteStays s (sendItems s n items) := by
  induction n generalizing s items with
  | zero => exact .refl s
  | succ n ih =>
    unfold sendItems; split
    · exact .refl s
    · exact (twSend_stays _ _ _).trans (ih _ _)

theorem sendState_stays (s : State) : PaletteStays s (sendState s) := by
  unfold sendState
  refine .ite (PaletteStays.trans ?_ (sendItems_stays _ _ _)) (.refl s)
  exact (PaletteStays.refl s).tw _

theorem setDomainBusy_stays (s : State) (d : Nat) (b : Bool) : PaletteStays s (setDomainBusy s d b) := (PaletteStays.refl s).put _ _

theorem powerRequest_stays {s t : State} {w : Nat} (h : powerRequest s w = some t) : PaletteStays s t := by
  unfold powerRequest at h
  extract_lets old new off broken pkaFirst s₁ at h
  split at h
  · exact absurd h (by simp)
  · obtain rfl := Option.some.inj h
    exact ((PaletteStays.refl s).put _ _).trans (PaletteStays.foldl (fun u d => .ite (setDomainBusy_stays u d true) (setDomainBusy_stays u d false)) _ _)

theorem fifoAbandon_stays (s : State) (n : Nat) : PaletteStays s (fifoAbandon s n) := by
  unfold fifoAbandon; dsimp only; split
  · exact .refl s
  · exact ((PaletteStays.refl s).congr (State.setFifo_tb _ _ _) (by rw [State.setFifo_pal])).ev _

theorem abandonBy_stays (s : State) (m : Nat) : PaletteStays s (abandonBy s m) :=
  PaletteStays.foldl (fun t (e : Nat × Fifo) => .ite (fifoAbandon_stays t e.1) (.refl t)) _ _

/-- The units of the Easel domain's clusters (R460): Easel and its cores. -/
def easelUnit (u : Nat) : Prop := 0x061 ≤ u ∧ u ≤ 0x073

theorem resetCore_stays (s : State) (k : Nat) : PaletteStays s (resetCore s k) := by
  unfold resetCore coreMuted
  exact (PaletteStays.refl s).congr rfl rfl

theorem unitInner_easel {s : State} {u : Nat} (h : easelUnit u) : PaletteStays s (unitInner s u) := by
  obtain ⟨hlo, hhi⟩ := h
  by_cases hcore : 0x064 ≤ u
  · unfold unitInner; rw [if_pos ⟨hcore, hhi⟩]
    exact (abandonBy_stays _ _).trans (resetCore_stays _ _)
  · have hkeep : unitInner s u = s := by
      have hu : u = 0x061 ∨ u = 0x062 ∨ u = 0x063 := by omega
      rcases hu with rfl | rfl | rfl <;> rfl
    rw [hkeep]; exact .refl s

theorem regsBack_stays (s : State) (lvl : Nat) (p : Nat → Bool) : PaletteStays s (regsBack s lvl p) := by
  unfold regsBack
  exact (PaletteStays.refl s).congr rfl rfl

theorem endTransfers_stays (s : State) (u kind : Nat) : PaletteStays s (endTransfers s u kind) := by
  unfold endTransfers
  exact (PaletteStays.refl s).congr rfl rfl

theorem unitLocalReset_easel {s : State} {u : Nat} (h : easelUnit u) : PaletteStays s (unitLocalReset s u) := by
  unfold unitLocalReset
  extract_lets s₁ gen s₂
  have h₂ : PaletteStays s s₂ := ((endTransfers_stays s u 2).trans (regsBack_stays _ _ _)).trans (unitInner_easel h)
  exact .ite (regsBack_stays _ _ _) (.ite (.refl s) (.ite (h₂.put _ _) h₂))

theorem easelSleep_stays (s : State) : PaletteStays s (easelSleep s true) := by
  unfold easelSleep
  extract_lets us
  have hus : ∀ u ∈ us, easelUnit u := by unfold us easelUnit; decide
  rw [if_pos rfl]
  clear_value us
  induction us generalizing s with
  | nil => exact .refl s
  | cons u us ih =>
    exact (((unitLocalReset_easel (hus u List.mem_cons_self)).putB _ _).putB _ _).trans (ih _ fun v hv => hus v (List.mem_cons_of_mem u hv))

theorem standbySleep_stays (s : State) : PaletteStays s (standbySleep s) := by
  unfold standbySleep
  refine .ite ?_ (.refl s)
  split
  · exact .refl s
  next t ht => exact (powerRequest_stays ht).trans (easelSleep_stays t)

theorem twTick_stays (s : State) : PaletteStays s (twTick s) := by
  unfold twTick
  extract_lets s₁ r s₂ tw s₃
  have h₂ : PaletteStays s s₂ := (sendState_stays s).putB _ _
  clear_value s₂
  have h₃ : PaletteStays s s₃ := h₂.tw _
  exact .ite (.refl s) (h₃.trans (standbySleep_stays _))

/-! ### The Palette tick -/

/-- The Palette notes its tick number `n` (R168). -/
def palTicked (n : Nat) (s : State) : State := { s with pal := { s.pal with ticks := n } }

theorem palTick_stays (sensor : BitVec 17) (s : State) : PaletteStays (palTicked (t80Units s.now / 1024000000) s) (palTick sensor s) := by
  have hdef : palTick = palTick := rfl
  conv at hdef => rhs; delta palTick
  have hticked : ({ s with pal := { s.pal with ticks := t80Units s.now / 1024000000 } } : State) =
      palTicked (t80Units s.now / 1024000000) s := rfl
  rw [hdef]
  beta_reduce
  rw [hticked]
  extract_lets s₁ s₂
  have h₂ : PaletteStays s₁ s₂ := (palFollow_stays s₁).trans (palRelease_stays _)
  clear_value s₂
  split
  next fresh s₃ hslots =>
    have h₃ : PaletteStays s₁ s₃ := by
      have h := h₂.trans (palSlots_stays s₂)
      rwa [hslots] at h
    extract_lets s₄ s₅ s₆ s₇
    have h₄ : PaletteStays s₁ s₄ := h₃.trans (timeFirstLoad_stays _)
    clear_value s₄
    have h₅ : PaletteStays s₁ s₅ := .ite h₄ (h₄.trans (palDecide_stays _))
    clear_value s₅
    have h₆ : PaletteStays s₁ s₆ := by
      unfold s₆; split
      · exact h₅
      · exact h₅.putB _ _
    clear_value s₆
    have h₇ : PaletteStays s₁ s₇ := h₆.trans (palStates_stays _)
    clear_value s₇
    split
    next isNew e hsel => exact (h₇.trans (undTick_stays _ _ _ _)).trans (glzTick_stays _)

theorem palTicked_now (n : Nat) (s : State) : (palTicked n s).now = s.now := now_of_tb rfl

theorem palTicked_ticks (n : Nat) (s : State) : (palTicked n s).pal.ticks = n := rfl

theorem execPaletteTick_idle {s : State} {sensor : BitVec 17} (h : palDue s = false) : exec (.paletteTick sensor) s = .next s := by
  have hexec : exec (.paletteTick sensor) s = execPaletteTick sensor s := rfl
  rw [hexec]; unfold execPaletteTick; rw [if_neg (by rw [h]; exact Bool.false_ne_true)]

theorem execPaletteTick_gives {s : State} {sensor : BitVec 17} (h : palDue s = true) :
    Gives (exec (.paletteTick sensor) s) (fun t => t.now = s.now ∧ t.pal.ticks = t80Units s.now / 1024000000) := by
  have hexec : exec (.paletteTick sensor) s = .next (twTick (palTick sensor s)) := by
    have hexec : exec (.paletteTick sensor) s = execPaletteTick sensor s := rfl
    rw [hexec]; unfold execPaletteTick; rw [if_pos h]
  have hstays := (palTick_stays sensor s).trans (twTick_stays _)
  exact ⟨_, hexec, hstays.now.trans (palTicked_now _ s), hstays.ticks.trans (palTicked_ticks _ s)⟩

/-- Settles O34: of the two ticks, the counter moves as `tbCount` moves it and nothing else moves it; the rest are the registers and the copies. -/
theorem timebase : Obligations.Timebase := by
  unfold Obligations.Timebase
  intro s m w sensor total phi ns
  refine ⟨execTimebaseTick_frozen, execTimebaseTick_gives, execPaletteTick_idle, execPaletteTick_gives, execTbSteerWrite_gives,
    execTbSlewAddWrite_gives, execTbLoadLoWrite_gives, fun hi hload _ => execTimeLoad_gives hload, execTimeLoad_none,
    fun which h => execTbDirectStepWrite_gives h, execLeapEnd_gives, execLeapEnd_early, fun unit => execCopyCompare_gives s unit w⟩

end Sys2Proof.Machine
end

section
/-! PROOF. The words of the cores (O3): the word that an instruction is encoded by, and that decoding loses none of it. -/

namespace Sys2Proof.Machine

/-! ### Encoding -/

/-- An instruction word of its fields (R48): opcode, rd, rs1, rs2 and the low nineteen bits. -/
def formWord (op rd rs1 rs2 fn : Nat) : Nat := op * 2 ^ 34 + rd * 2 ^ 29 + rs1 * 2 ^ 24 + rs2 * 2 ^ 19 + fn

/-- The word of an operation that has an R and an I form (R50). -/
def aluWord (opR opI : Nat) (rd rs1 : GReg) : Src2 → Nat
  | .reg r => formWord opR rd rs1 r 0
  | .imm i => formWord opI rd rs1 0 i.toNat

/-- The word of an instruction of a core (R48 to R51); 0 for the other commands. -/
def encodeCore : Instr → Nat
  | .trap _ c => formWord 0x00 0 0 0 c.toNat
  | .stray _ => formWord 0x00 0 0 0 0
  | .selfSvc _ => formWord 0x00 0 0 0 1
  | .notice _ => formWord 0x00 0 0 0 2
  | .bound _ => formWord 0x00 0 0 0 3
  | .resumeSkip _ => formWord 0x00 0 0 0 0xFFFE
  | .resume _ => formWord 0x00 0 0 0 0xFFFF
  | .add _ rd rs1 b => aluWord 0x01 0x0C rd rs1 b
  | .sub _ rd rs1 b => aluWord 0x02 0x0D rd rs1 b
  | .and_ _ rd rs1 b => aluWord 0x03 0x0E rd rs1 b
  | .or_ _ rd rs1 b => aluWord 0x04 0x0F rd rs1 b
  | .xor _ rd rs1 b => aluWord 0x05 0x10 rd rs1 b
  | .shl _ rd rs1 b => aluWord 0x06 0x11 rd rs1 b
  | .shr _ rd rs1 b => aluWord 0x07 0x12 rd rs1 b
  | .sra _ rd rs1 b => aluWord 0x08 0x13 rd rs1 b
  | .mul _ rd rs1 rs2 q => formWord 0x09 rd rs1 rs2 (b2n q)
  | .lih _ rd rs1 imm => formWord 0x0B rd rs1 0 imm.toNat
  | .mac _ rs1 rs2 sel clr => formWord 0x14 0 rs1 rs2 (b2n sel + b2n clr * 2)
  | .msc _ rs1 rs2 sel clr => formWord 0x15 0 rs1 rs2 (b2n sel + b2n clr * 2)
  | .acc _ rd sh trunc clr sel => formWord 0x16 rd 0 0 (sh.toNat + b2n trunc * 64 + b2n clr * 128 + b2n sel * 256)
  | .tadd _ rd rs1 rs2 p => formWord 0x18 rd rs1 rs2 (b2n p)
  | .tsub _ rd rs1 rs2 p => formWord 0x19 rd rs1 rs2 (b2n p)
  | .tcmp _ rs1 rs2 => formWord 0x1A 0 rs1 rs2 0
  | .text _ rd rs1 rs2 => formWord 0x1B rd rs1 rs2 0
  | .br _ (.off o) => formWord 0x1C 0 0 0 o.toNat
  | .br _ (.reg r) => formWord 0x20 0 r 0 0
  | .brc _ cond off => formWord 0x1D cond.val 0 0 off.toNat
  | .call _ rd (.off o) => formWord 0x1E rd 0 0 o.toNat
  | .call _ rd (.reg r) => formWord 0x21 rd r 0 0
  | .ret _ rs1 => formWord 0x1F 0 rs1 0 0
  | .ld _ rd rs1 imm => formWord 0x22 rd rs1 0 imm.toNat
  | .st _ rs1 rs2 imm => formWord 0x23 0 rs1 rs2 imm.toNat
  | .ldp _ rd rs1 imm => formWord 0x24 rd rs1 0 imm.toNat
  | .stp _ rs1 rs2 imm => formWord 0x25 0 rs1 rs2 imm.toNat
  | .push _ rs1 rs2 fr => formWord 0x28 0 rs1 rs2 fr.val
  | .pop _ rd rs1 => formWord 0x29 rd rs1 0 0
  | .wash _ rs1 => formWord 0x2A 0 rs1 0 0
  | .urd _ rd rs1 off => formWord 0x2B rd rs1 0 off.toNat
  | .uwr _ rs1 rs2 off => formWord 0x2C 0 rs1 rs2 off.toNat
  | .wait _ rs1 rel => formWord 0x2D 0 rs1 0 (b2n rel)
  | .wev _ rd rs1 none => formWord 0x2E rd rs1 0 0
  | .wev _ rd rs1 (some rs2) => formWord 0x2E rd rs1 rs2 1
  | .sched _ rd rs1 rs2 tag => formWord 0x2F rd rs1 rs2 tag.toNat
  | .kopDerive _ rd rs1 rs2 => formWord 0x30 rd rs1 rs2 0
  | .kopMac _ rd rs1 rs2 => formWord 0x30 rd rs1 rs2 1
  | .kopSeal _ rd rs1 rs2 => formWord 0x30 rd rs1 rs2 2
  | .kopOpen _ rd rs1 rs2 => formWord 0x30 rd rs1 rs2 3
  | .kopSign _ rd rs1 rs2 => formWord 0x30 rd rs1 rs2 4
  | .pex _ rd rs1 rs2 off len a => formWord 0x31 rd rs1 rs2 (off.toNat + len.toNat * 2 ^ 11 + b2n a * 2 ^ 14)
  | .csum _ rd rs1 rs2 a => formWord 0x32 rd rs1 rs2 (b2n a)
  | .tsi _ rs1 rs2 off fmt => formWord 0x33 0 rs1 rs2 (off.toNat + fmt.toNat * 2 ^ 11)
  | .qsend _ rd rs1 rs2 a => formWord 0x34 rd rs1 rs2 (b2n a)
  | _ => 0

/-! ### The fields of a word -/

theorem bitsOf_eq (x hi lo : Nat) : bitsOf x hi lo = x / 2 ^ lo % 2 ^ (hi + 1 - lo) := by unfold bitsOf; rw [Nat.shiftRight_eq_div_pow]

theorem regField_val (w : Word) (lo : Nat) : (regField w lo).val = w.toNat / 2 ^ lo % 32 := by
  show bitsOf w.toNat (lo + 4) lo % 32 = _
  rw [bitsOf_eq, show lo + 4 + 1 - lo = 5 by omega]; exact Nat.mod_mod _ _

theorem condField_val (w : Word) : (condField w).val = w.toNat / 2 ^ 29 % 16 := by
  show bitsOf w.toNat 32 29 % 16 = _
  rw [bitsOf_eq]; exact Nat.mod_mod _ _

theorem immField_toNat (w : Word) : (immField w).toNat = w.toNat % 2 ^ 19 := BitVec.toNat_setWidth 19 w

theorem b2n_testBit (x i : Nat) : b2n (x.testBit i) = x / 2 ^ i % 2 := by
  rw [Nat.testBit_eq_decide_div_mod_eq]; unfold b2n
  rcases Nat.mod_two_eq_zero_or_one (x / 2 ^ i) with h | h <;> simp [h]

theorem b2n_odd (x : Nat) : b2n (decide (x % 2 = 1)) = x % 2 := by
  unfold b2n
  rcases Nat.mod_two_eq_zero_or_one x with h | h <;> simp [h]

theorem formWord_low (fn : Nat) : formWord 0 0 0 0 fn = fn := by unfold formWord; omega

/-- A word is the one whose fields it holds. -/
theorem formWord_of_fields {w : Word} {op rd rs1 rs2 fn : Nat} (hop : w.toNat / 2 ^ 34 % 2 ^ 6 = op) (hrd : rd = w.toNat / 2 ^ 29 % 32)
    (hrs1 : rs1 = w.toNat / 2 ^ 24 % 32) (hrs2 : rs2 = w.toNat / 2 ^ 19 % 32) (hfn : fn = w.toNat % 2 ^ 19) :
    formWord op rd rs1 rs2 fn = w.toNat := by
  have := w.isLt
  unfold formWord; omega

/-! ### Decoding loses nothing -/

theorem clear_encode {ok : Bool} {i₀ i : Instr} {x : Nat} (h : clear ok i₀ = some i) (hi : ok = true → encodeCore i₀ = x) : encodeCore i = x := by
  unfold clear at h; split at h
  next hok => rw [← Option.some.inj h]; exact hi hok
  next => cases h

/-- TRAP and the services are encoded by their codes (R67). -/
theorem encode_decodeTrap (k : CoreId) (c : BitVec 19) : encodeCore (decodeTrap k c) = c.toNat := by
  unfold decodeTrap
  split
  case h_7 => exact formWord_low c.toNat
  all_goals
    next hc => rw [hc]; exact formWord_low _

/-- The R and I forms of a second operand are told apart by the opcode, and neither drops a bit. -/
theorem encode_src2 {immForm shift : Bool} {w : Word} {f : Src2 → Instr} {i : Instr} {opR opI : Nat}
    (h : (src2Field immForm shift w).map f = some i) (hf : ∀ b, encodeCore (f b) = aluWord opR opI (regField w 29) (regField w 24) b)
    (hop : w.toNat / 2 ^ 34 % 2 ^ 6 = cond immForm opI opR) : encodeCore i = w.toNat := by
  obtain ⟨b, hb, rfl⟩ := Option.map_eq_some_iff.1 h
  rw [hf]
  have himm : ∀ {j : BitVec 19}, j = immField w → w.toNat / 2 ^ 34 % 2 ^ 6 = opI → w.toNat / 2 ^ 19 % 32 = 0 →
      aluWord opR opI (regField w 29) (regField w 24) (.imm j) = w.toNat := by
    rintro j rfl hop hz
    exact formWord_of_fields hop (regField_val w 29) (regField_val w 24) hz.symm (immField_toNat w)
  unfold src2Field shiftImm at hb
  simp only [bitsOf_eq] at hb
  cases immForm with
  | false =>
    rw [if_neg Bool.false_ne_true] at hb
    split at hb
    next hz =>
      obtain rfl := Option.some.inj hb
      exact formWord_of_fields hop (regField_val w 29) (regField_val w 24) (regField_val w 19) (by omega)
    next => cases hb
  | true =>
    rw [if_pos rfl] at hb
    split at hb
    next => cases hb
    next hz =>
      have hz : w.toNat / 2 ^ 19 % 32 = 0 := not_not.1 hz
      split at hb
      · obtain ⟨j, hj, rfl⟩ := Option.map_eq_some_iff.1 hb
        split at hj
        · exact himm (Option.some.inj hj).symm hop hz
        · cases hj
      · obtain rfl := Option.some.inj hb
        exact himm rfl hop hz

/-- The two forms of WEV differ in the low bits alone (R84). -/
theorem encode_wev {k : CoreId} {w : Word} {i : Instr} (hop : w.toNat / 2 ^ 34 % 2 ^ 6 = 0x2E)
    (h : (if w.toNat / 2 ^ 0 % 2 ^ 19 = 1 then some (.wev k (regField w 29) (regField w 24) (some (regField w 19)))
      else clear (decide (w.toNat / 2 ^ 0 % 2 ^ 24 = 0)) (.wev k (regField w 29) (regField w 24) none)) = some i) : encodeCore i = w.toNat := by
  split at h
  next hfn =>
    rw [← Option.some.inj h]
    exact formWord_of_fields hop (regField_val w 29) (regField_val w 24) (regField_val w 19) (by omega)
  next =>
    refine clear_encode h fun hz => ?_
    simp only [decide_eq_true_eq] at hz
    exact formWord_of_fields hop (regField_val w 29) (regField_val w 24) (by omega) (by omega)

/-- The word of a decoded instruction is the one it was decoded from: an arm of the decoder fixes the fields that its instruction does not hold. -/
theorem encode_decode {k : CoreId} {w : Word} {i : Instr} (h : decodeCore k w = some i) : encodeCore i = w.toNat := by
  have hlt := w.isLt
  unfold decodeCore at h
  simp only [bitsOf_eq] at h
  split at h
  case h_1 hop =>
    refine clear_encode h fun hz => ?_
    rw [encode_decodeTrap, immField_toNat]
    simp only [decide_eq_true_eq] at hz; omega
  case h_2 hop | h_3 hop | h_4 hop | h_5 hop | h_6 hop | h_7 hop | h_8 hop | h_9 hop | h_12 hop | h_13 hop | h_14 hop | h_15 hop | h_16 hop | h_17 hop |
      h_18 hop | h_19 hop =>
    exact encode_src2 h (fun _ => rfl) hop
  case h_43 hop => exact encode_wev hop h
  case h_45 hop =>
    split at h
    case h_6 => cases h
    all_goals
      next hfn =>
        rw [← Option.some.inj h]
        exact formWord_of_fields hop (regField_val w 29) (regField_val w 24) (regField_val w 19) (hfn.symm.trans (by rw [pow_zero, Nat.div_one]))
  case h_50 => cases h
  all_goals
    next hop =>
      refine clear_encode h fun hz => ?_
      dsimp only [encodeCore]
      simp only [Bool.and_eq_true, decide_eq_true_eq] at hz
      simp only [regField_val, condField_val, immField_toNat, BitVec.toNat_ofNat, b2n_testBit, b2n_odd]
      refine formWord_of_fields hop ?_ ?_ ?_ ?_ <;> clear h hop hlt <;> omega

/-- Settles O3: the word can be had back from the instruction. -/
theorem coreWordsDistinct : Obligations.CoreWordsDistinct := by
  unfold Obligations.CoreWordsDistinct
  intro k v w i hv hw
  exact BitVec.eq_of_toNat_eq ((encode_decode hv).symm.trans (encode_decode hw))

end Sys2Proof.Machine
end

section
/-! PROOF. Arithmetic, logic and shifts (O4): results and flags as bit vectors say them. -/

namespace Sys2Proof.Machine

/-! ### An instruction that writes a register -/

/-- A computation gives its result and its flags, and no more (R52). -/
theorem compute_gives {s : State} {k : CoreId} {rd : GReg} {rs : List Nat} {f : Core → Word × Flags} {w : Word} {fl : Flags}
    (h : CanIssue s k (rd.val :: rs) false) (hf : f (s.core k) = (w, fl)) :
    Gives (compute k rd rs f s) (fun t => Issued s t k ((s.core k).result rd w fl)) := by
  refine ⟨retireReg s k (s.core k) rd (f (s.core k)), issue_of_CanIssue _ h, ?_⟩
  rw [hf]; exact retireReg_issued s k (s.core k) rd (w, fl)

/-- A shift gives its result and its flags where its amount is one the spec gives (R54). -/
theorem shift_gives {s : State} {k : CoreId} {rd rs1 : GReg} {b : Src2} {f : Flags → Word → Nat → Word × Flags} {w : Word} {fl : Flags}
    (h : CanIssue s k (rd.val :: rs1.val :: srcRegs b) false) (hok : shiftOk b = true)
    (hf : f (s.core k).flags ((s.core k).g rs1) ((s.core k).shiftBy b) = (w, fl)) :
    Gives (shift k rd rs1 b f s) (fun t => Issued s t k ((s.core k).result rd w fl)) := by
  refine ⟨retireReg s k (s.core k) rd (w, fl), ?_, retireReg_issued s k (s.core k) rd (w, fl)⟩
  unfold shift; rw [issue_of_CanIssue _ h, if_pos hok, hf]

theorem shift_reserved {s : State} {k : CoreId} {rd rs1 : GReg} {b : Src2} (f : Flags → Word → Nat → Word × Flags)
    (h : CanIssue s k (rd.val :: rs1.val :: srcRegs b) false) (hok : shiftOk b = false) : shift k rd rs1 b f s = .fault .unpredictable := by
  unfold shift; rw [issue_of_CanIssue _ h, hok]; rfl

/-! ### Signed readings -/

theorem bitAt_msb (w : Word) : bitAt w 39 = w.msb := by rw [BitVec.msb_eq_getLsbD_last]; rfl

theorem signedOf_imm (i : BitVec 19) : signedOf 19 i.toNat = i.toInt := by
  unfold signedOf; rw [BitVec.toInt_eq_toNat_cond]; congr 1; exact propext (by omega)

/-- A sign extension is that of the immediate (R50). -/
theorem sext_signExtend (i : BitVec 19) : sext 19 i.toNat = i.signExtend 40 := by
  unfold sext i40; rw [signedOf_imm]; rfl

theorem srcS_eq (c : Core) (b : Src2) : c.srcS b = match b with | .reg r => c.g r | .imm i => i.signExtend 40 := by
  cases b with
  | reg r => rfl
  | imm i => exact sext_signExtend i

theorem srcZ_eq (c : Core) (b : Src2) : c.srcZ b = match b with | .reg r => c.g r | .imm i => i.zeroExtend 40 := by
  cases b with
  | reg r => rfl
  | imm i => exact BitVec.eq_of_toNat_eq (by simp [Core.srcZ, w40])

theorem outside40_add (a b : Word) : outside40 (sgn a + sgn b) = decide ((a + b).toInt ≠ a.toInt + b.toInt) := by
  rw [sgn_toInt, sgn_toInt, BitVec.toInt_add]
  unfold outside40
  rw [← Bool.decide_or, decide_eq_decide, Int.bmod_def]; split <;> omega

theorem outside40_sub (a b : Word) : outside40 (sgn a - sgn b) = decide ((a - b).toInt ≠ a.toInt - b.toInt) := by
  rw [sgn_toInt, sgn_toInt, BitVec.toInt_sub]
  unfold outside40
  rw [← Bool.decide_or, decide_eq_decide, Int.bmod_def]; split <;> omega

/-! ### Results with their flags -/

/-- Z and N by a result (R53). -/
theorem flagsZN_eq (f : Flags) (r : Word) : flagsZN f r = { f with z := decide (r = 0), n := r.msb } := by
  unfold flagsZN; rw [bitAt_msb]

theorem addFlags_eq (f : Flags) (a b : Word) : addFlags f a b = (a + b, { f with
    z := decide (a + b = 0), n := (a + b).msb, c := decide (2 ^ 40 ≤ a.toNat + b.toNat), v := decide ((a + b).toInt ≠ a.toInt + b.toInt) }) := by
  unfold addFlags; simp only [flagsZN_eq, outside40_add]

theorem subFlags_eq (f : Flags) (a b : Word) : subFlags f a b = (a - b, { f with
    z := decide (a = b), n := (a - b).msb, c := decide (a.toNat < b.toNat), v := decide ((a - b).toInt ≠ a.toInt - b.toInt) }) := by
  have hz : (a - b = 0) = (a = b) := propext sub_eq_zero
  unfold subFlags; simp only [flagsZN_eq, outside40_sub, hz]

theorem logicFlags_eq (f : Flags) (r : Word) : logicFlags f r = (r, { f with z := decide (r = 0), n := r.msb, v := false }) := by
  unfold logicFlags; rw [flagsZN_eq]

/-- LIH places the immediate below the source's low bits (R55). -/
theorem lihWord_eq (a : Word) (imm : BitVec 19) : lihWord a imm = a.extractLsb' 0 21 ++ imm := by
  have hhigh : a.toNat <<< 19 % 2 ^ 40 = (a.toNat % 2 ^ 21) <<< 19 := by rw [Nat.shiftLeft_eq, Nat.shiftLeft_eq]; omega
  have hlow : (w40 imm.toNat).toNat = imm.toNat := by
    have := imm.isLt
    rw [BitVec.toNat_ofNat]; omega
  unfold lihWord
  refine BitVec.eq_of_toNat_eq ?_
  rw [BitVec.toNat_or, BitVec.toNat_shiftLeft, BitVec.toNat_append, BitVec.extractLsb'_toNat, Nat.shiftRight_zero, hhigh, hlow]

theorem shiftFlags_eq (f : Flags) (n : Nat) (r : Word) (carry : Bool) : shiftFlags f n r carry =
    (r, { f with z := decide (r = 0), n := r.msb, c := if n = 0 then f.c else carry, v := false }) := by
  unfold shiftFlags; rw [flagsZN_eq]

theorem shiftLeft_ofNat (a : Word) (n : Nat) : a <<< n = BitVec.ofNat 40 (a.toNat * 2 ^ n) :=
  BitVec.eq_of_toNat_eq (by rw [BitVec.toNat_shiftLeft, BitVec.toNat_ofNat, Nat.shiftLeft_eq])

theorem ushiftRight_ofNat (a : Word) (n : Nat) : a >>> n = BitVec.ofNat 40 (a.toNat / 2 ^ n) :=
  BitVec.eq_of_toNat_eq (by
    rw [BitVec.toNat_ushiftRight, BitVec.toNat_ofNat, Nat.shiftRight_eq_div_pow, Nat.mod_eq_of_lt ((Nat.div_le_self _ _).trans_lt a.isLt)])

theorem sshiftRight_ofInt (a : Word) (n : Nat) : a.sshiftRight n = BitVec.ofInt 40 (a.toInt / 2 ^ n) := by
  rw [← BitVec.ofInt_toInt (x := a.sshiftRight n), BitVec.toInt_sshiftRight, Int.shiftRight_eq_div_pow]; norm_cast

/-! ### Second operands -/

/-- The second operand of a shift, its amount where the spec gives it one. -/
def shiftAmount (c : Core) : Src2 → Nat
  | .reg r => (c.g r).toNat % 64
  | .imm i => i.toNat

theorem shiftOk_iff (c : Core) (b : Src2) : shiftOk b = decide (shiftAmount c b < 64) := by
  cases b with
  | reg r => exact (decide_eq_true (Nat.mod_lt _ (by decide))).symm
  | imm i => rfl

theorem shiftBy_eq {c : Core} {b : Src2} (h : shiftAmount c b < 64) : c.shiftBy b = shiftAmount c b := by
  cases b with
  | reg r => rfl
  | imm i => exact Nat.mod_eq_of_lt h

/-! ### The obligation -/

/-- Settles O4: each result with its flags by the lemma of its operation, on the operands that the form names. -/
theorem arithmeticLogicShifts : Obligations.ArithmeticLogicShifts := by
  unfold Obligations.ArithmeticLogicShifts
  refine ⟨fun s k rd rs1 b imm => ?_, fun s k rd rs1 b => ?_⟩
  · extract_lets c x ys yz logic
    have hys : c.srcS b = ys := srcS_eq c b
    have hyz : c.srcZ b = yz := srcZ_eq c b
    refine ⟨fun h => ?_, fun h => show Gives (execLih k rd rs1 imm s) _ from compute_gives h (congrArg (fun w => (w, c.flags)) (lihWord_eq x imm))⟩
    have h : CanIssue s k (rd.val :: rs1.val :: srcRegs b) false := by cases b <;> exact h
    rw [← hys, ← hyz]
    show Gives (execAdd k rd rs1 b s) _ ∧ Gives (execSub k rd rs1 b s) _ ∧ Gives (execAnd k rd rs1 b s) _ ∧ Gives (execOr k rd rs1 b s) _ ∧
      Gives (execXor k rd rs1 b s) _
    exact ⟨compute_gives h (addFlags_eq _ _ _), compute_gives h (subFlags_eq _ _ _), compute_gives h (logicFlags_eq _ _),
      compute_gives h (logicFlags_eq _ _), compute_gives h (logicFlags_eq _ _)⟩
  · extract_lets c x n out
    have hn : shiftAmount c b = n := by cases b <;> rfl
    intro h
    have h : CanIssue s k (rd.val :: rs1.val :: srcRegs b) false := by cases b <;> exact h
    split
    next hlt =>
      have hok : shiftOk b = true := by rw [shiftOk_iff c, hn]; exact decide_eq_true hlt
      have hby : c.shiftBy b = n := (shiftBy_eq (hn ▸ hlt)).trans hn
      show Gives (execShl k rd rs1 b s) _ ∧ Gives (execShr k rd rs1 b s) _ ∧ Gives (execSra k rd rs1 b s) _
      refine ⟨shift_gives h hok ?_, shift_gives h hok ?_, shift_gives h hok ?_⟩
      · rw [hby]; unfold shlFlags; rw [shiftFlags_eq, shiftLeft_ofNat]; rfl
      · rw [hby]; unfold shrFlags; rw [shiftFlags_eq, ushiftRight_ofNat]; rfl
      · rw [hby]; unfold sraFlags; rw [shiftFlags_eq, sshiftRight_ofInt, bitAt_msb]; rfl
    next hge =>
      have hok : shiftOk b = false := by rw [shiftOk_iff c, hn]; exact decide_eq_false hge
      show execShl k rd rs1 b s = _ ∧ execShr k rd rs1 b s = _ ∧ execSra k rd rs1 b s = _
      exact ⟨shift_reserved _ h hok, shift_reserved _ h hok, shift_reserved _ h hok⟩

end Sys2Proof.Machine
end

section
/-! PROOF. Products, accumulators and their read-out (O5). -/

namespace Sys2Proof.Machine

/-! ### Saturation -/

/-- The clamp into the signed 40-bit range, and whether it clamps (R56, R58, R60). -/
theorem sat40_eq (x : Int) : sat40 x = if 2 ^ 39 - 1 < x then (0x7FFFFFFFFF#40, true) else if x < -2 ^ 39 then (0x8000000000#40, true)
    else (BitVec.ofInt 40 x, false) := rfl

theorem outside40_iff (x : Int) : outside40 x = decide (x < -2 ^ 39 ∨ 2 ^ 39 - 1 < x) := by
  unfold outside40
  rw [← Bool.decide_or, decide_eq_decide]; omega

theorem mulFlags_low (f : Flags) (a b : Word) : mulFlags f a b false = (BitVec.ofInt 40 (a.toInt * b.toInt),
    { f with z := decide (BitVec.ofInt 40 (a.toInt * b.toInt) = 0), n := (BitVec.ofInt 40 (a.toInt * b.toInt)).msb,
             v := decide (a.toInt * b.toInt < -2 ^ 39 ∨ 2 ^ 39 - 1 < a.toInt * b.toInt) }) := by
  unfold mulFlags; simp only [sgn_toInt, flagsZN_eq, outside40_iff]; rfl

theorem mulFlags_high (f : Flags) (a b : Word) : mulFlags f a b true = ((sat40 (a.toInt * b.toInt / 2 ^ 39)).1,
    { f with z := decide ((sat40 (a.toInt * b.toInt / 2 ^ 39)).1 = 0), n := (sat40 (a.toInt * b.toInt / 2 ^ 39)).1.msb,
             v := (sat40 (a.toInt * b.toInt / 2 ^ 39)).2 }) := by
  unfold mulFlags; simp only [sgn_toInt, flagsZN_eq]; rfl

theorem accFlags_eq (f : Flags) (a : BitVec 88) (sh : Nat) (trunc : Bool) {x : Int}
    (hx : x = (a.toInt * 2 ^ sh + if trunc then 0 else 2 ^ 38) / 2 ^ 39) : accFlags f a sh trunc =
      ((sat40 x).1, { f with z := decide ((sat40 x).1 = 0), n := (sat40 x).1.msb, v := (sat40 x).2 }) := by
  unfold accFlags; simp only [flagsZN_eq, ← hx]

/-! ### Accumulators -/

theorem setAcc_pc (c : Core) (sel : Bool) (a : BitVec 88) : (c.setAcc sel a).pc = c.pc := by unfold Core.setAcc; split <;> rfl

theorem macAcc_eq (acc : BitVec 88) (a b : Word) (sub clr : Bool) : macAcc acc a b sub clr =
    if sub then (if clr then 0 else acc) - BitVec.ofInt 88 (a.toInt * b.toInt) else (if clr then 0 else acc) + BitVec.ofInt 88 (a.toInt * b.toInt) := by
  unfold macAcc; rw [sgn_toInt, sgn_toInt]

/-- A multiply-accumulate of an Easel core (R57, R77). -/
theorem macDo_gives {s : State} {k : CoreId} {rs1 rs2 : GReg} (sel clr sub : Bool) (h : CanIssue s k [rs1.val, rs2.val] false) (hk : k.val < 16) :
    Gives (macDo k rs1 rs2 sel clr sub s) (fun t => Issued s t k (((s.core k).setAcc sel
      (macAcc ((s.core k).acc sel) ((s.core k).g rs1) ((s.core k).g rs2) sub clr)).went ((s.core k).pc + 1))) := by
  refine ⟨_, (if_pos hk).trans (issue_of_CanIssue _ h), ?_⟩
  exact setAcc_pc (s.core k) sel _ ▸ retire_issued s k _

/-- ACC with a shift that the spec gives (R58). -/
theorem execAcc_gives {s : State} {k : CoreId} {rd : GReg} {sh : BitVec 6} (trunc clr sel : Bool) (h : CanIssue s k [rd.val] false) (hsh : sh.toNat < 40) :
    Gives (execAcc k rd sh trunc clr sel s) (fun t => Issued s t k ((if clr then (s.core k).setAcc sel 0 else s.core k).result rd
      (accFlags (s.core k).flags ((s.core k).acc sel) sh.toNat trunc).1 (accFlags (s.core k).flags ((s.core k).acc sel) sh.toNat trunc).2)) := by
  refine ⟨_, (issue_of_CanIssue _ h).trans (if_neg (Nat.not_le.2 hsh)), ?_⟩
  exact retireReg_issued s k _ rd _

theorem execAcc_reserved {s : State} {k : CoreId} {rd : GReg} {sh : BitVec 6} (trunc clr sel : Bool) (h : CanIssue s k [rd.val] false)
    (hsh : ¬ sh.toNat < 40) : execAcc k rd sh trunc clr sel s = .fault .unpredictable :=
  (issue_of_CanIssue _ h).trans (if_pos (Nat.not_lt.1 hsh))

/-! ### The obligation -/

/-- Settles O5: the products and the read-out by their results with flags, the accumulators by what `macAcc` adds or takes. -/
theorem multiplyAccumulate : Obligations.MultiplyAccumulate := by
  unfold Obligations.MultiplyAccumulate
  intro s k rd rs1 rs2 sel clr trunc sh
  extract_lets c p zn acc put clamp r
  refine ⟨fun h => ?_, fun h hk => ?_, fun h => ?_⟩
  · show Gives (execMul k rd rs1 rs2 false s) _ ∧ Gives (execMul k rd rs1 rs2 true s) _
    exact ⟨compute_gives h (mulFlags_low _ _ _), compute_gives h (mulFlags_high _ _ _)⟩
  · have hmac := macDo_gives sel clr false h hk
    have hmsc := macDo_gives sel clr true h hk
    rw [macAcc_eq] at hmac hmsc
    exact ⟨hmac, hmsc⟩
  · split
    next hsh =>
      have hacc := execAcc_gives trunc clr sel h hsh
      rw [accFlags_eq _ _ _ _ rfl] at hacc
      exact hacc
    next hsh => exact execAcc_reserved trunc clr sel h hsh

end Sys2Proof.Machine
end

section
/-! PROOF. Time arithmetic (O6): differences and sums of times in units of 1/1024 ns, and what an instruction that writes a pair leaves. -/

namespace Sys2Proof.Machine

/-! ### Sums and differences of times -/

/-- A number below the word's range is zero as a word only where it is zero. -/
theorem ofInt_eq_zero {x : Int} (h0 : 0 ≤ x) (h : x < 2 ^ 40) : (BitVec.ofInt 40 x = 0) = (x = 0) := by
  refine propext ⟨fun hx => ?_, fun hx => hx ▸ rfl⟩
  have htoNat : (BitVec.ofInt 40 x).toNat = 0 := by rw [hx]; rfl
  rw [BitVec.toNat_ofInt] at htoNat
  omega

theorem unitsPerSec_cast : ((unitsPerSec : Nat) : Int) = 1024000000000 := rfl

/-- The carry of a sum's low word (R59). -/
def lowCarry (x : Int) : Int := if 1024000000000 ≤ x then 1 else if x < 0 then -1 else 0

theorem lowCarry_low {x : Int} (hlo : -1024000000000 ≤ x) (hhi : x < 2 * 1024000000000) :
    0 ≤ x - lowCarry x * 1024000000000 ∧ x - lowCarry x * 1024000000000 < 1024000000000 := by
  unfold lowCarry; split_ifs <;> omega

/-- TADD of a time whose low word's sum stays within one carry (R59). -/
theorem taddFlags_eq (f : Flags) (a : T80) (s d : Int) {x : Int} (hx : x = a.low + d) (hlo : -1024000000000 ≤ x) (hhi : x < 2 * 1024000000000) :
    taddFlags f a s d = (BitVec.ofInt 40 (a.sec + s + lowCarry x), BitVec.ofInt 40 (x - lowCarry x * 1024000000000),
      { f with z := decide (BitVec.ofInt 40 (a.sec + s + lowCarry x) = 0 ∧ x = lowCarry x * 1024000000000), n := false,
               c := decide (lowCarry x ≠ 0), v := decide (a.sec + s + lowCarry x < 0 ∨ 2 ^ 40 ≤ a.sec + s + lowCarry x) }) := by
  have hparts : (if ((unitsPerSec : Nat) : Int) ≤ x then (x - (unitsPerSec : Nat), (1 : Int)) else if x < 0 then (x + (unitsPerSec : Nat), -1) else (x, 0)) =
      (x - lowCarry x * 1024000000000, lowCarry x) := by
    rw [unitsPerSec_cast]; unfold lowCarry
    split_ifs <;> simp
  have hlow := lowCarry_low hlo hhi
  unfold taddFlags
  simp only [← hx, hparts]
  have hz : (BitVec.ofInt 40 (x - lowCarry x * 1024000000000) = 0) = (x = lowCarry x * 1024000000000) := by
    rw [ofInt_eq_zero hlow.1 (by omega)]; exact propext sub_eq_zero
  simp only [hz, Bool.decide_or]

/-- The exact difference of two normalized times, in seconds and in units below one (R60). -/
theorem tsubParts_eq {a b : T80} (ha : a.low < 1024000000000) (hb : b.low < 1024000000000) {d : Int}
    (hd : d = a.sec * 1024000000000 + a.low - (b.sec * 1024000000000 + b.low)) :
    tsubParts a b = (d / 1024000000000, d % 1024000000000, decide ((a.low : Int) < b.low)) := by
  unfold tsubParts; dsimp only; rw [unitsPerSec_cast]
  by_cases h : (a.low : Int) - b.low < 0
  · rw [decide_eq_true h, decide_eq_true (by omega : (a.low : Int) < b.low)]
    simp only [if_true, Prod.mk.injEq, and_true]; omega
  · rw [decide_eq_false h, decide_eq_false (by omega : ¬ (a.low : Int) < b.low)]
    simp only [Bool.false_eq_true, if_false, Prod.mk.injEq, and_true]; omega

section
variable (f : Flags) {a b : T80} (ha : a.low < 1024000000000) (hb : b.low < 1024000000000) {d : Int}
  (hd : d = a.sec * 1024000000000 + a.low - (b.sec * 1024000000000 + b.low))
include ha hb hd

theorem tsubTFlags_eq : tsubTFlags f a b = (BitVec.ofInt 40 (d / 1024000000000), BitVec.ofInt 40 (d % 1024000000000),
    { f with z := decide (d = 0), n := decide (d < 0), c := decide ((a.low : Int) < b.low),
             v := decide (d / 1024000000000 < -2 ^ 39 ∨ 2 ^ 39 - 1 < d / 1024000000000) }) := by
  have hz : (d / 1024000000000 = 0 ∧ d % 1024000000000 = 0) = (d = 0) := propext (by omega)
  have hn : (d / 1024000000000 < 0) = (d < 0) := propext (by omega)
  unfold tsubTFlags; simp only [tsubParts_eq ha hb hd, outside40_iff, hz, hn]

theorem tsubPFlags_eq : tsubPFlags f a b = ((sat40 d).1,
    { f with z := decide (d = 0), n := decide (d < 0), c := decide ((a.low : Int) < b.low), v := (sat40 d).2 }) := by
  have hsum : d / 1024000000000 * ((unitsPerSec : Nat) : Int) + d % 1024000000000 = d := by unfold unitsPerSec; omega
  unfold tsubPFlags; simp only [tsubParts_eq ha hb hd, hsum]

theorem tcmpFlags_eq : tcmpFlags f a b = { f with z := decide (d = 0), n := decide (d < 0), c := decide (d < 0), v := false } := by
  have hz : (a.sec = b.sec ∧ a.low = b.low) = (d = 0) := propext (by omega)
  have hlt : t80Lt a b = decide (d < 0) := by
    unfold t80Lt t80Units unitsPerSec; rw [decide_eq_decide]; omega
  unfold tcmpFlags; simp only [hz, hlt]

end

/-- A stamp's signed distance from its reference (R7). -/
theorem stamp_distance (stamp ref : Word) {x : Int} (hx : x = ((stamp.toNat : Int) - ref.toNat) % 2 ^ 40) :
    (if x ≥ 2 ^ 39 then x - 2 ^ 40 else x) = (stamp - ref).toInt := by
  have h1 := stamp.isLt
  have h2 := ref.isLt
  rw [BitVec.toInt_eq_toNat_cond, BitVec.toNat_sub]
  split_ifs <;> omega

/-- TEXT against a reference time (R7, R62). -/
theorem textFlags_eq (f : Flags) (stamp : Word) {ref : T80} {e far : Int}
    (he : e = (stamp - BitVec.ofInt 40 ((ref.sec * 1024000000000 + ref.low : Int) / 4)).toInt)
    (hfar : far = ref.sec * 1024000000000 + ref.low / 4 * 4 + 4 * e) :
    textFlags f stamp ref = (BitVec.ofInt 40 (far / 1024000000000), BitVec.ofInt 40 (far % 1024000000000),
      { f with z := decide (e = 0), n := decide (e < 0), v := decide (far / 1024000000000 < 0 ∨ 2 ^ 40 ≤ far / 1024000000000) }) := by
  have href40 : ((s40Of ref : Nat) : Int) = (BitVec.ofInt 40 ((ref.sec * 1024000000000 + ref.low : Int) / 4)).toNat := by
    rw [BitVec.toNat_ofInt]; unfold s40Of t80Units unitsPerSec; omega
  have hdist : s40Extend stamp.toNat ref = ({ sec := (far / 1024000000000 % 2 ^ 40).toNat, low := (far % 1024000000000).toNat }, far / 1024000000000, e) := by
    unfold s40Extend; dsimp only
    rw [href40, stamp_distance stamp _ rfl, ← he]
    unfold unitsPerSec
    have hsec : (ref.sec : Int) + (((ref.low / 4 * 4 : Nat) : Int) + 4 * e) / 1024000000000 = far / 1024000000000 := by omega
    have hlow : (((ref.low / 4 * 4 : Nat) : Int) + 4 * e) % 1024000000000 = far % 1024000000000 := by omega
    simp only [hsec, hlow, Nat.cast_ofNat]
  have hhi : T80hi { sec := (far / 1024000000000 % 2 ^ 40).toNat, low := (far % 1024000000000).toNat } = BitVec.ofInt 40 (far / 1024000000000) := by
    refine BitVec.eq_of_toNat_eq ?_
    unfold T80hi; dsimp only; rw [BitVec.toNat_ofInt, BitVec.toNat_ofNat]; omega
  have hlo : T80lo { sec := (far / 1024000000000 % 2 ^ 40).toNat, low := (far % 1024000000000).toNat } = BitVec.ofInt 40 (far % 1024000000000) := by
    refine BitVec.eq_of_toNat_eq ?_
    unfold T80lo; dsimp only; rw [BitVec.toNat_ofInt, BitVec.toNat_ofNat]; omega
  unfold textFlags; simp only [hdist, hhi, hlo, Bool.decide_or]

/-! ### Instructions on pairs -/

theorem setPair_pc (c : Core) (r : Nat) (hi lo : Word) : (c.setPair r hi lo).pc = c.pc := by unfold Core.setPair; rw [setG_pc, setG_pc]

theorem pairSrc_iff {r : GReg} : pairSrc r = true ↔ r.val % 2 = 0 := decide_eq_true_iff

theorem t80Normal_iff (t : T80) : t80Normal t = true ↔ t.low < 1024000000000 := decide_eq_true_iff

/-- The core past an instruction with the flags `f` (R52). -/
def Core.wentWith (c : Core) (f : Flags) (pc : Nat) : Core := { c with flags := f }.went pc

/-- What an instruction on times that are not normalized leaves (R63): `Q` of its result, its flags and its core; E and L stay. -/
def TimeOpened (s : State) (k : CoreId) (o : Out) (Q : Word → Word → Flags → Core → Prop) : Prop :=
  Gives o (fun t => ∃ hi lo f c', Q hi lo f c' ∧ Issued { s with freeCtr := t.freeCtr } t k (c'.wentWith f ((s.core k).pc + 1)) ∧
    f.e = (s.core k).flags.e ∧ f.l = (s.core k).flags.l)

section
variable {s : State} {k : CoreId} {rd : GReg} {rs : List Nat} {form : Bool} {ok : Core → Bool} {f : Core → Word × Word × Flags}
  {g : Flags → Word → Word → Word → Flags} (h : CanIssue s k (rd.val :: (rd.val + 1) :: rs) false)
include h

/-- A pair is written with its flags where the fields and the operands are ones the spec gives (R44, R59 to R62). -/
theorem computePair_gives (hform : (pairDst rd && form) = true) (hok : ok (s.core k) = true) {hi lo : Word} {fl : Flags}
    (hf : f (s.core k) = (hi, lo, fl)) :
    Gives (computePair k rd rs form ok f g s) (fun t => Issued s t k (((s.core k).setPair rd hi lo).wentWith fl ((s.core k).pc + 1))) := by
  refine ⟨retire s k { (s.core k).setPair rd hi lo with flags := fl }, ?_, ?_⟩
  · unfold computePair; rw [issue_of_CanIssue _ h, hform, hok, hf]; rfl
  · exact setPair_pc (s.core k) rd hi lo ▸ retire_issued s k { (s.core k).setPair rd hi lo with flags := fl }

theorem computePair_open (hform : (pairDst rd && form) = true) (hok : ok (s.core k) = false) {Q : Word → Word → Flags → Core → Prop}
    (hQ : ∀ hi lo w, Q hi lo (g (s.core k).flags hi lo w) ((s.core k).setPair rd hi lo))
    (hg : ∀ hi lo w, (g (s.core k).flags hi lo w).e = (s.core k).flags.e ∧ (g (s.core k).flags hi lo w).l = (s.core k).flags.l) :
    TimeOpened s k (computePair k rd rs form ok f g s) Q := by
  have hexec : computePair k rd rs form ok f g s = .next (retire s.free.2.free.2.free.2 k { (s.core k).setPair rd s.free.1 s.free.2.free.1 with
      flags := g (s.core k).flags s.free.1 s.free.2.free.1 s.free.2.free.2.free.1 }) := by
    unfold computePair; rw [issue_of_CanIssue _ h, hform, hok]; rfl
  refine ⟨_, hexec, s.free.1, s.free.2.free.1, _, _, hQ s.free.1 s.free.2.free.1 s.free.2.free.2.free.1, ?_,
    hg s.free.1 s.free.2.free.1 s.free.2.free.2.free.1⟩
  exact setPair_pc (s.core k) rd s.free.1 s.free.2.free.1 ▸ retire_issued s.free.2.free.2.free.2 k _

theorem computePair_reserved (hform : (pairDst rd && form) = false) : computePair k rd rs form ok f g s = .fault .unpredictable := by
  unfold computePair; rw [issue_of_CanIssue _ h, hform]; rfl

end

section
variable {s : State} {k : CoreId} {rd rs1 rs2 : GReg}

/-- TSUB.T writes a pair (R60). -/
theorem execTsub_pair : execTsub k rd rs1 rs2 false s = computePair k rd (pairRegs rs1 rs2) (pairSrc rs1 && pairSrc rs2) (fun c => pairsNormal c rs1 rs2)
    (fun c => tsubTFlags c.flags (c.pair rs1) (c.pair rs2)) (fun f _ _ w => openFlags f w) s := rfl

/-- TSUB.P writes one register (R60). -/
theorem tsubP_gives (h : CanIssue s k (rd.val :: pairRegs rs1 rs2) false) (hsrc : (pairSrc rs1 && pairSrc rs2) = true)
    (hok : pairsNormal (s.core k) rs1 rs2 = true) {w : Word} {fl : Flags}
    (hf : tsubPFlags (s.core k).flags ((s.core k).pair rs1) ((s.core k).pair rs2) = (w, fl)) :
    Gives (execTsub k rd rs1 rs2 true s) (fun t => Issued s t k ((s.core k).result rd w fl)) := by
  refine ⟨retireReg s k (s.core k) rd (w, fl), ?_, retireReg_issued s k (s.core k) rd (w, fl)⟩
  unfold execTsub; rw [if_pos rfl, issue_of_CanIssue _ h, hsrc, hok, hf]; rfl

theorem tsubP_open (h : CanIssue s k (rd.val :: pairRegs rs1 rs2) false) (hsrc : (pairSrc rs1 && pairSrc rs2) = true)
    (hok : pairsNormal (s.core k) rs1 rs2 = false) : TimeOpened s k (execTsub k rd rs1 rs2 true s) (fun hi _ _ c' => c' = (s.core k).setG rd hi) := by
  have hexec : execTsub k rd rs1 rs2 true s = .next (retireReg s.free.2.free.2 k (s.core k) rd (s.free.1, openFlags (s.core k).flags s.free.2.free.1)) := by
    unfold execTsub; rw [if_pos rfl, issue_of_CanIssue _ h, hsrc, hok]; rfl
  refine ⟨_, hexec, s.free.1, 0, openFlags (s.core k).flags s.free.2.free.1, _, rfl, ?_, rfl, rfl⟩
  have h := retireReg_issued s.free.2.free.2 k (s.core k) rd (s.free.1, openFlags (s.core k).flags s.free.2.free.1)
  unfold Core.result at h; exact h

theorem tsubP_reserved (h : CanIssue s k (rd.val :: pairRegs rs1 rs2) false) (hsrc : (pairSrc rs1 && pairSrc rs2) = false) :
    execTsub k rd rs1 rs2 true s = .fault .unpredictable := by
  unfold execTsub; rw [if_pos rfl, issue_of_CanIssue _ h, hsrc]; rfl

theorem tcmp_gives (h : CanIssue s k (pairRegs rs1 rs2) false) (hsrc : (pairSrc rs1 && pairSrc rs2) = true)
    (hok : pairsNormal (s.core k) rs1 rs2 = true) : Gives (execTcmp k rs1 rs2 s) (fun t =>
      Issued s t k ((s.core k).wentWith (tcmpFlags (s.core k).flags ((s.core k).pair rs1) ((s.core k).pair rs2)) ((s.core k).pc + 1))) := by
  refine ⟨_, ?_, retire_issued s k { s.core k with flags := tcmpFlags (s.core k).flags ((s.core k).pair rs1) ((s.core k).pair rs2) }⟩
  unfold execTcmp; rw [issue_of_CanIssue _ h, hsrc, hok]; rfl

theorem tcmp_open (h : CanIssue s k (pairRegs rs1 rs2) false) (hsrc : (pairSrc rs1 && pairSrc rs2) = true)
    (hok : pairsNormal (s.core k) rs1 rs2 = false) :
    TimeOpened s k (execTcmp k rs1 rs2 s) (fun _ _ f c' => c' = s.core k ∧ f.n = f.c ∧ f.v = false) := by
  have hexec : execTcmp k rs1 rs2 s = .next (retire s.free.2 k { s.core k with flags := tcmpOpen (s.core k).flags s.free.1 }) := by
    unfold execTcmp; rw [issue_of_CanIssue _ h, hsrc, hok]; rfl
  refine ⟨_, hexec, 0, 0, tcmpOpen (s.core k).flags s.free.1, s.core k, ⟨rfl, rfl, rfl⟩, ?_, rfl, rfl⟩
  exact retire_issued s.free.2 k _

theorem tcmp_reserved (h : CanIssue s k (pairRegs rs1 rs2) false) (hsrc : (pairSrc rs1 && pairSrc rs2) = false) :
    execTcmp k rs1 rs2 s = .fault .unpredictable := by
  unfold execTcmp; rw [issue_of_CanIssue _ h, hsrc]; rfl

end

/-! ### The obligation -/

/-- Settles O6: each operation by the exact sum or difference of its times, and by the free words where one is not normalized. -/
theorem timeArithmetic : Obligations.TimeArithmetic := by
  unfold Obligations.TimeArithmetic
  intro s k rd rs1 rs2
  extract_lets c sec low U even fine dst units pair fl sum d clamp e far opened wide
  have hfine : ∀ r : GReg, t80Normal (c.pair r) = decide (fine r) := fun r => by
    show decide ((c.g (r.val + 1)).toNat < 1024000000000) = decide (((c.g (r.val + 1)).toNat : Int) < 1024000000000)
    rw [decide_eq_decide]; omega
  have hnormal : pairsNormal c rs1 rs2 = decide (fine rs1 ∧ fine rs2) := by
    unfold pairsNormal; rw [hfine, hfine, Bool.decide_and]
  have hlow : ∀ r : GReg, fine r → (c.pair r).low < 1024000000000 := fun r hr => (t80Normal_iff _).1 ((hfine r).trans (decide_eq_true hr))
  have hsrc : (pairSrc rs1 && pairSrc rs2) = decide (even rs1 ∧ even rs2) := (Bool.decide_and _ _).symm
  have hdst : pairDst rd = decide dst := (Bool.decide_and _ _).symm
  have hodd : ∀ p : Prop, [Decidable p] → ¬ (dst ∧ p) → (pairDst rd && decide p) = false := fun p _ hbad => by
    rw [hdst, ← Bool.decide_and]; exact decide_eq_false hbad
  have hform : dst → ∀ {b : Bool}, b = true → (pairDst rd && b) = true := fun hd _ hb => by rw [hdst, decide_eq_true hd, hb]; rfl
  have hpairs : even rs1 → even rs2 → (pairSrc rs1 && pairSrc rs2) = true := fun h1 h2 => hsrc.trans (decide_eq_true ⟨h1, h2⟩)
  have hrange : ∀ r : GReg, fine r → 0 ≤ low r ∧ low r < 1024000000000 := fun r hr => ⟨Int.natCast_nonneg _, hr⟩
  have hsgn : -2 ^ 39 ≤ (c.g rs2).toInt ∧ (c.g rs2).toInt < 2 ^ 39 := ⟨BitVec.le_toInt (c.g rs2), BitVec.toInt_lt⟩
  refine ⟨fun h => ⟨fun hd h1 h2 hf1 hf2 => ⟨?tadd, ?tsub⟩, fun hd h1 h2 hf => ⟨?taddOpen, ?tsubOpen⟩, fun hbad => ⟨?taddOdd, ?tsubOdd⟩⟩,
    fun h => ⟨fun hd h1 hf1 => ?taddP, fun hd h1 hf => ?taddPOpen, fun hbad => ?taddPOdd⟩,
    fun h => ⟨fun h1 h2 hf1 hf2 => ?tsubP, fun h1 h2 hf => ?tsubPOpen, fun hbad => ?tsubPOdd⟩,
    fun h => ⟨fun h1 h2 hf1 hf2 => ?tcmp, fun h1 h2 hf => ?tcmpOpen, fun hbad => ?tcmpOdd⟩,
    fun h => ⟨fun hd h2 hf2 => ?text, fun hd h2 hf => ?textOpen, fun hbad => ?textOdd⟩⟩
  case tadd =>
    have hx1 := hrange rs1 hf1
    have hx2 := hrange rs2 hf2
    show Gives (execTadd k rd rs1 rs2 false s) _
    refine computePair_gives h (hform hd (hpairs h1 h2))
      (show (t80Normal (c.pair rs1) && t80Normal (c.pair rs2)) = true from hnormal.trans (decide_eq_true ⟨hf1, hf2⟩)) ?_
    show taddFlags c.flags (c.pair rs1) (sgn (c.g rs2)) ((c.pair rs2).low : Int) = _
    rw [sgn_toInt]
    exact taddFlags_eq c.flags (c.pair rs1) _ _ rfl (by omega) (by omega)
  case tsub =>
    show Gives (execTsub k rd rs1 rs2 false s) _
    rw [execTsub_pair]
    exact computePair_gives h (hform hd (hpairs h1 h2)) (hnormal.trans (decide_eq_true ⟨hf1, hf2⟩))
      (tsubTFlags_eq c.flags (hlow rs1 hf1) (hlow rs2 hf2) rfl)
  case taddOpen =>
    show TimeOpened s k (execTadd k rd rs1 rs2 false s) _
    exact computePair_open h (hform hd (hpairs h1 h2))
      (show (t80Normal (c.pair rs1) && t80Normal (c.pair rs2)) = false from hnormal.trans (decide_eq_false hf))
      (fun _ _ _ => ⟨rfl, rfl, decide_eq_true_iff⟩) (fun _ _ _ => ⟨rfl, rfl⟩)
  case tsubOpen =>
    show TimeOpened s k (execTsub k rd rs1 rs2 false s) _
    rw [execTsub_pair]
    exact computePair_open h (hform hd (hpairs h1 h2)) (hnormal.trans (decide_eq_false hf)) (fun _ _ _ => rfl) (fun _ _ _ => ⟨rfl, rfl⟩)
  case taddOdd =>
    show execTadd k rd rs1 rs2 false s = _
    refine computePair_reserved h ?_
    show (pairDst rd && (pairSrc rs1 && pairSrc rs2)) = false
    rw [hsrc]; exact hodd _ hbad
  case tsubOdd =>
    show execTsub k rd rs1 rs2 false s = _
    rw [execTsub_pair]
    exact computePair_reserved h (by rw [hsrc]; exact hodd _ hbad)
  case taddP =>
    have hx1 := hrange rs1 hf1
    show Gives (execTadd k rd rs1 rs2 true s) _
    refine computePair_gives h (hform hd (by rw [pairSrc_iff.2 h1]; rfl))
      (show (t80Normal (c.pair rs1) && true) = true by rw [hfine, decide_eq_true hf1]; rfl) ?_
    show taddFlags c.flags (c.pair rs1) 0 (sgn (c.g rs2)) = _
    rw [sgn_toInt]
    exact taddFlags_eq c.flags (c.pair rs1) _ _ rfl (by omega) (by omega)
  case taddPOpen =>
    show TimeOpened s k (execTadd k rd rs1 rs2 true s) _
    exact computePair_open h (hform hd (by rw [pairSrc_iff.2 h1]; rfl))
      (show (t80Normal (c.pair rs1) && true) = false by rw [hfine, decide_eq_false hf]; rfl)
      (fun _ _ _ => ⟨rfl, rfl, decide_eq_true_iff⟩) (fun _ _ _ => ⟨rfl, rfl⟩)
  case taddPOdd =>
    show execTadd k rd rs1 rs2 true s = _
    refine computePair_reserved h ?_
    show (pairDst rd && (decide (even rs1) && true)) = false
    rw [Bool.and_true]; exact hodd _ hbad
  case tsubP =>
    have hclamp : clamp d = sat40 d := (sat40_eq d).symm
    rw [hclamp]
    exact tsubP_gives h (hpairs h1 h2) (hnormal.trans (decide_eq_true ⟨hf1, hf2⟩)) (tsubPFlags_eq c.flags (hlow rs1 hf1) (hlow rs2 hf2) rfl)
  case tsubPOpen => exact tsubP_open h (hpairs h1 h2) (hnormal.trans (decide_eq_false hf))
  case tsubPOdd => exact tsubP_reserved h (hsrc.trans (decide_eq_false hbad))
  case tcmp =>
    have htcmp := tcmp_gives h (hpairs h1 h2) (hnormal.trans (decide_eq_true ⟨hf1, hf2⟩))
    rw [tcmpFlags_eq _ (hlow rs1 hf1) (hlow rs2 hf2) rfl] at htcmp
    exact htcmp
  case tcmpOpen => exact tcmp_open h (hpairs h1 h2) (hnormal.trans (decide_eq_false hf))
  case tcmpOdd => exact tcmp_reserved h (hsrc.trans (decide_eq_false hbad))
  case text =>
    show Gives (execText k rd rs1 rs2 s) _
    exact computePair_gives h (hform hd (pairSrc_iff.2 h2)) ((hfine rs2).trans (decide_eq_true hf2)) (textFlags_eq c.flags (c.g rs1) rfl rfl)
  case textOpen =>
    show TimeOpened s k (execText k rd rs1 rs2 s) _
    exact computePair_open h (hform hd (pairSrc_iff.2 h2)) ((hfine rs2).trans (decide_eq_false hf)) (fun _ _ _ => ⟨rfl, rfl⟩) (fun _ _ _ => ⟨rfl, rfl⟩)
  case textOdd =>
    show execText k rd rs1 rs2 s = _
    exact computePair_reserved h (hodd _ hbad)

end Sys2Proof.Machine
end

section
/-! PROOF. Branches, calls and returns (O7), and the conditions of BRC (O8). -/

namespace Sys2Proof.Machine

/-! ### Targets -/

/-- Slot counts are the Tally's own: a core that stands past an instruction stands so still (R535). -/
theorem Issued.slotAdd {s t : State} {k : CoreId} {c : Core} (h : Issued s t k c) (p e n : Nat) : Issued s (slotAdd t p e n) k c := by
  obtain ⟨hcore, hothers, ht⟩ := h
  exact ⟨hcore, hothers, by rw [ht]; rfl⟩

/-- A taken branch leaves the core at its target, and no more (R64, R76). -/
theorem branchTo_issued (s : State) (k : CoreId) (c : Core) (t : Target) (pc : Nat) : Issued s (branchTo s k c t pc) k (c.went pc) :=
  (retireAt_issued s k c pc).slotAdd _ _ _

/-- The target of a branch (R64). -/
theorem target_eq (c : Core) (t : Target) :
    c.target t = match t with | .off o => (((c.pc : Int) + o.toInt) % 2 ^ 32).toNat | .reg r => (c.g r).toNat % 2 ^ 32 := by
  cases t with
  | off o => show (((c.pc : Int) + signedOf 19 o.toNat) % 2 ^ 32).toNat = _; rw [signedOf_imm]
  | reg r => rfl

/-- BRC goes where its condition sends it (R65). -/
theorem brc_gives {s : State} {k : CoreId} {cond : Fin 16} {off : BitVec 19} (h : CanIssue s k [] false) :
    Gives (execBrc k cond off s) (fun t =>
      (condHolds (s.core k).flags cond = true → Issued s t k ((s.core k).went ((s.core k).target (.off off)))) ∧
      (condHolds (s.core k).flags cond = false → Issued s t k ((s.core k).went ((s.core k).pc + 1)))) := by
  refine ⟨_, issue_of_CanIssue _ h, fun hc => ?_, fun hc => ?_⟩
  · rw [if_pos hc]; exact branchTo_issued s k (s.core k) _ _
  · rw [if_neg (by rw [hc]; decide)]; exact retire_issued s k (s.core k)

/-- Settles O7: a taken branch stands at its target, CALL's with the link written behind it. -/
theorem branchesAndCalls : Obligations.BranchesAndCalls := by
  unfold Obligations.BranchesAndCalls
  intro s k rd rs1 t
  extract_lets c rs dest
  have hrs : targetRegs t = rs := by cases t <;> rfl
  have hdest : c.target t = dest := target_eq c t
  rw [← hrs, ← hdest]
  refine ⟨fun h => ?_, fun h => ?_, fun h => ?_, fun off h hz => ?_⟩
  · show Gives (execBr k t s) _
    exact ⟨_, issue_of_CanIssue _ h, branchTo_issued s k c t _⟩
  · show Gives (execCall k rd t s) _
    exact ⟨_, issue_of_CanIssue _ h, branchTo_issued s k _ t _⟩
  · show Gives (execRet k rs1 s) _
    exact ⟨_, issue_of_CanIssue _ h, branchTo_issued s k c (.reg rs1) _⟩
  · obtain ⟨u, hexec, htaken, -⟩ := brc_gives (cond := 0) (off := off) h
    have hu := htaken hz
    rw [target_eq] at hu
    exact ⟨u, hexec, hu⟩

/-! ### Conditions -/

/-- The conditions of BRC, as R65 lists them. -/
def Condition (f : Flags) : Nat → Prop
  | 0x0 => f.z = true | 0x1 => f.z = false
  | 0x2 => f.n ≠ f.v | 0x3 => f.n = f.v
  | 0x4 => f.z = false ∧ f.n = f.v | 0x5 => f.z = true ∨ f.n ≠ f.v
  | 0x6 => f.c = true | 0x7 => f.c = false
  | 0x8 => f.c = false ∧ f.z = false | 0x9 => f.c = true ∨ f.z = true
  | 0xA => f.v = true | 0xB => f.v = false
  | 0xC => f.e = true | 0xD => f.e = false
  | 0xE => f.l = true | _ => f.l = false

theorem condHolds_iff (f : Flags) (cond : Fin 16) : condHolds f cond = true ↔ Condition f cond := by
  fin_cases cond <;> simp [condHolds, Condition]

/-- A branch with its reserved bit set is no instruction (R65, R79). -/
theorem decodeCore_brc_reserved (k : CoreId) {w : Word} (hop : fieldOf w 39 34 = 0x1D) (hbit : bitAt w 33 = true) : decodeCore k w = none := by
  have hz : decide (bitsOf w.toNat 33 33 = 0) = false := by
    have hb : fieldOf w 33 33 = b2n (bitAt w 33) := fieldOf_bit w 33
    rw [hbit] at hb
    exact decide_eq_false (by unfold fieldOf at hb; rw [hb]; decide)
  unfold fieldOf at hop
  unfold decodeCore; simp only [hop, hz]; rfl

/-- Settles O8: `condHolds` decides the listed condition. -/
theorem conditionalBranch : Obligations.ConditionalBranch := by
  unfold Obligations.ConditionalBranch
  intro s k cond off
  extract_lets c f taken
  have htaken : condHolds f cond = true ↔ taken := condHolds_iff f cond
  refine ⟨fun w hop hbit => decodeCore_brc_reserved k hop hbit, fun h => ?_⟩
  obtain ⟨t, hexec, hyes, hno⟩ := brc_gives (cond := cond) (off := off) h
  rw [target_eq] at hyes
  exact ⟨t, hexec, fun ht => hyes (htaken.2 ht), fun ht => hno (Bool.eq_false_iff.2 fun hc => ht (htaken.1 hc))⟩

end Sys2Proof.Machine
end

section
/-! PROOF. Traps taken from states that differ in what no trap saves, with details that the spec leaves open (log 61). -/

namespace Sys2Proof.Machine

/-- What a trap saves does not depend on what its core waits for, nor on its store errors. -/
theorem Trapped.of_alike {s u t : State} {k : CoreId} {cause code addr pc : Nat} {w : CoreWait} {e b : List (Nat × Option Nat)}
    (h : Trapped u t k cause code addr pc) (hcore : u.core k = { s.core k with waiting := w, stErr := e, stBack := b })
    (hothers : ∀ j, j ≠ k.val → u.core j = s.core j) (hregs : u.regs = s.regs) : Trapped s t k cause code addr pc := by
  unfold Trapped at *; dsimp only at *
  rw [hcore, rd_of_regs hregs] at h
  obtain ⟨hpc, hinfo, haddr, hrest, hin, hwait, hg1, hg2, hend⟩ := h
  exact ⟨hpc, hinfo, haddr, fun j hj => (hrest j hj).trans (hothers j hj), hin, hwait, hg1, hg2, hend⟩

/-- Nor on anything outside the cores and the registers. -/
theorem Trapped.of_cores {s u t : State} {k : CoreId} {cause code addr pc : Nat} (h : Trapped u t k cause code addr pc)
    (hcores : u.cores = s.cores) (hregs : u.regs = s.regs) : Trapped s t k cause code addr pc :=
  h.of_alike (w := (s.core k).waiting) (e := (s.core k).stErr) (b := (s.core k).stBack) (core_of_cores hcores k) (fun j _ => core_of_cores hcores j) hregs

/-- A trap whose detail and address are free takes some (log 61). -/
theorem takeTrap_free {s : State} {k : CoreId} (h : (s.core k).inTrap = false) (cause pc : Nat) :
    ∃ x y, Trapped s (takeTrap s k cause none none pc) k cause x y pc := by
  have hdrawn : ∀ (u : State) (code addr : Nat), u.cores = s.cores → u.regs = s.regs → code < 2 ^ 19 →
      Trapped s (trapForward (trapEnter u k cause code addr pc) k) k cause code addr pc := fun u code addr hcores hregs hcode => by
    have hin : (u.core k).inTrap = false := (congrArg Core.inTrap (core_of_cores hcores k)).trans h
    exact takeTrap_eq hin cause code addr pc ▸ (takeTrap_trapped hin hcode cause addr pc).of_cores hcores hregs
  unfold takeTrap; rw [h, if_neg Bool.false_ne_true]
  exact ⟨_, _, hdrawn s.free.2.free.2 (s.free.1.toNat % 2 ^ 19) (s.free.2.free.1.toNat % 2 ^ 32) rfl rfl (Nat.mod_lt _ (by decide))⟩

/-- An instruction that its core's profile lacks takes the ILLEGAL trap (R78, R105). -/
theorem illegal_trapped {s : State} {k : CoreId} (h : CanIssue s k [] true) (hin : (s.core k).inTrap = false) :
    Gives (illegal k s) (fun t => ∃ x y, Trapped s t k 3 x y (s.core k).pc) := by
  obtain ⟨x, y, htrap⟩ := takeTrap_free hin 3 (s.core k).pc
  exact ⟨_, issue_of_CanIssue _ h, x, y, htrap⟩

end Sys2Proof.Machine
end

section
/-! PROOF. WAIT (O18): what it leaves at issue, by a time or a number of ns, and its end. -/

namespace Sys2Proof.Machine

/-- An instruction that waits leaves its core at it, and no more. -/
theorem retireWait_issued (s : State) (k : CoreId) (c : Core) (w : CoreWait) : Issued s (retireWait s k c w) k { c with waiting := w } :=
  ⟨core_setCore_self _ _ _, fun _ hj => core_setCore_ne s _ hj, rfl⟩

/-- A WAIT for `at_` has issued (R81): past it where the time has been reached, else asleep. -/
def Waits (s : State) (k : CoreId) (at_ : T80) (t : State) : Prop :=
  if s.reached at_ then Issued s t k ({ s.core k with flags := { (s.core k).flags with l := true } }.went ((s.core k).pc + 1))
  else Issued s t k { s.core k with waiting := .wait at_ false }

theorem waitFor_waits (s : State) (k : CoreId) (at_ : T80) : Waits s k at_ (waitFor k (s.core k) at_ s) := by
  unfold Waits waitFor
  split
  next => exact retire_issued s k _
  next => exact retireWait_issued s k _ _

theorem timeOrFree_state (t : T80) (s : State) : (timeOrFree t s).2 = { s with freeCtr := (timeOrFree t s).2.freeCtr } := by
  unfold timeOrFree
  split
  next => rfl
  next => rfl

/-- WAIT on a number of ns (R81). -/
theorem waitRel_gives {s : State} {k : CoreId} {rs1 : GReg} (h : CanIssue s k [rs1.val] true) :
    Gives (execWait k rs1 true s) (Waits s k (s.afterNs ((s.core k).g rs1).toNat)) := by
  refine ⟨_, ?_, waitFor_waits s k _⟩
  unfold execWait; rw [if_pos rfl, issue_of_CanIssue _ h]

section
variable {s : State} {k : CoreId} {rs1 : GReg}

/-- WAIT on the time of a pair, on an Easel core (R77, R81). -/
theorem waitAbs_eq (h : CanIssue s k [rs1.val, rs1.val + 1] true) (hk : k.val < 16) : execWait k rs1 false s =
    if pairSrc rs1 then .next (waitFor k (s.core k) (timeOrFree ((s.core k).pair rs1) s).1 (timeOrFree ((s.core k).pair rs1) s).2)
    else .fault .unpredictable := by
  unfold execWait; rw [if_neg Bool.false_ne_true, if_pos hk, issue_of_CanIssue _ h]

theorem waitAbs_gives (h : CanIssue s k [rs1.val, rs1.val + 1] true) (hk : k.val < 16) (heven : rs1.val % 2 = 0)
    (hnormal : t80Normal ((s.core k).pair rs1) = true) : Gives (execWait k rs1 false s) (Waits s k ((s.core k).pair rs1)) := by
  refine ⟨_, ?_, waitFor_waits s k _⟩
  rw [waitAbs_eq h hk, if_pos (pairSrc_iff.2 heven)]
  rw [timeOrFree_normal s hnormal]

theorem waitAbs_open (h : CanIssue s k [rs1.val, rs1.val + 1] true) (hk : k.val < 16) (heven : rs1.val % 2 = 0) :
    Gives (execWait k rs1 false s) (fun t => ∃ at_, t80Normal at_ = true ∧ Waits { s with freeCtr := t.freeCtr } k at_ t) := by
  refine ⟨_, (waitAbs_eq h hk).trans (if_pos (pairSrc_iff.2 heven)), _, (t80Normal_iff _).2 (timeOrFree_low ((s.core k).pair rs1) s), ?_⟩
  rw [timeOrFree_state]
  generalize timeOrFree ((s.core k).pair rs1) s = d
  have hwaits := waitFor_waits { s with freeCtr := d.2.freeCtr } k d.1
  have hfree : (waitFor k (s.core k) d.1 { s with freeCtr := d.2.freeCtr }).freeCtr = d.2.freeCtr := by
    unfold waitFor; split <;> rfl
  rw [hfree]; exact hwaits

theorem waitAbs_reserved (h : CanIssue s k [rs1.val, rs1.val + 1] true) (hk : k.val < 16) (hodd : rs1.val % 2 = 1) :
    execWait k rs1 false s = .fault .unpredictable := by
  rw [waitAbs_eq h hk, if_neg (fun he => by have := pairSrc_iff.1 he; omega)]

/-- A sleeping core's wait ends when its time has been reached (R81, R83). -/
theorem waitWake_eq {at_ : T80} {past : Bool} (hw : (s.core k).waiting = .wait at_ past) (hgo : GoesOn s k) : execWaitWake k s =
    .next (if s.reached at_ then s.setCore k { s.core k with flags := { (s.core k).flags with l := past } }.woken else s) := by
  obtain ⟨hrun, hback⟩ := hgo
  unfold execWaitWake; dsimp only; rw [hw]; dsimp only
  exact congrArg (fun u => Host.Outcome.next (if s.reached at_ then u else s))
    (finishWait_goesOn (c := { s.core k with flags := { (s.core k).flags with l := past } }) hrun hback)

end

/-- Settles O18: by the operand's form and the core's profile, then by whether the time has been reached. -/
theorem waitOnTime : Obligations.WaitOnTime := by
  unfold Obligations.WaitOnTime
  intro s k rs1
  extract_lets c waits
  refine ⟨fun h => ?_, fun h hk => ⟨fun heven hfine => ?_, fun heven _ => ?_, fun hodd => ?_⟩, fun h hk hin => ?_, fun at_ past hw hgo => ?_⟩
  · show Gives (execWait k rs1 true s) _
    exact waitRel_gives h
  · show Gives (execWait k rs1 false s) _
    exact waitAbs_gives h hk heven ((t80Normal_iff _).2 hfine)
  · show Gives (execWait k rs1 false s) _
    exact waitAbs_open h hk heven
  · show execWait k rs1 false s = _
    exact waitAbs_reserved h hk hodd
  · show Gives (execWait k rs1 false s) _
    have hill : execWait k rs1 false s = illegal k s := by
      unfold execWait; rw [if_neg Bool.false_ne_true, if_neg (Nat.not_lt.2 hk)]
    rw [hill]; exact illegal_trapped h hin
  · have hwake : exec (.waitWake k) s = _ := waitWake_eq hw hgo
    rw [hwake]
    split
    next => exact ⟨_, rfl, core_setCore_self s k _⟩
    next => rfl

end Sys2Proof.Machine
end

section
/-! PROOF. Loads (O12, O13): the words of plain memory, what a returning load leaves, and its issue. -/

namespace Sys2Proof.Machine

/-! ### Plain memory -/

theorem ea_eq (c : Core) (base : GReg) (off : BitVec 19) : c.ea base off = ((((c.g base).toNat % 2 ^ 32 : Int) + off.toInt) % 2 ^ 32).toNat := by
  unfold Core.ea; rw [signedOf_imm, Int.natCast_emod]; rfl

/-- A word of plain memory is read where nothing errs (R479, R480). -/
theorem busRead_plain {s : State} {m : Master} {a : Nat} (h : plainMemory a) (herr : memReadErr s m a = none) : busRead m a s = ((.ok, s.ld a), s) := by
  obtain ⟨hregs, hfifo, hvault⟩ := h
  have hread : memRead s m a = ((none, s.ld a), s) := by unfold memRead; rw [herr]
  unfold busRead
  split
  next h => exact absurd h hregs
  next h => exact absurd h hfifo
  next h => exact absurd h hvault
  next => rw [hread]; rfl

/-! ### A load returns -/

/-- The second word of a load: none but a pair's (R69). -/
def Load.word1 (l : Load) (s : State) : Word := if l.pair then s.ld ((l.addr + 1) % 2 ^ 32) else 0

/-- The words of load `l` may be read from plain memory. -/
structure Load.Plain (l : Load) (s : State) (m : Master) : Prop where
  plain : plainMemory l.addr
  reads : memReadErr s m l.addr = none
  pairs : l.pair = true → plainMemory ((l.addr + 1) % 2 ^ 32) ∧ memReadErr s m ((l.addr + 1) % 2 ^ 32) = none

theorem loadAccess_plain {s : State} {m : Master} {l : Load} (h : l.Plain s m) : loadAccess m l s = ((.ok, s.ld l.addr, l.word1 s), s) := by
  unfold loadAccess Load.word1; dsimp only
  rw [busRead_plain h.plain h.reads]; dsimp only [noteResp]
  cases hp : l.pair with
  | false => rfl
  | true =>
    obtain ⟨hplain, hreads⟩ := h.pairs hp
    rw [busRead_plain hplain hreads]; rfl

/-- A core with the words of load `l` in its registers (R69). -/
def Core.loaded (c : Core) (l : Load) (w0 w1 : Word) : Core := if l.pair then (c.setG l.rd w0).setG (l.rd + 1) w1 else c.setG l.rd w0

theorem fileSet_regs (c : Core) (r : Nat) (w : Word) : fileSet c.regs r w = (c.setG r w).regs := by
  unfold fileSet Core.setG; split <;> rfl

theorem loadWrite_regs (c : Core) (l : Load) (w0 w1 : Word) : loadWrite l w0 w1 c.regs = (c.loaded l w0 w1).regs := by
  unfold loadWrite Core.loaded; dsimp only
  split <;> simp only [fileSet_regs]

/-- A core on which outstanding load `i` has returned: its registers hold the words, and so do those that a younger load would restore. -/
def Core.returned (c : Core) (i : Nat) (l : Load) (w0 w1 : Word) : Core :=
  { c with regs := loadWrite l w0 w1 c.regs, loads := c.loads.take i ++ (c.loads.drop (i + 1)).map (fun o => { o with regs := loadWrite l w0 w1 o.regs }) }

/-- No load that has come back with an error waits to be trapped (R75). -/
theorem loadTrap_none {s : State} {k : CoreId} (h : ∀ o ∈ (s.core k).loads, o.back = 0) : loadTrap s k = s := by
  unfold loadTrap; dsimp only
  split
  next l ls hl => rw [if_neg]; rw [h l (by rw [hl]; exact List.mem_cons_self)]; decide
  next => rfl

theorem returned_back {c : Core} (h : ∀ o ∈ c.loads, o.back = 0) (i : Nat) (l : Load) (w0 w1 : Word) : ∀ o ∈ (c.returned i l w0 w1).loads, o.back = 0 := by
  intro o ho
  rcases List.mem_append.1 ho with ho | ho
  · exact h o (List.mem_of_mem_take ho)
  · obtain ⟨p, hp, rfl⟩ := List.mem_map.1 ho
    exact h p (List.mem_of_mem_drop hp)

/-- A load from plain memory returns before no older one to its target: its core has its words, and nothing else changes (R69, R71, R75). -/
theorem loadReturn_eq {s : State} {k : CoreId} {i : Fin 8} {l : Load} (hl : (s.core k).loads[i.val]? = some l) (hback : ∀ o ∈ (s.core k).loads, o.back = 0)
    (hfirst : ∀ o ∈ (s.core k).loads.take i, targetOf o.addr ≠ targetOf l.addr) (hgo : GoesOn s k) (hdue : s.elapsed l.due = true)
    (hplain : l.Plain s (coreAs k (s.core k).keeper)) :
    execLoadReturn k i s = .next (s.setCore k ((s.core k).returned i l (s.ld l.addr) (l.word1 s))) := by
  have hlback : l.back = 0 := hback l (List.mem_of_getElem? hl)
  have holder : ((s.core k).loads.take i).any (fun o => decide (o.back ≠ 2) && decide (targetOf o.addr = targetOf l.addr)) = false :=
    List.any_eq_false.2 fun o ho => by rw [decide_eq_false (hfirst o ho), Bool.and_false]; decide
  have hready : ¬ (l.back = 2 ∨ (!s.elapsed l.due) = true ∨
      ((s.core k).loads.take i).any (fun o => decide (o.back ≠ 2) && decide (targetOf o.addr = targetOf l.addr)) = true ∨
      (targetOf l.addr = .fifo ∧ storesWaiting s k ≠ 0)) := by
    rw [hdue, holder, hlback]
    rintro (h | h | h | h)
    · cases h
    · cases h
    · cases h
    · exact hplain.plain.2.1 h.1
  have hreturns : loadReturns k l s = ((.ok, s.ld l.addr, l.word1 s), s) := by
    unfold loadReturns; dsimp only
    rw [hlback, if_neg (by decide)]; exact loadAccess_plain hplain
  have hcore := core_setCore_self s k ((s.core k).returned i l (s.ld l.addr) (l.word1 s))
  unfold execLoadReturn; rw [hl]; dsimp only
  rw [if_neg hready, hreturns]
  show Host.Outcome.next (coreBoundary (loadTrap (s.setCore k ((s.core k).returned i l (s.ld l.addr) (l.word1 s))) k) k) = _
  rw [loadTrap_none (by rw [hcore]; exact returned_back hback i l _ _)]
  exact congrArg Host.Outcome.next (coreBoundary_goesOn ((on_of_regs rfl _).trans hgo.1) (by rw [hcore]; exact hgo.2))

theorem loaded_g (c : Core) (l : Load) (w0 w1 : Word) (r : Nat) : (c.loaded l w0 w1).g r =
    if r = 0 then 0 else if l.pair = true ∧ r = l.rd + 1 then w1 else if r = l.rd then w0 else c.g r := by
  unfold Core.loaded
  cases l.pair with
  | false => simp [g_setG]
  | true => simp only [if_true, g_setG]; split_ifs <;> simp_all

theorem returned_g (c : Core) (i : Nat) (l : Load) (w0 w1 : Word) (r : Nat) : (c.returned i l w0 w1).g r = (c.loaded l w0 w1).g r := by
  unfold Core.returned; rw [loadWrite_regs]; rfl

theorem returned_length {c : Core} {i : Nat} {l : Load} (h : c.loads[i]? = some l) (w0 w1 : Word) : (c.returned i l w0 w1).loads.length + 1 = c.loads.length := by
  obtain ⟨hi, -⟩ := List.getElem?_eq_some_iff.1 h
  simp only [Core.returned, List.length_append, List.length_take, List.length_map, List.length_drop]
  omega

end Sys2Proof.Machine

namespace Sys2Proof
open Machine

/-- Settles O13: the returned load's words stand in its registers, and nothing but its core has changed. -/
theorem loadReturns : Obligations.LoadReturns := by
  unfold Obligations.LoadReturns
  intro s k i l
  extract_lets c m next
  intro hl hback hfirst hgo hdue hplain hreads hpair
  refine ⟨_, loadReturn_eq hl hback hfirst hgo hdue ⟨hplain, hreads, fun hp => ⟨(hpair hp).1, (hpair hp).2.1⟩⟩, ?_⟩
  dsimp only; rw [core_setCore_self]
  refine ⟨fun hrd => ?_, fun hp => ?_, fun r hr hr1 => ?_, rfl, rfl, returned_length hl _ _, rfl⟩
  · rw [returned_g, loaded_g, if_neg hrd, if_neg (by omega), if_pos rfl]
  · rw [returned_g, loaded_g, if_neg (by omega), if_pos ⟨hp, rfl⟩]
    unfold Load.word1; rw [if_pos hp]
  · have hnot : ¬ (l.pair = true ∧ r = l.rd + 1) := fun h => hr1 h.1 h.2
    rw [returned_g, loaded_g, if_neg hnot, if_neg hr]
    split
    next h0 => rw [h0]; rfl
    next => rfl

end Sys2Proof
end

section
/-! PROOF. Loads issue (O12), and one that is alone completes when it returns. -/

namespace Sys2Proof.Machine

/-! ### Issue -/

/-- The load that an instruction on core `c` issues, with no delay of its response. -/
def Core.newLoad (c : Core) (rd : Nat) (pair : Bool) (a : Nat) : Load :=
  { pc := c.pc, rd := rd, pair := pair, addr := a, after := 0, back := 0, kind := none, regs := c.regs, a0 := c.a0, a1 := c.a1, flags := c.flags, due := ⟨0, 0⟩ }

/-- A core past an instruction whose load `l` joins the outstanding ones. -/
def Core.joined (c : Core) (l : Load) : Core := { c.went (c.pc + 1) with loads := (c.went (c.pc + 1)).loads ++ [l] }

def loadJoined (s : State) (k : CoreId) (l : Load) : State :=
  let v := (retire s k (s.core k)).setCore k { (retire s k (s.core k)).core k with loads := ((retire s k (s.core k)).core k).loads ++ [l] }
  if localWord k l.addr then v else slotInc v k 6

theorem loadJoined_issued (s : State) (k : CoreId) (l : Load) : Issued s (loadJoined s k l) k ((s.core k).joined l) := by
  obtain ⟨hcore, hothers, hrest⟩ := retire_issued s k (s.core k)
  unfold loadJoined; dsimp only; rw [hcore]
  generalize retire s k (s.core k) = u at hothers hrest
  have hjoin : Issued s (u.setCore k ((s.core k).joined l)) k ((s.core k).joined l) :=
    ⟨core_setCore_self u k _, fun j hj => (core_setCore_ne u _ hj).trans (hothers j hj), by rw [hrest]; rfl⟩
  split
  · exact hjoin
  · exact hjoin.slotAdd _ _ _

/-- A load from `a` finds room among the outstanding ones and a tag, waits for none of them, and is held back by no test (R75, R491, R525). -/
structure LoadMay (s : State) (k : CoreId) (a : Nat) : Prop where
  room : (s.core k).loads.length < 8
  alone : (s.core k).loads = [] ∨ loadAlone a = false
  tag : localWord k a = true ∨ tagsFull s k = false
  delay : Undelayed s

theorem LoadMay.not_held {s : State} {k : CoreId} {a : Nat} (h : LoadMay s k a) :
    ¬ (8 ≤ (s.core k).loads.length ∨ ((!(s.core k).loads.isEmpty) = true ∧ loadAlone a = true) ∨ ((!localWord k a) = true ∧ tagsFull s k = true)) := by
  obtain ⟨hroom, halone, htag, -⟩ := h
  rintro (hfull | ⟨hloads, hal⟩ | ⟨hloc, hfull⟩)
  · omega
  · rcases halone with hnil | hfree
    · rw [hnil] at hloads; cases hloads
    · rw [hfree] at hal; cases hal
  · rcases htag with hin | hfree
    · rw [hin] at hloc; cases hloc
    · rw [hfree] at hfull; cases hfull

section
variable {s : State} {k : CoreId} {rd rs1 : GReg} {imm : BitVec 19} {pair : Bool}
  (h : CanIssue s k (rd.val :: rs1.val :: (if pair then [rd.val + 1] else [])) false)
include h

/-- A load joins the outstanding ones (R69, R75). -/
theorem loadIssue_eq (hpair : pair = true → pairDst rd = true) (hmay : LoadMay s k ((s.core k).ea rs1 imm)) :
    loadIssue k rd rs1 imm pair s = .next (loadJoined s k ((s.core k).newLoad rd pair ((s.core k).ea rs1 imm))) := by
  have hform : (pair && !pairDst rd) = false := by
    cases pair with
    | false => rfl
    | true => rw [hpair rfl]; rfl
  unfold loadIssue; rw [issue_of_CanIssue _ h]; dsimp only
  rw [hform, if_neg Bool.false_ne_true, if_neg hmay.not_held, respDue_undelayed hmay.delay]; rfl

theorem loadIssue_reserved (hpair : pair = true) (hdst : pairDst rd = false) : loadIssue k rd rs1 imm pair s = .fault .unpredictable := by
  unfold loadIssue; rw [issue_of_CanIssue _ h]; dsimp only
  rw [hpair, hdst]; rfl

end

/-! ### The load that is alone -/

theorem setG_regs (c : Core) (r : Nat) (w : Word) : c.setG r w = { c with regs := (c.setG r w).regs } := by unfold Core.setG; split <;> rfl

theorem loaded_regs (c : Core) (l : Load) (w0 w1 : Word) : c.loaded l w0 w1 = { c with regs := loadWrite l w0 w1 c.regs } := by
  rw [loadWrite_regs]; unfold Core.loaded
  split
  · rw [setG_regs (c.setG l.rd w0), setG_regs c]
  · exact setG_regs c _ _

/-- A load that is alone is past when it returns: its core is as if it had written its words at issue (R69, R71). -/
theorem returned_joined {c : Core} (h : c.loads = []) (l : Load) (w0 w1 : Word) :
    (c.joined l).returned 0 l w0 w1 = (c.loaded l w0 w1).went (c.pc + 1) := by
  rw [loaded_regs]; unfold Core.returned Core.joined Core.went; rw [h]; rfl

/-- What a read of memory takes from the state stays through the issue of an instruction. -/
theorem Load.Plain.issued {s t : State} {k : CoreId} {c : Core} {l : Load} {m : Master} (h : l.Plain s m) (ht : Issued s t k c) : l.Plain t m := by
  obtain ⟨-, -, hrest⟩ := ht
  rw [hrest]; exact ⟨h.plain, h.reads, h.pairs⟩

theorem loadJoined_returns {s : State} {k : CoreId} {l : Load} (hrun : s.on (coreCtl k) = true) (hst : (s.core k).stBack = [])
    (hloads : (s.core k).loads = []) (hback : l.back = 0) (hdue : l.due = ⟨0, 0⟩) (hplain : l.Plain s (coreAs k (s.core k).keeper)) :
    Gives (execLoadReturn k 0 (loadJoined s k l)) (fun u => Issued s u k (((s.core k).loaded l (s.ld l.addr) (l.word1 s)).went ((s.core k).pc + 1))) := by
  have hissued := loadJoined_issued s k l
  generalize loadJoined s k l = t at hissued ⊢
  have hplain' := hplain.issued hissued
  obtain ⟨hcore, hothers, hrest⟩ := hissued
  have hone : (t.core k).loads = [l] := by rw [hcore]; unfold Core.joined Core.went; rw [hloads]; rfl
  have hon : t.on (coreCtl k) = true := by rw [hrest]; exact hrun
  have hmem : ∀ a, t.ld a = s.ld a := fun a => by rw [hrest]; rfl
  have hword : l.word1 t = l.word1 s := by unfold Load.word1; rw [hmem]
  have hkeeper : (t.core k).keeper = (s.core k).keeper := by rw [hcore]; rfl
  refine ⟨_, loadReturn_eq (i := 0) (l := l) (by rw [hone]; rfl) (by rw [hone]; simpa using hback) (by simp) ⟨hon, by rw [hcore]; exact hst⟩
    (by rw [hdue]; exact elapsed_epoch t) (by rw [hkeeper]; exact hplain'), ?_, fun j hj => (core_setCore_ne t _ hj).trans (hothers j hj), ?_⟩
  · rw [core_setCore_self, hcore, hmem, hword]; exact returned_joined hloads l _ _
  · show t.setCore k _ = _
    rw [hrest]; rfl

/-! ### The obligation -/

section
variable {s : State} {k : CoreId} {rd rs1 : GReg} {imm : BitVec 19} {pair : Bool} {a : Nat}
  (hcan : CanIssue s k (rd.val :: rs1.val :: (if pair then [rd.val + 1] else [])) false) (hpair : pair = true → pairDst rd = true)
  (ha : (s.core k).ea rs1 imm = a) (hmay : LoadMay s k a)
include hcan hpair ha hmay

theorem loadIssue_joins : Gives (loadIssue k rd rs1 imm pair s) (fun t => ∃ l : Load, l.addr = a ∧ l.rd = rd.val ∧ l.pair = pair ∧
    l.pc = (s.core k).pc ∧ l.back = 0 ∧ l.due = ⟨0, 0⟩ ∧ Issued s t k ((s.core k).joined l)) := by
  subst ha
  exact ⟨_, loadIssue_eq hcan hpair hmay, (s.core k).newLoad rd pair _, rfl, rfl, rfl, rfl, rfl, rfl, loadJoined_issued s k _⟩

theorem loadIssue_returns (hloads : (s.core k).loads = []) (hplain : ((s.core k).newLoad rd pair a).Plain s (coreAs k (s.core k).keeper)) :
    Gives (loadIssue k rd rs1 imm pair s) (fun t => Gives (execLoadReturn k 0 t) (fun u => Issued s u k
      (((s.core k).loaded ((s.core k).newLoad rd pair a) (s.ld a) (((s.core k).newLoad rd pair a).word1 s)).went ((s.core k).pc + 1)))) := by
  subst ha
  obtain ⟨-, hrun, -, -, hst, -⟩ := id hcan
  exact ⟨_, loadIssue_eq hcan hpair hmay, loadJoined_returns hrun hst hloads rfl rfl hplain⟩

end

/-- Settles O12: the load joins the outstanding ones, and the one that is alone returns with its words. -/
theorem loadsIssue : Obligations.LoadsIssue := by
  unfold Obligations.LoadsIssue
  intro s k rd rs1 imm
  extract_lets c ea m next went joined returns
  intro hroom halone htag hdelay
  have hea : c.ea rs1 imm = ea.toNat := ea_eq c rs1 imm
  have hmay : LoadMay s k ea.toNat := ⟨hroom, halone.imp_right fun h => decide_eq_false (not_or.2 h), htag, hdelay⟩
  have hdst : pairDst rd = decide (rd.val % 2 = 0 ∧ rd.val ≠ 0) := (Bool.decide_and _ _).symm
  refine ⟨fun hloads hplain hreads => ⟨fun hcan => ?_, fun hcan heven h0 hplain' hreads' => ?_⟩, fun hcan => ?_, fun hcan => ?_⟩
  · show Gives (loadIssue k rd rs1 imm false s) _
    exact loadIssue_returns (pair := false) hcan nofun hea hmay hloads ⟨hplain, hreads, nofun⟩
  · show Gives (loadIssue k rd rs1 imm true s) _
    exact loadIssue_returns (pair := true) hcan (fun _ => hdst.trans (decide_eq_true ⟨heven, h0⟩)) hea hmay hloads
      ⟨hplain, hreads, fun _ => ⟨hplain', hreads'⟩⟩
  · show Gives (loadIssue k rd rs1 imm false s) _
    exact loadIssue_joins (pair := false) hcan nofun hea hmay
  · split
    next hgood =>
      show Gives (loadIssue k rd rs1 imm true s) _
      exact loadIssue_joins (pair := true) hcan (fun _ => hdst.trans (decide_eq_true hgood)) hea hmay
    next hbad =>
      show loadIssue k rd rs1 imm true s = _
      exact loadIssue_reserved (pair := true) hcan rfl (hdst.trans (decide_eq_false hbad))

end Sys2Proof.Machine
end

section
/-! PROOF. Stores (O14, O15): the words of plain memory, a store that errs, and its response. -/

namespace Sys2Proof.Machine

/-! ### Stores to plain memory -/

/-- A word of plain memory is written where nothing errs, but for the ledger's (R125, R479, R480). -/
theorem busWriteBy_plain {s : State} {m : Master} {a : Nat} (h : plainMemory a) (herr : memWriteErr s m a = none) (core : Option Nat) (w : Word) :
    busWriteBy core m a w s = (.ok, if ledgerWord s a then .fault .unpredictable else .next (s.st a w)) := by
  obtain ⟨hregs, hfifo, hvault⟩ := h
  have hwrite : memWrite s m a w = (none, s.st a w) := by unfold memWrite; rw [herr]
  unfold busWriteBy
  split
  next h => exact absurd h hregs
  next h => exact absurd h hfifo
  next h => exact absurd h hvault
  next => simp only [hwrite, respOf, Option.isNone_none, Bool.true_and]

/-- What a write of memory takes from the state stays through the issue of an instruction and the stores of words. -/
theorem memWriteErr_issued {s t : State} {k : CoreId} {c : Core} (ht : Issued s t k c) (m : Master) (a : Nat) :
    memWriteErr t m a = memWriteErr s m a ∧ ledgerWord t a = ledgerWord s a := by
  obtain ⟨-, -, hrest⟩ := ht
  rw [hrest]; exact ⟨rfl, rfl⟩

section
variable {s : State} {m : Master} {a : Nat} (hplain : plainMemory a) (herr : memWriteErr s m a = none) (k : CoreId)
include hplain herr

theorem storeWord_plain (w : Word) : storeWord k m a a w s = if ledgerWord s a then .fault .unpredictable else .next (s.st a w) := by
  unfold storeWord; rw [busWriteBy_plain hplain herr]; dsimp only
  split <;> rfl

/-- A pair of words is stored where both are plain memory outside the ledger (R69, R125). -/
theorem storePair_plain (hplain' : plainMemory ((a + 1) % 2 ^ 32)) (herr' : memWriteErr s m ((a + 1) % 2 ^ 32) = none) (w0 w1 : Word) :
    storePair k m a w0 w1 s = if ledgerWord s a = false ∧ ledgerWord s ((a + 1) % 2 ^ 32) = false then .next ((s.st a w0).st ((a + 1) % 2 ^ 32) w1)
      else .fault .unpredictable := by
  have hsecond : busWriteBy (some k.val) m ((a + 1) % 2 ^ 32) w1 (s.st a w0) = (.ok,
      if ledgerWord s ((a + 1) % 2 ^ 32) then .fault .unpredictable else .next ((s.st a w0).st ((a + 1) % 2 ^ 32) w1)) :=
    busWriteBy_plain (s := s.st a w0) hplain' herr' _ _
  unfold storePair; dsimp only
  rw [busWriteBy_plain hplain herr]; dsimp only
  rw [if_neg (fun h => h rfl)]
  cases ledgerWord s a with
  | true => rfl
  | false =>
    simp only [Bool.false_eq_true, if_false, thenOut, hsecond, if_true, true_and]
    cases ledgerWord s ((a + 1) % 2 ^ 32) <;> rfl

end

/-- Core `k` is past a store: nothing but its core, memory and the slot counts has changed. -/
def StoredBy (s t : State) (k : CoreId) : Prop :=
  t.core k = (s.core k).went ((s.core k).pc + 1) ∧ (∀ j, j ≠ k.val → t.core j = s.core j) ∧ t = { s with cores := t.cores, tly := t.tly, mem := t.mem }

theorem StoredBy.of_issued {s t : State} {k : CoreId} (h : Issued s t k ((s.core k).went ((s.core k).pc + 1))) : StoredBy s t k := by
  obtain ⟨hcore, hothers, hrest⟩ := h
  exact ⟨hcore, hothers, by rw [hrest]⟩

theorem StoredBy.st {s t : State} {k : CoreId} (h : StoredBy s t k) (a : Nat) (w : Word) : StoredBy s (t.st a w) k := by
  obtain ⟨hcore, hothers, hrest⟩ := h
  exact ⟨hcore, hothers, by rw [hrest]; rfl⟩

/-! ### The instructions -/

section
variable {s : State} {k : CoreId} {rs1 rs2 : GReg} {imm : BitVec 19} {a : Nat} (ha : (s.core k).ea rs1 imm = a) (hplain : plainMemory a)
  (herr : memWriteErr s (coreAs k (s.core k).keeper) a = none)
include ha

theorem execSt_eq (h : CanIssue s k [rs1.val, rs2.val] true) (hroom : storesWaiting s k < 8) :
    execSt k rs1 rs2 imm s = storeWord k (coreAs k (s.core k).keeper) a a ((s.core k).g rs2) (retire s k (s.core k)) := by
  subst ha
  unfold execSt; rw [issue_of_CanIssue _ h]
  exact if_neg (by omega)

theorem execStp_eq (h : CanIssue s k [rs1.val, rs2.val, rs2.val + 1] true) (hroom : storesWaiting s k < 7) : execStp k rs1 rs2 imm s =
    if rs2.val % 2 = 0 then storePair k (coreAs k (s.core k).keeper) a ((s.core k).g rs2) ((s.core k).g (rs2.val + 1)) (retire s k (s.core k))
    else .fault .unpredictable := by
  subst ha
  unfold execStp; rw [issue_of_CanIssue _ h]
  by_cases heven : rs2.val % 2 = 0
  · rw [if_pos heven, pairSrc_iff.2 heven]
    exact if_neg (by omega : ¬ 8 < storesWaiting s k + 2)
  · rw [if_neg heven, Bool.eq_false_iff.2 (fun h => heven (pairSrc_iff.1 h))]; rfl

include hplain herr

theorem execSt_plain (h : CanIssue s k [rs1.val, rs2.val] true) (hroom : storesWaiting s k < 8) :
    execSt k rs1 rs2 imm s = if ledgerWord s a then .fault .unpredictable else .next ((retire s k (s.core k)).st a ((s.core k).g rs2)) := by
  have hsame := memWriteErr_issued (retire_issued s k (s.core k)) (coreAs k (s.core k).keeper)
  rw [execSt_eq ha h hroom, storeWord_plain hplain ((hsame a).1.trans herr), (hsame a).2]

theorem execStp_plain (h : CanIssue s k [rs1.val, rs2.val, rs2.val + 1] true) (hroom : storesWaiting s k < 7) (hplain' : plainMemory ((a + 1) % 2 ^ 32))
    (herr' : memWriteErr s (coreAs k (s.core k).keeper) ((a + 1) % 2 ^ 32) = none) : execStp k rs1 rs2 imm s =
    if rs2.val % 2 = 0 ∧ ledgerWord s a = false ∧ ledgerWord s ((a + 1) % 2 ^ 32) = false then
      .next (((retire s k (s.core k)).st a ((s.core k).g rs2)).st ((a + 1) % 2 ^ 32) ((s.core k).g (rs2.val + 1)))
    else .fault .unpredictable := by
  have hsame := memWriteErr_issued (retire_issued s k (s.core k)) (coreAs k (s.core k).keeper)
  rw [execStp_eq ha h hroom, storePair_plain hplain ((hsame _).1.trans herr) k hplain' ((hsame _).1.trans herr'), (hsame _).2, (hsame _).2,
    ite_and (P := rs2.val % 2 = 0)]

end

/-- Settles O14: where its words are plain memory outside the ledger they are stored, and else the store has no effect the spec gives. -/
theorem stores : Obligations.Stores := by
  unfold Obligations.Stores
  intro s k rs1 rs2 imm
  extract_lets c m ea next kept
  intro hplain herr
  have hea : c.ea rs1 imm = ea := ea_eq c rs1 imm
  have hkept : StoredBy s (retire s k c) k := .of_issued (retire_issued s k c)
  have hnext : ea ≠ next := by omega
  refine ⟨fun hcan hroom => ?_, fun hcan hroom hplain' herr' => ?_⟩
  · have hexec : exec (.st k rs1 rs2 imm) s = _ := execSt_plain hea hplain herr hcan hroom
    rw [hexec]
    split
    next => rfl
    next => exact ⟨_, rfl, hkept.st ea (c.g rs2), ld_st_self _ _ _, fun b hb => ld_st_ne (retire s k c) _ hb⟩
  · have hexec : exec (.stp k rs1 rs2 imm) s = _ := execStp_plain hea hplain herr hcan hroom hplain' herr'
    rw [hexec]
    split
    next =>
      refine ⟨_, rfl, (hkept.st ea (c.g rs2)).st next (c.g (rs2.val + 1)), ?_, ld_st_self _ _ _, fun b hb hb' => ?_⟩
      · exact (ld_st_ne _ _ hnext).trans (ld_st_self _ _ _)
      · exact (ld_st_ne _ _ hb').trans (ld_st_ne (retire s k c) _ hb)
    next => rfl

/-! ### A store error -/

/-- A store to House ROM answers a decode error, and writes nothing (R480). -/
theorem busWriteBy_rom {a : Nat} (h : a < 0x80000) (core : Option Nat) (m : Master) (w : Word) (s : State) :
    busWriteBy core m a w s = (.err 0, .next s) := by
  have htarget : targetOf a = .rom := by unfold targetOf; rw [if_pos h]
  have hwrite : memWrite s m a w = (some 0, s) := by
    unfold memWrite memWriteErr noteBurst; rw [htarget]; rfl
  unfold busWriteBy; rw [htarget]; dsimp only
  rw [hwrite]; rfl

/-- An error response to a master is recorded with its address (R493). -/
theorem mtxErr_told (s : State) (m : Master) (kind : Nat) {a : Nat} (ha : a < 2 ^ 32) (write : Bool) :
    (mtxErr s m kind a write).on MTX_EVENTS_err = true ∧ (mtxErr s m kind a write).get MTX_ERR_ADDR_addr = a := by
  unfold mtxErr
  exact ⟨mtxRecord_on_events s m kind a write 3 false, (mtxRecord_get_addr s m kind a write 3 false).trans (Nat.mod_eq_of_lt ha)⟩

/-- A core's store has been answered a decode error: the matrix records it, and its response stands in line (R75, R493). -/
def storeErred (s : State) (k : CoreId) (m : Master) (a : Nat) : State :=
  (mtxErr s m 0 a true).setCore k { s.core k with stErr := (s.core k).stErr ++ [(a, some 0)] }

theorem storeWord_rom {a : Nat} (h : a < 0x80000) (k : CoreId) (m : Master) (w : Word) (s : State) :
    storeWord k m a a w s = .next (storeErred s k m a) := by
  unfold storeWord; rw [busWriteBy_rom h]; dsimp only [thenOut]
  unfold storeErr noteResp; dsimp only
  rw [(mtxErr_coreStays k s m 0 a true).core]; rfl

theorem storeErred_core (s : State) (k : CoreId) (m : Master) (a : Nat) :
    (storeErred s k m a).core k = { s.core k with stErr := (s.core k).stErr ++ [(a, some 0)] } := core_setCore_self _ _ _

theorem storeErred_memory (s : State) (k : CoreId) (m : Master) (a : Nat) : SameMemory s (storeErred s k m a) := fun b =>
  ld_of_mem ((State.setCore_mem _ _ _).trans (mtxErr_coreStays k s m 0 a true).mem) b

theorem storeErred_told (s : State) (k : CoreId) (m : Master) {a : Nat} (ha : a < 2 ^ 32) :
    (storeErred s k m a).on MTX_EVENTS_err = true ∧ (storeErred s k m a).get MTX_ERR_ADDR_addr = a := by
  obtain ⟨hevent, haddr⟩ := mtxErr_told s m 0 ha true
  exact ⟨(on_of_regs (State.setCore_regs _ _ _) _).trans hevent, (get_of_regs (State.setCore_regs _ _ _) _).trans haddr⟩

/-- The wait that a trap ends is held for its return (log 131). -/
theorem takeTrap_held {s : State} {k : CoreId} (h : (s.core k).inTrap = false) (cause code addr pc : Nat) (hvec : s.rd (coreBlock k + 2) ≠ 0) :
    ((takeTrap s k cause (some code) (some addr) pc).core k).held = (s.core k).waiting := by
  rw [takeTrap_eq h, trapForward_handled (trapEnter_begun s k cause code addr pc) hvec, core_setCore_self]; dsimp only
  rw [setG_regs (((s.core k).trapped).setG 1 _), setG_regs (s.core k).trapped]; rfl

section
variable {s : State} {k : CoreId} {a kind : Nat} {rest : List (Nat × Option Nat)}

/-- A store error's response has reached the core (R105). -/
def responseCame (s : State) (k : CoreId) (e : Nat × Option Nat) (rest : List (Nat × Option Nat)) : State :=
  s.setCore k { s.core k with stErr := rest, stBack := [e] }

theorem storeErrorResponse_eq {e : Nat × Option Nat} (herr : (s.core k).stErr = e :: rest) (hback : (s.core k).stBack = []) :
    execStoreErrorResponse k s = .next (coreBoundary (responseCame s k e rest) k) := by
  unfold execStoreErrorResponse; dsimp only
  rw [herr, hback]; rfl

theorem responseCame_core (s : State) (k : CoreId) (e : Nat × Option Nat) (rest : List (Nat × Option Nat)) :
    (responseCame s k e rest).core k = { s.core k with stErr := rest, stBack := [e] } := core_setCore_self _ _ _

/-- The state in which the response is trapped: it stands in line no more. -/
def responseTaken (s : State) (k : CoreId) (e : Nat × Option Nat) (rest : List (Nat × Option Nat)) : State :=
  (responseCame s k e rest).setCore k { s.core k with stErr := rest, stBack := [] }

theorem responseTaken_core (s : State) (k : CoreId) (e : Nat × Option Nat) (rest : List (Nat × Option Nat)) :
    (responseTaken s k e rest).core k = { s.core k with stErr := rest, stBack := [] } := core_setCore_self _ _ _

/-- A core that stands at an instruction, or waits in WAIT or WEV, traps the response (R105). -/
theorem boundary_traps (halive : coreAlive s k = true) (hrun : s.on (coreCtl k) = true) (hloads : (s.core k).loads = [])
    (hwait : (s.core k).waiting = .none ∨ (s.core k).waiting.dozing = true) :
    coreBoundary (responseCame s k (a, some kind) rest) k =
      takeTrap (responseTaken s k (a, some kind) rest) k 6 (some kind) (some a) (s.core k).pc := by
  have hon : (responseCame s k (a, some kind) rest).on (coreCtl k) = true := (on_of_regs rfl _).trans hrun
  have hheld : ¬ ((s.core k).halted = true ∨ (!(s.core k).loads.isEmpty) = true) := by
    unfold coreAlive at halive; rw [hloads]; simp_all
  have hfree : (decide ((s.core k).waiting = .none) || (s.core k).waiting.dozing) = true := by
    rcases hwait with h | h
    · rw [decide_eq_true h]; rfl
    · rw [h, Bool.or_true]
  unfold coreBoundary; dsimp only
  rw [responseCame_core, hon]; dsimp only
  rw [if_neg hheld, if_neg (by decide), if_pos hfree]; rfl

/-- A core in another wait takes the response later (R105). -/
theorem boundary_waits {e : Nat × Option Nat} (hrun : s.on (coreCtl k) = true) (hdozing : (s.core k).waiting.dozing = false)
    (hwait : (s.core k).waiting ≠ .none) : coreBoundary (responseCame s k e rest) k = responseCame s k e rest := by
  have hon : (responseCame s k e rest).on (coreCtl k) = true := (on_of_regs rfl _).trans hrun
  unfold coreBoundary; dsimp only
  rw [responseCame_core, hon]; dsimp only
  rw [hdozing, decide_eq_false hwait]
  split
  next => rfl
  next => rfl

end

/-- Settles O15: the matrix and the core keep the error, and its response is trapped at the boundary or stands until the wait ends. -/
theorem storeErrors : Obligations.StoreErrors := by
  unfold Obligations.StoreErrors
  intro s k rs1 rs2 imm
  extract_lets c ea
  have hea : c.ea rs1 imm = ea := ea_eq c rs1 imm
  refine ⟨fun hcan hroom hrom => ?_, fun a kind rest herr hkind hback => ⟨fun halive hrun hloads hin hwait => ?_, fun hdozing hwait hrun => ?_⟩⟩
  · have hexec : exec (.st k rs1 rs2 imm) s = _ := (execSt_eq hea hcan hroom).trans (storeWord_rom hrom k _ _ _)
    have hissued := retire_issued s k c
    obtain ⟨hevent, haddr⟩ := storeErred_told (retire s k c) k (coreAs k c.keeper) (a := ea) (by omega)
    have hcore := storeErred_core (retire s k c) k (coreAs k c.keeper) ea
    rw [hissued.1] at hcore
    exact ⟨_, hexec, storeErred_memory (retire s k c) k _ ea, congrArg Core.stErr hcore, congrArg Core.pc hcore, hevent, haddr⟩
  · have hexec : exec (.storeErrorResponse k) s = _ := (storeErrorResponse_eq herr hback).trans
      (congrArg Host.Outcome.next (boundary_traps halive hrun hloads hwait))
    have hcore := responseTaken_core s k (a, some kind) rest
    have hin' : ((responseTaken s k (a, some kind) rest).core k).inTrap = false := (congrArg Core.inTrap hcore).trans hin
    refine ⟨_, hexec, ?_, fun hvec => by rw [takeTrap_held hin' 6 kind a c.pc hvec, hcore]⟩
    refine (takeTrap_trapped hin' (by omega) 6 a c.pc).of_alike (w := c.waiting) hcore (fun j hj => ?_) rfl
    exact (core_setCore_ne (responseCame s k (a, some kind) rest) _ hj).trans (core_setCore_ne s _ hj)
  · have hexec : exec (.storeErrorResponse k) s = _ := storeErrorResponse_eq herr hback
    exact ⟨_, hexec, boundary_waits hrun hdozing hwait⟩

end Sys2Proof.Machine
end

section
/-! PROOF. A core that has halted stays so through a fault's reactions (R110, R506 to R511): the answers of offers, a give-up, a fence and the
FATAL state wake none. -/

namespace Sys2Proof.Machine

/-- Every core that has halted in `s` has halted in `t`. -/
def StaysHalted (s t : State) : Prop := ∀ j, (s.core j).halted = true → (t.core j).halted = true

namespace StaysHalted
variable {s t u : State}

theorem of_cores (h : t.cores = s.cores) : StaysHalted s t := fun j hj => (congrArg Core.halted (core_of_cores h j)).trans hj

theorem refl (s : State) : StaysHalted s s := of_cores rfl

theorem trans (h : StaysHalted s t) (k : StaysHalted t u) : StaysHalted s u := fun j hj => k j (h j hj)

/-- A step beside the cores. -/
theorem congr (h : StaysHalted s t) (hcores : u.cores = t.cores) : StaysHalted s u := h.trans (of_cores hcores)

theorem setCore (s : State) {k : Nat} {c : Core} (h : (s.core k).halted = true → c.halted = true) : StaysHalted s (s.setCore k c) := fun j hj => by
  by_cases hjk : j = k
  · subst hjk; rw [core_setCore_self]; exact h hj
  · rw [core_setCore_ne s c hjk]; exact hj

theorem foldl {α : Type} {f : State → α → State} (hf : ∀ t a, StaysHalted t (f t a)) (l : List α) (s : State) : StaysHalted s (l.foldl f s) := by
  induction l generalizing s with
  | nil => exact refl s
  | cons a l ih => exact (hf s a).trans (ih (f s a))

theorem ite {c : Prop} [Decidable c] (h : StaysHalted s t) (k : StaysHalted s u) : StaysHalted s (if c then t else u) := by
  split
  · exact h
  · exact k

end StaysHalted

/-! ### The answers of offers and of commands -/

theorem mbxFinish_cores (s : State) (status : Nat) (res : List Word) : (mbxFinish s status res).cores = s.cores := by
  unfold mbxFinish
  split
  · rfl
  extract_lets seq head slots slots' mbx skb kv s₁ s₂ s₃ s₄ s₅ s₆
  have h₁ : s₁.cores = s.cores := rfl
  have h₅ : s₅.cores = s.cores :=
    (((put_regsOnly s₁ _ _).trans (put_regsOnly _ _ _)).trans ((put_regsOnly _ _ _).trans (put_regsOnly _ _ _))).cores.trans h₁
  clear_value s₅
  have h₆ : s₆.cores = s.cores := by
    unfold s₆; split
    · exact (State.inc_cores _ _).trans h₅
    · exact h₅
  exact (mbxIrq_noticed s₆ 0).cores.trans h₆

theorem mbxState_cores (s : State) (st : Nat) : (mbxState s st).cores = s.cores := by
  unfold mbxState
  extract_lets old s₁ s₂ s₃
  have h₁ : s₁.cores = s.cores := (mbxIrq_noticed _ 1).cores.trans (State.put_cores _ _ _)
  have h₂ : s₂.cores = s.cores := by
    unfold s₂; split
    · exact (State.putB_cores _ _ _).trans h₁
    · exact h₁
  have h₃ : s₃.cores = s.cores := by
    unfold s₃; split
    · dsimp only; rw [State.put_cores, State.put_cores]; exact h₂
    · exact h₂
  split
  · rfl
  · split
    · exact h₃
    · exact (mbxFinish_cores _ _ _).trans h₃

theorem mbxQueue_cores (s : State) (e : Nat) : (mbxQueue s e).cores = s.cores := by
  have hite : ∀ {c : Prop} [Decidable c] {t u : State}, t.cores = s.cores → u.cores = s.cores → (if c then t else u).cores = s.cores := by
    intro c _ t u ht hu; split
    · exact ht
    · exact hu
  unfold mbxQueue; dsimp only
  split
  · exact hite (mbxState_cores _ _) rfl
  · exact hite rfl (mbxState_cores _ _)
  · exact mbxState_cores _ _
  · exact hite (mbxState_cores _ _) rfl
  · exact hite (mbxState_cores _ _) rfl

theorem kvAnswered_cores (s : State) (slot code seq : Nat) : (kvAnswered s slot code seq).cores = s.cores := by
  unfold kvAnswered
  extract_lets u waits kv s₁ s₂ kv' s₃
  have h₁ : s₁.cores = s.cores := by unfold s₁; split <;> rfl
  have h₂ : s₂.cores = s.cores := by
    clear_value u
    unfold s₂; split
    · rw [State.put_cores, State.put_cores]; exact h₁
    · exact h₁
  split
  · split
    · exact (mbxFinish_cores _ _ _).trans h₂
    · exact h₂
  · split
    · exact (mbxFinish_cores _ _ _).trans h₁
    · exact h₁

/-- An answer reaches a core that waits for it, and wakes none that has halted (R87, R88). -/
theorem answerOffer_halted (s : State) (o : Offer) (code seq : Nat) (late : Bool) : StaysHalted s (answerOffer s o code seq late) := by
  have hcount : StaysHalted s (countAnswer s code) := .of_cores (countAnswer_regsOnly s code).cores
  unfold answerOffer; dsimp only
  split
  · split
    · exact hcount.trans (.setCore _ fun h => h)
    · exact hcount
  · exact .ite (hcount.congr (mbxFinish_cores _ _ _)) hcount
  · exact hcount.congr (kvAnswered_cores _ _ _ _)
  · exact .ite (hcount.congr rfl) hcount
  · exact hcount

theorem commitOffer_halted (s : State) (o : Offer) : StaysHalted s (commitOffer s o) := by
  unfold commitOffer; split
  · exact .refl s
  next i hi =>
    refine StaysHalted.trans (.of_cores ?_) (answerOffer_halted _ _ _ _ _)
    exact (State.put_cores _ _ _).trans (State.setLed_cores _ _ _)

theorem dropOffer_halted (s : State) (o : Offer) : StaysHalted s (dropOffer s o) := by
  unfold dropOffer; split
  · exact .refl s
  next i hi =>
    have hset : StaysHalted s (s.setLed i o.old) := .of_cores (State.setLed_cores _ _ _)
    refine StaysHalted.trans (.ite (hset.congr ?_) hset) (answerOffer_halted _ _ _ _ _)
    rw [ledgerStore_memory]

theorem unpairOne_halted (s : State) (o : Offer) : StaysHalted s (unpairOne s o) := by
  unfold unpairOne
  exact .ite (.ite (dropOffer_halted s o) (.ite (commitOffer_halted s _) (.of_cores rfl))) (.of_cores rfl)

theorem offersUnpaired_halted (s : State) : StaysHalted s (offersUnpaired s) := by
  rw [offersUnpaired_eq]
  exact (StaysHalted.of_cores (t := { s with skb := { s.skb with offers := [] } }) rfl).trans (.foldl unpairOne_halted _ _)

/-! ### A give-up and the FATAL state -/

theorem reportSrc_halted (s : State) {n : Nat} (h : n < 256) : StaysHalted s (reportSrc s n) := .of_cores (reportSrc_noticed s h).cores

theorem twNewGen_cores (s : State) : (twNewGen s).cores = s.cores :=
  (((wr_regsOnly s TW_GEN _).trans (put_regsOnly _ _ _)).trans (put_regsOnly _ _ _)).cores

theorem leaveSync_halted (s : State) : StaysHalted s (leaveSync s) := by
  unfold leaveSync
  extract_lets p s₁ tw s₂ s₃ s₄ s₅ s₆
  have h₂ : StaysHalted s s₂ := (StaysHalted.of_cores (t := s₁) (State.put_cores s _ _)).congr (u := s₂) rfl
  clear_value s₂
  have h₄ : StaysHalted s s₄ := h₂.congr ((put_regsOnly s₂ _ _).trans (put_regsOnly _ _ _)).cores
  clear_value s₄
  have h₅ : StaysHalted s s₅ := (h₄.congr (State.ev_cores s₄ TW_EVENTS_sync_lost)).trans (reportSrc_halted _ (by decide))
  have h₆ : StaysHalted s s₆ := .ite (.ite (h₅.congr (twNewGen_cores s₅)) h₅) h₄
  exact .ite (h₆.trans (offersUnpaired_halted s₆)) (.refl s)

theorem allCoresEvent_halted (s : State) (bit : Nat) : StaysHalted s (allCoresEvent s bit) :=
  .foldl (f := fun s k => coreEvent s k bit) (fun t _ => .setCore t fun h => h) _ s

theorem dropAnswers_cores (s : State) : (dropAnswers s).cores = s.cores := rfl

theorem twRole_halted (s : State) (r : Nat) : StaysHalted s (twRole s r) := by
  unfold twRole
  exact .ite (.refl s) (((StaysHalted.of_cores (State.put_cores s TW_STATUS_role r)).trans (allCoresEvent_halted _ 29)).congr (dropAnswers_cores _))

theorem twSend_cores (s : State) (kind : Nat) (payload : List Word) : (twSend s kind payload).cores = s.cores := by
  unfold twSend; dsimp only; split
  · exact State.inc_cores _ _
  · rfl

theorem outGive_cores (s : State) (k : Nat) : (outGive s k).cores = s.cores := by
  unfold outGive; split
  · exact State.setOut_cores _ _ _
  · exact State.putB_cores _ _ _

theorem giveUpAt_halted (t : T80) (s : State) : StaysHalted s (giveUpAt t s) := by
  unfold giveUpAt
  extract_lets skb s₁ s₂ s₃ s₄ tw s₅ s₆ s₇ tw' s₈
  have h₃ : StaysHalted s s₃ := (StaysHalted.of_cores (State.putT_cores s₁ _ _ _)).congr (twSend_cores _ _ _)
  have h₄ : StaysHalted s s₄ := h₃.trans (.foldl (f := outGive) (fun t k => .of_cores (outGive_cores t k)) _ _)
  clear_value s₄
  have h₆ : StaysHalted s s₆ := (h₄.congr (u := s₅) rfl).congr (State.ev_cores _ _)
  have h₇ : StaysHalted s s₇ := h₆.trans (leaveSync_halted s₆)
  clear_value s₇
  exact .ite (((h₇.congr (u := s₈) rfl).trans (twRole_halted s₈ 2)).congr (mbxQueue_cores _ 0)) (.refl s)

theorem stopExecutors_cores (s : State) : (stopExecutors s).cores = s.cores := by
  unfold stopExecutors; dsimp only; split
  · exact State.putT_cores _ _ _ _
  · rfl

theorem safeMark_cores (t : T80) (s : State) (k : Nat) : (safeMark t s k).cores = s.cores := by
  unfold safeMark; split
  · rfl
  · exact State.setOut_cores _ _ _

theorem fatalReact_halted (s : State) (n : Nat) (named : Option Nat) : StaysHalted s (fatalReact s n named) := by
  unfold fatalReact; dsimp only
  have hrecord : StaysHalted s (stopExecutors (fatalRecord s n named)) :=
    (StaysHalted.of_cores (fatalRecord_regsOnly s n named).cores).congr (stopExecutors_cores _)
  exact (hrecord.trans (giveUpAt_halted _ _)).trans (.foldl (fun t k => .of_cores (safeMark_cores _ t k)) _ _)

theorem markSrc_cores (s : State) (n : Nat) : (markSrc s n).cores = s.cores := State.wr_cores s _ _

theorem fatalFirst_cores (s : State) (n : Nat) (named : Option Nat) :
    (fatalFirst s n named).cores = (fatalReact (fatalSet (markSrc s n)) n named).cores := rfl

theorem fatalEnter_halted (s : State) (n : Nat) (named : Option Nat) : StaysHalted s (fatalEnter s n named) := by
  cases hfatal : s.fix.fatal with
  | false =>
    rw [fatalEnter_first n named hfatal]
    have hset : StaysHalted s (fatalSet (markSrc s n)) := .of_cores (markSrc_cores s n)
    exact ((hset.trans (fatalReact_halted _ n named)).congr (fatalFirst_cores s n named)).congr (mbxQueue_cores (fatalFirst s n named) 2)
  | true =>
    rcases fatalEnter_again n named hfatal with e | e
    · rw [e]; exact .of_cores (markSrc_cores s n)
    · rw [e]
      exact ((StaysHalted.of_cores (markSrc_cores s n)).congr (State.wr_cores (markSrc s n) _ _)).congr (markFirstFatal_regsOnly _ _).cores

/-! ### An engine's unit is fenced -/

theorem nameUnit_cores (s : State) (n u : Nat) : (nameUnit s n u).cores = s.cores := by
  show (State.ev _ _).cores = _
  rw [State.ev_cores, tally_cores, State.put_cores]

/-- A unit's transfers end with no core started. -/
theorem endTransfers_halted (s : State) (u kind : Nat) : StaysHalted s (endTransfers s u kind) := fun j hj => by
  have hcore : (endTransfers s u kind).core j = coreEnds u kind (s.core j) := tabGet_map (coreEnds u kind) Core.reset rfl s.cores j
  rw [hcore]; exact hj

theorem fifoAbandon_cores (s : State) (n : Nat) : (fifoAbandon s n).cores = s.cores := by
  unfold fifoAbandon; dsimp only; split
  · rfl
  · exact State.ev_cores _ _

theorem abandonBy_cores (s : State) (m : Nat) : (abandonBy s m).cores = s.cores := by
  refine foldl_frame State.cores _ (fun t e => ?_) s.fifos s
  split
  · exact fifoAbandon_cores t e.1
  · rfl

theorem resetCore_halted (s : State) (k : Nat) : StaysHalted s (resetCore s k) :=
  ((StaysHalted.of_cores (t := coreMuted s k) rfl).trans (.setCore (c := Core.reset) (coreMuted s k) fun _ => rfl)).congr rfl

theorem regsBack_cores (s : State) (lvl : Nat) (p : Nat → Bool) : (regsBack s lvl p).cores = s.cores := by rw [regsBack_eq]

theorem unitInner_engine_halted (s : State) {k : Nat} (hk : k < 16) : StaysHalted s (unitInner s (0x064 + k)) := by
  unfold unitInner
  rw [if_pos (by omega)]
  exact (StaysHalted.of_cores (abandonBy_cores s _)).trans (resetCore_halted _ _)

theorem unitLocalReset_halted (s : State) {k : Nat} (hk : k < 16) : StaysHalted s (unitLocalReset s (0x064 + k)) := by
  unfold unitLocalReset
  extract_lets s₁ gen s₂
  have h₁ : StaysHalted s s₁ := endTransfers_halted s _ 2
  clear_value s₁
  have h₂ : StaysHalted s s₂ := (h₁.congr (regsBack_cores s₁ _ _)).trans (unitInner_engine_halted _ hk)
  clear_value s₂
  exact .ite (.of_cores (regsBack_cores _ _ _)) (.ite (.refl s) (.ite (h₂.congr (State.put_cores _ _ _)) h₂))

theorem unitStopped_halted (s : State) {k : Nat} (hk : k < 16) : StaysHalted s (unitStopped s (0x064 + k)) := by
  unfold unitStopped; rw [if_neg (by omega : ¬ 0x064 + k = 0x0DA)]
  exact unitLocalReset_halted s hk

theorem fenceUnit_halted (n : Nat) (s : State) {k : Nat} (hk : k < 16) : StaysHalted s (fenceUnit n s (0x064 + k)) := by
  have hbegun : StaysHalted s (fenceBegun n s (0x064 + k)) := (StaysHalted.of_cores (nameUnit_cores s n _)).trans (unitStopped_halted _ hk)
  obtain ⟨fix, hfence⟩ := fenceUnit_eq n s (0x064 + k)
  generalize fenceBegun n s (0x064 + k) = t at hbegun hfence
  have hheld : StaysHalted s ((t.putB (UNIT_STATUS_in_reset (0x064 + k)) true).putB (UNIT_STATUS_fenced (0x064 + k)) true) :=
    hbegun.congr ((State.putB_cores _ _ _).trans (State.putB_cores _ _ _))
  rw [hfence]
  exact hheld.congr rfl

end Sys2Proof.Machine
end

section
/-! PROOF. Traps (O9): by a TRAP's code, by the core's profile, and within a trap. -/

namespace Sys2Proof.Machine

/-! ### A double trap's source -/

/-- What every part of a fault's reaction keeps: cores that have halted, and the sources already set. -/
structure FaultKept (s t : State) : Prop where
  halted : StaysHalted s t
  marks : ∀ m < 256, srcStatus s m = true → srcStatus t m = true

namespace FaultKept
variable {s t u : State}

theorem of_beside (hcores : t.cores = s.cores) (hregs : t.regs = s.regs) : FaultKept s t :=
  ⟨.of_cores hcores, (Within.of_regs (U := []) hregs).marks⟩

theorem refl (s : State) : FaultKept s s := of_beside rfl rfl

theorem trans (h : FaultKept s t) (k : FaultKept t u) : FaultKept s u := ⟨h.halted.trans k.halted, fun m hm hs => k.marks m hm (h.marks m hm hs)⟩

theorem ite {c : Prop} [Decidable c] (h : FaultKept s t) (k : FaultKept s u) : FaultKept s (if c then t else u) := by
  split
  · exact h
  · exact k

end FaultKept

theorem fatalEnter_kept (s : State) {n : Nat} (named : Option Nat) (hn : n < 256) : FaultKept s (fatalEnter s n named) :=
  ⟨fatalEnter_halted s n named, (fatalEnter_within s named hn).marks⟩

theorem fenceUnit_kept (n : Nat) (s : State) {k : Nat} (hk : k < 16) : FaultKept s (fenceUnit n s (0x064 + k)) :=
  ⟨fenceUnit_halted n s hk, (fenceUnit_clockStays n s (0x064 + k)).marks⟩

/-- A Brush engine is held in reset alone, and its group's unit named (R508). -/
def engineHeld (s : State) (n u k : Nat) : State := (resetCore (nameUnit s n u) k).setCore k { Core.reset with fenced := true }

theorem engineHeld_kept (s : State) (n u k : Nat) : FaultKept s (engineHeld s n u k) := by
  have hname : FaultKept s (nameUnit s n u) := ⟨.of_cores (nameUnit_cores s n u), (nameUnit_within [] s n u).marks⟩
  have hreset : FaultKept (nameUnit s n u) (resetCore (nameUnit s n u) k) :=
    ⟨resetCore_halted _ k, (Within.of_regs (U := []) (resetCore_regs _ k)).marks⟩
  exact (hname.trans hreset).trans ⟨.setCore _ fun _ => rfl, (Within.of_regs (U := []) (State.setCore_regs _ _ _)).marks⟩

/-- The unit that a double trap names: the Easel core's own, the Brush engine's group (R506). -/
def doubleTrapUnit (k : CoreId) : Nat := if k.val < 16 then 0x064 + k else 0x088 + (k - 16) / 8

theorem doubleTrapSource_lt (k : CoreId) : doubleTrapSource k < 256 := by have := k.isLt; unfold doubleTrapSource; split <;> omega

theorem doubleTrap_class (s : State) (k : CoreId) : srcClass s (doubleTrapSource k) = 1 := by
  have hk := k.isLt
  have hrange : 26 ≤ doubleTrapSource k ∧ doubleTrapSource k ≤ 41 ∨ 114 ≤ doubleTrapSource k ∧ doubleTrapSource k ≤ 145 := by
    unfold doubleTrapSource; split <;> omega
  generalize doubleTrapSource k = n at hrange
  unfold srcClass
  rcases hrange with h | h
  · rw [if_neg (by omega), if_neg (by omega), if_neg (by omega), if_pos (by omega)]
  · rw [if_neg (by omega), if_neg (by omega), if_neg (by omega), if_neg (by omega), if_neg (by omega), if_neg (by omega), if_neg (by omega),
      if_pos (by omega)]

theorem doubleTrap_unit (k : CoreId) : srcFixedUnit (doubleTrapSource k) = some (doubleTrapUnit k) := by
  have hk := k.isLt
  unfold doubleTrapSource doubleTrapUnit srcFixedUnit
  by_cases h : k.val < 16
  · rw [if_pos h, if_pos h, if_pos (by omega), Nat.add_sub_cancel_left]
  · rw [if_neg h, if_neg h, if_neg (by omega), if_neg (by omega), if_neg (by omega), if_neg (by omega), if_neg (by omega), if_neg (by omega),
      if_pos (by omega), Nat.add_sub_cancel_left]

/-- A double trap fences the Easel core's unit, and no unit of a Brush engine (R506, R508). -/
theorem doubleTrap_fences (k : CoreId) :
    fenceTargets (doubleTrapSource k) (some (doubleTrapUnit k)) = if k.val < 16 then [0x064 + k.val] else [] := by
  have hk := k.isLt
  unfold doubleTrapSource doubleTrapUnit fenceTargets
  by_cases h : k.val < 16
  · rw [if_pos h, if_pos h, if_pos h, if_neg (by omega), if_neg (by omega), if_neg (by omega)]; exact if_pos (by omega)
  · rw [if_neg h, if_neg h, if_neg h, if_neg (by omega), if_neg (by omega), if_neg (by omega)]
    exact (if_neg (by omega)).trans (if_neg (by omega))

/-- What a DEGRADE source of a fixed unit holds in reset (R508). -/
def degradeHeld (s : State) (n u : Nat) : State :=
  let v := (fenceTargets n (some u)).foldl (fenceUnit n) (reportSrc s n)
  if 114 ≤ n ∧ n ≤ 145 then engineHeld v n (0x088 + (n - 114) / 8) (16 + (n - 114)) else v

def degradeNamed (s : State) (n u : Nat) : State :=
  { degradeHeld s n u with fix := { (degradeHeld s n u).fix with srcUnit := tabSet (fun _ => 0) (degradeHeld s n u).fix.srcUnit n u } }

/-- A DEGRADE source holds the unit that it names in reset, and is FATAL of an essential one (R507, R508). -/
theorem raiseSrc_degrade {s : State} {n u : Nat} (hclass : srcClass s n = 1) (hunit : srcFixedUnit n = some u) : raiseSrc s n none =
    if (reportSrc s n).fix.fatal then reportSrc s n
    else if essentialUnit u ∧ ((16 ≤ n ∧ n ≤ 26) ∨ (86 ≤ n ∧ n ≤ 101)) then fatalEnter (degradeNamed s n u) (regionSource (unitRegion u)) (some u)
    else degradeNamed s n u := by
  unfold raiseSrc; dsimp only; rw [hclass, hunit]; rfl

theorem doubleTrap_held_kept (s : State) (k : CoreId) :
    FaultKept (reportSrc s (doubleTrapSource k)) (degradeHeld s (doubleTrapSource k) (doubleTrapUnit k)) := by
  unfold degradeHeld; dsimp only
  rw [doubleTrap_fences]
  generalize reportSrc s (doubleTrapSource k) = v
  have hfenced : FaultKept v ((if k.val < 16 then [0x064 + k.val] else []).foldl (fenceUnit (doubleTrapSource k)) v) := by
    split
    next hk => exact fenceUnit_kept _ v hk
    next => exact .refl v
  exact .ite (hfenced.trans (engineHeld_kept _ _ _ _)) hfenced

theorem raiseSrc_doubleTrap_kept (s : State) (k : CoreId) :
    FaultKept (reportSrc s (doubleTrapSource k)) (raiseSrc s (doubleTrapSource k) none) := by
  have hnamed : FaultKept (reportSrc s (doubleTrapSource k)) (degradeNamed s (doubleTrapSource k) (doubleTrapUnit k)) :=
    (doubleTrap_held_kept s k).trans (.of_beside rfl rfl)
  rw [raiseSrc_degrade (doubleTrap_class s k) (doubleTrap_unit k)]
  exact .ite (.refl _) (.ite (hnamed.trans (fatalEnter_kept _ _ (regionSource_lt _))) hnamed)

/-- A trap within a trap halts its core and raises its source (R107). -/
theorem trapDouble_told (s : State) (k : CoreId) :
    ((trapDouble s k).core k).halted = true ∧ srcStatus (trapDouble s k) (doubleTrapSource k) = true := by
  have hn := doubleTrapSource_lt k
  have hnotice : ∀ t : State, FaultKept t (mbxNotice t) := fun t => ⟨.of_cores (mbxIrq_noticed t 2).cores, (mbxIrq_answering t 2).within.marks⟩
  unfold trapDouble
  generalize slotInc s k 7 = u
  have hkept := (raiseSrc_doubleTrap_kept (haltCore u k) k).trans (hnotice _)
  refine ⟨hkept.halted k (reportSrc_halted _ hn k ?_), hkept.marks _ hn (reportSrc_status _ _ hn)⟩
  rw [haltCore_core]

/-! ### The TRAP instruction -/

theorem slotAdd_cores (s : State) (p e n : Nat) : (slotAdd s p e n).cores = s.cores := rfl

theorem slotAdd_regs (s : State) (p e n : Nat) : (slotAdd s p e n).regs = s.regs := rfl

theorem trapIssued_cores (s : State) (k : Nat) : (trapIssued s k).cores = s.cores := (slotAdd_cores _ _ _ _).trans (slotAdd_cores _ _ _ _)

theorem trapIssued_regs (s : State) (k : Nat) : (trapIssued s k).regs = s.regs := (slotAdd_regs _ _ _ _).trans (slotAdd_regs _ _ _ _)

theorem trapIssued_inTrap (s : State) (k : CoreId) : ((trapIssued s k).core k).inTrap = (s.core k).inTrap :=
  congrArg Core.inTrap (core_of_cores (trapIssued_cores s k) k)

/-- A trap of the core as a TRAP leaves it is a trap of the core as it was: the slot counts alone differ. -/
theorem trapIssued_trapped {s t : State} {k : CoreId} {cause code addr pc : Nat} (h : Trapped (trapIssued s k) t k cause code addr pc) :
    Trapped s t k cause code addr pc := h.of_cores (trapIssued_cores s k) (trapIssued_regs s k)

section
variable {s : State} {k : CoreId} (h : CanIssue s k [] true)
include h

/-- RESUME and RESUME_SKIP outside a trap (R108). -/
theorem resumeDo_trapped (hin : (s.core k).inTrap = false) (skip : Nat) :
    Gives (resumeDo k skip s) (fun t => ∃ x y, Trapped s t k 3 x y (s.core k).pc) := by
  obtain ⟨x, y, htrap⟩ := takeTrap_free hin 3 (s.core k).pc
  refine ⟨_, ?_, x, y, htrap⟩
  unfold resumeDo; rw [issue_of_CanIssue _ h, hin]; rfl

/-- A service within a trap (R107, R109). -/
theorem service_doubles (hin : (s.core k).inTrap = true) (code : Nat) (f : Core → State → State) :
    service k code f s = .next (trapDouble (trapIssued s k) k) := by
  unfold service; rw [issue_of_CanIssue _ h, hin]; rfl

variable {code : BitVec 19}

/-- A TRAP of a user code (R67, R105). -/
theorem execTrap_user (hin : (s.core k).inTrap = false) (hcode : 0x10000 ≤ code.toNat) :
    Gives (execTrap k code s) (fun t => Trapped s t k 2 code.toNat code.toNat ((s.core k).pc + 1)) := by
  refine ⟨_, ?_, trapIssued_trapped (takeTrap_trapped ((trapIssued_inTrap s k).trans hin) code.isLt 2 code.toNat ((s.core k).pc + 1))⟩
  unfold execTrap; dsimp only
  rw [if_neg (by omega), if_neg (by omega), if_neg (by omega), if_neg (by omega), if_neg (by omega), if_neg (by omega), issue_of_CanIssue _ h]
  exact if_neg (by omega)

/-- A TRAP of an undefined service's code (R109). -/
theorem execTrap_undefined (hin : (s.core k).inTrap = false) (hlo : 3 < code.toNat) (hhi : code.toNat < 0xFFFE) :
    Gives (execTrap k code s) (fun t => ∃ x y, Trapped s t k 3 x y (s.core k).pc) := by
  obtain ⟨x, y, htrap⟩ := takeTrap_free hin 3 (s.core k).pc
  refine ⟨_, ?_, x, y, htrap⟩
  unfold execTrap; dsimp only
  rw [if_neg (by omega), if_neg (by omega), if_neg (by omega), if_neg (by omega), if_neg (by omega), if_neg (by omega), issue_of_CanIssue _ h]
  exact if_pos (by omega)

/-- A TRAP within a trap, of any code but RESUME's and RESUME_SKIP's (R107, R108). -/
theorem execTrap_doubles (hin : (s.core k).inTrap = true) (hcode : code.toNat < 0xFFFE ∨ 0xFFFF < code.toNat) :
    Gives (execTrap k code s) (fun t => ∃ u, t = trapDouble u k) := by
  have htake : ∀ (u : State) (cause : Nat) (n a : Option Nat) (pc : Nat), (u.core k).inTrap = true → takeTrap u k cause n a pc = trapDouble u k :=
    fun u _ _ _ _ hu => by unfold takeTrap; rw [hu]; rfl
  have hservice := fun n f => service_doubles h hin n f
  unfold execTrap; dsimp only
  rw [if_neg (by omega), if_neg (by omega), hservice, hservice, hservice, hservice, issue_of_CanIssue _ h]
  split_ifs
  · exact ⟨_, rfl, _, rfl⟩
  · exact ⟨_, rfl, _, rfl⟩
  · exact ⟨_, rfl, _, rfl⟩
  · exact ⟨_, rfl, _, rfl⟩
  · exact ⟨_, rfl, _, htake _ _ _ _ _ hin⟩
  · exact ⟨_, rfl, _, htake (trapIssued s k) _ _ _ _ ((trapIssued_inTrap s k).trans hin)⟩

end

/-- A TRAP is what its code says. -/
theorem execTrap_at {code : BitVec 19} {n : Nat} (hn : code.toNat = n) (k : CoreId) (s : State) : execTrap k code s = execTrap k (BitVec.ofNat 19 n) s := by
  rw [← hn, BitVec.ofNat_toNat, BitVec.setWidth_eq]

/-! ### The obligation -/

/-- The packet instructions are the Brush profile's (R77). -/
theorem brush_easel {k : CoreId} (hk : k.val < 16) (f : State → Out) (s : State) : brush k f s = illegal k s := by
  unfold brush; rw [if_pos hk]

/-- MAC and MSC are the Easel profile's (R77). -/
theorem macDo_brush {k : CoreId} (hk : 16 ≤ k.val) (rs1 rs2 : GReg) (sel clr sub : Bool) (s : State) : macDo k rs1 rs2 sel clr sub s = illegal k s := by
  unfold macDo; rw [if_neg (Nat.not_lt.2 hk)]

/-- Settles O9: by the TRAP's code outside and within a trap, and by the core's profile. -/
theorem traps : Obligations.Traps := by
  unfold Obligations.Traps
  refine ⟨fun s k code h => ?_, fun s k code h hin hcode => ?_, fun s k rd rs1 rs2 a b off len fmt h hin => ?_⟩
  · extract_lets c n
    refine ⟨fun hin => ⟨fun hn => ?_, fun hlo hhi => ?_, ?_, ?_⟩, fun hn => ?_, fun hn => ?_, fun hn => ?_, fun hn => ?_, fun hn => ?_, fun hn => ?_⟩
    · show Gives (execTrap k code s) _
      exact execTrap_user h hin hn
    · show Gives (execTrap k code s) _
      exact execTrap_undefined h hin hlo hhi
    · show Gives (resumeDo k 0 s) _
      exact resumeDo_trapped h hin 0
    · show Gives (resumeDo k 1 s) _
      exact resumeDo_trapped h hin 1
    · exact (execTrap_at hn k s).trans rfl
    · exact (execTrap_at hn k s).trans rfl
    · exact (execTrap_at hn k s).trans rfl
    · exact (execTrap_at hn k s).trans rfl
    · exact (execTrap_at hn k s).trans rfl
    · exact (execTrap_at hn k s).trans rfl
  · show Gives (execTrap k code s) _
    obtain ⟨t, hexec, u, rfl⟩ := execTrap_doubles h hin hcode
    exact ⟨_, hexec, trapDouble_told u k⟩
  · have hill := illegal_trapped h hin
    extract_lets refused
    have hbrush : ∀ f, k.val < 16 → refused (brush k f s) := fun f hk => (brush_easel hk f s).symm ▸ hill
    have hmac : ∀ sub, 16 ≤ k.val → refused (macDo k rs1 rs2 a b sub s) := fun sub hk => (macDo_brush hk rs1 rs2 a b sub s).symm ▸ hill
    exact ⟨fun hk => ⟨hbrush _ hk, hbrush _ hk, hbrush _ hk, hbrush _ hk⟩, fun hk => ⟨hmac false hk, hmac true hk⟩⟩

end Sys2Proof.Machine
end
